-- ==== Sys2Proof/Word.lean ====
section
/-! DEFINITION. The words of the SC-340: bytes and fields as the link carries them, and the bound of the cab minute. -/
namespace Sys2Proof

/-- One byte of a frame (R191), and one notice byte (Table 42). -/
abbrev Byte := BitVec 8

/-- An unsigned 16-bit request field (R50, R188). -/
abbrev Word16 := BitVec 16

/-- An unsigned 32-bit request field (R27, R64, R94). -/
abbrev Word32 := BitVec 32

/-- The greatest cab minute, 4,294,967,295 (00_scope section 5.2, R26). -/
abbrev maxMinute : Nat := 4294967295

end Sys2Proof
end

