-- ==== Sys2Proof/Syntax.lean ====
section
/-! DEFINITION. The commands of the SC-340: one constructor of `Instr` for each row of spec/opcode_table.json.

A request row stands for the rising of CS of a frame that carries that request (R191); its operands are the fields
of the body. A field with named values is an `Option`: `none` is a code that is none of its values. -/
namespace Sys2Proof

/-- The six loads (R4). -/
inductive Load where
  | heater | fridge | readA | readB | cabLight | nightLight
deriving DecidableEq, Repr

/-- The three classes of an order (R4). -/
inductive OrderClass where
  | essential | comfort | convenience
deriving DecidableEq, Repr

/-- The two anchors of an account (R6). -/
inductive AnchorName where
  | restStart | restEnd
deriving DecidableEq, Repr

/-- The four account slots (R68). -/
inductive Slot where
  | s0 | s1 | s2 | s3
deriving DecidableEq, Repr

/-- The bunk an account is bound to (Table 17). -/
inductive Bunk where
  | bunkA | bunkB | noBunk
deriving DecidableEq, Repr

/-- The two bunk buttons and the bunks they speak for (R130, R185). -/
inductive Side where
  | a | b
deriving DecidableEq, Repr

/-- The source of a warning entry (R102). -/
inductive Source where
  | slot (i : Slot)
  | part
deriving DecidableEq, Repr

/-- The eight warning types (Table 22). -/
inductive WarnType where
  | driveOver | dailyOver | heaterLockout | driveNear | chargeReserve | restDone | fridgeWarm | restShort
deriving DecidableEq, Repr

/-- The four light channels (R180). -/
inductive LightId where
  | readA | readB | cabLight | nightLight
deriving DecidableEq, Repr

/-- The eight timers of Table 27. -/
inductive TimerId where
  | t0 | t1 | t2 | t3 | t4 | t5 | t6 | t7
deriving DecidableEq, Repr

/-- The three temperature channels of Table 23. -/
inductive TempId where
  | c2 | c3 | c4
deriving DecidableEq, Repr

/-- The five digital inputs (R129). -/
inductive DigitalIn where
  | pbrake | flame | ovht | btnA | btnB
deriving DecidableEq, Repr

/-- The polarity of a light channel (R138). -/
inductive Polarity where
  | activeHigh | activeLow
deriving DecidableEq, Repr

/-- The states of a press classifier (R130). -/
inductive PressState where
  | released | pressed | longHeld | heldOver
deriving DecidableEq, Repr, Inhabited

/-- The mode an INIT may carry (R195). -/
inductive InitMode where
  | normal | workshop
deriving DecidableEq, Repr

/-- A start as a request carries it (R6); `bad` is a start form that is not one of the three. -/
inductive StartArg where
  | immediate
  | absolute (minute : Word32)
  | anchored (slot : Nat) (anchor : Option AnchorName) (offset : Int)
  | bad
deriving DecidableEq, Repr

/-- An end as a request carries it (R7); `bad` is an end form that is not one of the three. -/
inductive FinishArg where
  | unending
  | absolute (minute : Word32)
  | duration (minutes : Nat)
  | bad
deriving DecidableEq, Repr

/-- A target as a request carries it (Table 8): the setpoint or the level, and the fade. -/
structure TargetArg where
  value : Int
  fade : Nat
deriving DecidableEq, Repr

/-- The body of OPLACE (R18). -/
structure PlaceArg where
  key : Byte
  load : Option Load
  cls : Option OrderClass
  target : TargetArg
  start : StartArg
  finish : FinishArg
deriving DecidableEq, Repr

/-- The body of OAMEND (section 1.5): an outer `none` marks a field that is to stay. -/
structure AmendArg where
  key : Byte
  load : Option Load
  cls : Option (Option OrderClass)
  target : Option TargetArg
  start : Option StartArg
  finish : Option FinishArg
deriving DecidableEq, Repr

/-- The body of PLAN, in the order of R50. -/
structure PlanArg where
  heaterDraw : Word16
  heaterStart : Word16
  fridgeDraw : Word16
  fridgeDuty : Nat
  readA : Word16
  readB : Word16
  cabLight : Word16
  nightLight : Word16
deriving DecidableEq, Repr

/-- A settings set as ASET carries it, in the order of Table 18. -/
structure SettingsArg where
  rest : Nat
  segment : Nat
  drive : Nat
  lead : Nat
  pause : Nat
  daily : Nat
  wake : Option Bool
  wakeLevel : Nat
  wakeRamp : Nat
deriving DecidableEq, Repr

/-- The thirteen parameters HSET carries, in the order of R161. -/
structure HeaterArg where
  preheat : Nat
  ignition : Nat
  cooldown : Nat
  startRate : Nat
  rate1 : Nat
  rate2 : Nat
  rate3 : Nat
  rate4 : Nat
  pulseWidth : Nat
  fan1 : Nat
  fan2 : Nat
  fan3 : Nat
  fan4 : Nat
deriving DecidableEq, Repr

/-- The nine items LSET carries, in the order of R188. -/
structure LightArg where
  polA : Option Polarity
  polB : Option Polarity
  polCab : Option Polarity
  polNight : Option Polarity
  drawA : Word16
  drawB : Word16
  drawCab : Word16
  drawNight : Word16
  quietCap : Nat
deriving DecidableEq, Repr

/-- A frame that holds no request the part performs (R192), as the link shows it. -/
inductive FrameArg where
  /-- The bytes the host clocked on MOSI: the code, the length, the body and any fill (Table 40). -/
  | frame (bytes : List Byte)
  /-- An ADECL frame whose declaration is none of the four (R72, step 2). -/
  | undeclared (slot : Nat)
deriving DecidableEq, Repr

/-- The commands: one constructor for each row of spec/opcode_table.json, in the table's order. -/
inductive Instr where
  | nop
  | stat
  | nfetch (ack : Byte)
  | nmask (enables : Byte)
  | sleep (mask : Byte)
  | init (mode : Option InitMode) (selfTest : Option Bool)
  | shut
  | oplace (arg : PlaceArg)
  | oamend (arg : AmendArg)
  | olook (key : Byte)
  | oretire (key : Byte)
  | olist
  | tset (minute : Word32)
  | tlook
  | bset (horizon keepMargin : Nat)
  | blook
  | plan (arg : PlanArg)
  | cset (capacity reserve weight : Nat)
  | csync (charge : Word32)
  | clook
  | aopen (slot : Nat) (tag : Word32) (bunk : Option Bunk)
  | aset (slot : Nat) (bunk : Option Bunk) (arg : SettingsArg)
  | alook (slot : Nat)
  | adeclRest (slot : Nat)
  | adeclEnd (slot : Nat)
  | adeclWheel (slot : Nat)
  | adeclRelease (slot : Nat)
  | aretire (slot : Nat)
  | xmode (on : Option Bool)
  | wlist
  | wack (source : Option Source) (type : Option WarnType)
  | hset (arg : HeaterArg)
  | hlook
  | hclear (clearFuel : Option Bool)
  | fset (seconds : Nat)
  | flook
  | fclear
  | lset (arg : LightArg)
  | llook
  | slook
  | sset (seconds : Nat)
  | unknownRequest (arg : FrameArg)
  | frameStart
  | coldStart
  | resetAssert
  | resetEnd
  /-- One second of the timebase; `whole` says that the events that fall due at this second are taken within it
  (otherwise each is left to its own command: R77, R80 and R113 let the order vary). -/
  | timebaseSecond (whole : Bool)
  | minuteExpiry
  | restDone (slot : Slot)
  | breakComplete (slot : Slot)
  | countdownZero
  | toneEnd
  | endOfBurst
  | wlampFlashPhase
  /-- The self-test's end, with the tests that failed, numbered from 0 (test 1) to 4 (test 5). -/
  | selftestEnd (failed : List (Fin 5))
  | wakePulseEnd
  | wakeWaitExpiry
  | wakeSpacingExpiry
  | preheatExpiry
  | ignitionLimitExpiry
  | provingExpiry
  | cooldownExpiry
  | heaterRunClearsCount
  | satisfiedStop
  | minOffEnd
  | fixedCycleOnEnd
  | fixedCycleOffEnd
  | fridgeRunClearsStalls
  | warmRunComplete
  | fadeStep (channel : LightId)
  | endOfPeriod (timer : TimerId)
  /-- The end of a C0 window in which this many edges arrived. -/
  | vspdWindowEnd (edges : Nat)
  | tempWindowEnd (channel : TempId) (edges : Nat)
  | tachWindowEnd (edges : Nat)
  | qchgPulse
  | qdisPulse
  /-- A pin's new level; `true` is the first level of the table of R129 (applied, present, active, pressed). -/
  | pinChange (input : DigitalIn) (level : Bool)
  /-- The 50 ms timer of an input runs out; `held` is the button's hold time in ms at that moment (R130), read only
  for the release of a button. -/
  | debounceExpiry (input : DigitalIn) (held : Nat)
  | longPress (side : Side)
  | pressClassifierWaitEnd
deriving DecidableEq, Repr

end Sys2Proof
end

