-- ==== Sys2Proof/Machine/State.lean ====
section
/-! DEFINITION. The state of the SC-340: every record the reference gives it, as plain data, and its cold-start value. -/
namespace Sys2Proof.Machine

/-- No command of this part stops it with a fault: a refused request answers its outcome and the part goes on (R193). -/
inductive Fault where
deriving DecidableEq, Repr

/-- Why a command has no meaning here. -/
inductive Refusal where
  /-- Raised by `exec` for a row that has no meaning yet; safe. -/
  | notModelled (mnemonic : String)
deriving DecidableEq, Repr

/-- One value for each account slot (R68). -/
structure PerSlot (α : Type) where
  s0 : α
  s1 : α
  s2 : α
  s3 : α
deriving DecidableEq, Repr

/-! ### The request port (Table 37) -/

/-- R194. -/
inductive PartMode where
  | uninit | selfTest | normal | workshop
deriving DecidableEq, Repr

/-- Table 37; `failed n` is FAILED at test n + 1. -/
inductive SelfTest where
  | none | passed | failed (test : Fin 5) | abandoned
deriving DecidableEq, Repr

/-- Table 37. -/
inductive ResetCause where
  | cold | warm | shut
deriving DecidableEq, Repr

/-- The outcome codes of Table 4. -/
inductive OutcomeCode where
  | done | doneClamped | busy | unknown | badLength | badField | wrongState | keyInUse | noSuchKey | tableFull
  | noSuchAccount | slotInUse | tagInUse | bunkTaken | roleTaken | noSuchWarning
deriving DecidableEq, Repr

/-! ### Orders (Table 7) -/

/-- R3. -/
inductive Origin where
  | host | button | wake
deriving DecidableEq, Repr

/-- Table 9. -/
inductive OrderState where
  | pending | standby | waiting | active | blocked
deriving DecidableEq, Repr

/-- Table 8, as stored. -/
inductive Target where
  | setpoint (tenths : Int)
  | light (level fade : Nat)
deriving DecidableEq, Repr

/-- R6, as stored. -/
inductive Start where
  | immediate
  | absolute (minute : Nat)
  | anchored (slot : Slot) (anchor : AnchorName) (offset : Int)
deriving DecidableEq, Repr

/-- R7, as stored. -/
inductive Finish where
  | unending
  | absolute (minute : Nat)
  | duration (minutes : Nat)
deriving DecidableEq, Repr

/-- Table 7. -/
structure Order where
  key : Nat
  origin : Origin
  load : Load
  cls : OrderClass
  target : Target
  start : Start
  finish : Finish
  placedAt : Nat
  state : OrderState
  resolvedStart : Option Nat
  resolvedEnd : Option Nat
  forecast : Nat
  admittedAt : Option Nat
deriving DecidableEq, Repr

/-- The order as it is presented to a load block (R12). -/
structure Presented where
  key : Nat
  target : Target
  cls : OrderClass
deriving DecidableEq, Repr

/-! ### Clock, allocator and charge account -/

/-- The cab clock (section 1.7). -/
structure Clock where
  minute : Nat
  prescaler : Nat
  isSet : Bool
deriving DecidableEq, Repr

/-- Table 12; the light full draws are held by the light channels. -/
structure Alloc where
  horizon : Nat
  keepMargin : Nat
  heaterDraw : Nat
  heaterStart : Nat
  fridgeDraw : Nat
  fridgeDuty : Nat
  committed : Nat
  usable : Nat
  passMinute : Nat
deriving DecidableEq, Repr

/-- Table 16. -/
structure Charge where
  count : Nat
  residue : Nat
  capacity : Nat
  reserve : Nat
  weight : Nat
  synced : Bool
  tally : Int
  netLast : Int
deriving DecidableEq, Repr

/-! ### Rest accounts (Tables 17 and 18) -/

/-- Table 19. -/
inductive AccountState where
  | idle | driving | restWait | resting
deriving DecidableEq, Repr

/-- Table 18: R, M, D, L, B, Dd, wake enabled, wake level, wake ramp. -/
structure Settings where
  rest : Nat
  segment : Nat
  drive : Nat
  lead : Nat
  pause : Nat
  daily : Nat
  wake : Bool
  wakeLevel : Nat
  wakeRamp : Nat
deriving DecidableEq, Repr

/-- REST_END with its kind (R83); absent is `none` of the account's field. -/
inductive RestEnd where
  | expected (minute : Nat)
  | fixed (minute : Nat)
deriving DecidableEq, Repr

/-- Table 17. -/
structure Account where
  tag : Nat
  bunk : Bunk
  state : AccountState
  settings : Settings
  staged : Option Settings
  segSeconds : Nat
  lastSegment : Option Nat
  accumulated : Nat
  rested : Bool
  contSeconds : Nat
  breakSeconds : Nat
  dailySeconds : Nat
  restStart : Option Nat
  restEnd : Option RestEnd
deriving DecidableEq, Repr

/-! ### Warnings (Table 21) -/

/-- R102. -/
inductive EntryState where
  | queued | presenting | silenced | lampOnly
deriving DecidableEq, Repr

/-- Table 21; the severity is the type's. `falling` is the model's own: the countdown has reached 0 at a second, and the
presenter has yet to take the event at which the entry falls due (R109, R113, log entry 6). -/
structure Entry where
  source : Source
  type : WarnType
  raisedAt : Nat
  state : EntryState
  bursts : Nat
  due : Option Nat
  falling : Bool
deriving DecidableEq, Repr

/-- The chime (R107): while SOUNDING the pair, the tones left of the burst with the tone under way among them, whether
that tone is in its sound phase, and whether the burst still belongs to the entry for which it began (R108). -/
inductive Chime where
  | idle
  | sounding (source : Source) (type : WarnType) (tones : Nat) (sound owned : Bool)
deriving DecidableEq, Repr

/-- R110. -/
inductive Lamp where
  | off | steady | flashing
deriving DecidableEq, Repr

/-- The warning presenter; `lampOn` is the phase of a flashing lamp. -/
structure Warn where
  entries : List Entry
  chime : Chime
  lamp : Lamp
  lampOn : Bool
deriving DecidableEq, Repr

/-! ### Sensing -/

/-- R126. -/
inductive Motion where
  | moving | stopping | stationary
deriving DecidableEq, Repr

/-- A temperature channel (R121). -/
structure TempChannel where
  value : Int
  fault : Bool
  count : Nat
  validRun : Nat
deriving DecidableEq, Repr

/-- A debounced input (R129); `level` and `pin` are `true` at the first level of the table. `fromReset` marks a
debounce timer that began at the end of a reset (R131). -/
structure Input where
  pin : Bool
  level : Bool
  timer : Bool
  fromReset : Bool
deriving DecidableEq, Repr

/-- A press classifier (R130); `none` in the 50 ms after a reset (R131). What the hold time is outside the events that test
it is the model's choice (log entries 36 and 41). -/
structure Press where
  state : Option PressState
  hold : Nat
deriving DecidableEq, Repr

/-- Table 23 and section 6.4; `drawn` counts the free values drawn (log entry 12). -/
structure Sense where
  vspdCount : Nat
  motion : Motion
  settleCount : Nat
  settleTime : Nat
  chgTotal : Word32
  disTotal : Word32
  cab : TempChannel
  fridgeT : TempChannel
  outside : TempChannel
  tachRate : Nat
  pbrake : Input
  flame : Input
  ovht : Input
  btnA : Input
  btnB : Input
  pressA : Press
  pressB : Press
  drawn : Nat
deriving DecidableEq, Repr

/-! ### Timer bank -/

/-- One timer (R134). `shadowPol` is a polarity that waits for the end of the running period (R138). -/
structure Timer where
  running : Bool
  counter : Nat
  onCmp : Nat
  perCmp : Nat
  shadowOn : Nat
  shadowPer : Nat
  pending : Bool
  polarity : Polarity
  shadowPol : Option Polarity
deriving DecidableEq, Repr

/-- Table 27. -/
structure Timers where
  t0 : Timer
  t1 : Timer
  t2 : Timer
  t3 : Timer
  t4 : Timer
  t5 : Timer
  t6 : Timer
  t7 : Timer
deriving DecidableEq, Repr

/-! ### Heater (Tables 28 and 30) -/

/-- Table 29. -/
inductive HeaterState where
  | off | preheat | ignition | proving | run | cooldown | satisfied | lockout
deriving DecidableEq, Repr

/-- Table 28. -/
inductive CooldownCause where
  | stopped | failedStart | overheat | satisfied
deriving DecidableEq, Repr

/-- The parameters HSET writes (Table 30). -/
structure HeaterParams where
  preheat : Nat
  ignition : Nat
  cooldown : Nat
  startRate : Nat
  rate1 : Nat
  rate2 : Nat
  rate3 : Nat
  rate4 : Nat
  pulseWidth : Nat
  fan1 : Nat
  fan2 : Nat
  fan3 : Nat
  fan4 : Nat
deriving DecidableEq, Repr

/-- Table 28, the GLOW pin and the presented order. -/
structure Heater where
  state : HeaterState
  level : Nat
  desired : Nat
  failed : Nat
  restart : Bool
  cause : Option CooldownCause
  phase : Option Nat
  runSeconds : Nat
  stepTimer : Nat
  satisfy : Option Nat
  fuel : BitVec 24
  params : HeaterParams
  glow : Bool
  presented : Option Presented
deriving DecidableEq, Repr

/-! ### Fridge (Table 34) -/

/-- Table 35. -/
inductive FridgeState where
  | off | idle | start | run | rest | fault
deriving DecidableEq, Repr

/-- Table 34, the FCOMP pin, the monitored setpoint of R174 and the presented order. -/
structure Fridge where
  state : FridgeState
  speed : Nat
  call : Bool
  stalls : Nat
  offSeconds : Nat
  onSeconds : Option Nat
  startWindows : Option Nat
  lowWindows : Option Nat
  runSeconds : Option Nat
  warmRun : Option Nat
  minOff : Nat
  compressor : Bool
  monitored : Option Int
  presented : Option Presented
deriving DecidableEq, Repr

/-! ### Lights (Table 36) -/

/-- A fade under way (R181): start duty, end duty, steps taken, steps in the fade. -/
structure Fade where
  from_ : Nat
  to_ : Nat
  taken : Nat
  steps : Nat
deriving DecidableEq, Repr

/-- Table 36, with the presented order. -/
structure Channel where
  duty : Nat
  target : Nat
  fadeTime : Nat
  effective : Nat
  fade : Option Fade
  polarity : Polarity
  fullDraw : Nat
  presented : Option Presented
deriving DecidableEq, Repr

/-- The four channels and the quiet cap. -/
structure Lights where
  readA : Channel
  readB : Channel
  cabLight : Channel
  nightLight : Channel
  quietCap : Nat
deriving DecidableEq, Repr

/-! ### Replies -/

/-- The body of STAT (Table 43). -/
structure StatBody where
  mode : PartMode
  asleep : Bool
  selfTest : SelfTest
  cause : ResetCause
  clockSet : Bool
  unanswered : Bool
  flags : Byte
  enables : Byte
  mask : Byte
deriving DecidableEq, Repr

/-- Result of an acknowledgement (R111). -/
inductive AckResult where
  | silenced | alreadySilenced | removed
deriving DecidableEq, Repr

/-- The eight planning draws in the order of R50. -/
structure Draws where
  heaterDraw : Nat
  heaterStart : Nat
  fridgeDraw : Nat
  fridgeDuty : Nat
  readA : Nat
  readB : Nat
  cabLight : Nat
  nightLight : Nat
deriving DecidableEq, Repr

/-- The body of ALOOK, in the order of R96. -/
structure AccountBody where
  slot : Slot
  tag : Nat
  bunk : Bunk
  state : AccountState
  settings : Settings
  staged : Option Settings
  segSeconds : Nat
  credited : Nat
  lastSegment : Option Nat
  accumulated : Nat
  rested : Bool
  contSeconds : Nat
  breakSeconds : Nat
  dailySeconds : Nat
  restStart : Option Nat
  restEnd : Option RestEnd
  transport : Bool
  quiet : Bool
deriving DecidableEq, Repr

/-- One entry in the body of WLIST, in the order of R114. -/
structure WarningRow where
  source : Source
  type : WarnType
  severity : Nat
  raisedAt : Nat
  state : EntryState
  bursts : Nat
  due : Option Nat
deriving DecidableEq, Repr

/-- The chime in the body of WLIST (R114): IDLE, or SOUNDING with the pair and the tones still to sound. -/
inductive ChimeReport where
  | idle
  | sounding (source : Source) (type : WarnType) (tones : Nat)
deriving DecidableEq, Repr

/-- The body of HLOOK (R162). -/
structure HeaterBody where
  state : HeaterState
  level : Nat
  desired : Nat
  failed : Nat
  restart : Bool
  cause : Option CooldownCause
  phase : Option Nat
  runSeconds : Nat
  satisfy : Option Nat
  fuel : BitVec 24
  params : HeaterParams
deriving DecidableEq, Repr

/-- The body of FLOOK (R177). -/
structure FridgeBody where
  state : FridgeState
  speed : Nat
  call : Bool
  stalls : Nat
  remaining : Option Nat
  offSeconds : Nat
  onSeconds : Option Nat
  fixedCycle : Bool
  warmRun : Option Nat
  minOff : Nat
deriving DecidableEq, Repr

/-- The nine items of LSET as stored (R188). -/
structure LightSettings where
  polA : Polarity
  polB : Polarity
  polCab : Polarity
  polNight : Polarity
  drawA : Nat
  drawB : Nat
  drawCab : Nat
  drawNight : Nat
  quietCap : Nat
deriving DecidableEq, Repr

/-- One channel in the body of LLOOK, in the order of R189; of the presented order the body carries the key alone. -/
structure ChannelBody where
  duty : Nat
  target : Nat
  fadeTime : Nat
  effective : Nat
  fade : Option Fade
  presentedKey : Option Nat
  polarity : Polarity
  fullDraw : Nat
deriving DecidableEq, Repr

/-- The body of LLOOK (R189): the four channels in the order of LSET, the quiet cap and the quiet flag. -/
structure LightsBody where
  readA : ChannelBody
  readB : ChannelBody
  cabLight : ChannelBody
  nightLight : ChannelBody
  quietCap : Nat
  quiet : Bool
deriving DecidableEq, Repr

/-- The body of SLOOK (R132). -/
structure SenseBody where
  vspdCount : Nat
  motion : Motion
  settleCount : Nat
  settleTime : Nat
  chgTotal : Word32
  disTotal : Word32
  cab : TempChannel
  fridgeT : TempChannel
  outside : TempChannel
  tachRate : Nat
  pbrake : Bool
  flame : Bool
  ovht : Bool
  btnA : Bool
  btnB : Bool
  pressA : PressState
  pressB : PressState
deriving DecidableEq, Repr

/-- The body of a reply, by its fields (the byte places of most bodies are not in the reference: log entry 4). -/
inductive ReplyBody where
  | empty
  | status (body : StatBody)
  | fetched (before after : Byte)
  | enables (enables : Byte)
  | wakeMask (mask : Byte)
  | mode (mode : PartMode)
  /-- OPLACE and OAMEND: the key, and the state after the pass or `none` when the pass expired the order. -/
  | placed (key : Nat) (state : Option OrderState)
  | order (order : Order)
  | retired (key : Nat) (state : OrderState)
  | orders (rows : List (Nat × Load × OrderState))
  | step (minutes : Int)
  | time (minute prescaler : Nat) (isSet : Bool)
  | budget (horizon keepMargin : Nat)
  | draws (draws : Draws)
  | allocator (horizon keepMargin : Nat) (draws : Draws) (committed usable passMinute : Nat)
  | chargeSet (capacity reserve weight count residue : Nat)
  | synced (count : Nat)
  | charge (count residue capacity reserve weight usable : Nat) (synced : Bool) (netLast : Int)
  | opened (slot : Slot) (tag : Nat)
  | settings (staged : Bool) (settings : Settings)
  | account (body : AccountBody)
  | declared (slot : Slot) (state : AccountState)
  | emptied (slot : Slot) (tag : Nat)
  | transport (on : Bool)
  | warnings (rows : List WarningRow) (chime : ChimeReport) (lamp : Lamp)
  | acknowledged (source : Source) (type : WarnType) (result : AckResult)
  | heaterParams (params : HeaterParams)
  | heater (body : HeaterBody)
  | heaterCleared (state : HeaterState) (fuel : BitVec 24)
  | minOff (seconds : Nat) (state : FridgeState)
  | fridge (body : FridgeBody)
  | fridgeState (state : FridgeState)
  | lightsSet (settings : LightSettings)
  | lights (body : LightsBody)
  | sensing (body : SenseBody)
  | settle (seconds : Nat) (motion : Motion)
deriving DecidableEq, Repr

/-- A reply: its outcome and its body (Table 41). -/
structure Reply where
  outcome : OutcomeCode
  body : ReplyBody
deriving DecidableEq, Repr

/-- Table 37, the ATTN and WAKE lines, and the frame under way (log entry 3). -/
structure Port where
  mode : PartMode
  asleep : Bool
  reply : Option Reply
  miso : Option Reply
  inFrame : Bool
  asleepAtStart : Bool
  flags : Byte
  enables : Byte
  mask : Byte
  attn : Bool
  wake : Bool
  spacing : Bool
  wait : Bool
  unanswered : Bool
  selfTest : SelfTest
  cause : ResetCause
  initMode : InitMode
deriving DecidableEq, Repr

/-! ### Work held while RESET is asserted -/

/-- A raise or a removal handed to the presenter (R116). -/
inductive Handed where
  | raise (source : Source) (type : WarnType)
  | remove (source : Source) (type : WarnType)
deriving DecidableEq, Repr

/-- A wake order due at the end of the reset (R101): the bunk's side, the level and the fade in seconds. -/
structure HeldWake where
  side : Side
  level : Nat
  fade : Nat
deriving DecidableEq, Repr

/-- The RESET line and what the blocks hold until it is released. -/
structure Rst where
  asserted : Bool
  heldWarnings : List Handed
  heldWakes : List HeldWake
  accountNotice : Bool
  heaterMoved : Bool
  fridgeMoved : Bool
deriving DecidableEq, Repr

/-- The machine. -/
structure State where
  clock : Clock
  orders : List Order
  alloc : Alloc
  charge : Charge
  accounts : PerSlot (Option Account)
  transport : Bool
  quiet : Bool
  warn : Warn
  sense : Sense
  timers : Timers
  heater : Heater
  fridge : Fridge
  lights : Lights
  port : Port
  rst : Rst
  pending : List Instr
deriving DecidableEq, Repr

/-- Table 30. -/
def HeaterParams.default : HeaterParams where
  preheat := 45
  ignition := 120
  cooldown := 180
  startRate := 90
  rate1 := 60
  rate2 := 110
  rate3 := 160
  rate4 := 220
  pulseWidth := 30
  fan1 := 350
  fan2 := 500
  fan3 := 700
  fan4 := 900

/-- R140: a temperature channel after a cold start. -/
def TempChannel.cold : TempChannel := { value := 0, fault := true, count := 0, validRun := 0 }

/-- R129: an input after a cold start, with its pin at the same level (log entry 13). -/
def Input.cold : Input := { pin := false, level := false, timer := false, fromReset := false }

/-- R131: a classifier right after a reset: in no state, its hold time stopped, which the model holds at 0 (log entry
36). -/
def Press.afterReset : Press := { state := none, hold := 0 }

/-- R139: a timer after a cold start. -/
def Timer.cold : Timer :=
  { running := false, counter := 0, onCmp := 0, perCmp := 0, shadowOn := 0, shadowPer := 0, pending := false
    polarity := .activeHigh, shadowPol := none }

/-- R190: a light channel after a cold start. -/
def Channel.cold (fullDraw : Nat) : Channel :=
  { duty := 0, target := 0, fadeTime := 1, effective := 0, fade := none, polarity := .activeHigh
    fullDraw := fullDraw, presented := none }

/-- The machine right after a cold start: every record at the value its chapter gives (R25, R29, R52, R67, R100, R117,
R139, R140, R164, R179, R190, R204). -/
def State.reset : State where
  clock := { minute := 0, prescaler := 0, isSet := false }
  orders := []
  alloc :=
    { horizon := 480, keepMargin := 500, heaterDraw := 1800, heaterStart := 800, fridgeDraw := 3500
      fridgeDuty := 40, committed := 0, usable := 0, passMinute := 0 }
  charge :=
    { count := 0, residue := 0, capacity := 200000, reserve := 80000, weight := 360, synced := false
      tally := 0, netLast := 0 }
  accounts := { s0 := none, s1 := none, s2 := none, s3 := none }
  transport := false
  quiet := false
  warn := { entries := [], chime := .idle, lamp := .off, lampOn := false }
  sense :=
    { vspdCount := 0, motion := .stopping, settleCount := 0, settleTime := 60, chgTotal := 0, disTotal := 0
      cab := .cold, fridgeT := .cold, outside := .cold, tachRate := 0
      pbrake := .cold, flame := .cold, ovht := .cold, btnA := .cold, btnB := .cold
      pressA := .afterReset, pressB := .afterReset, drawn := 0 }
  timers :=
    { t0 := .cold, t1 := .cold, t2 := .cold, t3 := .cold, t4 := .cold, t5 := .cold, t6 := .cold, t7 := .cold }
  heater :=
    { state := .off, level := 0, desired := 0, failed := 0, restart := false, cause := none, phase := none
      runSeconds := 0, stepTimer := 0, satisfy := none, fuel := 0, params := .default, glow := false
      presented := none }
  fridge :=
    { state := .rest, speed := 0, call := false, stalls := 0, offSeconds := 0, onSeconds := none
      startWindows := none, lowWindows := none, runSeconds := none, warmRun := none, minOff := 180
      compressor := false, monitored := none, presented := none }
  lights :=
    { readA := .cold 600, readB := .cold 600, cabLight := .cold 2000, nightLight := .cold 300, quietCap := 100 }
  port :=
    { mode := .uninit, asleep := false, reply := none, miso := none, inFrame := false, asleepAtStart := false
      flags := 0x80#8, enables := 0xFF#8, mask := 0x00#8, attn := true, wake := false, spacing := false
      wait := false, unanswered := false, selfTest := .none, cause := .cold, initMode := .normal }
  rst :=
    { asserted := false, heldWarnings := [], heldWakes := [], accountNotice := false, heaterMoved := false
      fridgeMoved := false }
  pending := []

end Sys2Proof.Machine
end

