-- ==== Sys2Proof/Config.lean ====
section
/-! DEFINITION. What the reference leaves open as a value: the free values of the model. -/
namespace Sys2Proof

/-- FREE VALUE (log entry 12): the press state that SLOOK reports for a button in the 50 ms after a reset, when R131
has taken the classifier out of every state and the reference gives none; a new value for each draw. -/
opaque Config.pressDuringWait : Side → Nat → PressState

/-- FREE VALUE (log entry 4): the bytes of a reply body whose layout the reference does not give. -/
opaque Config.bodyBytes : Machine.ReplyBody → List Byte

end Sys2Proof
end

