-- ==== Sys2Proof/Machine/Operands.lean ====
section
/-! DEFINITION. The operand forms of the requests: clamping (R193), holding, rounding, slots and keys, and the constant
tables the rules read (Tables 14, 22, 24, 27, 29). -/
namespace Sys2Proof

open Machine

/-! ### Arithmetic -/

/-- A natural field clamped to `lo` to `hi` (R193). -/
def clampNat (lo hi x : Nat) : Nat := if x < lo then lo else if hi < x then hi else x

/-- A signed field clamped to `lo` to `hi` (R193). -/
def clampInt (lo hi x : Int) : Int := if x < lo then lo else if hi < x then hi else x

/-- A cab minute held at 0 and at 4,294,967,295 (R9, R27, R84). -/
def holdMinute (x : Int) : Nat := (clampInt 0 (maxMinute : Int) x).toNat

/-- The division of R40 and R41, rounded up. -/
def ceilDiv (a b : Nat) : Nat := (a + b - 1) / b

/-- A signed count held between `-bound` and `bound` (R58). -/
def holdInt (bound : Int) (x : Int) : Int := clampInt (-bound) bound x

/-- A count of seconds held at `bound` that gains 1 (R77, R86, R166). -/
def gain (bound x : Nat) : Nat := if x < bound then x + 1 else x

/-! ### Slots -/

/-- The slot a request names: 0 to 3, else none (section 4.9). -/
def slotOf (n : Nat) : Option Slot :=
  match n with
  | 0 => some .s0
  | 1 => some .s1
  | 2 => some .s2
  | 3 => some .s3
  | _ => none

/-- The four slots in order. -/
def allSlots : List Slot := [.s0, .s1, .s2, .s3]

/-- The number of a slot. -/
def Slot.index : Slot → Nat
  | .s0 => 0
  | .s1 => 1
  | .s2 => 2
  | .s3 => 3

/-- The value a slot holds. -/
def Machine.PerSlot.get {α : Type} (p : PerSlot α) (i : Slot) : α :=
  match i with
  | .s0 => p.s0
  | .s1 => p.s1
  | .s2 => p.s2
  | .s3 => p.s3

/-- One slot's value replaced. -/
def Machine.PerSlot.set {α : Type} (p : PerSlot α) (i : Slot) (v : α) : PerSlot α :=
  match i with
  | .s0 => { p with s0 := v }
  | .s1 => { p with s1 := v }
  | .s2 => { p with s2 := v }
  | .s3 => { p with s3 := v }

/-- The bunk a button speaks for (R185). -/
def Side.bunk : Side → Bunk
  | .a => .bunkA
  | .b => .bunkB

/-! ### Keys (Table 6) -/

/-- The greatest number of orders the table holds (R1). -/
def orderLimit : Nat := 24

/-- A key the host may place (Table 6). -/
def hostKey (k : Nat) : Bool := decide (1 ≤ k) && decide (k ≤ 240)

/-- A key the host may look up, amend and retire (Table 6). -/
def anyKey (k : Nat) : Bool := decide (1 ≤ k) && decide (k ≤ 244)

/-- The manual key of a bunk (Table 6). -/
def manualKey : Side → Nat
  | .a => 241
  | .b => 242

/-- The wake key of a bunk (Table 6). -/
def wakeKey : Side → Nat
  | .a => 243
  | .b => 244

/-- The reading light of a bunk (R81, R186). -/
def readLoad : Side → Load
  | .a => .readA
  | .b => .readB

/-! ### Targets (Table 8) -/

/-- The target as stored, after clamping (R5). -/
def TargetArg.store (load : Load) (t : TargetArg) : Target :=
  match load with
  | .heater => .setpoint (clampInt 50 300 t.value)
  | .fridge => .setpoint (clampInt (-200) 100 t.value)
  | _ => .light (clampInt 0 1000 t.value).toNat (clampNat 0 1800 t.fade)

/-- Whether storing the target clamps a field; the fade of a HEATER or FRIDGE order is disregarded (R5). -/
def TargetArg.clamped (load : Load) (t : TargetArg) : Bool :=
  match load with
  | .heater => decide (clampInt 50 300 t.value ≠ t.value)
  | .fridge => decide (clampInt (-200) 100 t.value ≠ t.value)
  | _ => decide (clampInt 0 1000 t.value ≠ t.value) || decide (clampNat 0 1800 t.fade ≠ t.fade)

/-! ### Starts and ends (R6, R7) -/

/-- The start as stored, with the offset clamped; none for a form, anchor name or slot outside its values. -/
def StartArg.store : StartArg → Option Start
  | .immediate => some .immediate
  | .absolute m => some (.absolute m.toNat)
  | .anchored n anchor offset =>
    match slotOf n, anchor with
    | some i, some a => some (.anchored i a (clampInt (-720) 720 offset))
    | _, _ => none
  | .bad => none

/-- Whether storing the start clamps the offset (R6). -/
def StartArg.clamped : StartArg → Bool
  | .anchored _ _ offset => decide (clampInt (-720) 720 offset ≠ offset)
  | _ => false

/-- The end as stored; none for a form that is not one of the three, or a duration outside 1 to 1440 (R7). -/
def FinishArg.store : FinishArg → Option Finish
  | .unending => some .unending
  | .absolute m => some (.absolute m.toNat)
  | .duration n => if 1 ≤ n ∧ n ≤ 1440 then some (.duration n) else none
  | .bad => none

/-- R7: an ABSOLUTE end is later than now. -/
def finishAfterNow (now : Nat) : Finish → Bool
  | .absolute e => decide (now < e)
  | _ => true

/-- R7: an ABSOLUTE end is later than an ABSOLUTE start. -/
def finishAfterStart (start : Start) (finish : Finish) : Bool :=
  match start, finish with
  | .absolute b, .absolute e => decide (b < e)
  | _, _ => true

/-! ### Settings and parameters -/

/-- The default settings set (Table 18). -/
def Machine.Settings.default : Settings :=
  { rest := 660, segment := 180, drive := 270, lead := 15, pause := 45, daily := 540, wake := true
    wakeLevel := 400, wakeRamp := 10 }

/-- The settings set as stored: R first, then M up to that R, then the others (R95). -/
def SettingsArg.store (a : SettingsArg) (wake : Bool) : Settings :=
  let r := clampNat 60 1440 a.rest
  { rest := r, segment := clampNat 15 r a.segment, drive := clampNat 60 600 a.drive
    lead := clampNat 0 60 a.lead, pause := clampNat 15 120 a.pause, daily := clampNat 60 900 a.daily
    wake := wake, wakeLevel := clampNat 0 1000 a.wakeLevel, wakeRamp := clampNat 1 30 a.wakeRamp }

/-- Whether storing the settings set clamps a member (R95). -/
def SettingsArg.clamped (a : SettingsArg) : Bool :=
  let s := a.store true
  decide (s.rest ≠ a.rest) || decide (s.segment ≠ a.segment) || decide (s.drive ≠ a.drive) ||
  decide (s.lead ≠ a.lead) || decide (s.pause ≠ a.pause) || decide (s.daily ≠ a.daily) ||
  decide (s.wakeLevel ≠ a.wakeLevel) || decide (s.wakeRamp ≠ a.wakeRamp)

/-- The heater parameters as stored (R161, Table 30). -/
def HeaterArg.store (a : HeaterArg) : HeaterParams :=
  { preheat := clampNat 20 90 a.preheat, ignition := clampNat 60 180 a.ignition
    cooldown := clampNat 120 300 a.cooldown, startRate := clampNat 20 300 a.startRate
    rate1 := clampNat 20 300 a.rate1, rate2 := clampNat 20 300 a.rate2
    rate3 := clampNat 20 300 a.rate3, rate4 := clampNat 20 300 a.rate4
    pulseWidth := clampNat 20 50 a.pulseWidth, fan1 := clampNat 0 1000 a.fan1
    fan2 := clampNat 0 1000 a.fan2, fan3 := clampNat 0 1000 a.fan3, fan4 := clampNat 0 1000 a.fan4 }

/-- The parameters as carried, unclamped, for comparison with what is stored. -/
def HeaterArg.raw (a : HeaterArg) : HeaterParams :=
  { preheat := a.preheat, ignition := a.ignition, cooldown := a.cooldown, startRate := a.startRate
    rate1 := a.rate1, rate2 := a.rate2, rate3 := a.rate3, rate4 := a.rate4, pulseWidth := a.pulseWidth
    fan1 := a.fan1, fan2 := a.fan2, fan3 := a.fan3, fan4 := a.fan4 }

/-- The rate of a level in pulses per minute (Table 30). -/
def Machine.HeaterParams.rate (p : HeaterParams) (level : Nat) : Nat :=
  if level ≤ 1 then p.rate1 else if level = 2 then p.rate2 else if level = 3 then p.rate3 else p.rate4

/-- The fan duty of a level (Table 30). -/
def Machine.HeaterParams.fan (p : HeaterParams) (level : Nat) : Nat :=
  if level ≤ 1 then p.fan1 else if level = 2 then p.fan2 else if level = 3 then p.fan3 else p.fan4

/-- The duty of a compressor speed: 400, 700 and 1000 ‰ (R166). -/
def speedDuty (speed : Nat) : Nat := if speed ≤ 1 then 400 else if speed = 2 then 700 else 1000

/-! ### Warning types (Table 22) -/

/-- The severity of a type. -/
def WarnType.severity : WarnType → Nat
  | .driveOver => 5
  | .dailyOver => 4
  | .heaterLockout => 4
  | .driveNear => 3
  | .chargeReserve => 3
  | .restDone => 2
  | .fridgeWarm => 2
  | .restShort => 1

/-- Event types are removed when acknowledged; the others are condition types. -/
def WarnType.isEvent : WarnType → Bool
  | .restDone => true
  | .restShort => true
  | _ => false

/-- Tones per burst. -/
def WarnType.tones : WarnType → Nat
  | .driveOver => 3
  | .dailyOver => 3
  | .heaterLockout => 3
  | .driveNear => 2
  | .chargeReserve => 2
  | .restDone => 4
  | .fridgeWarm => 2
  | .restShort => 1

/-- The interval between bursts in seconds, where the type has one. -/
def WarnType.interval : WarnType → Option Nat
  | .driveOver => some 10
  | .dailyOver => some 30
  | .heaterLockout => some 30
  | .driveNear => none
  | .chargeReserve => none
  | .restDone => some 60
  | .fridgeWarm => some 600
  | .restShort => none

/-- The burst limit, where the type has one. -/
def WarnType.limit : WarnType → Option Nat
  | .driveNear => some 1
  | .chargeReserve => some 1
  | .restDone => some 10
  | .restShort => some 1
  | _ => none

/-- Whether the type is one of the five account types. -/
def WarnType.ofAccount : WarnType → Bool
  | .heaterLockout => false
  | .chargeReserve => false
  | .fridgeWarm => false
  | _ => true

/-- R112, check 3: an account type with a slot as source, a PART type with PART. -/
def pairMatches (source : Source) (type : WarnType) : Bool :=
  match source with
  | .slot _ => type.ofAccount
  | .part => !type.ofAccount

/-- The order of the sources for ranking: slots 0 to 3, then PART (R106). -/
def Source.index : Source → Nat
  | .slot i => i.index
  | .part => 4

/-! ### Classes and windows -/

/-- ESSENTIAL first, then COMFORT, then CONVENIENCE (R4). -/
def OrderClass.rank : OrderClass → Nat
  | .essential => 0
  | .comfort => 1
  | .convenience => 2

/-- The temperature worked from a window's count, none for an invalid window (Table 24). -/
def tempOfCount (n : Nat) : Option Int :=
  if n < 900 then none
  else if n < 1000 then some (-500)
  else if n ≤ 2000 then some ((n : Int) - 1500)
  else if n ≤ 2100 then some 500
  else none

/-- The load a light channel serves (R4). -/
def LightId.load : LightId → Load
  | .readA => .readA
  | .readB => .readB
  | .cabLight => .cabLight
  | .nightLight => .nightLight

/-- The timer a light channel writes (Table 27). -/
def LightId.timer : LightId → TimerId
  | .readA => .t0
  | .readB => .t1
  | .cabLight => .t2
  | .nightLight => .t3

/-- The six loads. -/
def allLoads : List Load := [.heater, .fridge, .readA, .readB, .cabLight, .nightLight]

/-! ### Replies and outcomes -/

/-- The outcome byte of Table 41. -/
def Machine.OutcomeCode.byte : OutcomeCode → Byte
  | .done => 0x01#8
  | .doneClamped => 0x02#8
  | .busy => 0x03#8
  | .unknown => 0x04#8
  | .badLength => 0x05#8
  | .badField => 0x06#8
  | .wrongState => 0x07#8
  | .keyInUse => 0x08#8
  | .noSuchKey => 0x09#8
  | .tableFull => 0x0A#8
  | .noSuchAccount => 0x0B#8
  | .slotInUse => 0x0C#8
  | .tagInUse => 0x0D#8
  | .bunkTaken => 0x0E#8
  | .roleTaken => 0x0F#8
  | .noSuchWarning => 0x10#8

/-- The mode byte of Table 43. -/
def Machine.PartMode.byte : PartMode → Byte
  | .uninit => 0x00#8
  | .selfTest => 0x01#8
  | .normal => 0x02#8
  | .workshop => 0x03#8

/-- The self-test byte of Table 43. -/
def Machine.SelfTest.byte : SelfTest → Byte
  | .none => 0x00#8
  | .passed => 0x01#8
  | .failed n => BitVec.ofNat 8 (0x11 + n.val)
  | .abandoned => 0x20#8

/-- The reset cause byte of Table 43. -/
def Machine.ResetCause.byte : ResetCause → Byte
  | .cold => 0x00#8
  | .warm => 0x01#8
  | .shut => 0x02#8

/-- The eight bytes of the STAT body (Table 43). -/
def Machine.StatBody.bytes (b : StatBody) : List Byte :=
  [b.mode.byte, (if b.asleep then 0x01#8 else 0x00#8), b.selfTest.byte, b.cause.byte,
   (if b.clockSet then 0x01#8 else 0x00#8) ||| (if b.unanswered then 0x02#8 else 0x00#8),
   b.flags, b.enables, b.mask]

/-- The bytes of a reply body: those the reference gives (R200 to R202, Table 43), and a free value for a body whose
layout it does not give, held at the 511 bytes of R191 (log entry 4). -/
def Machine.ReplyBody.bytes : ReplyBody → List Byte
  | .empty => []
  | .status b => b.bytes
  | .fetched before after => [before, after]
  | .enables e => [e]
  | .wakeMask m => [m]
  | b => (Config.bodyBytes b).take 511

/-- R191: a two-byte field, the least significant byte first. -/
def twoBytes (n : Nat) : List Byte := [BitVec.ofNat 8 n, BitVec.ofNat 8 (n / 256)]

/-- The reply frame of Table 41: the outcome, the two-byte body length, the body. -/
def Machine.Reply.bytes (r : Reply) : List Byte := r.outcome.byte :: (twoBytes r.body.bytes.length ++ r.body.bytes)

/-- R191: what stands to be clocked out: the pending reply, or the empty reply of outcome 00h and length 0. -/
def replyBytes : Option Reply → List Byte
  | none => 0x00#8 :: twoBytes 0
  | some r => r.bytes

/-- R191: the bytes that a frame of `clocked` bytes reads on MISO: the reply's from its first byte, as many as the frame
has; a longer frame reads `fill` after them, of which the reference says nothing (log entry 4). -/
def misoBytes (reply : Option Reply) (fill : Nat → Byte) (clocked : Nat) : List Byte :=
  (List.range clocked).map (fun k => (replyBytes reply).getD k (fill k))

/-- A refused request: its outcome, with an empty body (log entry 14). -/
def refusal (o : OutcomeCode) : Reply := { outcome := o, body := .empty }

/-- A request carried out. -/
def done (b : ReplyBody) : Reply := { outcome := .done, body := b }

/-- A request carried out, with DONE_CLAMPED where a field was clamped (R193). -/
def doneIf (clamped : Bool) (b : ReplyBody) : Reply :=
  { outcome := if clamped then .doneClamped else .done, body := b }

/-- The mode INIT carries, as a part mode (R195). -/
def InitMode.toMode : InitMode → PartMode
  | .normal => .normal
  | .workshop => .workshop

end Sys2Proof
end

