-- ==== Sys2Proof/Machine/Flags.lean ====
section
/-! DEFINITION. The notice flags, ATTN and the WAKE pulse (sections 10.3 and 10.4), and the attentions of R199. -/
namespace Sys2Proof.Machine

/-- The eight notices (section 10.3). -/
inductive Notice where
  | order | account | warning | heater | fridge | charge | sensor | part
deriving DecidableEq, Repr

/-- The bit of a notice in a notice byte (Table 42). -/
def Notice.bit : Notice → Byte
  | .order => 0x01#8
  | .account => 0x02#8
  | .warning => 0x04#8
  | .heater => 0x08#8
  | .fridge => 0x10#8
  | .charge => 0x20#8
  | .sensor => 0x40#8
  | .part => 0x80#8

/-- Whether a notice byte names a notice. -/
def Notice.inByte (n : Notice) (b : Byte) : Bool := decide (b &&& n.bit ≠ 0#8)

/-- ATTN worked afresh from the port state, the flags and the enables (R199). -/
def Port.workAttn (p : Port) : Port :=
  { p with attn := !p.asleep && decide (p.flags &&& p.enables ≠ 0#8) }

/-- R203: a flag that was clear becomes set while the port is ASLEEP, in NORMAL or WORKSHOP, is named by the wake mask,
and the wake spacing is clear. -/
def Port.wakeDue (p : Port) (n : Notice) : Bool :=
  p.asleep && (decide (p.mode = .normal) || decide (p.mode = .workshop)) && n.inByte p.mask && !p.spacing &&
  !n.inByte p.flags

/-- R203: the WAKE pulse begins, with the wake spacing and the wake wait. -/
def Port.startWake (p : Port) : Port := { p with wake := true, spacing := true, wait := true }

/-- A block sets a flag (R199), with the WAKE pulse R203 gives and ATTN worked afresh. -/
def Port.setFlag (p : Port) (n : Notice) : Port :=
  let q := if p.wakeDue n then p.startWake else p
  { q with flags := q.flags ||| n.bit }.workAttn

/-- A block sets a notice. While RESET is asserted the port takes none: the blocks held out of the reset hold theirs
(R204). -/
def State.notice (s : State) (n : Notice) : State :=
  if s.rst.asserted then s else { s with port := s.port.setFlag n }

/-- A notice set when a condition holds. -/
def State.noticeIf (s : State) (b : Bool) (n : Notice) : State := if b then s.notice n else s

/-- The rest accounts set ACCOUNT (R92), or hold it for the end of the reset (R101). -/
def State.accountNotice (s : State) : State :=
  if s.rst.asserted then { s with rst := { s.rst with accountNotice := true } } else s.notice .account

/-- The usable charge worked from Q and F (R59). -/
def Charge.usable (c : Charge) : Nat := if c.reserve < c.count then c.count - c.reserve else 0

/-- The charge attention (R61). -/
def Charge.attention (c : Charge) : Bool := !c.synced || decide (c.usable = 0)

/-- The sensor attention (R123). -/
def Sense.attention (x : Sense) : Bool := x.cab.fault || x.fridgeT.fault || x.outside.fault

/-- The flags whose attention holds (R199). -/
def State.attentions (s : State) : Byte :=
  (if s.charge.attention then Notice.charge.bit else 0#8) |||
  (if s.heater.state = .lockout then Notice.heater.bit else 0#8) |||
  (if s.fridge.state = .fault then Notice.fridge.bit else 0#8) |||
  (if s.sense.attention then Notice.sensor.bit else 0#8)

end Sys2Proof.Machine
end

