-- ==== Sys2Proof/Machine/Ops.lean ====
section
/-! DEFINITION. The named operations the blocks share: the timer bank (section 6.8), the account slots, the order table's
records, the press and input records, and the frame that takes a request (R191, R192). -/
namespace Sys2Proof.Machine

/-! ### The timer bank -/

/-- One timer of the bank. -/
def Timers.get (b : Timers) : TimerId → Timer
  | .t0 => b.t0
  | .t1 => b.t1
  | .t2 => b.t2
  | .t3 => b.t3
  | .t4 => b.t4
  | .t5 => b.t5
  | .t6 => b.t6
  | .t7 => b.t7

/-- One timer of the bank replaced. -/
def Timers.set (b : Timers) (i : TimerId) (t : Timer) : Timers :=
  match i with
  | .t0 => { b with t0 := t }
  | .t1 => { b with t1 := t }
  | .t2 => { b with t2 := t }
  | .t3 => { b with t3 := t }
  | .t4 => { b with t4 := t }
  | .t5 => { b with t5 := t }
  | .t6 => { b with t6 := t }
  | .t7 => { b with t7 := t }

/-- An owner writes the shadow pair: a running timer keeps its compares and marks the pair pending (R135), a stopped
one takes the pair at once and runs (R136). -/
def Timer.write (t : Timer) (on per : Nat) : Timer :=
  if t.running then { t with shadowOn := on, shadowPer := per, pending := true }
  else
    { t with
      running := true, counter := 0, onCmp := on, perCmp := per, shadowOn := on, shadowPer := per
      pending := false }

/-- R136: the halt takes effect at once. A polarity that waited for the end of the period takes effect with it (log
entry 20). -/
def Timer.halt (t : Timer) : Timer :=
  { t with
    running := false, counter := 0, pending := false, polarity := t.shadowPol.getD t.polarity
    shadowPol := none }

/-- R135 and R138: at the end of the period a pending pair and a waiting polarity take effect, and the next period
begins. -/
def Timer.endPeriod (t : Timer) : Timer :=
  { t with
    counter := 0, onCmp := if t.pending then t.shadowOn else t.onCmp
    perCmp := if t.pending then t.shadowPer else t.perCmp, pending := false
    polarity := t.shadowPol.getD t.polarity, shadowPol := none }

/-- R138: a polarity written to a running timer waits for the end of the period; a stopped one takes it at once. -/
def Timer.setPolarity (t : Timer) (p : Polarity) : Timer :=
  if t.running then { t with shadowPol := some p } else { t with polarity := p, shadowPol := none }

/-- R134: the output at a count of the running period is active while the count is below the on-time compare. -/
def Timer.active (t : Timer) (count : Nat) : Bool := t.running && decide (count < t.onCmp)

/-- R138: the level of the pin (`true` is high) at a count of the running period. -/
def Timer.pin (t : Timer) (count : Nat) : Bool :=
  match t.polarity with
  | .activeHigh => t.active count
  | .activeLow => !t.active count

/-- The level of a timer's output pin at a count of its running period. -/
def timerPin (s : State) (i : TimerId) (count : Nat) : Bool := (s.timers.get i).pin count

/-- R137, R159: T4 hands the heater a pump pulse. -/
def State.pumpPulse (s : State) : State := { s with heater := { s.heater with fuel := s.heater.fuel + 1 } }

/-- A timer replaced. -/
def State.setTimer (s : State) (i : TimerId) (t : Timer) : State := { s with timers := s.timers.set i t }

/-- An owner writes its timer. A stopped T4 that is started begins a period, which is a pump pulse when its on-time is
above 0 (R137). -/
def State.writeTimer (s : State) (i : TimerId) (on per : Nat) : State :=
  let t := s.timers.get i
  let s' := s.setTimer i (t.write on per)
  if i = .t4 ∧ t.running = false ∧ 0 < on then s'.pumpPulse else s'

/-- An owner halts its timer (R136). -/
def State.haltTimer (s : State) (i : TimerId) : State := s.setTimer i (s.timers.get i).halt

/-! ### Accounts -/

/-- The account a slot holds. -/
def State.account (s : State) (i : Slot) : Option Account := s.accounts.get i

/-- A slot's account replaced. -/
def State.setAccount (s : State) (i : Slot) (a : Account) : State :=
  { s with accounts := s.accounts.set i (some a) }

/-- A rest is declared while the account is in REST_WAIT or RESTING (section 4.2). -/
def Account.declared (a : Account) : Bool := decide (a.state = .restWait) || decide (a.state = .resting)

/-- The account is bound to bunk A or B. -/
def Account.inBunk (a : Account) : Bool := decide (a.bunk ≠ .noBunk)

/-- The slots whose account satisfies a test, in order. -/
def State.slotsWhere (s : State) (p : Account → Bool) : List Slot :=
  allSlots.filter (fun i => match s.account i with | some a => p a | none => false)

/-- The slot of the account bound to a bunk, if there is one. -/
def State.boundSlot (s : State) (b : Bunk) : Option Slot :=
  (s.slotsWhere (fun a => decide (a.bunk = b))).head?

/-! ### Orders -/

/-- The order of a key. -/
def findOrder (k : Nat) (os : List Order) : Option Order := os.find? (fun o => decide (o.key = k))

/-- The table without the order of a key. -/
def eraseOrder (k : Nat) (os : List Order) : List Order := os.filter (fun o => decide (o.key ≠ k))

/-- The table with an order entered in its place in ascending key order (R1); an order of the same key is replaced. -/
def insertOrder (o : Order) : List Order → List Order
  | [] => [o]
  | p :: ps =>
    if o.key < p.key then o :: p :: ps else if o.key = p.key then o :: ps else p :: insertOrder o ps

/-- The order ACTIVE for a load, as it is presented to the load block (R12). -/
def presentedFor (load : Load) (os : List Order) : Option Presented :=
  (os.find? (fun o => decide (o.load = load) && decide (o.state = .active))).map
    (fun o => { key := o.key, target := o.target, cls := o.cls })

/-- The setpoint of a presented order. -/
def Presented.setpoint (p : Presented) : Int :=
  match p.target with
  | .setpoint t => t
  | .light _ _ => 0

/-! ### Inputs and presses -/

/-- One digital input. -/
def Sense.input (x : Sense) : DigitalIn → Input
  | .pbrake => x.pbrake
  | .flame => x.flame
  | .ovht => x.ovht
  | .btnA => x.btnA
  | .btnB => x.btnB

/-- One digital input replaced. -/
def Sense.setInput (x : Sense) (i : DigitalIn) (v : Input) : Sense :=
  match i with
  | .pbrake => { x with pbrake := v }
  | .flame => { x with flame := v }
  | .ovht => { x with ovht := v }
  | .btnA => { x with btnA := v }
  | .btnB => { x with btnB := v }

/-- One press classifier. -/
def Sense.press (x : Sense) : Side → Press
  | .a => x.pressA
  | .b => x.pressB

/-- One press classifier replaced. -/
def Sense.setPress (x : Sense) (i : Side) (v : Press) : Sense :=
  match i with
  | .a => { x with pressA := v }
  | .b => { x with pressB := v }

/-- The button of a side. -/
def buttonOf : Side → DigitalIn
  | .a => .btnA
  | .b => .btnB

/-- One temperature channel. -/
def Sense.temp (x : Sense) : TempId → TempChannel
  | .c2 => x.cab
  | .c3 => x.fridgeT
  | .c4 => x.outside

/-- One temperature channel replaced. -/
def Sense.setTemp (x : Sense) (i : TempId) (v : TempChannel) : Sense :=
  match i with
  | .c2 => { x with cab := v }
  | .c3 => { x with fridgeT := v }
  | .c4 => { x with outside := v }

/-! ### Frames -/

/-- The falling of CS (R191, R202): the pending reply is clocked out, an ASLEEP port returns to AWAKE, the wake wait
ends and ATTN is worked afresh. -/
def Port.openFrame (p : Port) : Port :=
  { p with
    inFrame := true, miso := p.reply, asleepAtStart := p.asleep, asleep := false
    wait := if p.asleep then false else p.wait }.workAttn

/-- The frame a request ends: the one FRAME_START began, or one whose falling of CS is taken now (log entry 3). -/
def State.inFrame (s : State) : State :=
  if s.port.inFrame then s else { s with port := s.port.openFrame }

/-- The rising of CS, step 3 of R191: the reply of this frame becomes the pending reply. -/
def State.closeFrame (s : State) (r : Reply) : State :=
  { s with port := { s.port with inFrame := false, reply := some r } }

/-- The rising of CS takes the request of the frame (R191), through check 1 of Table 38. While RESET is asserted the
port takes no frame (R204). -/
def State.takeFrame (s : State) (request : State → State × Reply) : State :=
  if s.rst.asserted then s
  else
    let s := s.inFrame
    if s.port.mode = .selfTest then s.closeFrame (refusal .busy)
    else (request s).1.closeFrame (request s).2

/-- A request refused: it changes nothing (R193). -/
def State.refuse (s : State) (o : OutcomeCode) : State × Reply := (s, refusal o)

/-- An event of a block that takes none while RESET is asserted. -/
def State.outOfReset (s : State) (event : State → State) : State := if s.rst.asserted then s else event s

end Sys2Proof.Machine
end

