-- ==== Sys2Proof/Machine/Warnings.lean ====
section
/-! DEFINITION. The warning presenter (chapter 5): the list, ranking, suppression, the chime arbiter and the lamp. -/
namespace Sys2Proof.Machine

/-- Whether an entry is of a pair (R102). -/
def Entry.isPair (e : Entry) (source : Source) (type : WarnType) : Bool :=
  decide (e.source = source) && decide (e.type = type)

/-- Whether a list holds an entry of a pair. -/
def hasPair (source : Source) (type : WarnType) (es : List Entry) : Bool := es.any (fun e => e.isPair source type)

/-- The entry of a pair. -/
def findPair (source : Source) (type : WarnType) (es : List Entry) : Option Entry :=
  es.find? (fun e => e.isPair source type)

/-- The list without the entry of a pair. -/
def erasePair (source : Source) (type : WarnType) (es : List Entry) : List Entry :=
  es.filter (fun e => !e.isPair source type)

/-- The list with the entry of a pair changed. -/
def mapPair (source : Source) (type : WarnType) (f : Entry → Entry) (es : List Entry) : List Entry :=
  es.map (fun e => if e.isPair source type then f e else e)

/-- A place for each pair in the stored list, so that equal lists are equal data: by source, then by severity (within
one source every type has its own, R103). -/
def pairPlace (source : Source) (type : WarnType) : Nat := source.index * 8 + type.severity

/-- The stored list with an entry entered in its place. -/
def insertEntry (e : Entry) : List Entry → List Entry
  | [] => [e]
  | x :: xs =>
    if pairPlace e.source e.type ≤ pairPlace x.source x.type then e :: x :: xs else x :: insertEntry e xs

/-- R106: the first ranks above the second or beside it. -/
def Entry.rankLe (a b : Entry) : Bool :=
  if a.type.severity ≠ b.type.severity then decide (b.type.severity < a.type.severity)
  else if a.raisedAt ≠ b.raisedAt then decide (a.raisedAt < b.raisedAt)
  else decide (a.source.index ≤ b.source.index)

/-- A list with an entry entered in its place in rank order. -/
def insertRanked (e : Entry) : List Entry → List Entry
  | [] => [e]
  | x :: xs => if e.rankLe x then e :: x :: xs else x :: insertRanked e xs

/-- The list in rank order (R106, R114). -/
def rankOrder : List Entry → List Entry
  | [] => []
  | e :: es => insertRanked e (rankOrder es)

/-- R116: what is handed to the presenter while RESET is asserted is held; the effect it will have on whether a pair is
listed (log entry 24). -/
def handedPresence (source : Source) (type : WarnType) (listed : Bool) : List Handed → Bool
  | [] => listed
  | .raise a t :: hs => handedPresence source type (listed || (decide (a = source) && decide (t = type))) hs
  | .remove a t :: hs => handedPresence source type (listed && !(decide (a = source) && decide (t = type))) hs

/-- Whether a raising block finds an entry of the pair in the list, with the held raises and removals counted. -/
def State.listed (s : State) (source : Source) (type : WarnType) : Bool :=
  handedPresence source type (hasPair source type s.warn.entries) s.rst.heldWarnings

/-! ### The lamp (R110) -/

/-- The lamp condition of a list. -/
def lampOf (es : List Entry) : Lamp :=
  if es.isEmpty then .off
  else if es.any (fun e => decide (4 ≤ e.type.severity) && decide (e.state ≠ .silenced)) then .flashing
  else .steady

/-- The lamp worked afresh: an entry into FLASHING starts with the on-phase. -/
def Warn.workLamp (w : Warn) : Warn :=
  { w with
    lamp := lampOf w.entries
    lampOn :=
      match lampOf w.entries with
      | .off => false
      | .steady => true
      | .flashing => if w.lamp = .flashing then w.lampOn else true }

/-- The WLAMP pin: its condition's level, held off in SELFTEST and while RESET is asserted (R110, R116). -/
def wlampPin (s : State) : Bool :=
  s.warn.lampOn && !s.rst.asserted && decide (s.port.mode ≠ .selfTest)

/-! ### Suppression and selection (R107, R109) -/

/-- Whether a source is an account bound to bunk A or B that is in REST_WAIT or RESTING. -/
def State.restingSource (s : State) : Source → Bool
  | .part => false
  | .slot i =>
    match s.account i with
    | some a => a.inBunk && a.declared
    | none => false

/-- R109: the entry is suppressed. -/
def State.suppressed (s : State) (e : Entry) : Bool :=
  decide (s.port.mode = .workshop) ||
  (s.quiet && decide (e.type.severity ≤ 3) && !s.restingSource e.source)

/-- The entry has fallen due: it is QUEUED with a countdown of 0, whose event the presenter has taken (R107, R109). -/
def Entry.ready (e : Entry) : Bool := decide (e.state = .queued) && decide (e.due = some 0) && !e.falling

/-- Bursts made gain 1, held at 65,535 (R102). -/
def Entry.countBurst (e : Entry) : Entry := { e with bursts := gain 65535 e.bursts }

/-- Whether the bursts made have reached the limit of the type. -/
def Entry.atLimit (e : Entry) : Bool :=
  match e.type.limit with
  | some n => decide (n ≤ e.bursts)
  | none => false

/-- R109: a due burst of a suppressed entry is counted as made without sound. -/
def Entry.countSilent (e : Entry) : Entry :=
  let e := e.countBurst
  if e.atLimit then { e with state := .lampOnly, due := none } else { e with due := e.type.interval }

/-- The suppression test of R109 for every entry that is QUEUED with a countdown of 0. -/
def State.testSuppression (s : State) : State :=
  { s with
    warn :=
      { s.warn with
        entries := s.warn.entries.map (fun e => if e.ready && s.suppressed e then e.countSilent else e) } }

/-- The highest-ranked due entry (R106, R107). -/
def State.dueEntry (s : State) : Option Entry :=
  (rankOrder s.warn.entries).find? (fun e => e.ready && !s.suppressed e)

/-- R107: the entry becomes PRESENTING with its countdown set to its interval. -/
def Entry.present (e : Entry) : Entry :=
  { e with state := .presenting, due := e.type.interval, falling := false }

/-- R107: a burst begins for an entry; the CHIME timer is set to sound 2.5 kHz (R108, Table 27). -/
def State.beginBurst (s : State) (e : Entry) : State :=
  { s with
    warn :=
      { s.warn with
        entries := mapPair e.source e.type Entry.present s.warn.entries
        chime := .sounding e.source e.type e.type.tones true true } }.writeTimer .t7 200 400

/-- R107: a selection, made when the chime is IDLE and an entry is due; no burst begins in SELFTEST or while RESET is
asserted. -/
def State.select (s : State) : State :=
  if s.warn.chime ≠ .idle ∨ s.port.mode = .selfTest ∨ s.rst.asserted then s
  else match s.dueEntry with
    | some e => s.beginBurst e
    | none => s

/-- The presenter's work at an event that may make an entry due or change a suppression: the tests of R109, then one
selection by R107. While RESET is asserted it makes neither (R116). -/
def State.settle (s : State) : State := if s.rst.asserted then s else s.testSuppression.select

/-! ### Raising, removal and acknowledgement -/

/-- R104: a new entry. -/
def newEntry (source : Source) (type : WarnType) (now : Nat) : Entry :=
  { source := source, type := type, raisedAt := now, state := .queued, bursts := 0, due := some 0, falling := false }

/-- R104 but for the test and the selection: a raise adds an entry, sets WARNING and works the lamp; a pair that is
listed changes nothing. -/
def State.addEntry (s : State) (source : Source) (type : WarnType) : State :=
  if hasPair source type s.warn.entries then s
  else
    { s with
      warn :=
        { s.warn with entries := insertEntry (newEntry source type s.clock.minute) s.warn.entries }.workLamp }.notice
      .warning

/-- The burst under way no longer belongs to an entry of this pair (R105, R108). -/
def Chime.disown (c : Chime) (source : Source) (type : WarnType) : Chime :=
  match c with
  | .idle => .idle
  | .sounding a t n snd owned =>
    .sounding a t n snd (owned && !(decide (a = source) && decide (t = type)))

/-- R105: a removal takes the entry of a pair out of the list and works the lamp; the burst it made goes on and belongs
to no entry. -/
def State.dropEntry (s : State) (source : Source) (type : WarnType) : State :=
  if hasPair source type s.warn.entries then
    { s with
      warn :=
        { s.warn with
          entries := erasePair source type s.warn.entries
          chime := s.warn.chime.disown source type }.workLamp }
  else s

/-- A raising block hands the presenter a raise (R104), held while RESET is asserted (R116). -/
def State.raise (s : State) (source : Source) (type : WarnType) : State :=
  if s.rst.asserted then
    { s with rst := { s.rst with heldWarnings := s.rst.heldWarnings ++ [.raise source type] } }
  else if hasPair source type s.warn.entries then s
  else (s.addEntry source type).settle

/-- A raising block hands the presenter a removal (R105), held while RESET is asserted (R116). -/
def State.remove (s : State) (source : Source) (type : WarnType) : State :=
  if s.rst.asserted then
    { s with rst := { s.rst with heldWarnings := s.rst.heldWarnings ++ [.remove source type] } }
  else s.dropEntry source type

/-- R59, R89: a raising block raises when its condition holds and no entry is listed, and removes when the condition does
not hold and an entry is listed. -/
def State.workCondition (s : State) (source : Source) (type : WarnType) (holds : Bool) : State :=
  if holds && !s.listed source type then s.raise source type
  else if !holds && s.listed source type then s.remove source type
  else s

/-- R111: what an acknowledgement of an entry reports. -/
def Entry.ackResult (e : Entry) : AckResult :=
  if e.type.isEvent then .removed
  else if e.state = .silenced then .alreadySilenced
  else .silenced

/-- R111: a condition entry becomes SILENCED. -/
def Entry.silence (e : Entry) : Entry := { e with state := .silenced, due := none, falling := false }

/-- R111: an acknowledgement acts on the entry of a pair. -/
def State.acknowledge (s : State) (e : Entry) : State :=
  if e.type.isEvent then s.dropEntry e.source e.type
  else if e.state = .silenced then s
  else
    { s with
      warn := { s.warn with entries := mapPair e.source e.type Entry.silence s.warn.entries }.workLamp }

/-! ### The burst -/

/-- R108, step 2 and 3: the entry of a burst that has ended. -/
def Entry.endBurst (e : Entry) : Entry :=
  let e := e.countBurst
  if e.state = .presenting then
    if e.atLimit then { e with state := .lampOnly, due := none } else { e with state := .queued }
  else e

/-- R108, R116: a burst that is cut short: the CHIME timer is halted, the chime becomes IDLE and its entry, if still
PRESENTING, is given back by `back`. -/
def State.cutBurst (s : State) (back : Entry → Entry) : State :=
  match s.warn.chime with
  | .idle => s
  | .sounding a t _ _ _ =>
    { s with
      warn :=
        { s.warn with
          chime := .idle
          entries := mapPair a t (fun e => if e.state = EntryState.presenting then back e else e) s.warn.entries } }.haltTimer
      .t7

/-- R108: the entry of a burst cut by SELFTEST is QUEUED and due. -/
def Entry.requeueDue (e : Entry) : Entry := { e with state := .queued, due := some 0, falling := false }

/-- R116: the entry of a burst cut by a warm reset is QUEUED. -/
def Entry.requeue (e : Entry) : Entry := { e with state := .queued }

/-- R116, step 2: a QUEUED entry's countdown restarts at the end of a warm reset. -/
def Entry.restart (e : Entry) : Entry :=
  if e.state = .queued then
    { e with due := if e.bursts = 0 then some 0 else e.type.interval, falling := false }
  else e

/-- R109: one second of an entry's countdown. A QUEUED entry whose countdown reaches 0 falls due at the presenter's event
of that second, which COUNTDOWN_ZERO is (log entry 6). -/
def Entry.second (e : Entry) : Entry :=
  if e.state = .queued ∨ e.state = .presenting then
    { e with
      due := e.due.map (fun n => n - 1)
      falling := e.falling || (decide (e.state = .queued) && decide (e.due = some 1)) }
  else e

/-- R109: an entry whose countdown has reached 0 falls due. -/
def Entry.fall (e : Entry) : Entry := { e with falling := false }

/-- R109: the presenter's event of a second: every entry whose countdown has reached 0 falls due, the test for suppression
is made for each, and one selection follows. While RESET is asserted no countdown runs (R116). -/
def State.countdownZero (s : State) : State :=
  if s.rst.asserted then s
  else State.settle { s with warn := { s.warn with entries := s.warn.entries.map Entry.fall } }

end Sys2Proof.Machine
end

