-- ==== Sys2Proof/Machine/FridgeOps.lean ====
section
/-! DEFINITION. The fridge controller (chapter 8): its states, thermostat, stalls and warm alarm, without the passes it
starts. -/
namespace Sys2Proof.Machine

/-- The fridge record changed. -/
def State.withFridge (s : State) (f : Fridge → Fridge) : State := { s with fridge := f s.fridge }

/-- The controller changes state, with the FRIDGE notice (R175). -/
def State.fridgeGo (s : State) (st : FridgeState) : State :=
  (s.withFridge (fun f => { f with state := st })).notice .fridge

/-- R175: while the fridge attention holds, the controller sets FRIDGE at each event it takes. Which
events these are is not listed: the completion of a pass is not one of them here (DESIGN CHOICE, log
entry 39). -/
def State.fridgeAttention (s : State) : State := s.noticeIf (decide (s.fridge.state = .fault)) .fridge

/-- R166: the compressor is switched on, at entry to START. -/
def State.enterStart (s : State) : State :=
  ((s.withFridge (fun f =>
      { f with compressor := true, speed := 1, onSeconds := some 0, startWindows := some 0 })).writeTimer .t6
    (speedDuty 1) 1000).fridgeGo .start

/-- R166: the compressor is switched off, leaving START or RUN. -/
def State.switchOff (s : State) : State :=
  (s.withFridge (fun f =>
    { f with
      compressor := false, speed := 0, offSeconds := 0, onSeconds := none, startWindows := none
      lowWindows := none, runSeconds := none })).haltTimer .t6

/-- R166: the compressor is switched off and the controller goes to REST. -/
def State.stopToRest (s : State) : State := s.switchOff.fridgeGo .rest

/-- The start test in IDLE: R168, or R173 while C3 is faulted. -/
def State.startTest (s : State) : State :=
  if s.fridge.state ≠ .idle then s
  else if s.sense.fridgeT.fault then
    if 1200 ≤ s.fridge.offSeconds then s.enterStart else s
  else if s.fridge.call ∧ s.fridge.minOff ≤ s.fridge.offSeconds then s.enterStart else s

/-- Entry to IDLE, with its start test (R168, R173). -/
def State.enterIdle (s : State) : State := (s.fridgeGo .idle).startTest

/-- R172: REST ends. -/
def State.endRestPhase (s : State) : State :=
  if s.fridge.presented.isSome then s.enterIdle else s.fridgeGo .off

/-- R172: REST ends when off seconds have reached the min-off time. -/
def State.endRestIfDue (s : State) : State :=
  if s.fridge.state = .rest ∧ s.fridge.minOff ≤ s.fridge.offSeconds then s.endRestPhase else s

/-- R167: an order becomes presented while none was. -/
def State.fridgePresented (s : State) : State :=
  if s.fridge.state = .off then s.enterIdle else s

/-- R167: the presented order goes away and no other takes its place. -/
def State.fridgeWithdrawn (s : State) : State :=
  match s.fridge.state with
  | .idle => s.fridgeGo .off
  | .start => s.stopToRest
  | .run => s.stopToRest
  | _ => s

/-- R12, R167: stage 8 presents the fridge with its ACTIVE order, or with none. In FAULT it sets no
FRIDGE: the completion of a pass is not an event the controller takes there (R175; DESIGN CHOICE, log
entry 39). -/
def State.presentFridge (s : State) (p : Option Presented) : State :=
  let t := s.withFridge (fun f => { f with presented := p })
  if s.fridge.presented.isNone && p.isSome then t.fridgePresented
  else if s.fridge.presented.isSome && p.isNone then t.fridgeWithdrawn
  else t

/-- R174: the monitored setpoint after a pass: the FRIDGE candidate's (ACTIVE or WAITING), or that of the BLOCKED FRIDGE
order with the lowest key. -/
def monitoredSetpoint (os : List Order) : Option Int :=
  let of (o : Order) : Int :=
    match o.target with
    | .setpoint t => t
    | .light _ _ => 0
  match os.find? (fun o => decide (o.load = .fridge) && (decide (o.state = .active) || decide (o.state = .waiting))) with
  | some o => some (of o)
  | none => (os.find? (fun o => decide (o.load = .fridge) && decide (o.state = .blocked))).map of

/-- R174: the monitoring after a pass; when it ceases, the warm run ends and FRIDGE_WARM is removed. In
FAULT it sets no FRIDGE (R175; DESIGN CHOICE, log entry 39). -/
def State.workMonitor (s : State) (os : List Order) : State :=
  match monitoredSetpoint os with
  | some t => s.withFridge (fun f => { f with monitored := some t })
  | none =>
    let s := s.withFridge (fun f => { f with monitored := none, warmRun := none })
    if s.listed .part .fridgeWarm then s.remove .part .fridgeWarm else s

/-- The setpoint that stands as S for the cooling call (R168). -/
def Fridge.callSetpoint (f : Fridge) : Option Int :=
  if f.state = .fault then f.monitored else f.presented.map Presented.setpoint

/-- R168: the cooling call at a C3 reading. -/
def Fridge.workCall (f : Fridge) (value : Int) (fault : Bool) : Bool :=
  match f.callSetpoint with
  | none => false
  | some t =>
    if fault then f.call
    else if t + 20 ≤ value then true
    else if value ≤ t then false
    else f.call

/-- R169: the speed in RUN from T - S and the quiet flag. -/
def runSpeed (difference : Int) (quiet : Bool) : Nat :=
  let v := if 50 ≤ difference then 3 else if 30 ≤ difference then 2 else 1
  if quiet then 1 else v

/-- The speed is set, and T6 written when it changes (R166, R169). -/
def State.setSpeed (s : State) (v : Nat) : State :=
  if s.fridge.speed = v then s
  else (s.withFridge (fun f => { f with speed := v })).writeTimer .t6 (speedDuty v) 1000

/-- R169: a C3 reading in RUN with the fault flag clear. -/
def State.c3InRun (s : State) (setpoint value : Int) : State :=
  if value ≤ setpoint then s.stopToRest else s.setSpeed (runSpeed (value - setpoint) s.quiet)

/-- R173: on seconds have reached 600 while C3 is faulted. -/
def State.fixedCycleOnEnd (s : State) : State :=
  if (s.fridge.state = .start ∨ s.fridge.state = .run) ∧ s.sense.fridgeT.fault = true ∧
      600 ≤ s.fridge.onSeconds.getD 0 then s.stopToRest
  else s

/-- R173: C3 faults. -/
def State.c3Faults (s : State) : State :=
  match s.fridge.state with
  | .start => (s.setSpeed 1).fixedCycleOnEnd
  | .run => (s.setSpeed 1).fixedCycleOnEnd
  | .idle => s.startTest
  | _ => s

/-- R174: the warm run and FRIDGE_WARM at a C3 reading with the fault flag clear, while monitoring holds. -/
def State.workWarm (s : State) (value : Int) : State :=
  match s.fridge.monitored with
  | none => s
  | some t =>
    let s :=
      s.withFridge (fun f =>
        { f with
          warmRun :=
            if t + 80 ≤ value then
              (match f.warmRun with
               | some n => some n
               | none => some 0)
            else none })
    if value < t + 40 ∧ s.listed .part .fridgeWarm = true then s.remove .part .fridgeWarm else s

/-- A C3 reading handed to the fridge (R119, R168, R169, R173, R174, R175); `faulted` marks the reading at which C3
faults. -/
def State.fridgeReading (s : State) (value : Int) (fault faulted : Bool) : State :=
  let s := s.fridgeAttention
  let s := s.withFridge (fun f => { f with call := f.workCall value fault })
  if fault then
    if faulted then (s.withFridge (fun f => { f with warmRun := none })).c3Faults else s
  else
    let s := s.workWarm value
    match s.fridge.state, s.fridge.presented with
    | .idle, _ => s.startTest
    | .run, some p => s.c3InRun p.setpoint value
    | _, _ => s

/-- R169: the quiet flag becomes set with the controller in RUN. -/
def State.fridgeQuiet (s : State) : State := if s.fridge.state = .run then s.setSpeed 1 else s

/-- R170: entry to RUN from START. -/
def State.enterFridgeRun (s : State) : State :=
  (s.withFridge (fun f =>
    { f with startWindows := none, lowWindows := some 0, runSeconds := some 0 })).fridgeGo .run

/-- R170: steps 1 and 2 of a stall, and REST unless the count has reached 3. -/
def State.stall (s : State) : State :=
  let t := s.switchOff.withFridge (fun f => { f with stalls := gain 3 f.stalls })
  if t.fridge.stalls = 3 then t.fridgeGo .fault else t.fridgeGo .rest

/-- R170: a C5 reading; a third stall enters FAULT, whose pass the command makes (R175). -/
def State.tachReading (s : State) (rate : Nat) : State :=
  let s := s.fridgeAttention
  match s.fridge.state with
  | .start =>
    if 20 ≤ rate then s.enterFridgeRun
    else
      let n := s.fridge.startWindows.getD 0 + 1
      if 10 ≤ n then s.stall else s.withFridge (fun f => { f with startWindows := some n })
  | .run =>
    let n := if rate < 15 then s.fridge.lowWindows.getD 0 + 1 else 0
    if 5 ≤ n then s.stall else s.withFridge (fun f => { f with lowWindows := some n })
  | _ => s

/-- One second of the fridge's counters (R166, R169, R174). -/
def Fridge.second (f : Fridge) : Fridge :=
  { f with
    offSeconds := if f.state = .start ∨ f.state = .run then f.offSeconds else gain 65535 f.offSeconds
    onSeconds := f.onSeconds.map (gain 65535)
    runSeconds := f.runSeconds.map (gain 1800)
    warmRun := f.warmRun.map (gain 1200) }

/-- R168, R172: off seconds have reached the min-off time: REST ends, or IDLE makes the start test. -/
def State.minOffEnd (s : State) : State :=
  match s.fridge.state with
  | .rest => s.endRestIfDue
  | .idle => if s.sense.fridgeT.fault then s else s.startTest
  | _ => s

/-- R173: off seconds have reached 1,200 in IDLE while C3 is faulted. -/
def State.fixedCycleOffEnd (s : State) : State := if s.sense.fridgeT.fault then s.startTest else s

/-- R169: run seconds have reached 1,800 in RUN: the stall count is set to 0. -/
def State.runClearsStalls (s : State) : State :=
  if s.fridge.state = .run ∧ s.fridge.runSeconds = some 1800 then s.withFridge (fun f => { f with stalls := 0 })
  else s

/-- R174, R175: a warm run has reached 1,200; in FAULT its end is taken as an event that sets FRIDGE (DESIGN CHOICE, log
entry 39). -/
def State.warmRunComplete (s : State) : State :=
  if s.fridge.warmRun = some 1200 then
    ((s.withFridge (fun f => { f with warmRun := none })).raise .part .fridgeWarm).fridgeAttention
  else s

end Sys2Proof.Machine
end

