-- ==== Sys2Proof/Machine/HeaterOps.lean ====
section
/-! DEFINITION. The heater sequencer (chapter 7): its states, outputs and level control, without the passes it starts. -/
namespace Sys2Proof.Machine

/-- The heater record changed. -/
def State.withHeater (s : State) (f : Heater → Heater) : State := { s with heater := f s.heater }

/-- The fan timer T5 is written with a duty in ‰ (R141). -/
def State.writeFan (s : State) (duty : Nat) : State := s.writeTimer .t5 duty 1000

/-- The pump timer T4 is written with a rate in pulses per minute (R142). -/
def State.writePump (s : State) (rate : Nat) : State :=
  s.writeTimer .t4 s.heater.params.pulseWidth (60000 / rate)

/-- The heater changes state, with the HEATER notice (R160). -/
def State.heaterGo (s : State) (st : HeaterState) : State :=
  (s.withHeater (fun h => { h with state := st })).notice .heater

/-- OVHT is active. -/
def State.overheated (s : State) : Bool := s.sense.ovht.level

/-- R160: while the heater attention holds, the sequencer sets HEATER at each event it takes. Which events
these are is not listed: the completion of a pass is not one of them here (DESIGN CHOICE, log entry 39). -/
def State.heaterAttention (s : State) : State := s.noticeIf (decide (s.heater.state = .lockout)) .heater

/-- R146: the length of the preheat phase, doubled below -20 °C outside or with the outside channel faulted. -/
def State.preheatLength (s : State) : Nat :=
  if s.sense.outside.fault ∨ s.sense.outside.value < -200 then 2 * s.heater.params.preheat
  else s.heater.params.preheat

/-- R146: entry to PREHEAT. -/
def State.enterPreheat (s : State) : State :=
  ((s.withHeater (fun h => { h with glow := true, phase := some s.preheatLength })).writeFan 200).heaterGo .preheat

/-- Table 29: entry to OFF. -/
def State.enterOff (s : State) : State :=
  ((s.withHeater (fun h => { h with glow := false, phase := none })).writeFan 0).heaterGo .off

/-- R147: entry to IGNITION. -/
def State.enterIgnition (s : State) : State :=
  (((s.withHeater (fun h => { h with phase := some h.params.ignition })).writePump
    s.heater.params.startRate).writeFan 300).heaterGo .ignition

/-- R148: entry to PROVING, for 20 s. -/
def State.enterProving (s : State) : State :=
  ((s.withHeater (fun h => { h with phase := some 20 })).writeFan 400).heaterGo .proving

/-- The rate and the fan duty of a level are written to T4 and T5 (R150, R152). -/
def State.writeLevel (s : State) (level : Nat) : State :=
  (s.writePump (s.heater.params.rate level)).writeFan (s.heater.params.fan level)

/-- R150: entry to RUN at level 2. -/
def State.enterRun (s : State) : State :=
  ((s.withHeater (fun h =>
      { h with
        glow := false, phase := none, level := 2, desired := 2, stepTimer := 60, runSeconds := 0
        satisfy := none })).writeLevel 2).heaterGo .run

/-- R155: entry to COOLDOWN with a cause; T4 is halted and GLOW switched off by the rule that leads there (R145, R149,
R153, R157). -/
def State.enterCooldown (s : State) (cause : CooldownCause) : State :=
  (((s.withHeater (fun h =>
      { h with
        glow := false, phase := some h.params.cooldown, cause := some cause, level := 0, desired := 0
        satisfy := none })).haltTimer .t4).writeFan 1000).heaterGo .cooldown

/-- R149: a failed start. -/
def State.failedStart (s : State) : State :=
  ((s.withHeater (fun h => { h with failed := gain 3 h.failed })).enterCooldown .failedStart).withHeater
    (fun h => { h with restart := h.presented.isSome && decide (h.failed < 3) })

/-- R144: an order becomes presented while none was. -/
def State.heaterPresented (s : State) : State :=
  match s.heater.state with
  | .off => if s.overheated then s else s.enterPreheat
  | .cooldown => s.withHeater (fun h => { h with restart := true })
  | _ => s

/-- R145: the presented order goes away and no other takes its place. -/
def State.heaterWithdrawn (s : State) : State :=
  match s.heater.state with
  | .preheat => s.enterOff
  | .ignition => s.enterCooldown .stopped
  | .proving => s.enterCooldown .stopped
  | .run => s.enterCooldown .stopped
  | .satisfied => s.enterOff
  | .cooldown =>
    s.withHeater (fun h =>
      { h with
        restart := false
        cause := if h.cause = some .satisfied then some .stopped else h.cause })
  | _ => s

/-- R12, R144, R145: stage 8 presents the heater with its ACTIVE order, or with none. In LOCKOUT it sets
no HEATER: the completion of a pass is not an event the sequencer takes there (R160; DESIGN CHOICE, log
entry 39). -/
def State.presentHeater (s : State) (p : Option Presented) : State :=
  let t := s.withHeater (fun h => { h with presented := p })
  if s.heater.presented.isNone && p.isSome then t.heaterPresented
  else if s.heater.presented.isSome && p.isNone then t.heaterWithdrawn
  else t

/-- R157, and the OVHT rows of Table 32: OVHT becomes active. -/
def State.ovhtActive (s : State) : State :=
  match s.heater.state with
  | .preheat => s.enterOff
  | .ignition => s.enterCooldown .overheat
  | .proving => s.enterCooldown .overheat
  | .run => s.enterCooldown .overheat
  | .cooldown => s.withHeater (fun h => { h with cause := some .overheat })
  | _ => s

/-- R144, R157: OVHT becomes inactive: a held start begins. -/
def State.ovhtInactive (s : State) : State :=
  if s.heater.state = .off ∧ s.heater.presented.isSome then s.enterPreheat else s

/-- R147 and Table 32: FLAME becomes present. -/
def State.flamePresent (s : State) : State :=
  if s.heater.state = .ignition then s.enterProving else s

/-- R148, R150 and Table 32: FLAME becomes absent. -/
def State.flameAbsent (s : State) : State :=
  if s.heater.state = .proving ∨ s.heater.state = .run then s.failedStart else s

/-- R151: the desired level from the setpoint, the reading and the quiet flag. -/
def desiredLevel (setpoint value : Int) (fault quiet : Bool) : Nat :=
  let level :=
    if fault then 2
    else if 30 ≤ setpoint - value then 4
    else if 15 ≤ setpoint - value then 3
    else if 5 ≤ setpoint - value then 2
    else 1
  if quiet && decide (level = 4) then 3 else level

/-- One step from a level toward another (R152). -/
def stepToward (level desired : Nat) : Nat :=
  if level < desired then level + 1 else if desired < level then level - 1 else level

/-- R152: the level moves one step toward the desired level when they differ and the step timer has run out. -/
def State.stepLevel (s : State) : State :=
  if s.heater.level ≠ s.heater.desired ∧ s.heater.stepTimer = 0 then
    let l := stepToward s.heater.level s.heater.desired
    (s.withHeater (fun h => { h with level := l, stepTimer := 60 })).writeLevel l
  else s

/-- R153: the satisfy run at a C2 reading in RUN. -/
def State.workSatisfy (s : State) (setpoint value : Int) (fault : Bool) : State :=
  s.withHeater (fun h =>
    { h with
      satisfy :=
        if h.level = 1 ∧ fault = false ∧ setpoint + 10 ≤ value then
          (match h.satisfy with
           | some n => some n
           | none => some 0)
        else none })

/-- R151 to R153: a C2 reading in RUN. -/
def State.c2InRun (s : State) (setpoint value : Int) (fault : Bool) : State :=
  ((s.withHeater (fun h => { h with desired := desiredLevel setpoint value fault s.quiet })).stepLevel).workSatisfy
    setpoint value fault

/-- R154: a C2 reading in SATISFIED. -/
def State.c2InSatisfied (s : State) (setpoint value : Int) (fault : Bool) : State :=
  if (fault = true ∨ value ≤ setpoint - 10) ∧ s.overheated = false then s.enterPreheat else s

/-- A C2 reading handed to the heater (R119, R151 to R154, R160). -/
def State.heaterReading (s : State) (value : Int) (fault : Bool) : State :=
  let s := s.heaterAttention
  match s.heater.state, s.heater.presented with
  | .run, some p => s.c2InRun p.setpoint value fault
  | .satisfied, some p => s.c2InSatisfied p.setpoint value fault
  | _, _ => s

/-- R152: the quiet flag becomes set with the heater at level 4. -/
def State.heaterQuiet (s : State) : State :=
  if s.heater.state = .run ∧ s.heater.level = 4 then
    (s.withHeater (fun h => { h with level := 3, desired := 3, stepTimer := 60 })).writeLevel 3
  else s

/-- One second of the heater's counters (R141, R150, R152, R153). -/
def Heater.second (h : Heater) : Heater :=
  { h with
    phase := h.phase.map (fun n => n - 1)
    runSeconds := if h.state = .run then gain 600 h.runSeconds else h.runSeconds
    stepTimer := if h.state = .run then h.stepTimer - 1 else h.stepTimer
    satisfy := if h.state = .run then h.satisfy.map (gain 300) else h.satisfy }

/-- R150: run seconds have reached 600 in RUN: the failed-start count is set to 0. -/
def State.runClearsCount (s : State) : State :=
  if s.heater.state = .run ∧ s.heater.runSeconds = 600 then s.withHeater (fun h => { h with failed := 0 }) else s

/-- R153: satisfy seconds have reached 300. -/
def State.satisfiedStop (s : State) : State :=
  if s.heater.state = .run ∧ s.heater.satisfy = some 300 then s.enterCooldown .satisfied else s

end Sys2Proof.Machine
end

