-- ==== Sys2Proof/Machine/LightOps.lean ====
section
/-! DEFINITION. The light channels (chapter 9): targets, fades and the quiet cap. -/
namespace Sys2Proof.Machine

/-- One light channel. -/
def Lights.get (l : Lights) : LightId → Channel
  | .readA => l.readA
  | .readB => l.readB
  | .cabLight => l.cabLight
  | .nightLight => l.nightLight

/-- One light channel replaced. -/
def Lights.set (l : Lights) (i : LightId) (c : Channel) : Lights :=
  match i with
  | .readA => { l with readA := c }
  | .readB => { l with readB := c }
  | .cabLight => { l with cabLight := c }
  | .nightLight => { l with nightLight := c }

/-- A channel of the machine. -/
def State.channel (s : State) (i : LightId) : Channel := s.lights.get i

/-- A channel of the machine replaced. -/
def State.setChannel (s : State) (i : LightId) (c : Channel) : State := { s with lights := s.lights.set i c }

/-- R181: a duty is written to the channel's timer with a period of 1,000 ticks when it differs from the duty before. -/
def State.setDuty (s : State) (i : LightId) (duty : Nat) : State :=
  if (s.channel i).duty = duty then s
  else (s.setChannel i { s.channel i with duty := duty }).writeTimer i.timer duty 1000

/-- R180, R183: the effective target of a channel's target. -/
def State.effectiveOf (s : State) (i : LightId) (target : Nat) : Nat :=
  if i = .cabLight ∧ s.quiet = true then min target s.lights.quietCap else target

/-- R180: the figure the channel is pursuing: the end point of its fade, or its present duty. -/
def Channel.pursued (c : Channel) : Nat :=
  match c.fade with
  | some f => f.to_
  | none => c.duty

/-- R181, R182: a fade begins from the present duty to `duty` over `steps` steps, and replaces any fade that runs; with no
steps the duty is reached at once. -/
def State.beginFade (s : State) (i : LightId) (duty steps : Nat) : State :=
  if steps = 0 then (s.setChannel i { s.channel i with fade := none }).setDuty i duty
  else
    s.setChannel i
      { s.channel i with fade := some { from_ := (s.channel i).duty, to_ := duty, taken := 0, steps := steps } }

/-- R181: the duty at step `k`, truncated toward the start duty. -/
def fadeDuty (from_ to_ k n : Nat) : Nat := ((from_ : Int) + Int.tdiv (((to_ : Int) - (from_ : Int)) * k) n).toNat

/-- R181: a 10 ms step of a channel's fade. -/
def State.fadeStep (s : State) (i : LightId) : State :=
  match (s.channel i).fade with
  | none => s
  | some f =>
    let k := f.taken + 1
    let next : Option Fade := if f.steps ≤ k then none else some { f with taken := k }
    (s.setChannel i { s.channel i with fade := next }).setDuty i (fadeDuty f.from_ f.to_ k f.steps)

/-- The level and the fade of a presented order (R180). -/
def Presented.light (p : Presented) : Nat × Nat :=
  match p.target with
  | .light level fade => (level, fade)
  | .setpoint _ => (0, 1)

/-- R180: the target and fade time a channel reads: the presented order's, or 0 over 1 s. -/
def targetOf : Option Presented → Nat × Nat
  | some p => p.light
  | none => (0, 1)

/-- R180: a channel reads the presentation; a new effective target begins a fade over the fade time just read. -/
def State.presentLight (s : State) (i : LightId) (p : Option Presented) : State :=
  let target := (targetOf p).1
  let fadeTime := (targetOf p).2
  let effective := s.effectiveOf i target
  let s' :=
    s.setChannel i
      { s.channel i with presented := p, target := target, fadeTime := fadeTime, effective := effective }
  if effective = (s.channel i).pursued then s' else s'.beginFade i effective (fadeTime * 100)

/-- R183: the quiet flag becomes set, or the cap changes while it is set, with the effective target worked afresh. -/
def State.cabQuietSet (s : State) : State :=
  let c := s.channel .cabLight
  let effective := min c.target s.lights.quietCap
  let s := s.setChannel .cabLight { c with effective := effective }
  let s := if s.lights.quietCap < c.duty then s.setDuty .cabLight s.lights.quietCap else s
  match c.fade with
  | some f => s.beginFade .cabLight effective (f.steps - f.taken)
  | none =>
    if (s.channel .cabLight).duty = effective then s else s.beginFade .cabLight effective (c.fadeTime * 100)

/-- R183: the quiet flag becomes clear. -/
def State.cabQuietClear (s : State) : State :=
  let c := s.channel .cabLight
  let s := s.setChannel .cabLight { c with effective := c.target }
  if c.target = c.pursued then s else s.beginFade .cabLight c.target (c.fadeTime * 100)

/-- R180: every channel reads its presentation from the table. -/
def State.presentLights (s : State) (os : List Order) : State :=
  ((((s.presentLight .readA (presentedFor .readA os)).presentLight .readB (presentedFor .readB os)).presentLight
    .cabLight (presentedFor .cabLight os)).presentLight .nightLight (presentedFor .nightLight os))

end Sys2Proof.Machine
end

