-- ==== Sys2Proof/Machine/Pass.lean ====
section
/-! DEFINITION. The allocation pass (chapter 2): the reading, resolution, candidacy, forecasts, admission and stage 8. -/
namespace Sys2Proof.Machine

/-- The reading of R31, taken once and used through all stages. -/
structure Reading where
  now : Nat
  accounts : PerSlot (Option Account)
  heater : HeaterState
  fridge : FridgeState
  synced : Bool
  count : Nat
  reserve : Nat
  outside : Int
  outsideFault : Bool
  mode : PartMode
  horizon : Nat
  keepMargin : Nat
  draws : Draws

/-- The eight planning draws: four held by the allocator, four by the light channels (R38). -/
def State.draws (s : State) : Draws :=
  { heaterDraw := s.alloc.heaterDraw, heaterStart := s.alloc.heaterStart, fridgeDraw := s.alloc.fridgeDraw
    fridgeDuty := s.alloc.fridgeDuty, readA := s.lights.readA.fullDraw, readB := s.lights.readB.fullDraw
    cabLight := s.lights.cabLight.fullDraw, nightLight := s.lights.nightLight.fullDraw }

/-- R31. -/
def State.reading (s : State) : Reading :=
  { now := s.clock.minute, accounts := s.accounts, heater := s.heater.state, fridge := s.fridge.state
    synced := s.charge.synced, count := s.charge.count, reserve := s.charge.reserve
    outside := s.sense.outside.value, outsideFault := s.sense.outside.fault, mode := s.port.mode
    horizon := s.alloc.horizon, keepMargin := s.alloc.keepMargin, draws := s.draws }

/-- The usable charge of a reading (R43). -/
def Reading.usable (r : Reading) : Nat := if r.reserve < r.count then r.count - r.reserve else 0

/-! ### Resolution (R9, R10) -/

/-- The minute of REST_END, of either kind. -/
def RestEnd.minute : RestEnd → Nat
  | .expected m => m
  | .fixed m => m

/-- An anchor as an account holds it (R9). -/
def Account.anchor (a : Account) : AnchorName → Option Nat
  | .restStart => a.restStart
  | .restEnd => a.restEnd.map RestEnd.minute

/-- R9: the resolved start. -/
def resolveStart (accounts : PerSlot (Option Account)) (o : Order) : Option Nat :=
  match o.start with
  | .immediate => some o.placedAt
  | .absolute m => some m
  | .anchored i name offset =>
    match accounts.get i with
    | some a => (a.anchor name).map (fun m => holdMinute ((m : Int) + offset))
    | none => none

/-- R10: the resolved end. -/
def resolveEnd (accounts : PerSlot (Option Account)) (o : Order) : Option Nat :=
  match o.finish with
  | .unending => none
  | .absolute m => some m
  | .duration n => (resolveStart accounts o).map (fun m => min (m + n) maxMinute)

/-- R13: the resolved end is present and at or before now. -/
def Reading.expired (r : Reading) (o : Order) : Bool :=
  match resolveEnd r.accounts o with
  | some e => decide (e ≤ r.now)
  | none => false

/-- Stage 2 for one order. -/
def Reading.resolve (r : Reading) (o : Order) : Order :=
  { o with resolvedStart := resolveStart r.accounts o, resolvedEnd := resolveEnd r.accounts o }

/-- Stages 1 and 2: the orders left in the table, resolved. -/
def Reading.resolved (r : Reading) (os : List Order) : List Order :=
  (os.filter (fun o => !r.expired o)).map r.resolve

/-! ### Eligibility and candidacy (R11, R34, R35) -/

/-- R11. -/
def eligible (now : Nat) (o : Order) : Bool :=
  (match o.resolvedStart with
   | some b => decide (b ≤ now)
   | none => false) &&
  (match o.resolvedEnd with
   | some e => decide (now < e)
   | none => true)

/-- R34. -/
def Reading.unavailable (r : Reading) : Load → Bool
  | .heater => decide (r.heater = .lockout)
  | .fridge => decide (r.fridge = .fault)
  | _ => false

/-- An order that was ACTIVE at the end of the previous pass (R11). -/
def Order.incumbent (o : Order) : Bool := decide (o.state = .active)

/-- R35, test 1: manual keys, then wake keys, then host keys. -/
def keyGroup (k : Nat) : Nat := if k = 241 ∨ k = 242 then 0 else if k = 243 ∨ k = 244 then 1 else 2

/-- The five tests of R35 as a list of numbers, compared from the first. -/
def candidateKey (o : Order) : List Nat :=
  [keyGroup o.key, if keyGroup o.key = 2 then o.cls.rank else 0, if o.incumbent then 0 else 1,
   o.resolvedStart.getD 0, o.key]

/-- The four tests of R44. -/
def walkKey (o : Order) : List Nat :=
  [o.cls.rank, if o.incumbent then 0 else 1, o.resolvedStart.getD 0, o.key]

/-- Lists of numbers compared from the first. -/
def lexLe : List Nat → List Nat → Bool
  | [], _ => true
  | _ :: _, [] => false
  | a :: as, b :: bs => if a < b then true else if b < a then false else lexLe as bs

/-- The first order by a ranking. -/
def firstBy (key : Order → List Nat) : List Order → Option Order
  | [] => none
  | o :: os =>
    match firstBy key os with
    | none => some o
    | some p => if lexLe (key o) (key p) then some o else some p

/-- R35: the candidate of a load among the resolved orders. -/
def Reading.candidate (r : Reading) (os : List Order) (load : Load) : Option Order :=
  if r.unavailable load then none
  else firstBy candidateKey (os.filter (fun o => decide (o.load = load) && eligible r.now o))

/-! ### Forecasts (section 2.3) -/

/-- R37: the remaining minutes of a candidate. -/
def Reading.remaining (r : Reading) (o : Order) : Nat :=
  match o.resolvedEnd with
  | some e => min (e - r.now) r.horizon
  | none => r.horizon

/-- R39: the cold uplift step. -/
def Reading.uplift (r : Reading) : Nat :=
  if r.outsideFault then 10
  else if 0 ≤ r.outside then 0
  else min ((-r.outside).toNat / 50) 10

/-- R39: the heater's effective draw. -/
def Reading.heaterEffective (r : Reading) : Nat := r.draws.heaterDraw * (100 + 8 * r.uplift) / 100

/-- R40: the start charge is added outside RUN and PROVING. -/
def Reading.startCharge (r : Reading) : Nat :=
  if r.heater = .run ∨ r.heater = .proving then 0 else r.draws.heaterStart

/-- The level of a stored target (R41). -/
def Order.level (o : Order) : Nat :=
  match o.target with
  | .light level _ => level
  | .setpoint _ => 0

/-- The full draw of a light load (Table 14). -/
def Draws.full (d : Draws) : Load → Nat
  | .readA => d.readA
  | .readB => d.readB
  | .cabLight => d.cabLight
  | .nightLight => d.nightLight
  | _ => 0

/-- R40 and R41: the forecast of a candidate. -/
def Reading.forecast (r : Reading) (o : Order) : Nat :=
  match o.load with
  | .heater => ceilDiv (r.heaterEffective * r.remaining o) 60 + r.startCharge
  | .fridge => ceilDiv (r.draws.fridgeDraw * r.draws.fridgeDuty / 100 * r.remaining o) 60
  | l => ceilDiv (r.draws.full l * o.level / 1000 * r.remaining o) 60

/-! ### Admission (section 2.4) -/

/-- A list with an order entered in its place in walk order. -/
def insertWalk (o : Order) : List Order → List Order
  | [] => [o]
  | p :: ps => if lexLe (walkKey o) (walkKey p) then o :: p :: ps else p :: insertWalk o ps

/-- R44: candidates in walk order. -/
def walkOrder : List Order → List Order
  | [] => []
  | o :: os => insertWalk o (walkOrder os)

/-- The candidates of a pass in walk order (R44). -/
def Reading.candidates (r : Reading) (os : List Order) : List Order :=
  walkOrder (allLoads.filterMap (r.candidate os))

/-- Table 15: whether a candidate is admitted on top of the sum `sum`. -/
def Reading.admits (r : Reading) (sum : Nat) (o : Order) : Bool :=
  if r.mode = .workshop then true
  else if r.synced = true ∧ r.count = 0 then false
  else if o.cls = .essential then true
  else if r.synced = false then false
  else if o.incumbent then decide (sum + r.forecast o ≤ r.usable + r.keepMargin)
  else decide (sum + r.forecast o ≤ r.usable)

/-- R45, R46: the walk from a running sum; the final sum and the keys admitted. -/
def Reading.walk (r : Reading) (sum : Nat) : List Order → Nat × List Nat
  | [] => (sum, [])
  | o :: os =>
    if r.admits sum o then
      ((r.walk (sum + r.forecast o) os).1, o.key :: (r.walk (sum + r.forecast o) os).2)
    else r.walk sum os

/-- Table 9: the state a pass gives a resolved order, from the candidates' keys and the admitted keys. -/
def Reading.settleState (r : Reading) (candidates admitted : List Nat) (o : Order) : OrderState :=
  if !eligible r.now o then .pending
  else if r.unavailable o.load then .blocked
  else if o.key ∉ candidates then .standby
  else if o.key ∈ admitted then .active
  else .waiting

/-- Stages 3 to 6 and the dating of stage 8 for one resolved order. -/
def Reading.settleOrder (r : Reading) (candidates admitted : List Nat) (o : Order) : Order :=
  let st := r.settleState candidates admitted o
  { o with
    state := st
    forecast := if o.key ∈ candidates then r.forecast o else 0
    admittedAt := if st = .active ∧ o.admittedAt = none then some r.now else o.admittedAt }

/-- What a pass decides. -/
structure PassResult where
  orders : List Order
  committed : Nat
  removed : Bool
  changed : Bool

/-- Stages 1 to 6 of a pass over the table. -/
def Reading.run (r : Reading) (os : List Order) : PassResult :=
  let live := r.resolved os
  let cands := r.candidates live
  let w := r.walk 0 cands
  let settled := live.map (r.settleOrder (cands.map Order.key) w.2)
  { orders := settled, committed := w.1, removed := os.any r.expired
    changed := live.any (fun o => decide (r.settleState (cands.map Order.key) w.2 o ≠ o.state)) }

/-- Stage 8: every load block reads its ACTIVE order (R12, R48), and the fridge its monitored setpoint (R174). -/
def State.presentAll (s : State) (os : List Order) : State :=
  ((((s.presentHeater (presentedFor .heater os)).presentFridge (presentedFor .fridge os)).presentLights os).workMonitor
    os)

/-- The allocation pass (R33). No pass runs while RESET is asserted (R32). -/
def State.pass (s : State) : State :=
  if s.rst.asserted then s
  else
    let r := s.reading
    let p := r.run s.orders
    let s :=
      { s with
        orders := p.orders
        alloc := { s.alloc with committed := p.committed, usable := r.usable, passMinute := r.now } }
    (s.noticeIf (p.removed || p.changed) .order).presentAll p.orders

/-- A pass started when a condition holds (R30). -/
def State.passIf (s : State) (b : Bool) : State := if b then s.pass else s

end Sys2Proof.Machine
end

