-- ==== Sys2Proof/Machine/AccountOps.lean ====
section
/-! DEFINITION. The rest accounts (chapter 4): segments, credit, REST_DONE, anchors, driving, settings and quiet, and the
placement of an order by the part (R17). -/
namespace Sys2Proof.Machine

/-! ### Placement by the part (R17) -/

/-- An order as it is newly placed: PENDING, with fresh resolved fields, forecast and admitted at (R15, R19). -/
def newOrder (key : Nat) (origin : Origin) (load : Load) (cls : OrderClass) (target : Target) (start : Start)
    (finish : Finish) (now : Nat) : Order :=
  { key := key, origin := origin, load := load, cls := cls, target := target, start := start, finish := finish
    placedAt := now, state := .pending, resolvedStart := none, resolvedEnd := none, forecast := 0
    admittedAt := none }

/-- The part may place a new order: NORMAL or WORKSHOP and fewer than 24 orders (R17). -/
def State.mayPlace (s : State) : Bool :=
  (decide (s.port.mode = .normal) || decide (s.port.mode = .workshop)) && decide (s.orders.length < orderLimit)

/-- R17: a placement by the part; a present wake key is replaced whole, and a placement that is not made sets ORDER. The
pass it starts is made by the event. -/
def State.placePart (s : State) (o : Order) : State :=
  if (findOrder o.key s.orders).isSome || s.mayPlace then { s with orders := insertOrder o s.orders }
  else s.notice .order

/-- R81: the wake order of a bunk. -/
def wakeOrder (side : Side) (level fade now : Nat) : Order :=
  newOrder (wakeKey side) .wake (readLoad side) .comfort (.light level fade) .immediate (.duration 30) now

/-- R186: the manual order of a bunk. -/
def manualOrder (side : Side) (now : Nat) : Order :=
  newOrder (manualKey side) .button (readLoad side) .convenience (.light 600 1) .immediate (.duration 120) now

/-- The side of a bunk. -/
def sideOf : Bunk → Option Side
  | .bunkA => some .a
  | .bunkB => some .b
  | .noBunk => none

/-! ### Standstill and credit -/

/-- R70: the standstill condition. -/
def State.standstill (s : State) : Bool :=
  (decide (s.sense.motion = .stationary) && s.sense.pbrake.level) || s.transport

/-- R77: segment minutes. -/
def Account.segMinutes (a : Account) : Nat := a.segSeconds / 60

/-- R79: credited rest. -/
def Account.credited (a : Account) : Nat :=
  if a.state = .resting ∧ a.settings.segment ≤ a.segMinutes then a.accumulated + a.segMinutes else a.accumulated

/-- An account changed in its slot. -/
def State.updAccount (s : State) (i : Slot) (f : Account → Account) : State :=
  match s.account i with
  | some a => s.setAccount i (f a)
  | none => s

/-! ### Driving warnings and breaks (R87, R89) -/

/-- R89: the condition of DRIVE_NEAR. -/
def Account.driveNear (a : Account) : Bool :=
  decide ((a.settings.drive - a.settings.lead) * 60 ≤ a.contSeconds) && decide (a.contSeconds < a.settings.drive * 60)

/-- R89: the condition of DRIVE_OVER. -/
def Account.driveOver (a : Account) : Bool := decide (a.settings.drive * 60 ≤ a.contSeconds)

/-- R89: the condition of DAILY_OVER. -/
def Account.dailyOver (a : Account) : Bool := decide (a.settings.daily * 60 ≤ a.dailySeconds)

/-- R89: the driving warnings of a slot's account are tested, in the order of the rule's table. -/
def State.testDriving (s : State) (i : Slot) : State :=
  match s.account i with
  | some a =>
    ((s.workCondition (.slot i) .driveNear a.driveNear).workCondition (.slot i) .driveOver a.driveOver).workCondition
      (.slot i) .dailyOver a.dailyOver
  | none => s

/-- R87: a break is complete: DRIVING, not moving, with break seconds at B × 60 or more. -/
def State.breakDone (s : State) (a : Account) : Bool :=
  decide (a.state = .driving) && decide (s.sense.motion ≠ .moving) && decide (a.settings.pause * 60 ≤ a.breakSeconds)

/-- R87: the break test of a slot's account: a complete break sets its continuous drive seconds to 0 and the driving
warnings are tested again. -/
def State.testBreak (s : State) (i : Slot) : State :=
  match s.account i with
  | some a => if s.breakDone a then (s.setAccount i { a with contSeconds := 0 }).testDriving i else s
  | none => s

/-! ### Settings (R90) -/

/-- R90: a staged set is applied: it replaces the set in force, the driving warnings and the break are tested, and
ACCOUNT is set. -/
def State.applyStaged (s : State) (i : Slot) : State :=
  match s.account i with
  | some a =>
    match a.staged with
    | some t => ((((s.setAccount i { a with settings := t, staged := none }).testDriving i).testBreak i).accountNotice)
    | none => s
  | none => s

/-! ### Segments (R76, R78, R80, R81) -/

/-- R81: the wake order is placed, or held while RESET is asserted (R101). -/
def State.placeWake (s : State) (side : Side) (level fade : Nat) : State :=
  if s.rst.asserted then
    { s with rst := { s.rst with heldWakes := s.rst.heldWakes ++ [{ side := side, level := level, fade := fade }] } }
  else s.placePart (wakeOrder side level fade s.clock.minute)

/-- R81: the wake order of an account, when its conditions hold. -/
def State.wakeFor (s : State) (a : Account) : State :=
  match sideOf a.bunk with
  | some side => if a.settings.wake then s.placeWake side a.settings.wakeLevel (a.settings.wakeRamp * 60) else s
  | none => s

/-- R80: the account is due for REST_DONE. -/
def Account.restDue (a : Account) : Bool :=
  decide (a.state = .resting) && !a.rested && decide (a.settings.rest ≤ a.credited)

/-- R80, steps 1 and 2: rested, with the drive counters at 0. -/
def Account.restDone (a : Account) : Account :=
  { a with rested := true, contSeconds := 0, breakSeconds := 0, dailySeconds := 0 }

/-- R80: REST_DONE fires for a slot's account. The pass it starts is made by the event. -/
def State.fireRestDone (s : State) (i : Slot) (a : Account) : State :=
  let s := (s.setAccount i a.restDone).testDriving i
  let s := s.setAccount i { a.restDone with restEnd := some (.fixed s.clock.minute) }
  ((s.raise (.slot i) .restDone).wakeFor a).accountNotice

/-- R80: the REST_DONE test of a slot's account. -/
def State.testRestDone (s : State) (i : Slot) : State :=
  match s.account i with
  | some a => if a.restDue then s.fireRestDone i a else s
  | none => s

/-- R80: REST_DONE as an event of its own: the test, and the pass it starts. No pass runs while RESET is asserted, and
the work for other blocks is held (R101). -/
def State.takeRestDone (s : State) (i : Slot) : State :=
  match s.account i with
  | some a => if a.restDue then ((s.fireRestDone i a).settle).pass else s
  | none => s

/-- R76, steps 2 to 4: the account at its segment start. -/
def Account.startSegment (a : Account) (now : Nat) : Account :=
  { a with
    segSeconds := 0, restStart := some now
    restEnd :=
      if a.rested then a.restEnd
      else
        some (.expected (holdMinute
          ((now : Int) + (max (a.settings.rest - a.accumulated) a.settings.segment : Nat)))) }

/-- R76: a slot's account enters RESTING and starts a segment. -/
def State.startSegment (s : State) (i : Slot) : State :=
  ((((s.updAccount i (fun a => { a with state := .resting })).applyStaged i).updAccount i
    (fun a => a.startSegment s.clock.minute)).testRestDone i)

/-- R78, steps 1, 2, 4 and 5: the account at its segment close. -/
def Account.closeSegment (a : Account) : Account :=
  { a with
    lastSegment := some a.segMinutes
    accumulated := if a.settings.segment ≤ a.segMinutes then min (a.accumulated + a.segMinutes) 2880 else a.accumulated
    segSeconds := 0
    restEnd :=
      match a.restEnd with
      | some (.expected _) => none
      | e => e }

/-- R78: a slot's account closes its segment, with REST_SHORT for a segment below M that is not of a rested account. -/
def State.closeSegment (s : State) (i : Slot) : State :=
  match s.account i with
  | some a =>
    let s := s.setAccount i a.closeSegment
    if a.segMinutes < a.settings.segment ∧ a.rested = false then s.raise (.slot i) .restShort else s
  | none => s

/-- A segment is closed when the account is RESTING. -/
def State.closeIfResting (s : State) (i : Slot) : State :=
  match s.account i with
  | some a => if a.state = .resting then s.closeSegment i else s
  | none => s

/-! ### Quiet (R91) -/

/-- R91: at least one account bound to bunk A or B is in REST_WAIT or RESTING. -/
def State.quietNow (s : State) : Bool := !(s.slotsWhere (fun a => a.inBunk && a.declared)).isEmpty

/-- R91, R92: the quiet flag is worked afresh; a change sets ACCOUNT and reaches the heater, the fridge and the cab light
(R152, R169, R183). While RESET is asserted no event changes it. -/
def State.workQuiet (s : State) : State :=
  if s.quietNow = s.quiet then s
  else
    let q := s.quietNow
    let s := ({ s with quiet := q }).accountNotice
    if q then ((s.heaterQuiet.fridgeQuiet).cabQuietSet).heaterAttention.fridgeAttention
    else (s.cabQuietClear).heaterAttention.fridgeAttention

/-- A slot's account takes a state, with ACCOUNT (R92). -/
def State.accountGo (s : State) (i : Slot) (st : AccountState) : State :=
  (s.updAccount i (fun a => { a with state := st })).accountNotice

/-! ### Declarations (R73 to R75) -/

/-- REST_END is FIXED. -/
def Account.fixedEnd (a : Account) : Bool :=
  match a.restEnd with
  | some (.fixed _) => true
  | _ => false

/-- R73: a rest declaration, without its pass. -/
def State.declareRest (s : State) (i : Slot) : State :=
  let s := s.updAccount i (fun a => { a with restEnd := if a.fixedEnd then none else a.restEnd })
  let s := if s.standstill then (s.startSegment i).accountNotice else s.accountGo i .restWait
  s.workQuiet.settle

/-- R73: whether the declaration starts a pass. -/
def State.declareStartsPass (s : State) (a : Account) : Bool := a.fixedEnd || s.standstill

/-- R74, steps 3 and 4: staged settings are applied and REST_DONE is removed. -/
def State.finishRest (s : State) (i : Slot) : State := (s.applyStaged i).remove (.slot i) .restDone

/-- R74: an end declaration, with its pass. -/
def State.endRest (s : State) (i : Slot) : State :=
  ((((s.closeIfResting i).accountGo i .idle).finishRest i).workQuiet.settle).pass

/-- R75, step 2: a new duty period begins for a rested account. -/
def Account.newDuty (a : Account) : Account := if a.rested then { a with accumulated := 0, rested := false } else a

/-- R75: a WHEEL declaration. -/
def State.declareWheel (s : State) (i : Slot) (a : Account) : State :=
  let s := if a.declared then (s.closeIfResting i).finishRest i else s
  let s := (s.updAccount i Account.newDuty).accountGo i .driving
  (s.workQuiet.settle).passIf a.declared

/-- R93: a long press acts on the account bound to its bunk. -/
def State.longPress (s : State) (side : Side) : State :=
  match s.boundSlot side.bunk with
  | none => s
  | some i =>
    match s.account i with
    | none => s
    | some a => if a.declared then s.endRest i else (s.declareRest i).passIf (s.declareStartsPass a)

/-! ### The standstill condition changes (R71) -/

/-- R71: whether the condition as it stands moves the account of a slot. -/
def State.movesAccount (s : State) (a : Account) : Bool :=
  if s.standstill then decide (a.state = .restWait) else decide (a.state = .resting)

/-- R71: the account of a slot is moved by the condition as it stands. -/
def State.moveAccount (s : State) (i : Slot) : State :=
  match s.account i with
  | none => s
  | some a =>
    if s.movesAccount a then
      if s.standstill then (s.startSegment i).accountNotice else (s.closeSegment i).accountGo i .restWait
    else s

/-- R71: every account the condition moves is moved, in the order of the slots. The reference gives no order; it decides
which of two wake orders takes a last free place (R17, R81) and how the raises of one change meet the chime (R107): the
model's choice (log entry 35). -/
def State.moveAccounts (s : State) : State :=
  (((s.moveAccount .s0).moveAccount .s1).moveAccount .s2).moveAccount .s3

/-- R70, R71: the condition is evaluated afresh: every account it moves is moved, as one event, with one pass when it moves
at least one. -/
def State.workStandstill (s : State) : State :=
  if (s.slotsWhere s.movesAccount).isEmpty then s else (s.moveAccounts.settle).pass

/-- R86: the motion state becomes MOVING: the DRIVING account's break seconds are set to 0. -/
def Account.moveOff (a : Account) : Account := if a.state = .driving then { a with breakSeconds := 0 } else a

/-- Every account of the slots changed. -/
def PerSlot.mapSome (p : PerSlot (Option Account)) (f : Account → Account) : PerSlot (Option Account) :=
  { s0 := p.s0.map f, s1 := p.s1.map f, s2 := p.s2.map f, s3 := p.s3.map f }

/-- A change of the motion state is handed to the rest accounts (R71, R86, R126). -/
def State.motionChanged (s : State) : State :=
  let s :=
    if s.sense.motion = .moving then { s with accounts := s.accounts.mapSome Account.moveOff } else s
  s.workStandstill

/-! ### Seconds (R77, R86) -/

/-- R77, R86: one second of an account's counters, by the motion state. -/
def Account.second (motion : Motion) (a : Account) : Account :=
  match a.state with
  | .resting => { a with segSeconds := gain 16777215 a.segSeconds }
  | .driving =>
    if motion = .moving then
      { a with
        contSeconds := gain 16777215 a.contSeconds, dailySeconds := gain 16777215 a.dailySeconds
        breakSeconds := 0 }
    else { a with breakSeconds := gain 16777215 a.breakSeconds }
  | _ => a

/-- R84: an anchor shifted by a clock step. -/
def shiftMinute (step : Int) (m : Nat) : Nat := holdMinute ((m : Int) + step)

/-- R84: every present anchor shifted; the kind of REST_END is kept. -/
def Account.shift (step : Int) (a : Account) : Account :=
  { a with
    restStart := a.restStart.map (shiftMinute step)
    restEnd :=
      a.restEnd.map (fun e =>
        match e with
        | .expected m => .expected (shiftMinute step m)
        | .fixed m => .fixed (shiftMinute step m)) }

end Sys2Proof.Machine
end

