-- ==== Sys2Proof/Machine/AccountCmds.lean ====
section
/-! DEFINITION. The account requests and events: AOPEN, ASET, ALOOK, ADECL, ARETIRE, XMODE (section 4.9), REST_DONE,
BREAK_COMPLETE and LONG_PRESS. -/
namespace Sys2Proof.Machine

/-- R94, check 4: some account holds the tag. -/
def State.tagHeld (s : State) (tag : Nat) : Bool := !(s.slotsWhere (fun a => decide (a.tag = tag))).isEmpty

/-- R94, R95: some account is bound to bunk A or B as named; NONE is never taken. -/
def State.bunkHeld (s : State) (b : Bunk) : Bool := decide (b ≠ .noBunk) && (s.boundSlot b).isSome

/-- Table 17: an account as AOPEN opens it. -/
def openedAccount (tag : Nat) (bunk : Bunk) : Account :=
  { tag := tag, bunk := bunk, state := .idle, settings := .default, staged := none, segSeconds := 0
    lastSegment := none, accumulated := 0, rested := false, contSeconds := 0, breakSeconds := 0, dailySeconds := 0
    restStart := none, restEnd := none }

/-- R94: AOPEN. -/
def reqAopen (slot : Nat) (tag : Word32) (bunk : Option Bunk) (s : State) : State × Reply :=
  match slotOf slot, bunk with
  | some i, some b =>
    if tag.toNat = 0 then s.refuse .badField
    else if (s.account i).isSome then s.refuse .slotInUse
    else if s.tagHeld tag.toNat then s.refuse .tagInUse
    else if s.bunkHeld b then s.refuse .bunkTaken
    else (s.setAccount i (openedAccount tag.toNat b), done (.opened i tag.toNat))
  | _, _ => s.refuse .badField

/-- AOPEN (50h). -/
def execAopen (slot : Nat) (tag : Word32) (bunk : Option Bunk) (s : State) : Host.Outcome State Fault Refusal :=
  .next (s.takeFrame (reqAopen slot tag bunk))

/-- R90: the bunk is written at once; the set is staged while the rest is declared and replaces the set in force
otherwise. -/
def Account.takeSettings (a : Account) (b : Bunk) (t : Settings) : Account :=
  if a.declared then { a with bunk := b, staged := some t } else { a with bunk := b, settings := t }

/-- R95: an accepted ASET; outside rest the driving warnings and the break are tested, and a change of bunk may change a
suppression (R109). -/
def State.setSettings (s : State) (i : Slot) (a : Account) (b : Bunk) (t : Settings) : State :=
  let s := (s.setAccount i (a.takeSettings b t)).settle
  if a.declared then s else (s.testDriving i).testBreak i

/-- R95: ASET. -/
def reqAset (slot : Nat) (bunk : Option Bunk) (arg : SettingsArg) (s : State) : State × Reply :=
  match slotOf slot, bunk, arg.wake with
  | some i, some b, some w =>
    match s.account i with
    | none => s.refuse .noSuchAccount
    | some a =>
      if a.declared ∧ b ≠ a.bunk then s.refuse .wrongState
      else if b ≠ a.bunk ∧ s.bunkHeld b then s.refuse .bunkTaken
      else
        (s.setSettings i a b (arg.store w),
          doneIf arg.clamped (.settings a.declared (arg.store w)))
  | _, _, _ => s.refuse .badField

/-- ASET (51h). -/
def execAset (slot : Nat) (bunk : Option Bunk) (arg : SettingsArg) (s : State) : Host.Outcome State Fault Refusal :=
  .next (s.takeFrame (reqAset slot bunk arg))

/-- The checks every request on an open account shares: slot, then account (section 4.9). -/
def State.withAccount (s : State) (slot : Nat) (f : Slot → Account → State × Reply) : State × Reply :=
  match slotOf slot with
  | none => s.refuse .badField
  | some i =>
    match s.account i with
    | none => s.refuse .noSuchAccount
    | some a => f i a

/-- R96: the ALOOK body. -/
def State.accountBody (s : State) (i : Slot) (a : Account) : AccountBody :=
  { slot := i, tag := a.tag, bunk := a.bunk, state := a.state, settings := a.settings, staged := a.staged
    segSeconds := a.segSeconds, credited := a.credited, lastSegment := a.lastSegment, accumulated := a.accumulated
    rested := a.rested, contSeconds := a.contSeconds, breakSeconds := a.breakSeconds
    dailySeconds := a.dailySeconds, restStart := a.restStart, restEnd := a.restEnd, transport := s.transport
    quiet := s.quiet }

/-- R96: ALOOK. -/
def reqAlook (slot : Nat) (s : State) : State × Reply :=
  s.withAccount slot (fun i a => (s, done (.account (s.accountBody i a))))

/-- ALOOK (52h). -/
def execAlook (slot : Nat) (s : State) : Host.Outcome State Fault Refusal := .next (s.takeFrame (reqAlook slot))

/-- R72: the reply of an accepted ADECL: the slot and the account's state after the request. -/
def State.declaredReply (s : State) (i : Slot) (fallback : AccountState) : Reply :=
  done (.declared i ((s.account i).elim fallback Account.state))

/-- R72, R73: ADECL with declaration REST. -/
def reqAdeclRest (slot : Nat) (s : State) : State × Reply :=
  s.withAccount slot (fun i a =>
    if a.declared then s.refuse .wrongState
    else
      let s' := (s.declareRest i).passIf (s.declareStartsPass a)
      (s', s'.declaredReply i a.state))

/-- ADECL (53h) REST. -/
def execAdeclRest (slot : Nat) (s : State) : Host.Outcome State Fault Refusal := .next (s.takeFrame (reqAdeclRest slot))

/-- R72, R74: ADECL with declaration END. -/
def reqAdeclEnd (slot : Nat) (s : State) : State × Reply :=
  s.withAccount slot (fun i a =>
    if a.declared then
      let s' := s.endRest i
      (s', s'.declaredReply i a.state)
    else s.refuse .wrongState)

/-- ADECL (53h) END. -/
def execAdeclEnd (slot : Nat) (s : State) : Host.Outcome State Fault Refusal := .next (s.takeFrame (reqAdeclEnd slot))

/-- R68, R72: some account is DRIVING. -/
def State.roleHeld (s : State) : Bool := !(s.slotsWhere (fun a => decide (a.state = .driving))).isEmpty

/-- R72, R75: ADECL with declaration WHEEL. -/
def reqAdeclWheel (slot : Nat) (s : State) : State × Reply :=
  s.withAccount slot (fun i a =>
    if a.state = .driving then (s, done (.declared i .driving))
    else if s.roleHeld then s.refuse .roleTaken
    else
      let s' := s.declareWheel i a
      (s', s'.declaredReply i a.state))

/-- ADECL (53h) WHEEL. -/
def execAdeclWheel (slot : Nat) (s : State) : Host.Outcome State Fault Refusal :=
  .next (s.takeFrame (reqAdeclWheel slot))

/-- R72: ADECL with declaration RELEASE: a DRIVING account goes to IDLE and holds its counters. -/
def reqAdeclRelease (slot : Nat) (s : State) : State × Reply :=
  s.withAccount slot (fun i a =>
    if a.state = .driving then
      let s' := (s.accountGo i .idle).settle
      (s', s'.declaredReply i a.state)
    else s.refuse .wrongState)

/-- ADECL (53h) RELEASE. -/
def execAdeclRelease (slot : Nat) (s : State) : Host.Outcome State Fault Refusal :=
  .next (s.takeFrame (reqAdeclRelease slot))

/-- R14: the order's start is ANCHORED to a slot. -/
def Order.anchoredTo (o : Order) (i : Slot) : Bool :=
  match o.start with
  | .anchored j _ _ => decide (j = i)
  | _ => false

/-- R14: the orders ANCHORED to a slot leave the table, with ORDER when there is one. -/
def State.orphan (s : State) (i : Slot) : State :=
  ({ s with orders := s.orders.filter (fun o => !o.anchoredTo i) }).noticeIf
    (s.orders.any (fun o => o.anchoredTo i)) .order

/-- R98, step 4: every entry whose source is a slot leaves the list. -/
def State.dropSource (s : State) (i : Slot) : State :=
  (((((s.remove (.slot i) .driveOver).remove (.slot i) .dailyOver).remove (.slot i) .driveNear).remove (.slot i)
    .restDone).remove (.slot i) .restShort)

/-- A slot emptied (R98, step 5). -/
def State.emptySlot (s : State) (i : Slot) : State := { s with accounts := s.accounts.set i none }

/-- R97, R98: ARETIRE. -/
def reqAretire (slot : Nat) (s : State) : State × Reply :=
  s.withAccount slot (fun i a =>
    ((((((s.orphan i).dropSource i).emptySlot i).workQuiet).settle).pass, done (.emptied i a.tag)))

/-- ARETIRE (54h). -/
def execAretire (slot : Nat) (s : State) : Host.Outcome State Fault Refusal := .next (s.takeFrame (reqAretire slot))

/-- R99: XMODE. -/
def reqXmode (on : Option Bool) (s : State) : State × Reply :=
  match on with
  | none => s.refuse .badField
  | some b => (({ s with transport := b }).workStandstill, done (.transport b))

/-- XMODE (55h). -/
def execXmode (on : Option Bool) (s : State) : Host.Outcome State Fault Refusal := .next (s.takeFrame (reqXmode on))

/-- REST_DONE (R80). -/
def execRestDone (i : Slot) (s : State) : Host.Outcome State Fault Refusal := .next (s.takeRestDone i)

/-- BREAK_COMPLETE (R87): the break test of a slot's account. -/
def execBreakComplete (i : Slot) (s : State) : Host.Outcome State Fault Refusal := .next (s.testBreak i)

/-- LONG_PRESS (R93, R130): the hold time of a PRESSED classifier reaches 2,000 ms, and stays there in LONG_HELD
(DESIGN CHOICE, log entry 41). -/
def execLongPress (side : Side) (s : State) : Host.Outcome State Fault Refusal :=
  .next (s.outOfReset (fun s =>
    if (s.sense.press side).state = some .pressed then
      ({ s with sense := s.sense.setPress side { state := some .longHeld, hold := 2000 } }).longPress side
    else s))

end Sys2Proof.Machine
end

