-- ==== Sys2Proof/Machine/ChargeCmds.lean ====
section
/-! DEFINITION. The charge account (chapter 3): CSET, CSYNC, CLOOK and the pulses of C1 (R125). -/
namespace Sys2Proof.Machine

/-- R53: the content in mAs. -/
def Charge.content (c : Charge) : Nat := c.count * 3600 + c.residue

/-- R53: a content divided afresh into Q and r. -/
def Charge.divide (c : Charge) (content : Nat) : Charge :=
  { c with count := content / 3600, residue := content % 3600 }

/-- R54: w added to the content, saturating at capacity. -/
def Charge.charge (c : Charge) : Charge :=
  if c.content + c.weight < c.capacity * 3600 then c.divide (c.content + c.weight)
  else { c with count := c.capacity, residue := 0 }

/-- R55: w subtracted from the content, saturating at 0. -/
def Charge.discharge (c : Charge) : Charge :=
  if c.weight ≤ c.content then c.divide (c.content - c.weight) else { c with count := 0, residue := 0 }

/-- R58: the minute tally moved by a pulse, held at 2,147,483,647 either way. -/
def Charge.addTally (c : Charge) (x : Int) : Charge := { c with tally := holdInt 2147483647 (c.tally + x) }

/-- R59: the CHARGE_RESERVE condition. -/
def Charge.atReserve (c : Charge) : Bool := c.synced && decide (c.usable = 0)

/-- R59: the condition is tested: CHARGE_RESERVE is raised or removed, and CHARGE set with it. -/
def State.testReserve (s : State) : State :=
  let listed := s.listed .part .chargeReserve
  let holds := s.charge.atReserve
  (s.workCondition .part .chargeReserve holds).noticeIf (decide (holds ≠ listed)) .charge

/-- R61: while the charge attention holds, the account sets CHARGE at each event it takes. -/
def State.chargeAttention (s : State) : State := s.noticeIf s.charge.attention .charge

/-- R54, R55: a pulse taken by the account: the condition of R59 and the attention of R61 follow it. -/
def State.takePulse (s : State) (c : Charge) : State := ({ s with charge := c }).testReserve.chargeAttention

/-- QCHG_PULSE (R54, R58, R125). -/
def execQchgPulse (s : State) : Host.Outcome State Fault Refusal :=
  .next (({ s with sense := { s.sense with chgTotal := s.sense.chgTotal + 1 } }).takePulse
    (s.charge.charge.addTally s.charge.weight))

/-- QDIS_PULSE (R55, R58, R125). -/
def execQdisPulse (s : State) : Host.Outcome State Fault Refusal :=
  .next (({ s with sense := { s.sense with disTotal := s.sense.disTotal + 1 } }).takePulse
    (s.charge.discharge.addTally (-(s.charge.weight : Int))))

/-- R62: checks 2 to 4 of CSET. -/
def csetOk (capacity reserve weight : Nat) : Bool :=
  decide (10000 ≤ capacity) && decide (capacity ≤ 1000000) && decide (1 ≤ weight) && decide (weight ≤ 36000) &&
  decide (reserve < capacity)

/-- R63: C, F and w written, and Q held at the new C. -/
def Charge.configure (c : Charge) (capacity reserve weight : Nat) : Charge :=
  { c with
    capacity := capacity, reserve := reserve, weight := weight
    count := if capacity < c.count then capacity else c.count
    residue := if capacity ≤ c.count then 0 else c.residue }

/-- R62, R63: CSET. -/
def reqCset (capacity reserve weight : Nat) (s : State) : State × Reply :=
  if !csetOk capacity reserve weight then s.refuse .badField
  else
    let c := s.charge.configure capacity reserve weight
    ((s.takePulse c).pass, done (.chargeSet capacity reserve weight c.count c.residue))

/-- CSET (40h). -/
def execCset (capacity reserve weight : Nat) (s : State) : Host.Outcome State Fault Refusal :=
  .next (s.takeFrame (reqCset capacity reserve weight))

/-- R64: Q set to the charge carried, clamped to C; r 0; SYNCED. -/
def Charge.sync (c : Charge) (x : Nat) : Charge := { c with count := min x c.capacity, residue := 0, synced := true }

/-- R64: CSYNC. -/
def reqCsync (x : Word32) (s : State) : State × Reply :=
  let c := s.charge.sync x.toNat
  ((s.takePulse c).pass, doneIf (decide (s.charge.capacity < x.toNat)) (.synced c.count))

/-- CSYNC (41h). -/
def execCsync (x : Word32) (s : State) : Host.Outcome State Fault Refusal := .next (s.takeFrame (reqCsync x))

/-- R65: CLOOK. -/
def reqClook (s : State) : State × Reply :=
  (s, done (.charge s.charge.count s.charge.residue s.charge.capacity s.charge.reserve s.charge.weight
    s.charge.usable s.charge.synced s.charge.netLast))

/-- CLOOK (42h). -/
def execClook (s : State) : Host.Outcome State Fault Refusal := .next (s.takeFrame reqClook)

/-- R58: at the minute expiry the tally, divided by 3,600 toward zero, becomes the net charge of the last minute. -/
def Charge.minute (c : Charge) : Charge := { c with netLast := Int.tdiv c.tally 3600, tally := 0 }

end Sys2Proof.Machine
end

