-- ==== Sys2Proof/Machine/ClockCmds.lean ====
section
/-! DEFINITION. The cab clock and the allocator: TSET, TLOOK (section 1.7), BSET, BLOOK and PLAN (section 2.5). -/
namespace Sys2Proof.Machine

/-- R27, step 3: placed at and admitted at of an order shifted by a clock step. -/
def Order.shift (step : Int) (o : Order) : Order :=
  { o with placedAt := shiftMinute step o.placedAt, admittedAt := o.admittedAt.map (shiftMinute step) }

/-- R27, steps 2 to 4. -/
def State.stepClock (s : State) (minute : Nat) : State :=
  let step : Int := (minute : Int) - (s.clock.minute : Int)
  { s with
    clock := { minute := minute, prescaler := 0, isSet := true }
    orders := s.orders.map (Order.shift step)
    accounts := s.accounts.mapSome (Account.shift step) }

/-- R27: TSET. -/
def reqTset (minute : Word32) (s : State) : State × Reply :=
  ((s.stepClock minute.toNat).pass, done (.step ((minute.toNat : Int) - (s.clock.minute : Int))))

/-- TSET (20h). -/
def execTset (minute : Word32) (s : State) : Host.Outcome State Fault Refusal := .next (s.takeFrame (reqTset minute))

/-- R28: TLOOK. -/
def reqTlook (s : State) : State × Reply := (s, done (.time s.clock.minute s.clock.prescaler s.clock.isSet))

/-- TLOOK (21h). -/
def execTlook (s : State) : Host.Outcome State Fault Refusal := .next (s.takeFrame reqTlook)

/-- R49: BSET. -/
def reqBset (horizon keepMargin : Nat) (s : State) : State × Reply :=
  let h := clampNat 30 1440 horizon
  let k := clampNat 0 20000 keepMargin
  ({ s with alloc := { s.alloc with horizon := h, keepMargin := k } }.pass,
    doneIf (decide (h ≠ horizon) || decide (k ≠ keepMargin)) (.budget h k))

/-- BSET (30h). -/
def execBset (horizon keepMargin : Nat) (s : State) : Host.Outcome State Fault Refusal :=
  .next (s.takeFrame (reqBset horizon keepMargin))

/-- R51: BLOOK. -/
def reqBlook (s : State) : State × Reply :=
  (s, done (.allocator s.alloc.horizon s.alloc.keepMargin s.draws s.alloc.committed s.alloc.usable s.alloc.passMinute))

/-- BLOOK (31h). -/
def execBlook (s : State) : Host.Outcome State Fault Refusal := .next (s.takeFrame reqBlook)

/-- R50: the draws a PLAN carries, with p clamped. -/
def PlanArg.store (a : PlanArg) : Draws :=
  { heaterDraw := a.heaterDraw.toNat, heaterStart := a.heaterStart.toNat, fridgeDraw := a.fridgeDraw.toNat
    fridgeDuty := clampNat 0 100 a.fridgeDuty, readA := a.readA.toNat, readB := a.readB.toNat
    cabLight := a.cabLight.toNat, nightLight := a.nightLight.toNat }

/-- R38, R50: the light full draws are written through the light channels. -/
def Lights.setDraws (l : Lights) (readA readB cabLight nightLight : Nat) : Lights :=
  { l with
    readA := { l.readA with fullDraw := readA }, readB := { l.readB with fullDraw := readB }
    cabLight := { l.cabLight with fullDraw := cabLight }, nightLight := { l.nightLight with fullDraw := nightLight } }

/-- R50: all eight planning draws written. -/
def State.setDraws (s : State) (d : Draws) : State :=
  { s with
    alloc :=
      { s.alloc with
        heaterDraw := d.heaterDraw, heaterStart := d.heaterStart, fridgeDraw := d.fridgeDraw
        fridgeDuty := d.fridgeDuty }
    lights := s.lights.setDraws d.readA d.readB d.cabLight d.nightLight }

/-- R50: PLAN. -/
def reqPlan (a : PlanArg) (s : State) : State × Reply :=
  ((s.setDraws (PlanArg.store a)).pass,
    doneIf (decide ((PlanArg.store a).fridgeDuty ≠ a.fridgeDuty)) (.draws (PlanArg.store a)))

/-- PLAN (32h). -/
def execPlan (a : PlanArg) (s : State) : Host.Outcome State Fault Refusal := .next (s.takeFrame (reqPlan a))

end Sys2Proof.Machine
end

