-- ==== Sys2Proof/Decode.lean ====
section
/-! DEFINITION. The request codes of Table 39, the frame checks of R192 over the bytes of a frame, the request that a
frame spells, and `decodeTableWord` over the rows that give bits.

No row of spec/opcode_table.json gives bits, so a word spells no command (log entry 2). A frame does, by its code byte,
its length byte and its body (Table 40), where the reference gives the bytes of the body. -/
namespace Sys2Proof

/-! ### The codes (Table 39) -/

/-- The request codes of Table 39. -/
def requestCodes : List Nat :=
  [0x00, 0x01, 0x02, 0x03, 0x04, 0x05, 0x06] ++ [0x10, 0x11, 0x12, 0x13, 0x14] ++ [0x20, 0x21] ++
  [0x30, 0x31, 0x32] ++ [0x40, 0x41, 0x42] ++ [0x50, 0x51, 0x52, 0x53, 0x54, 0x55] ++ [0x60, 0x61] ++
  [0x70, 0x71, 0x72] ++ [0x80, 0x81, 0x82] ++ [0x90, 0x91] ++ [0xA0, 0xA1]

/-- Table 39: the code byte of a request; an event has none, and a frame that holds no request carries its own. -/
def Instr.code : Instr → Option Byte
  | .nop => some 0x00#8
  | .stat => some 0x01#8
  | .nfetch _ => some 0x02#8
  | .nmask _ => some 0x03#8
  | .sleep _ => some 0x04#8
  | .init _ _ => some 0x05#8
  | .shut => some 0x06#8
  | .oplace _ => some 0x10#8
  | .oamend _ => some 0x11#8
  | .olook _ => some 0x12#8
  | .oretire _ => some 0x13#8
  | .olist => some 0x14#8
  | .tset _ => some 0x20#8
  | .tlook => some 0x21#8
  | .bset _ _ => some 0x30#8
  | .blook => some 0x31#8
  | .plan _ => some 0x32#8
  | .cset _ _ _ => some 0x40#8
  | .csync _ => some 0x41#8
  | .clook => some 0x42#8
  | .aopen _ _ _ => some 0x50#8
  | .aset _ _ _ => some 0x51#8
  | .alook _ => some 0x52#8
  | .adeclRest _ => some 0x53#8
  | .adeclEnd _ => some 0x53#8
  | .adeclWheel _ => some 0x53#8
  | .adeclRelease _ => some 0x53#8
  | .aretire _ => some 0x54#8
  | .xmode _ => some 0x55#8
  | .wlist => some 0x60#8
  | .wack _ _ => some 0x61#8
  | .hset _ => some 0x70#8
  | .hlook => some 0x71#8
  | .hclear _ => some 0x72#8
  | .fset _ => some 0x80#8
  | .flook => some 0x81#8
  | .fclear => some 0x82#8
  | .lset _ => some 0x90#8
  | .llook => some 0x91#8
  | .slook => some 0xA0#8
  | .sset _ => some 0xA1#8
  | .unknownRequest _ => none
  | .frameStart => none
  | .coldStart => none
  | .resetAssert => none
  | .resetEnd => none
  | .timebaseSecond _ => none
  | .minuteExpiry => none
  | .restDone _ => none
  | .breakComplete _ => none
  | .countdownZero => none
  | .toneEnd => none
  | .endOfBurst => none
  | .wlampFlashPhase => none
  | .selftestEnd _ => none
  | .wakePulseEnd => none
  | .wakeWaitExpiry => none
  | .wakeSpacingExpiry => none
  | .preheatExpiry => none
  | .ignitionLimitExpiry => none
  | .provingExpiry => none
  | .cooldownExpiry => none
  | .heaterRunClearsCount => none
  | .satisfiedStop => none
  | .minOffEnd => none
  | .fixedCycleOnEnd => none
  | .fixedCycleOffEnd => none
  | .fridgeRunClearsStalls => none
  | .warmRunComplete => none
  | .fadeStep _ => none
  | .endOfPeriod _ => none
  | .vspdWindowEnd _ => none
  | .tempWindowEnd _ _ => none
  | .tachWindowEnd _ => none
  | .qchgPulse => none
  | .qdisPulse => none
  | .pinChange _ _ => none
  | .debounceExpiry _ _ => none
  | .longPress _ => none
  | .pressClassifierWaitEnd => none

/-! ### The bodies the reference gives in bytes -/

/-- The requests whose body is empty. -/
def emptyBodies : List (Nat × Instr) :=
  [(0x00, .nop), (0x01, .stat), (0x06, .shut), (0x14, .olist), (0x21, .tlook), (0x31, .blook), (0x42, .clook),
   (0x60, .wlist), (0x71, .hlook), (0x81, .flook), (0x82, .fclear), (0x91, .llook), (0xA0, .slook)]

/-- The requests whose body is one byte: in the layout of Table 42 (R200 to R202), or an order key, which runs from 0 to
255 in a request (R2, R22, R23; that it takes one byte is DEDUCED, log entry 5). -/
def byteBodies : List (Nat × (Byte → Instr)) :=
  [(0x02, .nfetch), (0x03, .nmask), (0x04, .sleep), (0x12, .olook), (0x13, .oretire)]

/-- The requests whose body is one unsigned 32-bit number: the cab minute of TSET (section 5.2 of the scope file) and
the charge of CSYNC (R64). -/
def wordBodies : List (Nat × (Word32 → Instr)) := [(0x20, .tset), (0x41, .csync)]

/-- What a list of pairs gives for a code. -/
def lookCode {α : Type} (code : Byte) : List (Nat × α) → Option α
  | [] => none
  | (c, a) :: rest => if c = code.toNat then some a else lookCode code rest

/-- R191: a field of four bytes, the least significant first. -/
def wordOfBytes (b0 b1 b2 b3 : Byte) : Word32 := b3 ++ b2 ++ b1 ++ b0

/-- The body length of a request, where the reference states it as a number of bytes (log entry 5). -/
def statedBodyLength (code : Byte) : Option Nat :=
  if (lookCode code emptyBodies).isSome then some 0
  else if (lookCode code byteBodies).isSome then some 1
  else if (lookCode code wordBodies).isSome then some 4
  else none

/-- The request of a code and a body, where the reference gives the bytes of the body. -/
def requestOf (code : Byte) : List Byte → Option Instr
  | [] => lookCode code emptyBodies
  | [b] => (lookCode code byteBodies).map (fun f => f b)
  | [b0, b1, b2, b3] => (lookCode code wordBodies).map (fun f => f (wordOfBytes b0 b1 b2 b3))
  | _ => none

/-! ### The frame checks (Table 38) -/

/-- Check 2 of Table 38, on the bytes after the code and the length: a length byte of 124 or less, and room for the
whole body. -/
def frameHoldsBody (length : Byte) (rest : List Byte) : Bool :=
  decide (length.toNat ≤ 124) && decide (length.toNat ≤ rest.length)

/-- The request that a frame spells: the frame passes check 2, and its code and body are those of a request. The bytes
after the body are fill (R191). -/
def frameRequest : List Byte → Option Instr
  | code :: length :: rest =>
    if frameHoldsBody length rest then requestOf code (rest.take length.toNat) else none
  | _ => none

/-- The failures that checks 2 to 4 of Table 38 find. -/
inductive FrameFailure where
  | badLength | unknown
deriving DecidableEq, Repr

/-- Checks 2 to 4 of Table 38 on a frame that spells no request. A known code here has failed check 4: where the
reference does not state the length of its body in bytes the row itself says so (log entry 5). -/
def frameFailure : List Byte → FrameFailure
  | code :: length :: rest =>
    if !frameHoldsBody length rest then .badLength else if code.toNat ∉ requestCodes then .unknown else .badLength
  | _ => .badLength

/-- The command a word spells by the table's bits: no row of the table gives bits, so none (log entry 2). -/
def decodeTableWord (_nbits _w : Nat) : Option Instr := none

end Sys2Proof
end

