-- ==== Sys2Proof/Machine/FridgeCmds.lean ====
section
/-! DEFINITION. The fridge requests FSET, FLOOK and FCLEAR (section 8.7), and the events of the controller's counters. -/
namespace Sys2Proof.Machine

/-- R176: FSET. -/
def reqFset (seconds : Nat) (s : State) : State × Reply :=
  let m := clampNat 120 600 seconds
  let s' := ((s.withFridge (fun f => { f with minOff := m })).endRestIfDue).fridgeAttention
  (s', doneIf (decide (m ≠ seconds)) (.minOff m s'.fridge.state))

/-- FSET (80h). -/
def execFset (seconds : Nat) (s : State) : Host.Outcome State Fault Refusal := .next (s.takeFrame (reqFset seconds))

/-- R177: the FLOOK body; the remaining min-off is absent in START and RUN. -/
def Fridge.body (f : Fridge) (c3Fault : Bool) : FridgeBody :=
  { state := f.state, speed := f.speed, call := f.call, stalls := f.stalls
    remaining := if f.state = .start ∨ f.state = .run then none else some (f.minOff - f.offSeconds)
    offSeconds := f.offSeconds, onSeconds := f.onSeconds, fixedCycle := c3Fault, warmRun := f.warmRun
    minOff := f.minOff }

/-- R177: FLOOK. -/
def reqFlook (s : State) : State × Reply := (s, done (.fridge (s.fridge.body s.sense.fridgeT.fault)))

/-- FLOOK (81h). -/
def execFlook (s : State) : Host.Outcome State Fault Refusal := .next (s.takeFrame reqFlook)

/-- R178: FCLEAR. -/
def reqFclear (s : State) : State × Reply :=
  if s.fridge.state ≠ .fault then s.refuse .wrongState
  else
    let s' := (((s.withFridge (fun f => { f with stalls := 0 })).fridgeGo .rest).pass).endRestIfDue
    (s', done (.fridgeState s'.fridge.state))

/-- FCLEAR (82h). -/
def execFclear (s : State) : Host.Outcome State Fault Refusal := .next (s.takeFrame reqFclear)

/-- MIN_OFF_END (R168, R172). -/
def execMinOffEnd (s : State) : Host.Outcome State Fault Refusal := .next (s.outOfReset State.minOffEnd)

/-- FIXED_CYCLE_ON_END (R173). -/
def execFixedCycleOnEnd (s : State) : Host.Outcome State Fault Refusal := .next (s.outOfReset State.fixedCycleOnEnd)

/-- FIXED_CYCLE_OFF_END (R173). -/
def execFixedCycleOffEnd (s : State) : Host.Outcome State Fault Refusal := .next (s.outOfReset State.fixedCycleOffEnd)

/-- FRIDGE_RUN_CLEARS_STALLS (R169). -/
def execFridgeRunClearsStalls (s : State) : Host.Outcome State Fault Refusal :=
  .next (s.outOfReset State.runClearsStalls)

/-- WARM_RUN_COMPLETE (R174). -/
def execWarmRunComplete (s : State) : Host.Outcome State Fault Refusal := .next (s.outOfReset State.warmRunComplete)

end Sys2Proof.Machine
end

