-- ==== Sys2Proof/Machine/HeaterCmds.lean ====
section
/-! DEFINITION. The heater requests HSET, HLOOK and HCLEAR (section 7.8), and the events of the sequencer's timers. -/
namespace Sys2Proof.Machine

/-- R161: HSET. -/
def reqHset (a : HeaterArg) (s : State) : State × Reply :=
  if s.heater.state = .off ∨ s.heater.state = .lockout then
    ((s.withHeater (fun h => { h with params := a.store })).heaterAttention,
      doneIf (decide (a.store ≠ a.raw)) (.heaterParams a.store))
  else s.refuse .wrongState

/-- HSET (70h). -/
def execHset (a : HeaterArg) (s : State) : Host.Outcome State Fault Refusal := .next (s.takeFrame (reqHset a))

/-- R162: the HLOOK body. -/
def Heater.body (h : Heater) : HeaterBody :=
  { state := h.state, level := h.level, desired := h.desired, failed := h.failed, restart := h.restart
    cause := h.cause, phase := h.phase, runSeconds := h.runSeconds, satisfy := h.satisfy, fuel := h.fuel
    params := h.params }

/-- R162: HLOOK. -/
def reqHlook (s : State) : State × Reply := (s, done (.heater s.heater.body))

/-- HLOOK (71h). -/
def execHlook (s : State) : Host.Outcome State Fault Refusal := .next (s.takeFrame reqHlook)

/-- R158: the exit from LOCKOUT to OFF, without its pass: HEATER_LOCKOUT removed and HEATER set. -/
def State.leaveLockout (s : State) : State :=
  ((s.withHeater (fun h => { h with failed := 0 })).heaterGo .off).remove .part .heaterLockout

/-- R163: the fuel pulse count is cleared by the option. -/
def State.clearFuel (s : State) (clear : Bool) : State :=
  if clear then s.withHeater (fun h => { h with fuel := 0 }) else s

/-- R163: the reply of an accepted HCLEAR. -/
def State.clearedReply (s : State) : Reply := done (.heaterCleared s.heater.state s.heater.fuel)

/-- R163: HCLEAR. -/
def reqHclear (option : Option Bool) (s : State) : State × Reply :=
  match option with
  | none => s.refuse .badField
  | some clear =>
    if s.heater.state = .lockout then
      if s.overheated then s.refuse .wrongState
      else
        let s' := ((s.leaveLockout).clearFuel clear).pass
        (s', s'.clearedReply)
    else if clear then (s.clearFuel true, (s.clearFuel true).clearedReply)
    else s.refuse .wrongState

/-- HCLEAR (72h). -/
def execHclear (option : Option Bool) (s : State) : Host.Outcome State Fault Refusal :=
  .next (s.takeFrame (reqHclear option))

/-- R146: the preheat phase ends. -/
def State.preheatExpiry (s : State) : State :=
  if s.heater.state = .preheat then
    if s.sense.flame.level then s.failedStart else s.enterIgnition
  else s

/-- PREHEAT_EXPIRY (R146). -/
def execPreheatExpiry (s : State) : Host.Outcome State Fault Refusal := .next (s.outOfReset State.preheatExpiry)

/-- R147: the ignition limit runs out. -/
def State.ignitionExpiry (s : State) : State := if s.heater.state = .ignition then s.failedStart else s

/-- IGNITION_LIMIT_EXPIRY (R147). -/
def execIgnitionLimitExpiry (s : State) : Host.Outcome State Fault Refusal :=
  .next (s.outOfReset State.ignitionExpiry)

/-- R148: the proving phase ends. -/
def State.provingExpiry (s : State) : State := if s.heater.state = .proving then s.enterRun else s

/-- PROVING_EXPIRY (R148). -/
def execProvingExpiry (s : State) : Host.Outcome State Fault Refusal := .next (s.outOfReset State.provingExpiry)

/-- R158: entry to LOCKOUT, with its pass. -/
def State.enterLockout (s : State) : State :=
  ((((s.withHeater (fun h => { h with state := .lockout, phase := none, glow := false })).writeFan 0).raise .part
    .heaterLockout).notice .heater).pass

/-- Table 31, line 3: from COOLDOWN to SATISFIED (Table 29). -/
def State.enterSatisfied (s : State) : State :=
  ((s.withHeater (fun h => { h with phase := none })).writeFan 0).heaterGo .satisfied

/-- R156: the cooldown cause becomes absent and restart-pending is cleared at the expiry. -/
def State.endCooldown (s : State) : State := s.withHeater (fun h => { h with cause := none, restart := false })

/-- R156: the end of the cooldown, by the first line of Table 31 that applies. -/
def State.cooldownExpiry (s : State) : State :=
  if s.heater.state ≠ .cooldown then s
  else
    let t := s.endCooldown
    if s.heater.cause = some .overheat then t.enterLockout
    else if s.heater.cause = some .failedStart ∧ s.heater.failed = 3 then t.enterLockout
    else if s.heater.cause = some .satisfied then t.enterSatisfied
    else if s.heater.restart = true ∧ s.overheated = false then t.enterPreheat
    else t.enterOff

/-- COOLDOWN_EXPIRY (R156). -/
def execCooldownExpiry (s : State) : Host.Outcome State Fault Refusal := .next (s.outOfReset State.cooldownExpiry)

/-- HEATER_RUN_CLEARS_COUNT (R150). -/
def execHeaterRunClearsCount (s : State) : Host.Outcome State Fault Refusal :=
  .next (s.outOfReset State.runClearsCount)

/-- SATISFIED_STOP (R153). -/
def execSatisfiedStop (s : State) : Host.Outcome State Fault Refusal := .next (s.outOfReset State.satisfiedStop)

end Sys2Proof.Machine
end

