-- ==== Sys2Proof/Machine/OrderCmds.lean ====
section
/-! DEFINITION. The order requests: OPLACE, OAMEND, OLOOK, ORETIRE and OLIST (section 1.5). -/
namespace Sys2Proof.Machine

/-- Order requests are refused in UNINIT (R18). -/
def State.servesOrders (s : State) : Bool := decide (s.port.mode = .normal) || decide (s.port.mode = .workshop)

/-- R18, check 6: a slot that a start is ANCHORED to holds an account. -/
def State.anchorOpen (s : State) : Start → Bool
  | .anchored i _ _ => (s.account i).isSome
  | _ => true

/-- The state a key holds after a pass, or none when the pass expired the order (R19, R21). -/
def State.orderState (s : State) (key : Nat) : Option OrderState := (findOrder key s.orders).map Order.state

/-- R19: whether a field of an OPLACE is clamped. -/
def PlaceArg.clamped (a : PlaceArg) (load : Load) : Bool := a.target.clamped load || a.start.clamped

/-- R18, R19: OPLACE. -/
def reqOplace (a : PlaceArg) (s : State) : State × Reply :=
  let key := a.key.toNat
  if !s.servesOrders then s.refuse .wrongState
  else if !hostKey key then s.refuse .badField
  else match a.load, a.cls, a.start.store, a.finish.store with
    | some load, some cls, some start, some finish =>
      if !(finishAfterNow s.clock.minute finish && finishAfterStart start finish) then s.refuse .badField
      else if !s.anchorOpen start then s.refuse .noSuchAccount
      else if (findOrder key s.orders).isSome then s.refuse .keyInUse
      else if orderLimit ≤ s.orders.length then s.refuse .tableFull
      else
        let o := newOrder key .host load cls (a.target.store load) start finish s.clock.minute
        let s := { s with orders := insertOrder o s.orders }.pass
        (s, doneIf (PlaceArg.clamped a load) (.placed key (s.orderState key)))
    | _, _, _, _ => s.refuse .badField

/-- OPLACE (10h). -/
def execOplace (a : PlaceArg) (s : State) : Host.Outcome State Fault Refusal := .next (s.takeFrame (reqOplace a))

/-- R20, check 6: a field marked to change is one of its values; `none` for one that is not, the kept value when the
field is to stay. -/
def amended {α β : Type} (arg : Option α) (kept : β) (store : α → Option β) : Option β :=
  match arg with
  | none => some kept
  | some v => store v

/-- R20, check 7: an ABSOLUTE end carried is later than now, and an ABSOLUTE end later than an ABSOLUTE start. -/
def amendOrdered (now : Nat) (carried : Bool) (start : Start) (finish : Finish) : Bool :=
  (!carried || finishAfterNow now finish) && finishAfterStart start finish

/-- R20, check 8: a start carried as ANCHORED names an open slot. -/
def State.amendAnchor (s : State) (carried : Bool) (start : Start) : Bool := !carried || s.anchorOpen start

/-- Whether a field of an OAMEND is clamped. -/
def AmendArg.clamped (a : AmendArg) (load : Load) : Bool :=
  (match a.target with
   | some t => t.clamped load
   | none => false) ||
  (match a.start with
   | some b => b.clamped
   | none => false)

/-- R21: the order after an accepted OAMEND, before its pass. -/
def amendOrder (a : AmendArg) (o : Order) (cls : OrderClass) (start : Start) (finish : Finish) (now : Nat) : Order :=
  { o with
    cls := cls
    target :=
      match a.target with
      | some t => t.store o.load
      | none => o.target
    start := start
    finish := finish
    placedAt := if a.start = some .immediate then now else o.placedAt }

/-- R20, R21: OAMEND. -/
def reqOamend (a : AmendArg) (s : State) : State × Reply :=
  let key := a.key.toNat
  if !s.servesOrders then s.refuse .wrongState
  else if !anyKey key then s.refuse .badField
  else match findOrder key s.orders with
    | none => s.refuse .noSuchKey
    | some o =>
      if a.load ≠ some o.load then s.refuse .badField
      else match amended a.cls o.cls id, amended a.start o.start StartArg.store,
          amended a.finish o.finish FinishArg.store with
        | some cls, some start, some finish =>
          if !amendOrdered s.clock.minute a.finish.isSome start finish then s.refuse .badField
          else if !s.amendAnchor a.start.isSome start then s.refuse .noSuchAccount
          else
            let o' := amendOrder a o cls start finish s.clock.minute
            let s := { s with orders := insertOrder o' s.orders }.pass
            (s, doneIf (AmendArg.clamped a o.load) (.placed key (s.orderState key)))
        | _, _, _ => s.refuse .badField

/-- OAMEND (11h). -/
def execOamend (a : AmendArg) (s : State) : Host.Outcome State Fault Refusal := .next (s.takeFrame (reqOamend a))

/-- The checks that OLOOK and ORETIRE share: mode, key range, presence (R22, R23). -/
def State.withOrder (s : State) (key : Nat) (f : Order → State × Reply) : State × Reply :=
  if !s.servesOrders then s.refuse .wrongState
  else if !anyKey key then s.refuse .badField
  else match findOrder key s.orders with
    | none => s.refuse .noSuchKey
    | some o => f o

/-- R22: OLOOK. -/
def reqOlook (key : Byte) (s : State) : State × Reply := s.withOrder key.toNat (fun o => (s, done (.order o)))

/-- OLOOK (12h). -/
def execOlook (key : Byte) (s : State) : Host.Outcome State Fault Refusal := .next (s.takeFrame (reqOlook key))

/-- R23: ORETIRE. -/
def reqOretire (key : Byte) (s : State) : State × Reply :=
  s.withOrder key.toNat (fun o =>
    ({ s with orders := eraseOrder key.toNat s.orders }.pass, done (.retired o.key o.state)))

/-- ORETIRE (13h). -/
def execOretire (key : Byte) (s : State) : Host.Outcome State Fault Refusal := .next (s.takeFrame (reqOretire key))

/-- R24: OLIST. -/
def reqOlist (s : State) : State × Reply :=
  if !s.servesOrders then s.refuse .wrongState
  else (s, done (.orders (s.orders.map (fun o => (o.key, o.load, o.state)))))

/-- OLIST (14h). -/
def execOlist (s : State) : Host.Outcome State Fault Refusal := .next (s.takeFrame reqOlist)

end Sys2Proof.Machine
end

