-- ==== Sys2Proof/Machine/PortCmds.lean ====
section
/-! DEFINITION. The request port (chapter 10): NOP, STAT, NFETCH, NMASK, SLEEP, INIT, SHUT, the start of a frame, the
self-test's end and the wake timers. -/
namespace Sys2Proof.Machine

/-- The port record changed. -/
def State.withPort (s : State) (f : Port → Port) : State := { s with port := f s.port }

/-- R192: NOP does nothing. -/
def reqNop (s : State) : State × Reply := (s, done .empty)

/-- NOP (00h). -/
def execNop (s : State) : Host.Outcome State Fault Refusal := .next (s.takeFrame reqNop)

/-- R198: the STAT body. -/
def State.statBody (s : State) : StatBody :=
  { mode := s.port.mode, asleep := s.port.asleepAtStart, selfTest := s.port.selfTest, cause := s.port.cause
    clockSet := s.clock.isSet, unanswered := s.port.unanswered, flags := s.port.flags, enables := s.port.enables
    mask := s.port.mask }

/-- R198: STAT. -/
def reqStat (s : State) : State × Reply :=
  (s.withPort (fun p => { p with unanswered := false }), done (.status s.statBody))

/-- STAT (01h). -/
def execStat (s : State) : Host.Outcome State Fault Refusal := .next (s.takeFrame reqStat)

/-- R199, R200: the flags after an NFETCH: the acknowledged ones cleared, and those of them that were set set again while
their attention holds (log entry 15). -/
def fetchedFlags (flags ack attentions : Byte) : Byte := (flags &&& ~~~ack) ||| (flags &&& ack &&& attentions)

/-- R200: NFETCH. -/
def reqNfetch (ack : Byte) (s : State) : State × Reply :=
  let after := fetchedFlags s.port.flags ack s.attentions
  (s.withPort (fun p => { p with flags := after }.workAttn), done (.fetched s.port.flags after))

/-- NFETCH (02h). -/
def execNfetch (ack : Byte) (s : State) : Host.Outcome State Fault Refusal := .next (s.takeFrame (reqNfetch ack))

/-- R201: NMASK. -/
def reqNmask (enables : Byte) (s : State) : State × Reply :=
  (s.withPort (fun p => { p with enables := enables }.workAttn), done (.enables enables))

/-- NMASK (03h). -/
def execNmask (enables : Byte) (s : State) : Host.Outcome State Fault Refusal :=
  .next (s.takeFrame (reqNmask enables))

/-- R202: SLEEP: the wake mask is written, and the port is ASLEEP as the frame ends. -/
def reqSleep (mask : Byte) (s : State) : State × Reply :=
  (s.withPort (fun p => { p with mask := mask, asleep := true }.workAttn), done (.wakeMask mask))

/-- SLEEP (04h). -/
def execSleep (mask : Byte) (s : State) : Host.Outcome State Fault Refusal := .next (s.takeFrame (reqSleep mask))

/-- R194: the part mode changes: the entry to SELFTEST stops a burst (R108), suppression is tested (R109), and a pass
runs. -/
def State.changeMode (s : State) (m : PartMode) : State :=
  let s := s.withPort (fun p => { p with mode := m })
  let s := if m = .selfTest then s.cutBurst Entry.requeueDue else s
  (s.settle).pass

/-- R195: INIT. -/
def reqInit (mode : Option InitMode) (selfTest : Option Bool) (s : State) : State × Reply :=
  match mode, selfTest with
  | some m, some t =>
    if s.port.mode ≠ .uninit then s.refuse .wrongState
    else if t then
      ((s.withPort (fun p => { p with initMode := m })).changeMode .selfTest, done (.mode .selfTest))
    else (s.changeMode m.toMode, done (.mode m.toMode))
  | _, _ => s.refuse .badField

/-- INIT (05h). -/
def execInit (mode : Option InitMode) (selfTest : Option Bool) (s : State) : Host.Outcome State Fault Refusal :=
  .next (s.takeFrame (reqInit mode selfTest))

/-- R197: SHUT. -/
def reqShut (s : State) : State × Reply :=
  if s.port.mode = .uninit then s.refuse .wrongState
  else
    ((({ s with orders := [] }).withPort (fun p => { p with cause := .shut })).changeMode .uninit, done .empty)

/-- SHUT (06h). -/
def execShut (s : State) : Host.Outcome State Fault Refusal := .next (s.takeFrame reqShut)

/-- FRAME_START (R191, R202). -/
def execFrameStart (s : State) : Host.Outcome State Fault Refusal := .next (s.outOfReset State.inFrame)

/-- The lowest of the failed tests (R196). -/
def lowestFailed : List (Fin 5) → Option (Fin 5)
  | [] => none
  | t :: ts =>
    match lowestFailed ts with
    | none => some t
    | some u => if t.val ≤ u.val then some t else some u

/-- R196: the end of the self-test. -/
def State.selftestEnd (s : State) (failed : List (Fin 5)) : State :=
  if s.port.mode ≠ .selfTest then s
  else match lowestFailed failed with
    | none =>
      ((s.withPort (fun p => { p with selfTest := .passed })).notice .part).changeMode s.port.initMode.toMode
    | some n => ((s.withPort (fun p => { p with selfTest := .failed n })).notice .part).changeMode .uninit

/-- SELFTEST_END (R196). -/
def execSelftestEnd (failed : List (Fin 5)) (s : State) : Host.Outcome State Fault Refusal :=
  .next (s.outOfReset (fun s => s.selftestEnd failed))

/-- WAKE_PULSE_END (R203). -/
def execWakePulseEnd (s : State) : Host.Outcome State Fault Refusal :=
  .next (s.withPort (fun p => { p with wake := false }))

/-- WAKE_WAIT_EXPIRY (R203): the wait runs out with no frame, and wake unanswered is set. -/
def execWakeWaitExpiry (s : State) : Host.Outcome State Fault Refusal :=
  .next (s.outOfReset (fun s =>
    s.withPort (fun p => if p.wait then { p with wait := false, unanswered := true } else p)))

/-- WAKE_SPACING_EXPIRY (R203). -/
def execWakeSpacingExpiry (s : State) : Host.Outcome State Fault Refusal :=
  .next (s.withPort (fun p => { p with spacing := false }))

end Sys2Proof.Machine
end

