-- ==== Sys2Proof/Machine/LightCmds.lean ====
section
/-! DEFINITION. The light requests LSET and LLOOK (section 9.5), the fade step, and the bunk short press (section 9.4). -/
namespace Sys2Proof.Machine

/-- R138, R188: a polarity is written to a channel and goes to its timer. -/
def State.setPolarity (s : State) (i : LightId) (p : Polarity) : State :=
  (s.setChannel i { s.channel i with polarity := p }).setTimer i.timer ((s.timers.get i.timer).setPolarity p)

/-- R183, R188: the quiet cap is written; a change while the quiet flag is set acts as the flag becoming set. -/
def State.setQuietCap (s : State) (cap : Nat) : State :=
  let t := { s with lights := { s.lights with quietCap := cap } }
  if s.quiet = true ∧ cap ≠ s.lights.quietCap then t.cabQuietSet else t

/-- R188: the nine items written whole. -/
def State.setLights (s : State) (l : LightSettings) : State :=
  let s := (((s.setPolarity .readA l.polA).setPolarity .readB l.polB).setPolarity .cabLight l.polCab).setPolarity
    .nightLight l.polNight
  ({ s with lights := s.lights.setDraws l.drawA l.drawB l.drawCab l.drawNight }).setQuietCap l.quietCap

/-- R188: the items as stored; none when a polarity is neither value. -/
def LightArg.store (a : LightArg) : Option LightSettings :=
  match a.polA, a.polB, a.polCab, a.polNight with
  | some pa, some pb, some pc, some pn =>
    some
      { polA := pa, polB := pb, polCab := pc, polNight := pn, drawA := a.drawA.toNat, drawB := a.drawB.toNat
        drawCab := a.drawCab.toNat, drawNight := a.drawNight.toNat, quietCap := clampNat 0 300 a.quietCap }
  | _, _, _, _ => none

/-- R188: LSET. -/
def reqLset (a : LightArg) (s : State) : State × Reply :=
  match LightArg.store a with
  | none => s.refuse .badField
  | some l => (s.setLights l, doneIf (decide (l.quietCap ≠ a.quietCap)) (.lightsSet l))

/-- LSET (90h). -/
def execLset (a : LightArg) (s : State) : Host.Outcome State Fault Refusal := .next (s.takeFrame (reqLset a))

/-- R189: a channel as LLOOK returns it. -/
def Channel.body (c : Channel) : ChannelBody :=
  { duty := c.duty, target := c.target, fadeTime := c.fadeTime, effective := c.effective, fade := c.fade
    presentedKey := c.presented.map Presented.key, polarity := c.polarity, fullDraw := c.fullDraw }

/-- R189: LLOOK. -/
def reqLlook (s : State) : State × Reply :=
  (s, done (.lights
    { readA := s.lights.readA.body, readB := s.lights.readB.body, cabLight := s.lights.cabLight.body
      nightLight := s.lights.nightLight.body, quietCap := s.lights.quietCap, quiet := s.quiet }))

/-- LLOOK (91h). -/
def execLlook (s : State) : Host.Outcome State Fault Refusal := .next (s.takeFrame reqLlook)

/-- FADE_STEP (R181). -/
def execFadeStep (i : LightId) (s : State) : Host.Outcome State Fault Refusal :=
  .next (s.outOfReset (fun s => s.fadeStep i))

/-- R186: a press that toggles the manual order of its bunk. -/
def State.toggleManual (s : State) (side : Side) : State :=
  if (findOrder (manualKey side) s.orders).isSome then
    (({ s with orders := eraseOrder (manualKey side) s.orders }).notice .order).pass
  else if s.mayPlace then (s.placePart (manualOrder side s.clock.minute)).pass
  else s.placePart (manualOrder side s.clock.minute)

/-- R185: the entries of the account bound to a bunk, in rank order; every entry of a slot is of an account type. -/
def State.bunkEntries (s : State) (side : Side) : List Entry :=
  match s.boundSlot side.bunk with
  | some i => (rankOrder s.warn.entries).filter (fun e => decide (e.source = .slot i) && e.type.ofAccount)
  | none => []

/-- R185: a short press acknowledges the bound account's highest-ranked unsilenced entry, does nothing when all of them
are SILENCED, and toggles the manual order when there is none. -/
def State.shortPress (s : State) (side : Side) : State :=
  if (s.bunkEntries side).isEmpty then s.toggleManual side
  else match (s.bunkEntries side).find? (fun e => decide (e.state ≠ .silenced)) with
    | some e => s.acknowledge e
    | none => s

end Sys2Proof.Machine
end

