-- ==== Sys2Proof/Machine/SensingCmds.lean ====
section
/-! DEFINITION. Sensing (chapter 6): SLOOK, SSET, the window ends, the digital inputs and the press classifiers, and the
end of a timer's period. -/
namespace Sys2Proof.Machine

/-- The press state SLOOK reports: the classifier's, or the free value of the 50 ms after a reset (log entry 12). -/
def Sense.shownPress (x : Sense) (side : Side) : PressState :=
  match (x.press side).state with
  | some p => p
  | none => Config.pressDuringWait side x.drawn

/-- R132: the SLOOK body. -/
def Sense.body (x : Sense) : SenseBody :=
  { vspdCount := x.vspdCount, motion := x.motion, settleCount := x.settleCount, settleTime := x.settleTime
    chgTotal := x.chgTotal, disTotal := x.disTotal, cab := x.cab, fridgeT := x.fridgeT, outside := x.outside
    tachRate := x.tachRate, pbrake := x.pbrake.level, flame := x.flame.level, ovht := x.ovht.level
    btnA := x.btnA.level, btnB := x.btnB.level, pressA := x.shownPress .a, pressB := x.shownPress .b }

/-- The counter of free values moves on when a draw was made. -/
def Sense.drawnOn (x : Sense) : Sense :=
  if x.pressA.state = none ∨ x.pressB.state = none then { x with drawn := x.drawn + 1 } else x

/-- R132: SLOOK. -/
def reqSlook (s : State) : State × Reply := ({ s with sense := s.sense.drawnOn }, done (.sensing s.sense.body))

/-- SLOOK (A0h). -/
def execSlook (s : State) : Host.Outcome State Fault Refusal := .next (s.takeFrame reqSlook)

/-- R127, R133: the settle time written; a STOPPING detector whose count has reached it becomes STATIONARY. -/
def State.setSettle (s : State) (seconds : Nat) : State :=
  let t := { s with sense := { s.sense with settleTime := seconds } }
  if s.sense.motion = .stopping ∧ seconds * 10 ≤ s.sense.settleCount then
    ({ t with sense := { t.sense with motion := .stationary } }).motionChanged
  else t

/-- R133: SSET. -/
def reqSset (seconds : Nat) (s : State) : State × Reply :=
  let m := clampNat 10 600 seconds
  (s.setSettle m, doneIf (decide (m ≠ seconds)) (.settle m (s.setSettle m).sense.motion))

/-- SSET (A1h). -/
def execSset (seconds : Nat) (s : State) : Host.Outcome State Fault Refusal := .next (s.takeFrame (reqSset seconds))

/-- R119: a window's count is held at 65,535. -/
def heldCount (edges : Nat) : Nat := min edges 65535

/-- Table 25: the motion detector at the end of a C0 window. -/
def Sense.motionStep (x : Sense) (count : Nat) : Sense :=
  if 1 ≤ count then { x with motion := .moving }
  else match x.motion with
    | .moving => { x with motion := .stopping, settleCount := 0 }
    | .stopping =>
      { x with
        settleCount := x.settleCount + 1
        motion := if x.settleTime * 10 ≤ x.settleCount + 1 then .stationary else .stopping }
    | .stationary => x

/-- R126: the end of a C0 window; a change of the motion state is handed to the rest accounts. -/
def State.vspdWindow (s : State) (count : Nat) : State :=
  let t := { s with sense := { s.sense.motionStep count with vspdCount := count } }
  if t.sense.motion = s.sense.motion then t else t.motionChanged

/-- VSPD_WINDOW_END (R126). -/
def execVspdWindowEnd (edges : Nat) (s : State) : Host.Outcome State Fault Refusal :=
  .next (s.outOfReset (fun s => s.vspdWindow (heldCount edges)))

/-- R121, R122: a temperature channel at the end of a window. -/
def TempChannel.window (c : TempChannel) (count : Nat) : TempChannel :=
  match tempOfCount count with
  | some v =>
    if c.fault = false then { c with value := v, count := count }
    else if 2 ≤ c.validRun then { value := v, fault := false, count := count, validRun := 3 }
    else { c with count := count, validRun := c.validRun + 1 }
  | none => { c with fault := true, count := count, validRun := 0 }

/-- R119, Table 23: a temperature reading is presented to the block that uses it. -/
def State.presentTemp (s : State) (i : TempId) (value : Int) (fault faulted : Bool) : State :=
  match i with
  | .c2 => s.heaterReading value fault
  | .c3 => s.fridgeReading value fault faulted
  | .c4 => s.heaterAttention

/-- R120 to R123: the end of a temperature window; SENSOR is set at a fault, at a recovery and at each window end of a
faulted channel. -/
def State.tempWindow (s : State) (i : TempId) (count : Nat) : State :=
  let c := s.sense.temp i
  let d := c.window count
  (({ s with sense := s.sense.setTemp i d }).noticeIf (c.fault || d.fault) .sensor).presentTemp i d.value d.fault
    (!c.fault && d.fault)

/-- TEMP_WINDOW_END (R120 to R123). -/
def execTempWindowEnd (i : TempId) (edges : Nat) (s : State) : Host.Outcome State Fault Refusal :=
  .next (s.outOfReset (fun s => s.tempWindow i (heldCount edges)))

/-- R124, R170, R175: the end of a C5 window; the entry to FAULT by a third stall starts a pass. -/
def State.tachWindow (s : State) (rate : Nat) : State :=
  let t := ({ s with sense := { s.sense with tachRate := rate } }).tachReading rate
  t.passIf (decide (t.fridge.state = .fault) && decide (s.fridge.state ≠ .fault))

/-- TACH_WINDOW_END (R124). -/
def execTachWindowEnd (edges : Nat) (s : State) : Host.Outcome State Fault Refusal :=
  .next (s.outOfReset (fun s => s.tachWindow (heldCount edges)))

/-- R129: a pin changes level: to the opposite of the debounced level it starts the 50 ms timer, back to it it abandons
the timer. -/
def Input.move (x : Input) (level : Bool) : Input :=
  if level = x.pin then x
  else { x with pin := level, timer := decide (level ≠ x.level), fromReset := false }

/-- PIN_CHANGE (R129). While RESET is asserted the pin alone moves: debouncing starts afresh at the end. -/
def execPinChange (i : DigitalIn) (level : Bool) (s : State) : Host.Outcome State Fault Refusal :=
  .next
    (if s.rst.asserted then { s with sense := s.sense.setInput i { s.sense.input i with pin := level } }
     else { s with sense := s.sense.setInput i ((s.sense.input i).move level) })

/-- R130, Table 26: a debounced press of a button; the stored hold time stays at 0 while PRESSED (log entries 10 and 41). -/
def State.pressed (s : State) (side : Side) : State :=
  if (s.sense.press side).state = some .released then
    { s with sense := s.sense.setPress side { state := some .pressed, hold := 0 } }
  else s

/-- R130, Table 26: a debounced release of a button, with its hold time. What the hold time is once the button is released
is left open: the model keeps the figure of the release from PRESSED, and leaves the stored one as it is at a release from
LONG_HELD or HELD_OVER (DESIGN CHOICE, log entry 41). -/
def State.released (s : State) (side : Side) (held : Nat) : State :=
  match (s.sense.press side).state with
  | some .pressed =>
    let t := { s with sense := s.sense.setPress side { state := some .released, hold := held } }
    if held < 1000 then t.shortPress side else t
  | some .longHeld => { s with sense := s.sense.setPress side { state := some .released, hold := (s.sense.press side).hold } }
  | some .heldOver => { s with sense := s.sense.setPress side { state := some .released, hold := (s.sense.press side).hold } }
  | _ => s

/-- R129: a changed debounced level is handed to the block that owns its meaning. -/
def State.levelChanged (s : State) (i : DigitalIn) (held : Nat) : State :=
  let level := (s.sense.input i).level
  match i with
  | .pbrake => s.workStandstill
  | .flame => if level then s.heaterAttention.flamePresent else s.heaterAttention.flameAbsent
  | .ovht => if level then s.heaterAttention.ovhtActive else s.heaterAttention.ovhtInactive
  | .btnA => if level then s.pressed .a else s.released .a held
  | .btnB => if level then s.pressed .b else s.released .b held

/-- R129: the debounced level after its timer has run out. -/
def Input.expire (x : Input) : Input := { x with level := x.pin, timer := false, fromReset := false }

/-- R129: the debounce timer of an input runs out. -/
def State.debounced (s : State) (i : DigitalIn) (held : Nat) : State :=
  if (s.sense.input i).timer then
    ({ s with sense := s.sense.setInput i (s.sense.input i).expire }).levelChanged i held
  else s

/-- DEBOUNCE_EXPIRY (R129, R130). -/
def execDebounceExpiry (i : DigitalIn) (held : Nat) (s : State) : Host.Outcome State Fault Refusal :=
  .next (s.outOfReset (fun s => s.debounced i held))

/-- R131: the wait of one classifier ends, after any change the debounce begun at the reset's end makes at that moment. The
hold time of a classifier that leaves the wait is 0 (log entry 36). -/
def Sense.endWait (x : Sense) (side : Side) : Sense :=
  if (x.press side).state ≠ none then x
  else
    let inp := x.input (buttonOf side)
    let inp := if inp.timer && inp.fromReset then inp.expire else inp
    (x.setInput (buttonOf side) inp).setPress side
      { state := some (if inp.level then .heldOver else .released), hold := 0 }

/-- PRESS_CLASSIFIER_WAIT_END (R131). -/
def execPressClassifierWaitEnd (s : State) : Host.Outcome State Fault Refusal :=
  .next (s.outOfReset (fun s => { s with sense := (s.sense.endWait .a).endWait .b }))

/-- R135, R137: a running timer's period ends; a period of T4 that begins with an on-time above 0 is a pump pulse. -/
def State.periodEnd (s : State) (i : TimerId) : State :=
  let t := s.timers.get i
  if t.running then
    let s' := s.setTimer i t.endPeriod
    if i = .t4 ∧ 0 < t.endPeriod.onCmp then s'.pumpPulse else s'
  else s

/-- END_OF_PERIOD (R135). -/
def execEndOfPeriod (i : TimerId) (s : State) : Host.Outcome State Fault Refusal := .next (s.periodEnd i)

end Sys2Proof.Machine
end

