-- ==== Sys2Proof/Machine/WarningCmds.lean ====
section
/-! DEFINITION. The warning requests WLIST and WACK (chapter 5), and the events of the chime and the lamp. -/
namespace Sys2Proof.Machine

/-- R114: an entry as WLIST lists it. -/
def Entry.row (e : Entry) : WarningRow :=
  { source := e.source, type := e.type, severity := e.type.severity, raisedAt := e.raisedAt, state := e.state
    bursts := e.bursts, due := e.due }

/-- R114: the chime as WLIST reports it. A tone is still to sound until its sound has ended (log entry 23). -/
def Chime.report : Chime → ChimeReport
  | .idle => .idle
  | .sounding source type tones sound _ => .sounding source type (if sound then tones else tones - 1)

/-- R114: WLIST. -/
def reqWlist (s : State) : State × Reply :=
  (s, done (.warnings ((rankOrder s.warn.entries).map Entry.row) s.warn.chime.report s.warn.lamp))

/-- WLIST (60h). -/
def execWlist (s : State) : Host.Outcome State Fault Refusal := .next (s.takeFrame reqWlist)

/-- R112: WACK. -/
def reqWack (source : Option Source) (type : Option WarnType) (s : State) : State × Reply :=
  match source, type with
  | some a, some t =>
    if !pairMatches a t then s.refuse .badField
    else match findPair a t s.warn.entries with
      | none => s.refuse .noSuchWarning
      | some e => (s.acknowledge e, done (.acknowledged a t e.ackResult))
  | _, _ => s.refuse .badField

/-- WACK (61h). -/
def execWack (source : Option Source) (type : Option WarnType) (s : State) : Host.Outcome State Fault Refusal :=
  .next (s.takeFrame (reqWack source type))

/-- COUNTDOWN_ZERO (R109). -/
def execCountdownZero (s : State) : Host.Outcome State Fault Refusal := .next s.countdownZero

/-- R108: the phase of a tone ends: after the sound its silence, after the silence the next tone; the silence of the last
tone is ended by END_OF_BURST. -/
def State.toneEnd (s : State) : State :=
  match s.warn.chime with
  | .idle => s
  | .sounding a t n true owned =>
    ({ s with warn := { s.warn with chime := .sounding a t n false owned } }).writeTimer .t7 0 400
  | .sounding a t n false owned =>
    if 2 ≤ n then
      ({ s with warn := { s.warn with chime := .sounding a t (n - 1) true owned } }).writeTimer .t7 200 400
    else s

/-- TONE_END (R108). -/
def execToneEnd (s : State) : Host.Outcome State Fault Refusal := .next (s.outOfReset State.toneEnd)

/-- R108: the end of a burst, at the end of the silence of its last tone. -/
def State.endOfBurst (s : State) : State :=
  match s.warn.chime with
  | .sounding a t n false owned =>
    if n ≤ 1 then
      State.select
        { s with
          warn :=
            { s.warn with
              chime := .idle
              entries := if owned then mapPair a t Entry.endBurst s.warn.entries else s.warn.entries } }
    else s
  | _ => s

/-- END_OF_BURST (R108). -/
def execEndOfBurst (s : State) : Host.Outcome State Fault Refusal := .next (s.outOfReset State.endOfBurst)

/-- WLAMP_FLASH_PHASE (R110): in FLASHING a 500 ms phase ends and the lamp toggles. -/
def execWlampFlashPhase (s : State) : Host.Outcome State Fault Refusal :=
  .next (s.outOfReset (fun s =>
    if s.warn.lamp = .flashing then { s with warn := { s.warn with lampOn := !s.warn.lampOn } } else s))

end Sys2Proof.Machine
end

