-- ==== Sys2Proof/Machine/FrameCmds.lean ====
section
/-! DEFINITION. UNKNOWN_REQUEST: a frame taken from its bytes through the frame checks of R192. -/
namespace Sys2Proof.Machine

/-- What a request that a frame spells does; `frameRequest` gives no other request than these, those whose body the
reference gives in bytes. -/
def spelledRequest : Instr → State → State × Reply
  | .nop => reqNop
  | .stat => reqStat
  | .nfetch ack => reqNfetch ack
  | .nmask enables => reqNmask enables
  | .sleep mask => reqSleep mask
  | .shut => reqShut
  | .olook key => reqOlook key
  | .oretire key => reqOretire key
  | .olist => reqOlist
  | .tset minute => reqTset minute
  | .tlook => reqTlook
  | .blook => reqBlook
  | .csync charge => reqCsync charge
  | .clook => reqClook
  | .wlist => reqWlist
  | .hlook => reqHlook
  | .flook => reqFlook
  | .fclear => reqFclear
  | .llook => reqLlook
  | .slook => reqSlook
  | _ => fun s => s.refuse .badLength

/-- R192: the request of a frame: performed where the frame passes the checks, and otherwise answered by the check that
fails. -/
def reqFrame (bytes : List Byte) : State → State × Reply :=
  match frameRequest bytes with
  | some i => spelledRequest i
  | none =>
    match frameFailure bytes with
    | .badLength => fun s => s.refuse .badLength
    | .unknown => fun s => s.refuse .unknown

/-- UNKNOWN_REQUEST (R192): a frame that fails a frame check, or an ADECL with no declaration of Table 20 (R72). In
SELFTEST every frame is BUSY. A frame that spells a request is that request (log entry 5). -/
def execUnknownRequest (arg : FrameArg) (s : State) : Host.Outcome State Fault Refusal :=
  match arg with
  | .undeclared _ => .next (s.takeFrame (fun s => s.refuse .badField))
  | .frame bytes => .next (s.takeFrame (reqFrame bytes))

end Sys2Proof.Machine
end

