-- ==== Sys2Proof/Machine/ResetCmds.lean ====
section
/-! DEFINITION. Cold start and warm reset: COLD_START, RESET_ASSERT and RESET_END. -/
namespace Sys2Proof.Machine

/-! ### Cold start -/

/-- R129: an input at power-up: its debounced level is the second of the table, and a pin found at the other level has its
timer running. -/
def Input.powerUp (x : Input) : Input := { pin := x.pin, level := false, timer := x.pin, fromReset := x.pin }

/-- Sensing at power-up: the pins are the cab's, everything else takes its cold-start value (R140). -/
def Sense.powerUp (x : Sense) : Sense :=
  { State.reset.sense with
    pbrake := x.pbrake.powerUp, flame := x.flame.powerUp, ovht := x.ovht.powerUp, btnA := x.btnA.powerUp
    btnB := x.btnB.powerUp, drawn := x.drawn }

/-- COLD_START: every record takes its cold-start value (R204 and the chapters). -/
def execColdStart (s : State) : Host.Outcome State Fault Refusal :=
  .next { State.reset with sense := s.sense.powerUp, pending := s.pending }

/-! ### The assertion of RESET -/

/-- R25: an ACTIVE order is set to WAITING. -/
def Order.heldBack (o : Order) : Order := if o.state = .active then { o with state := .waiting } else o

/-- R139: T5 runs at 1,000 ‰ from the assertion (log entry 21). -/
def Timer.fullFan (t : Timer) : Timer :=
  { t with
    running := true, counter := 0, onCmp := 1000, perCmp := 1000, shadowOn := 1000, shadowPer := 1000
    pending := false }

/-- R139: every timer but T5 is halted. -/
def Timers.atReset (b : Timers) : Timers :=
  { t0 := b.t0.halt, t1 := b.t1.halt, t2 := b.t2.halt, t3 := b.t3.halt, t4 := b.t4.halt, t5 := b.t5.fullFan
    t6 := b.t6.halt, t7 := b.t7.halt }

/-- Table 33. -/
def HeaterState.atReset : HeaterState → HeaterState
  | .ignition => .cooldown
  | .proving => .cooldown
  | .run => .cooldown
  | .cooldown => .cooldown
  | .lockout => .lockout
  | _ => .off

/-- Table 33: the cooldown cause through the reset. -/
def Heater.causeAtReset (h : Heater) : Option CooldownCause :=
  match h.state with
  | .ignition => some .stopped
  | .proving => some .stopped
  | .run => some .stopped
  | .cooldown => h.cause
  | _ => none

/-- R165: the heater at the assertion. The full cooldown time that a COOLDOWN then holds until the end of the reset starts it
is the model's choice: R165 stops the phase timer and gives no figure in between (DESIGN CHOICE, log entry 42). -/
def Heater.atReset (h : Heater) : Heater :=
  { h with
    state := h.state.atReset, cause := h.causeAtReset
    phase := if h.state.atReset = .cooldown then some h.params.cooldown else none
    glow := false, satisfy := none, restart := false, level := 0, desired := 0, presented := none }

/-- R179: the fridge at the assertion; a compressor that is on is switched off, with off seconds 0 (R166). -/
def Fridge.atReset (f : Fridge) : Fridge :=
  { f with
    state := if f.state = .fault then .fault else .rest
    offSeconds := if f.state = .start ∨ f.state = .run then 0 else f.offSeconds
    compressor := false, speed := 0, onSeconds := none, startWindows := none, lowWindows := none
    runSeconds := none, warmRun := none, presented := none }

/-- R190: a light channel at the assertion. -/
def Channel.atReset (c : Channel) : Channel :=
  { c with duty := 0, fade := none, target := 0, fadeTime := 1, effective := 0, presented := none }

/-- R129, R131: an input at the assertion: its level is kept, its timer abandoned. -/
def Input.atReset (x : Input) : Input := { x with timer := false, fromReset := false }

/-- A temperature channel at the assertion: its count is 0 until the first window after the reset (R132, R140). -/
def TempChannel.atReset (c : TempChannel) : TempChannel := { c with count := 0 }

/-- R128, R131, R140: sensing at the assertion. -/
def Sense.atReset (x : Sense) : Sense :=
  { x with
    vspdCount := 0, settleCount := 0, cab := x.cab.atReset, fridgeT := x.fridgeT.atReset
    outside := x.outside.atReset, pbrake := x.pbrake.atReset, flame := x.flame.atReset, ovht := x.ovht.atReset
    btnA := x.btnA.atReset, btnB := x.btnB.atReset, pressA := .afterReset, pressB := .afterReset }

/-- R196, R204: the port at the assertion: no frame, no pending reply, ATTN and WAKE negated, a self-test abandoned. -/
def Port.atReset (p : Port) : Port :=
  { p with
    reply := none, miso := none, inFrame := false, attn := false, wake := false
    selfTest := if p.mode = PartMode.selfTest then .abandoned else p.selfTest }

/-- R116: the presenter at the assertion: the burst is cut off and its entry QUEUED, and the lamp is off. -/
def State.quietPresenter (s : State) : State :=
  let s := s.cutBurst Entry.requeue
  { s with warn := { s.warn with lamp := .off, lampOn := false } }

/-- The assertion of RESET (R25, R52, R116, R128, R131, R139, R165, R179, R190, R204). -/
def State.assertReset (s : State) : State :=
  let s := s.quietPresenter
  { s with
    orders := s.orders.map Order.heldBack
    alloc := { s.alloc with committed := 0 }
    sense := s.sense.atReset
    timers := s.timers.atReset
    heater := s.heater.atReset
    fridge := s.fridge.atReset
    lights :=
      { s.lights with
        readA := s.lights.readA.atReset, readB := s.lights.readB.atReset
        cabLight := s.lights.cabLight.atReset, nightLight := s.lights.nightLight.atReset }
    port := s.port.atReset
    rst :=
      { asserted := true, heldWarnings := [], heldWakes := [], accountNotice := false
        heaterMoved := decide (s.heater.atReset.state ≠ s.heater.state)
        fridgeMoved := decide (s.fridge.atReset.state ≠ s.fridge.state) } }

/-- RESET_ASSERT. -/
def execResetAssert (s : State) : Host.Outcome State Fault Refusal := .next (s.outOfReset State.assertReset)

/-! ### The end of a warm reset -/

/-- R204, steps 1 to 4. PART set at step 2 gives no WAKE pulse, also where the port was ASLEEP with PART
named in the mask until step 3 (DESIGN CHOICE, log entry 40: R204 and R203 do not say). -/
def Port.endReset (p : Port) : Port :=
  { p with
    mode := if p.mode = PartMode.selfTest then .uninit else p.mode
    flags := Notice.part.bit, enables := 0xFF#8, mask := 0x00#8, spacing := false, wait := false
    unanswered := false, asleep := false, asleepAtStart := false, cause := .warm }.workAttn

/-- R116, step 1: what was handed to the presenter is applied in the order it was handed. -/
def State.applyHeld (s : State) : List Handed → State
  | [] => s
  | .raise a t :: hs => (s.addEntry a t).applyHeld hs
  | .remove a t :: hs => (s.dropEntry a t).applyHeld hs

/-- R116, steps 2 and 3: the countdowns restart and the lamp is worked afresh. -/
def State.restartPresenter (s : State) : State :=
  { s with warn := { s.warn with entries := s.warn.entries.map Entry.restart }.workLamp }

/-- R101: the wake orders held through the reset are placed by R17, in the order in which they were
held (DESIGN CHOICE, log entry 38: R101 gives no order among them). -/
def State.placeHeld (s : State) : List HeldWake → State
  | [] => s
  | w :: ws => (s.placePart (wakeOrder w.side w.level w.fade s.clock.minute)).placeHeld ws

/-- R165: the heater at the end of the reset. -/
def State.heaterEndReset (s : State) (moved : Bool) : State :=
  ((s.writeFan (if s.heater.state = .cooldown then 1000 else 0)).withHeater (fun h =>
    { h with phase := if h.state = .cooldown then some h.params.cooldown else h.phase })).noticeIf
    (moved || decide (s.heater.state = .lockout)) .heater

/-- R179: the fridge at the end of the reset. -/
def State.fridgeEndReset (s : State) (moved : Bool) : State :=
  (s.withFridge (fun f => { f with offSeconds := 0 })).noticeIf (moved || decide (s.fridge.state = .fault)) .fridge

/-- R129: an input at the end of the reset: a pin that differs from the kept level has its timer running. -/
def Input.endReset (x : Input) : Input :=
  { x with timer := decide (x.pin ≠ x.level), fromReset := decide (x.pin ≠ x.level) }

/-- R129: debouncing starts afresh. -/
def Sense.endReset (x : Sense) : Sense :=
  { x with
    pbrake := x.pbrake.endReset, flame := x.flame.endReset, ovht := x.ovht.endReset, btnA := x.btnA.endReset
    btnB := x.btnB.endReset }

/-- The driving warnings of every account are tested (R101). -/
def State.testAllDriving (s : State) : State :=
  (((s.testDriving .s0).testDriving .s1).testDriving .s2).testDriving .s3

/-- The RESET line released, with nothing held any more, and the port at its values of R204. -/
def State.releaseReset (s : State) : State :=
  { s with
    port := s.port.endReset
    rst :=
      { asserted := false, heldWarnings := [], heldWakes := [], accountNotice := false, heaterMoved := false
        fridgeMoved := false }
    sense := s.sense.endReset }

/-- Table 31, line 3: a cooldown with cause SATISFIED whose order the pass that ends the reset does not present is a
stopped one (log entry 25). -/
def State.settleCause (s : State) : State :=
  s.withHeater (fun h =>
    { h with
      cause :=
        if h.state = .cooldown ∧ h.cause = some .satisfied ∧ h.presented = none then some .stopped else h.cause })

/-- The end of a warm reset (R101, R116, R165, R179, R204), in the order of log entry 25, with the one pass that ends
it. CHARGE is set where its attention holds (R61); a held removal of CHARGE_RESERVE that is applied here sets it no once
more, which is the model's choice (log entry 34). -/
def State.endReset (s : State) : State :=
  let s := s.testAllDriving
  let held := s.rst
  let s := ((s.releaseReset.applyHeld held.heldWarnings).restartPresenter.settle)
  let s := (s.placeHeld held.heldWakes).noticeIf held.accountNotice .account
  let s := (s.heaterEndReset held.heaterMoved).fridgeEndReset held.fridgeMoved
  let s := s.noticeIf s.charge.attention .charge
  ((s.moveAccounts.settle).pass).settleCause

/-- RESET_END. -/
def execResetEnd (s : State) : Host.Outcome State Fault Refusal :=
  .next (if s.rst.asserted then s.endReset else s)

end Sys2Proof.Machine
end

