-- ==== Sys2Proof/Machine/TimeCmds.lean ====
section
/-! DEFINITION. The timebase: TIMEBASE_SECOND and MINUTE_EXPIRY (R26, R77). -/
namespace Sys2Proof.Machine

/-- R26: the clock at a minute expiry; after 4,294,967,295 the cab minute is 0. -/
def Clock.minuteOn (c : Clock) : Clock :=
  { c with minute := if c.minute = maxMinute then 0 else c.minute + 1, prescaler := 0 }

/-- A minute expiry (R26, R58, R61): the cab minute advances, the net charge of the last minute is replaced, and a pass
runs out of reset. -/
def State.minuteExpiry (s : State) : State :=
  (({ s with clock := s.clock.minuteOn, charge := s.charge.minute }).chargeAttention).pass

/-- MINUTE_EXPIRY (R26). -/
def execMinuteExpiry (s : State) : Host.Outcome State Fault Refusal := .next s.minuteExpiry

/-- R26: the prescaler at a second. -/
def Clock.second (c : Clock) : Clock := { c with prescaler := if 59 ≤ c.prescaler then 0 else c.prescaler + 1 }

/-- The counters that run in every mode and while RESET is asserted: the prescaler, segment seconds and drive counters
(R26, R77, R86). -/
def State.secondHeldOut (s : State) : State :=
  { s with clock := s.clock.second, accounts := s.accounts.mapSome (Account.second s.sense.motion) }

/-- The counters of the blocks that a warm reset stops: warning countdowns, heater and fridge (R109, R116, R165, R179). A
second is taken as an event of a fridge in FAULT, whose off seconds count on (R175; DESIGN CHOICE, log entry 39). -/
def State.secondLoads (s : State) : State :=
  State.fridgeAttention
    { s with
      warn := { s.warn with entries := s.warn.entries.map Entry.second }
      heater := s.heater.second
      fridge := s.fridge.second }

/-- An operation on each of a list of slots in turn. -/
def State.forSlots (s : State) (f : State → Slot → State) : List Slot → State
  | [] => s
  | i :: is => (f s i).forSlots f is

/-- The slots whose account is DRIVING. -/
def State.drivers (s : State) : List Slot := s.slotsWhere (fun a => decide (a.state = .driving))

/-- R86: after the counters of the DRIVING account have advanced its driving warnings are tested. -/
def State.testDrivers (s : State) : State := s.forSlots State.testDriving s.drivers

/-- R168, R172: off seconds reach the min-off time at this second. -/
def State.minOffAtSecond (s : State) : State :=
  if s.fridge.state = .rest ∨ (s.fridge.state = .idle ∧ s.fridge.offSeconds = s.fridge.minOff) then s.minOffEnd else s

/-- What falls due in the loads at a second (R150, R153, R168, R169, R172 to R174). -/
def State.dueInLoads (s : State) : State :=
  ((((((s.runClearsCount).satisfiedStop).minOffAtSecond).fixedCycleOffEnd).fixedCycleOnEnd).runClearsStalls).warmRunComplete

/-- The events that fall due at a second, taken within it: the presenter's event first, then the minute expiry,
REST_DONE, the break and the driving warnings, then the loads (log entry 6). -/
def State.takeDue (s : State) (minute : Bool) : State :=
  let s := s.countdownZero
  let s := if minute then s.minuteExpiry else s
  let s := s.forSlots State.takeRestDone allSlots
  let s := (s.forSlots State.testBreak s.drivers).testDrivers
  s.outOfReset State.dueInLoads

/-- TIMEBASE_SECOND (R26, R77, R86, R109, R150, R153, R166, R174). With `whole` the events that fall due at this second
are taken within it; without, the counters advance and the driving warnings are tested (R86), and each event that falls
due is left to its own command. A driving warning raised then is taken before the countdowns that reach 0, and with
`whole` after them (R113). -/
def execTimebaseSecond (whole : Bool) (s : State) : Host.Outcome State Fault Refusal :=
  .next
    (let t := s.secondHeldOut.outOfReset State.secondLoads
     if whole then t.takeDue (decide (59 ≤ s.clock.prescaler)) else t.testDrivers)

end Sys2Proof.Machine
end

