-- ==== Sys2Proof/Machine/Dispatch.lean ====
section
/-! DEFINITION. The dispatch: one arm per command, each one direct call of its meaning. -/
namespace Sys2Proof.Machine

def exec (i : Instr) (s : State) : Host.Outcome State Fault Refusal :=
  match i with
  | .nop => Sys2Proof.Machine.execNop s
  | .stat => Sys2Proof.Machine.execStat s
  | .nfetch ack => Sys2Proof.Machine.execNfetch ack s
  | .nmask enables => Sys2Proof.Machine.execNmask enables s
  | .sleep mask => Sys2Proof.Machine.execSleep mask s
  | .init mode selfTest => Sys2Proof.Machine.execInit mode selfTest s
  | .shut => Sys2Proof.Machine.execShut s
  | .oplace arg => Sys2Proof.Machine.execOplace arg s
  | .oamend arg => Sys2Proof.Machine.execOamend arg s
  | .olook key => Sys2Proof.Machine.execOlook key s
  | .oretire key => Sys2Proof.Machine.execOretire key s
  | .olist => Sys2Proof.Machine.execOlist s
  | .tset minute => Sys2Proof.Machine.execTset minute s
  | .tlook => Sys2Proof.Machine.execTlook s
  | .bset horizon keepMargin => Sys2Proof.Machine.execBset horizon keepMargin s
  | .blook => Sys2Proof.Machine.execBlook s
  | .plan arg => Sys2Proof.Machine.execPlan arg s
  | .cset capacity reserve weight => Sys2Proof.Machine.execCset capacity reserve weight s
  | .csync charge => Sys2Proof.Machine.execCsync charge s
  | .clook => Sys2Proof.Machine.execClook s
  | .aopen slot tag bunk => Sys2Proof.Machine.execAopen slot tag bunk s
  | .aset slot bunk arg => Sys2Proof.Machine.execAset slot bunk arg s
  | .alook slot => Sys2Proof.Machine.execAlook slot s
  | .adeclRest slot => Sys2Proof.Machine.execAdeclRest slot s
  | .adeclEnd slot => Sys2Proof.Machine.execAdeclEnd slot s
  | .adeclWheel slot => Sys2Proof.Machine.execAdeclWheel slot s
  | .adeclRelease slot => Sys2Proof.Machine.execAdeclRelease slot s
  | .aretire slot => Sys2Proof.Machine.execAretire slot s
  | .xmode on => Sys2Proof.Machine.execXmode on s
  | .wlist => Sys2Proof.Machine.execWlist s
  | .wack source type => Sys2Proof.Machine.execWack source type s
  | .hset arg => Sys2Proof.Machine.execHset arg s
  | .hlook => Sys2Proof.Machine.execHlook s
  | .hclear clearFuel => Sys2Proof.Machine.execHclear clearFuel s
  | .fset seconds => Sys2Proof.Machine.execFset seconds s
  | .flook => Sys2Proof.Machine.execFlook s
  | .fclear => Sys2Proof.Machine.execFclear s
  | .lset arg => Sys2Proof.Machine.execLset arg s
  | .llook => Sys2Proof.Machine.execLlook s
  | .slook => Sys2Proof.Machine.execSlook s
  | .sset seconds => Sys2Proof.Machine.execSset seconds s
  | .unknownRequest arg => Sys2Proof.Machine.execUnknownRequest arg s
  | .frameStart => Sys2Proof.Machine.execFrameStart s
  | .coldStart => Sys2Proof.Machine.execColdStart s
  | .resetAssert => Sys2Proof.Machine.execResetAssert s
  | .resetEnd => Sys2Proof.Machine.execResetEnd s
  | .timebaseSecond whole => Sys2Proof.Machine.execTimebaseSecond whole s
  | .minuteExpiry => Sys2Proof.Machine.execMinuteExpiry s
  | .restDone slot => Sys2Proof.Machine.execRestDone slot s
  | .breakComplete slot => Sys2Proof.Machine.execBreakComplete slot s
  | .countdownZero => Sys2Proof.Machine.execCountdownZero s
  | .toneEnd => Sys2Proof.Machine.execToneEnd s
  | .endOfBurst => Sys2Proof.Machine.execEndOfBurst s
  | .wlampFlashPhase => Sys2Proof.Machine.execWlampFlashPhase s
  | .selftestEnd failed => Sys2Proof.Machine.execSelftestEnd failed s
  | .wakePulseEnd => Sys2Proof.Machine.execWakePulseEnd s
  | .wakeWaitExpiry => Sys2Proof.Machine.execWakeWaitExpiry s
  | .wakeSpacingExpiry => Sys2Proof.Machine.execWakeSpacingExpiry s
  | .preheatExpiry => Sys2Proof.Machine.execPreheatExpiry s
  | .ignitionLimitExpiry => Sys2Proof.Machine.execIgnitionLimitExpiry s
  | .provingExpiry => Sys2Proof.Machine.execProvingExpiry s
  | .cooldownExpiry => Sys2Proof.Machine.execCooldownExpiry s
  | .heaterRunClearsCount => Sys2Proof.Machine.execHeaterRunClearsCount s
  | .satisfiedStop => Sys2Proof.Machine.execSatisfiedStop s
  | .minOffEnd => Sys2Proof.Machine.execMinOffEnd s
  | .fixedCycleOnEnd => Sys2Proof.Machine.execFixedCycleOnEnd s
  | .fixedCycleOffEnd => Sys2Proof.Machine.execFixedCycleOffEnd s
  | .fridgeRunClearsStalls => Sys2Proof.Machine.execFridgeRunClearsStalls s
  | .warmRunComplete => Sys2Proof.Machine.execWarmRunComplete s
  | .fadeStep channel => Sys2Proof.Machine.execFadeStep channel s
  | .endOfPeriod timer => Sys2Proof.Machine.execEndOfPeriod timer s
  | .vspdWindowEnd edges => Sys2Proof.Machine.execVspdWindowEnd edges s
  | .tempWindowEnd channel edges => Sys2Proof.Machine.execTempWindowEnd channel edges s
  | .tachWindowEnd edges => Sys2Proof.Machine.execTachWindowEnd edges s
  | .qchgPulse => Sys2Proof.Machine.execQchgPulse s
  | .qdisPulse => Sys2Proof.Machine.execQdisPulse s
  | .pinChange input level => Sys2Proof.Machine.execPinChange input level s
  | .debounceExpiry input held => Sys2Proof.Machine.execDebounceExpiry input held s
  | .longPress side => Sys2Proof.Machine.execLongPress side s
  | .pressClassifierWaitEnd => Sys2Proof.Machine.execPressClassifierWaitEnd s

end Sys2Proof.Machine
end

