-- ==== Sys2Proof/Safety.lean ====
section
/-! DEFINITION. What counts as a legal state of the SC-340, in the terms the statements use: one predicate for each
block, taken from the laws of its chapter, and the words the statements share about frames and replies. -/
namespace Sys2Proof.Machine

/-! ### The port -/

/-- R199, R204: ATTN is asserted while the port is AWAKE, RESET is released and an enabled flag is set, and at no other
time. -/
def AttnLaw (s : State) : Prop :=
  s.port.attn = (!s.rst.asserted && !s.port.asleep && decide (s.port.flags &&& s.port.enables ≠ 0#8))

/-- R202, R203, R204: the wake wait runs only while the port is ASLEEP, and WAKE and ATTN are negated while RESET is
asserted. -/
def WakeLaw (s : State) : Prop :=
  (s.port.wait = true → s.port.asleep = true) ∧ (s.rst.asserted = true → s.port.wake = false ∧ s.port.attn = false)

/-! ### Orders and the allocator -/

/-- Table 6: the part's own keys with their loads and origins, and the host's. -/
def Order.keyFits (o : Order) : Prop :=
  (1 ≤ o.key ∧ o.key ≤ 240 ∧ o.origin = .host) ∨
  (o.key = 241 ∧ o.load = .readA ∧ o.origin = .button) ∨ (o.key = 242 ∧ o.load = .readB ∧ o.origin = .button) ∨
  (o.key = 243 ∧ o.load = .readA ∧ o.origin = .wake) ∨ (o.key = 244 ∧ o.load = .readB ∧ o.origin = .wake)

/-- R5, Table 8: the target has the form of its load, and each figure of it lies in its range. -/
def Order.targetFits (o : Order) : Prop :=
  match o.load, o.target with
  | .heater, .setpoint t => 50 ≤ t ∧ t ≤ 300
  | .fridge, .setpoint t => -200 ≤ t ∧ t ≤ 100
  | .heater, .light _ _ => False
  | .fridge, .light _ _ => False
  | _, .light level fade => level ≤ 1000 ∧ fade ≤ 1800
  | _, .setpoint _ => False

/-- R6, R14: a start ANCHORED to a slot names an open one, with an offset in its range. -/
def Order.anchorFits (s : State) (o : Order) : Prop :=
  match o.start with
  | .anchored i _ offset => (s.account i).isSome = true ∧ -720 ≤ offset ∧ offset ≤ 720
  | _ => True

/-- R1, R2, R5, R6, R14, R17: the order table is in ascending key order without a key twice, holds at most 24 orders, each
with a key, a load, a target and an anchor that fit, none ANCHORED to an empty slot, and is empty in UNINIT and SELFTEST;
and so do the target figures of the wake orders held through a reset (R81, R101). -/
def OrderLaw (s : State) : Prop :=
  s.orders.Pairwise (fun a b => a.key < b.key) ∧ s.orders.length ≤ 24 ∧
  (∀ o ∈ s.orders, o.keyFits ∧ o.targetFits ∧ o.anchorFits s) ∧
  (∀ w ∈ s.rst.heldWakes, w.level ≤ 1000 ∧ w.fade ≤ 1800) ∧
  (s.port.mode = .uninit ∨ s.port.mode = .selfTest → s.orders = [])

/-- R35: for each load at most one order is ACTIVE, and none while its load is in LOCKOUT or in FAULT. -/
def ActiveLaw (s : State) : Prop :=
  (∀ a ∈ s.orders, ∀ b ∈ s.orders, a.state = .active → b.state = .active → a.load = b.load → a.key = b.key) ∧
  (s.heater.state = .lockout → ∀ o ∈ s.orders, o.load = .heater → o.state ≠ .active) ∧
  (s.fridge.state = .fault → ∀ o ∈ s.orders, o.load = .fridge → o.state ≠ .active)

/-- The load block of a load holds this presentation. -/
def State.presented (s : State) : Load → Option Presented
  | .heater => s.heater.presented
  | .fridge => s.fridge.presented
  | .readA => s.lights.readA.presented
  | .readB => s.lights.readB.presented
  | .cabLight => s.lights.cabLight.presented
  | .nightLight => s.lights.nightLight.presented

/-- R12: each load block holds the key, target and class of the order ACTIVE for its load, or nothing. -/
def PresentationLaw (s : State) : Prop := ∀ load : Load, s.presented load = presentedFor load s.orders

/-- R45: the sum of the forecasts of the ESSENTIAL orders that are ACTIVE. -/
def essentialShare (os : List Order) : Nat :=
  ((os.filter (fun o => decide (o.state = .active) && decide (o.cls = .essential))).map Order.forecast).sum

/-- R45: outside WORKSHOP the committed charge exceeds neither the ESSENTIAL share of it nor the usable charge recorded
with it plus the keep margin, whichever is the greater. -/
def CommittedLaw (s : State) : Prop :=
  s.port.mode ≠ .workshop → s.alloc.committed ≤ max (essentialShare s.orders) (s.alloc.usable + s.alloc.keepMargin)

/-! ### The charge account -/

/-- R53, R58 and Table 16: the ranges of the charge account, and no residue above a full count. -/
def ChargeLaw (s : State) : Prop :=
  10000 ≤ s.charge.capacity ∧ s.charge.capacity ≤ 1000000 ∧ s.charge.reserve < s.charge.capacity ∧
  1 ≤ s.charge.weight ∧ s.charge.weight ≤ 36000 ∧ s.charge.count ≤ s.charge.capacity ∧ s.charge.residue < 3600 ∧
  (s.charge.count = s.charge.capacity → s.charge.residue = 0) ∧
  -2147483647 ≤ s.charge.tally ∧ s.charge.tally ≤ 2147483647 ∧
  -596523 ≤ s.charge.netLast ∧ s.charge.netLast ≤ 596523

/-! ### The rest accounts -/

/-- Table 18: the ranges of a settings set. -/
def Settings.inRange (t : Settings) : Prop :=
  60 ≤ t.rest ∧ t.rest ≤ 1440 ∧ 15 ≤ t.segment ∧ t.segment ≤ t.rest ∧ 60 ≤ t.drive ∧ t.drive ≤ 600 ∧ t.lead ≤ 60 ∧
  15 ≤ t.pause ∧ t.pause ≤ 120 ∧ 60 ≤ t.daily ∧ t.daily ≤ 900 ∧ t.wakeLevel ≤ 1000 ∧ 1 ≤ t.wakeRamp ∧ t.wakeRamp ≤ 30

/-- REST_END is EXPECTED. -/
def Account.expectedEnd (a : Account) : Bool :=
  match a.restEnd with
  | some (.expected _) => true
  | _ => false

/-- Table 17 and R83, R90: the ranges of one account, a segment that runs only while RESTING, a staged set only while
the rest is declared, and an EXPECTED REST_END only while RESTING and not rested. -/
def Account.legal (a : Account) : Prop :=
  1 ≤ a.tag ∧ a.settings.inRange ∧ (∀ t, a.staged = some t → t.inRange) ∧
  (a.staged.isSome = true → a.declared = true) ∧
  a.segSeconds ≤ 16777215 ∧ (a.state ≠ .resting → a.segSeconds = 0) ∧
  (∀ m, a.lastSegment = some m → m ≤ 279620) ∧ a.accumulated ≤ 2880 ∧
  a.contSeconds ≤ 16777215 ∧ a.breakSeconds ≤ 16777215 ∧ a.dailySeconds ≤ 16777215 ∧
  (a.expectedEnd = true ↔ a.state = .resting ∧ a.rested = false)

/-- R68, R70, R71, R91: no tag and no bunk twice, one account DRIVING at most, RESTING exactly when a rest is declared at
a standstill, and the quiet flag set exactly while an account with a bunk has declared a rest. -/
def AccountLaw (s : State) : Prop :=
  (∀ i a, s.account i = some a → a.legal) ∧
  (∀ i j a b, s.account i = some a → s.account j = some b → i ≠ j →
    a.tag ≠ b.tag ∧ (a.bunk ≠ .noBunk → a.bunk ≠ b.bunk) ∧ ¬(a.state = .driving ∧ b.state = .driving)) ∧
  (∀ i a, s.account i = some a →
    (a.state = .resting → s.standstill = true) ∧ (a.state = .restWait → s.standstill = false)) ∧
  s.quiet = s.quietNow

/-! ### The warning presenter -/

/-- Table 21 and R111: next burst due stands in QUEUED out of reset and is absent in SILENCED and LAMP_ONLY, an event
entry is never SILENCED, the counts are in their ranges, and only a QUEUED entry at 0 is still to fall due. -/
def Entry.legal (s : State) (e : Entry) : Prop :=
  pairMatches e.source e.type = true ∧ e.bursts ≤ 65535 ∧ (∀ n, e.due = some n → n ≤ 600) ∧
  (e.state = .silenced ∨ e.state = .lampOnly → e.due = none) ∧
  (e.state = .queued → s.rst.asserted = false → e.due ≠ none) ∧
  (e.state = .silenced → e.type.isEvent = false) ∧
  (e.state = .presenting → e.type.interval ≠ none → e.due ≠ none) ∧
  (e.state = .queued ∨ e.state = .presenting → e.atLimit = false) ∧
  (e.falling = true → e.state = .queued ∧ e.due = some 0)

/-- R107, R108, R111: an entry is PRESENTING only while the chime sounds the burst that began for it, and a burst that
belongs to an entry belongs to one of the list that is PRESENTING, or SILENCED since it began. -/
def Warn.burstFits (w : Warn) : Prop :=
  (∀ e ∈ w.entries, e.state = .presenting → ∃ n snd, w.chime = .sounding e.source e.type n snd true) ∧
  (∀ a t n snd, w.chime = .sounding a t n snd true →
    ∃ e ∈ w.entries, e.source = a ∧ e.type = t ∧ (e.state = .presenting ∨ e.state = .silenced))

/-- R116: a raise or a removal that is held names a pair of Table 22. -/
def Handed.legal : Handed → Prop
  | .raise a t => pairMatches a t = true
  | .remove a t => pairMatches a t = true

/-- R102, R107, R108, R110, R116: no pair twice (the stored list is in the order of `pairPlace`), each entry legal, at
most the entry of the burst PRESENTING, no burst in SELFTEST or while RESET is asserted, and the lamp as the list has
it. -/
def WarnLaw (s : State) : Prop :=
  s.warn.entries.Pairwise (fun a b => pairPlace a.source a.type < pairPlace b.source b.type) ∧
  (∀ e ∈ s.warn.entries, e.legal s) ∧ (∀ h ∈ s.rst.heldWarnings, h.legal) ∧ s.warn.burstFits ∧
  (s.rst.asserted = true ∨ s.port.mode = .selfTest → s.warn.chime = .idle) ∧
  s.warn.lamp = (if s.rst.asserted then .off else lampOf s.warn.entries)

/-! ### The heater and the fridge -/

/-- The heater feeds fuel: IGNITION, PROVING and RUN. -/
def HeaterState.burning (h : HeaterState) : Bool :=
  decide (h = .ignition) || decide (h = .proving) || decide (h = .run)

/-- GLOW is on: PREHEAT, IGNITION and PROVING (Table 29). -/
def HeaterState.glows (h : HeaterState) : Bool :=
  decide (h = .preheat) || decide (h = .ignition) || decide (h = .proving)

/-- A phase is timed: PREHEAT, IGNITION, PROVING and COOLDOWN (Table 28). -/
def HeaterState.timed (h : HeaterState) : Bool := h.glows || decide (h = .cooldown)

/-- R142, R152 and Tables 28 and 29: the outputs and the optional items that each state has, a level of at most 3 while
quiet, and a failed-start count of 3 that leads to LOCKOUT. R144, R149, R157, R165: no order is presented while RESET is
asserted, one is presented in OFF only while OVHT is active (a held start), and in a COOLDOWN that Table 31 can end in
PREHEAT restart-pending is set while one is presented. -/
def HeaterLaw (s : State) : Prop :=
  s.heater.glow = s.heater.state.glows ∧ s.timers.t4.running = s.heater.state.burning ∧
  s.heater.phase.isSome = s.heater.state.timed ∧ s.heater.cause.isSome = decide (s.heater.state = .cooldown) ∧
  (s.heater.state = .run → 1 ≤ s.heater.level ∧ s.heater.level ≤ 4 ∧ 1 ≤ s.heater.desired ∧ s.heater.desired ≤ 4) ∧
  (s.heater.state ≠ .run → s.heater.level = 0 ∧ s.heater.desired = 0) ∧
  (s.heater.satisfy.isSome = true → s.heater.state = .run ∧ s.heater.level = 1) ∧
  (s.quiet = true → s.heater.level ≤ 3) ∧ s.heater.failed ≤ 3 ∧
  (s.heater.failed = 3 → s.heater.state = .lockout ∨
    (s.heater.state = .cooldown ∧ (s.heater.cause = some .failedStart ∨ s.heater.cause = some .overheat))) ∧
  (s.heater.restart = true → s.heater.state = .cooldown ∧ s.heater.presented.isSome = true) ∧
  (s.heater.presented = none → s.heater.state = .off ∨ s.heater.state = .cooldown ∨ s.heater.state = .lockout) ∧
  (s.heater.state = .lockout → s.heater.presented = none) ∧
  (s.rst.asserted = false → s.heater.cause = some .satisfied → s.heater.presented.isSome = true) ∧
  (s.rst.asserted = true → s.heater.presented = none) ∧
  (s.heater.state = .off → s.heater.presented.isSome = true → s.sense.ovht.level = true) ∧
  (s.heater.state = .cooldown → s.heater.presented.isSome = true →
    s.heater.cause = some .stopped ∨ (s.heater.cause = some .failedStart ∧ s.heater.failed < 3) →
    s.heater.restart = true)

/-- The compressor is on: START and RUN (Table 35). -/
def FridgeState.turning (f : FridgeState) : Bool := decide (f = .start) || decide (f = .run)

/-- R166, R169, R170, R173 and Tables 34 and 35: the outputs and the optional items that each state has, speed 1 at most
while quiet or with C3 faulted, and a stall count of 3 in FAULT alone. -/
def FridgeLaw (s : State) : Prop :=
  s.fridge.compressor = s.fridge.state.turning ∧ s.timers.t6.running = s.fridge.state.turning ∧
  s.fridge.onSeconds.isSome = s.fridge.state.turning ∧
  s.fridge.startWindows.isSome = decide (s.fridge.state = .start) ∧
  s.fridge.lowWindows.isSome = decide (s.fridge.state = .run) ∧
  s.fridge.runSeconds.isSome = decide (s.fridge.state = .run) ∧
  (∀ n, s.fridge.startWindows = some n → n < 10) ∧ (∀ n, s.fridge.lowWindows = some n → n < 5) ∧
  (s.fridge.state = .start → s.fridge.speed = 1) ∧
  (s.fridge.state = .run → 1 ≤ s.fridge.speed ∧ s.fridge.speed ≤ 3) ∧
  (s.fridge.state.turning = false → s.fridge.speed = 0) ∧
  (s.quiet = true ∨ s.sense.fridgeT.fault = true → s.fridge.speed ≤ 1) ∧
  (s.fridge.stalls ≤ 3 ∧ (s.fridge.stalls = 3 ↔ s.fridge.state = .fault)) ∧
  120 ≤ s.fridge.minOff ∧ s.fridge.minOff ≤ 600 ∧ s.fridge.offSeconds ≤ 65535 ∧
  (s.fridge.presented = none → s.fridge.state = .off ∨ s.fridge.state = .rest ∨ s.fridge.state = .fault) ∧
  (s.fridge.presented ≠ none → s.fridge.state ≠ .off ∧ s.fridge.state ≠ .fault) ∧
  (s.fridge.warmRun.isSome = true → s.fridge.monitored.isSome = true)

/-! ### The lights -/

/-- R180, R181: a channel's target and fade time are those of the order presented for it, or 0 over 1 s with none; what it
pursues is its effective target, a fade has steps left, and its timer has been given its duty (none while the timer is
stopped). -/
def LightId.legal (s : State) (i : LightId) : Prop :=
  (∀ p, (s.channel i).presented = some p → ∀ level fade, p.target = .light level fade →
    (s.channel i).target = level ∧ (s.channel i).fadeTime = fade) ∧
  ((s.channel i).presented = none → (s.channel i).target = 0 ∧ (s.channel i).fadeTime = 1) ∧
  (s.channel i).effective = s.effectiveOf i (s.channel i).target ∧
  (s.channel i).pursued = (s.channel i).effective ∧
  (∀ f, (s.channel i).fade = some f → f.taken < f.steps) ∧
  (s.channel i).duty =
    (if (s.timers.get i.timer).running then
      (if (s.timers.get i.timer).pending then (s.timers.get i.timer).shadowOn else (s.timers.get i.timer).onCmp)
     else 0)

/-- R183: while the quiet flag is set the CAB_LIGHT duty, and each end of its fade, is at or below the quiet cap. -/
def CabLightLaw (s : State) : Prop :=
  s.quiet = true →
    (s.channel .cabLight).duty ≤ s.lights.quietCap ∧
    ∀ f, (s.channel .cabLight).fade = some f → f.from_ ≤ s.lights.quietCap ∧ f.to_ ≤ s.lights.quietCap

/-- R180, R181 and R183 for the four channels. -/
def LightLaw (s : State) : Prop := (∀ i, LightId.legal s i) ∧ CabLightLaw s

/-! ### Sensing and the timer bank -/

/-- A temperature channel stays in the range of R121, with a valid run of at most 3 that is below 3 while faulted. -/
def TempChannel.legal (c : TempChannel) : Prop :=
  -500 ≤ c.value ∧ c.value ≤ 500 ∧ c.count ≤ 65535 ∧ c.validRun ≤ 3 ∧ (c.fault = true ↔ c.validRun < 3)

/-- R121, R126, R127: the ranges of sensing; a detector that is STOPPING has not reached the settle time. -/
def SenseLaw (s : State) : Prop :=
  s.sense.cab.legal ∧ s.sense.fridgeT.legal ∧ s.sense.outside.legal ∧ s.sense.vspdCount ≤ 65535 ∧
  s.sense.tachRate ≤ 65535 ∧ 10 ≤ s.sense.settleTime ∧ s.sense.settleTime ≤ 600 ∧ s.sense.settleCount ≤ 6000 ∧
  (s.sense.motion = .stopping → s.sense.settleCount < s.sense.settleTime * 10)

/-- R134, R136: a STOPPED timer holds its counter at 0 and no pending pair. -/
def TimerLaw (s : State) : Prop :=
  ∀ i, (s.timers.get i).running = false → (s.timers.get i).counter = 0 ∧ (s.timers.get i).pending = false

/-! ### The RESET line -/

/-- R101, R116, R165, R179: what the blocks hold for the end of a warm reset is empty while RESET is released. -/
def HeldLaw (s : State) : Prop :=
  s.rst.asserted = false →
    s.rst.heldWarnings = [] ∧ s.rst.heldWakes = [] ∧ s.rst.accountNotice = false ∧ s.rst.heaterMoved = false ∧
    s.rst.fridgeMoved = false

/-! ### Frames and replies -/

/-- The port serves a request: RESET is released and the mode is not SELFTEST (R192, R204). -/
def State.serves (s : State) : Prop := s.rst.asserted = false ∧ s.port.mode ≠ .selfTest

/-- The port serves an order request: also not in UNINIT (R18). -/
def State.servesOrder (s : State) : Prop :=
  s.rst.asserted = false ∧ (s.port.mode = .normal ∨ s.port.mode = .workshop)

/-- A frame has ended with a reply pending (R191). -/
def State.answers (t : State) (r : Reply) : Prop := t.port.reply = some r ∧ t.port.inFrame = false

/-- The port after a frame that changed nothing but what a frame changes (R191, R202): the reply, what was clocked out,
the return to AWAKE with the end of the wake wait, and ATTN. -/
def Port.frameOnly (p q : Port) : Prop :=
  q.mode = p.mode ∧ q.flags = p.flags ∧ q.enables = p.enables ∧ q.mask = p.mask ∧ q.wake = p.wake ∧
  q.spacing = p.spacing ∧ q.unanswered = p.unanswered ∧ q.selfTest = p.selfTest ∧ q.cause = p.cause ∧
  q.initMode = p.initMode ∧
  (q.asleep = true → p.inFrame = true ∧ p.asleep = true) ∧
  q.miso = (if p.inFrame then p.miso else p.reply)

/-- Nothing but the port's frame has changed (R193). -/
def State.frameOnly (s t : State) : Prop := t = { s with port := t.port } ∧ s.port.frameOnly t.port

/-- The port's settings and results are kept, and no flag is cleared: what a block that sets notices, and a frame, leave
of the port (R199, R202). -/
def Port.settingsKept (p q : Port) : Prop :=
  q.mode = p.mode ∧ q.enables = p.enables ∧ q.mask = p.mask ∧ q.unanswered = p.unanswered ∧ q.selfTest = p.selfTest ∧
  q.cause = p.cause ∧ q.initMode = p.initMode ∧ p.flags &&& q.flags = p.flags

/-- The cab clock, the charge account, the rest accounts, sensing and the RESET line are unchanged. -/
def State.recordsKept (s t : State) : Prop :=
  t.clock = s.clock ∧ t.charge = s.charge ∧ t.accounts = s.accounts ∧ t.transport = s.transport ∧ t.quiet = s.quiet ∧
  t.sense = s.sense ∧ t.rst = s.rst

/-- What no presentation of an order changes in the load blocks: the parameters, the counts of failures and the cooling
call (R145, R167, R180). -/
def State.loadSettingsKept (s t : State) : Prop :=
  t.heater.params = s.heater.params ∧ t.heater.fuel = s.heater.fuel ∧ t.heater.failed = s.heater.failed ∧
  t.fridge.minOff = s.fridge.minOff ∧ t.fridge.stalls = s.fridge.stalls ∧ t.fridge.call = s.fridge.call ∧
  t.lights.quietCap = s.lights.quietCap ∧
  ∀ i, (t.channel i).polarity = (s.channel i).polarity ∧ (t.channel i).fullDraw = (s.channel i).fullDraw

/-- R135, R136: a timer that runs with, or will take at the end of its period, this on-time and this period. -/
def Timer.given (t : Timer) (on per : Nat) : Prop :=
  t.running = true ∧ t.shadowOn = on ∧ t.shadowPer = per ∧ (t.pending = false → t.onCmp = on ∧ t.perCmp = per)

/-- Only the cause of a SATISFIED cooldown with no order presented, which the end of a warm reset makes STOPPED (log entry
25), differs. -/
def Heater.causeSettled (h k : Heater) : Prop :=
  k = { h with cause := k.cause } ∧
  (k.cause = h.cause ∨
    (h.state = .cooldown ∧ h.presented = none ∧ h.cause = some .satisfied ∧ k.cause = some .stopped))

/-- R144, R145: what the heater does as a pass presents it an order where it had none, or none where it had one; a change of
the key or of the setpoint alone moves nothing. R160: HEATER is set at each change of the heater's state. -/
def State.heaterWorked (s t : State) : Prop :=
  (t.heater.state ≠ s.heater.state → Notice.heater.inByte t.port.flags = true) ∧
  ∀ h, h = { s.heater with presented := t.heater.presented } →
    (s.heater.presented.isSome = t.heater.presented.isSome →
      h.causeSettled t.heater ∧ t.timers.t4 = s.timers.t4 ∧ t.timers.t5 = s.timers.t5) ∧
    (s.heater.presented = none → t.heater.presented ≠ none →
      (s.heater.state = .off → s.sense.ovht.level = false →
        t.heater =
          { h with
            state := .preheat, glow := true
            phase :=
              some
                (if s.sense.outside.fault ∨ s.sense.outside.value < -200 then 2 * s.heater.params.preheat
                 else s.heater.params.preheat) } ∧
        t.timers.t5.given 200 1000) ∧
      (s.heater.state = .off → s.sense.ovht.level = true → t.heater = h) ∧
      (s.heater.state = .cooldown → t.heater = { h with restart := true }) ∧
      (s.heater.state ≠ .off → s.heater.state ≠ .cooldown → t.heater = h)) ∧
    (s.heater.presented ≠ none → t.heater.presented = none →
      (s.heater.state = .preheat ∨ s.heater.state = .satisfied →
        t.heater = { h with state := .off, phase := none, glow := false } ∧ t.timers.t5.given 0 1000) ∧
      (s.heater.state.burning = true →
        t.heater =
          { h with
            state := .cooldown, glow := false, phase := some s.heater.params.cooldown, cause := some .stopped
            level := 0, desired := 0, satisfy := none } ∧
        t.timers.t4.running = false ∧ t.timers.t5.given 1000 1000) ∧
      (s.heater.state = .cooldown →
        t.heater =
          { h with
            restart := false
            cause := if s.heater.cause = some .satisfied then some .stopped else s.heater.cause }) ∧
      (s.heater.state = .off ∨ s.heater.state = .lockout → t.heater = h))

/-- R168, R173: the start test in IDLE holds. -/
def State.fridgeStarts (s : State) : Prop :=
  (s.sense.fridgeT.fault = true ∧ 1200 ≤ s.fridge.offSeconds) ∨
  (s.sense.fridgeT.fault = false ∧ s.fridge.call = true ∧ s.fridge.minOff ≤ s.fridge.offSeconds)

/-- R167, R168: what the fridge does as a pass presents it an order where it had none, or none where it had one. R175:
FRIDGE is set at each change of the fridge's state. -/
def State.fridgeWorked (s t : State) : Prop :=
  (t.fridge.state ≠ s.fridge.state → Notice.fridge.inByte t.port.flags = true) ∧
  ∀ f,
    f =
      { s.fridge with
        presented := t.fridge.presented, monitored := t.fridge.monitored, warmRun := t.fridge.warmRun } →
    (s.fridge.presented.isSome = t.fridge.presented.isSome → t.fridge = f ∧ t.timers.t6 = s.timers.t6) ∧
    (s.fridge.presented = none → t.fridge.presented ≠ none →
      (s.fridge.state = .off → s.fridgeStarts →
        t.fridge =
          { f with state := .start, compressor := true, speed := 1, onSeconds := some 0, startWindows := some 0 } ∧
        t.timers.t6.given 400 1000) ∧
      (s.fridge.state = .off → ¬s.fridgeStarts → t.fridge = { f with state := .idle }) ∧
      (s.fridge.state ≠ .off → t.fridge = f)) ∧
    (s.fridge.presented ≠ none → t.fridge.presented = none →
      (s.fridge.state = .idle → t.fridge = { f with state := .off }) ∧
      (s.fridge.state.turning = true →
        t.fridge =
          { f with
            state := .rest, compressor := false, speed := 0, offSeconds := 0, onSeconds := none
            startWindows := none, lowWindows := none, runSeconds := none } ∧
        t.timers.t6.running = false) ∧
      (s.fridge.state ≠ .idle → s.fridge.state.turning = false → t.fridge = f))

/-- R174: the setpoint that is monitored after a pass: that of a FRIDGE order that is ACTIVE or WAITING, else, in a table
without a key twice, in key order, that of the BLOCKED one with the lowest key; with none of these the monitoring ceases,
the warm run ends and FRIDGE_WARM is removed. -/
def State.monitorWorked (s t : State) : Prop :=
  (∀ x, t.fridge.monitored = some x →
    t.fridge.warmRun = s.fridge.warmRun ∧ (∀ e : Entry, e ∈ t.warn.entries ↔ e ∈ s.warn.entries) ∧
    ∃ o ∈ t.orders, o.load = .fridge ∧ (∀ y, o.target = .setpoint y → x = y) ∧
      (o.state = .active ∨ o.state = .waiting ∨
        (o.state = .blocked ∧
          (∀ p ∈ t.orders, p.load = .fridge → p.state ≠ .active ∧ p.state ≠ .waiting) ∧
          (s.orders.Pairwise (fun a b => a.key < b.key) →
            ∀ p ∈ t.orders, p.load = .fridge → p.state = .blocked → o.key ≤ p.key)))) ∧
  (t.fridge.monitored = none →
    t.fridge.warmRun = none ∧ (HeldLaw s → hasPair .part .fridgeWarm t.warn.entries = false) ∧
    ∀ o ∈ t.orders, o.load = .fridge → o.state ≠ .active ∧ o.state ≠ .waiting ∧ o.state ≠ .blocked)

/-- R180, R181: a channel that is given an effective target: a fade begins from the present duty over these steps where the
target is not the figure already pursued, and with no steps the duty is the target at once. -/
def Channel.pursue (c : Channel) (effective steps : Nat) : Channel :=
  if effective = c.pursued then { c with effective := effective }
  else if steps = 0 then { c with effective := effective, duty := effective, fade := none }
  else
    { c with
      effective := effective
      fade := some { from_ := c.duty, to_ := effective, taken := 0, steps := steps } }

/-- R183: CAB_LIGHT held to a quiet cap: the duty is no higher than the cap, a fade that runs is replaced by one from there
over the steps that were left, and with none running one begins over the full fade time. -/
def Channel.heldTo (c : Channel) (cap : Nat) : Channel :=
  match c.fade with
  | none => { c with duty := min c.duty cap }.pursue (min c.target cap) (c.fadeTime * 100)
  | some f =>
    if f.taken < f.steps then
      { c with
        effective := min c.target cap, duty := min c.duty cap
        fade :=
          some { from_ := min c.duty cap, to_ := min c.target cap, taken := 0, steps := f.steps - f.taken } }
    else { c with effective := min c.target cap, duty := min c.target cap, fade := none }

/-- R181: a channel's timer is written with a new duty, over a period of 1,000 ticks, and only with a new one. -/
def State.lampDriven (s t : State) (i : LightId) : Prop :=
  ((t.channel i).duty = (s.channel i).duty → t.timers.get i.timer = s.timers.get i.timer) ∧
  ((t.channel i).duty ≠ (s.channel i).duty → (t.timers.get i.timer).given (t.channel i).duty 1000)

/-- R180 to R182: every channel has read its presentation: its target and fade time are the presented order's, or 0 over 1 s
with none, and it pursues the effective target over that fade time. -/
def State.lightsWorked (s t : State) : Prop :=
  ∀ i : LightId, s.lampDriven t i ∧
    ∀ level fade,
      ((t.channel i).presented = none ∧ level = 0 ∧ fade = 1) ∨
        (∃ p, (t.channel i).presented = some p ∧ p.target = .light level fade) →
      t.channel i =
        { s.channel i with
          presented := (t.channel i).presented, target := level, fadeTime := fade }.pursue
          (if i = LightId.cabLight ∧ s.quiet = true then min level s.lights.quietCap else level) (fade * 100)

/-- R110: the lamp has been worked afresh over the list as it stands; an entry into FLASHING starts with its on-phase. -/
def Warn.lampWorked (w v : Warn) : Prop :=
  v.lamp = lampOf v.entries ∧ (v.lamp = .off → v.lampOn = false) ∧ (v.lamp = .steady → v.lampOn = true) ∧
  (v.lamp = .flashing → v.lampOn = true ∨ (w.lamp = .flashing ∧ v.lampOn = w.lampOn))

/-- R105, R108: FRIDGE_WARM has been removed, or nothing of the presenter has changed; a burst that was FRIDGE_WARM's goes
on and belongs to no entry. -/
def Warn.fridgeWarmGone (w v : Warn) : Prop :=
  (hasPair .part .fridgeWarm v.entries = hasPair .part .fridgeWarm w.entries → v = w) ∧
  (hasPair .part .fridgeWarm v.entries ≠ hasPair .part .fridgeWarm w.entries →
    v.entries = w.entries.filter (fun e => !(decide (e.source = .part) && decide (e.type = .fridgeWarm))) ∧
    v.chime =
      (match w.chime with
       | .idle => .idle
       | .sounding a x n snd owned =>
         .sounding a x n snd (owned && !(decide (a = .part) && decide (x = .fridgeWarm)))) ∧
    w.lampWorked v)

/-- What an allocation pass leaves of a state (R33): the orders and the committed charge that its reading decides, the
usable charge and the minute of the pass (R47), the ORDER notice exactly for a removal or a change of state (R48), each
load block with its ACTIVE order (R12), the heater and the fridge as they answer to it (R144, R145, R160, R167, R175), the
lights as they pursue it (R180 to R182), the monitored setpoint (R174), the presenter but for FRIDGE_WARM, and every other
record as it was. -/
def State.afterPass (s t : State) : Prop :=
  t.orders = (s.reading.run s.orders).orders ∧
  t.alloc =
    { s.alloc with
      committed := (s.reading.run s.orders).committed, usable := s.charge.usable, passMinute := s.clock.minute } ∧
  Notice.order.inByte t.port.flags =
    (Notice.order.inByte s.port.flags || (s.reading.run s.orders).removed || (s.reading.run s.orders).changed) ∧
  (∀ load : Load, t.presented load = presentedFor load t.orders) ∧
  (∀ e : Entry, e.isPair .part .fridgeWarm = false → (e ∈ t.warn.entries ↔ e ∈ s.warn.entries)) ∧
  s.warn.fridgeWarmGone t.warn ∧ s.heaterWorked t ∧ s.fridgeWorked t ∧ s.lightsWorked t ∧ s.monitorWorked t ∧
  s.recordsKept t ∧ s.loadSettingsKept t ∧ s.port.settingsKept t.port ∧ t.timers.t7 = s.timers.t7

/-- The three driving warnings (R89). -/
def isDriving (w : WarnType) : Bool :=
  decide (w = .driveNear) || decide (w = .driveOver) || decide (w = .dailyOver)

/-- The pairs of the accounts' own warnings (Table 22). -/
def accountPairs : List (Source × WarnType) :=
  allSlots.flatMap (fun i =>
    [WarnType.driveOver, .dailyOver, .driveNear, .restDone, .restShort].map (fun w => (.slot i, w)))

/-- R106: the first entry ranks above the second, or beside it: the higher severity, then the earlier minute, then the
lower source. -/
def Entry.ranksFirst (e x : Entry) : Prop :=
  x.type.severity < e.type.severity ∨
  (x.type.severity = e.type.severity ∧
    (e.raisedAt < x.raisedAt ∨ (e.raisedAt = x.raisedAt ∧ e.source.index ≤ x.source.index)))

/-- R107, R109: no entry that has fallen due is suppressed, and one waits only behind a sounding chime or in SELFTEST. -/
def State.dueSettled (s : State) : Prop :=
  ∀ e ∈ s.warn.entries, e.ready = true →
    s.suppressed e = false ∧ (s.warn.chime ≠ .idle ∨ s.port.mode = .selfTest)

/-- Table 21, R104: the entry that a raise adds: QUEUED, no burst made, and due at once. -/
def Entry.atRaise (source : Source) (type : WarnType) (now : Nat) : Entry :=
  { source := source, type := type, raisedAt := now, state := .queued, bursts := 0, due := some 0, falling := false }

/-- R109: an entry whose due burst has been counted as made without sound. -/
def Entry.silent (e : Entry) : Entry :=
  match e.type.limit with
  | some n =>
    if n ≤ gain 65535 e.bursts then { e with bursts := gain 65535 e.bursts, state := .lampOnly, due := none }
    else { e with bursts := gain 65535 e.bursts, due := e.type.interval }
  | none => { e with bursts := gain 65535 e.bursts, due := e.type.interval }

/-- R107: an entry for which a burst has begun. -/
def Entry.taken (e : Entry) : Entry :=
  { e with state := .presenting, due := e.type.interval, falling := false }

/-- R109: the entry is found suppressed, or not, by a test made within an event: before it, once the accounts have moved, or
once the quiet flag has (log entry 29). -/
def State.tests (s t : State) (e : Entry) (found : Bool) : Prop :=
  s.suppressed e = found ∨ State.suppressed { t with quiet := s.quiet } e = found ∨ t.suppressed e = found

/-- R104, R107 to R109: what an event that neither removes an entry nor raises its pair makes of it: it stays as it is, or it
was due and has been counted silent, or it was due and the chime now sounds for it. -/
def Entry.handled (e : Entry) (s t : State) (x : Entry) : Prop :=
  x = e ∨
  (e.ready = true ∧ x = e.silent ∧ s.tests t e true) ∨
  (e.ready = true ∧ x = e.taken ∧ s.tests t e false ∧
    t.warn.chime = .sounding e.source e.type e.type.tones true true)

/-- R107, R108: a burst that sounds goes on, and loses its entry at most, where the pair is one of these; from an idle chime
a burst may begin, for an entry of the list or one of these raised now, and none that still waits ranks above it (one of
these may, where several are raised in turn). -/
def State.chimeKept (s : State) (moved : List (Source × WarnType)) (t : State) : Prop :=
  (∀ a w n snd owned, s.warn.chime = .sounding a w n snd owned →
    (t.warn.chime = s.warn.chime ∨ (t.warn.chime = .sounding a w n snd false ∧ (a, w) ∈ moved)) ∧
    t.timers.t7 = s.timers.t7) ∧
  (s.warn.chime = .idle →
    (t.warn.chime = .idle ∧ t.timers.t7 = s.timers.t7) ∨
    (s.port.mode ≠ .selfTest ∧ t.timers.t7.given 200 400 ∧
      ∃ e, (e ∈ s.warn.entries ∨ ((e.source, e.type) ∈ moved ∧ e = .atRaise e.source e.type s.clock.minute)) ∧
        e.ready = true ∧ s.tests t e false ∧
        ((t.warn.chime = .sounding e.source e.type e.type.tones true true ∧ e.taken ∈ t.warn.entries) ∨
         (t.warn.chime = .sounding e.source e.type e.type.tones true false ∧ (e.source, e.type) ∈ moved)) ∧
        ∀ y ∈ t.warn.entries, y.ready = true → moved.length ≤ 1 ∨ (y.source, y.type) ∉ moved → e.ranksFirst y))

/-- R102, R104 to R110: what an event leaves of the presenter when no pair but these has been raised or removed. Every other
pair is listed or not as before; an entry is one of before, as `Entry.handled` says, or one raised now, with WARNING set
(a driving warning may be removed and raised again within one event); after a raise no due entry is left that is
suppressed or that an idle chime could take; the chime goes on; and the lamp is worked by each raise and removal. -/
def State.listKept (s : State) (moved : List (Source × WarnType)) (t : State) : Prop :=
  (∀ source type, (source, type) ∉ moved →
    hasPair source type t.warn.entries = hasPair source type s.warn.entries) ∧
  (∀ x ∈ t.warn.entries,
    (∃ e ∈ s.warn.entries, e.source = x.source ∧ e.type = x.type ∧ e.raisedAt = x.raisedAt) ∨
    (x.raisedAt = s.clock.minute ∧ Notice.warning.inByte t.port.flags = true)) ∧
  (s.warn.entries.Pairwise (fun a b => ¬(a.source = b.source ∧ a.type = b.type)) →
    (∀ x ∈ t.warn.entries,
      (∃ e ∈ s.warn.entries, e.handled s t x) ∨
      ((x.source, x.type) ∈ moved ∧ Notice.warning.inByte t.port.flags = true ∧ t.dueSettled ∧
        (Entry.atRaise x.source x.type s.clock.minute).handled s t x)) ∧
    (∀ e ∈ s.warn.entries,
      (e.source, e.type) ∉ moved ∨ (isDriving e.type = false ∧ hasPair e.source e.type t.warn.entries = true) →
      ∃ x ∈ t.warn.entries, e.handled s t x) ∧
    s.chimeKept moved t) ∧
  (s.dueSettled → t.dueSettled) ∧
  (s.warn.lampWorked t.warn ∨
    (t.warn.lamp = s.warn.lamp ∧ t.warn.lampOn = s.warn.lampOn ∧
      ∀ source type, hasPair source type t.warn.entries = hasPair source type s.warn.entries))

/-- The block's own work has been done and a pass has followed it: `b` is the state between them, which differs from
`work` in the presenter, the chime's timer and the port alone, with no pair of the warning list moved but these. -/
def State.thenPass (work : State) (moved : List (Source × WarnType)) (t : State) : Prop :=
  ∃ b : State,
    b = { work with warn := b.warn, timers := { work.timers with t7 := b.timers.t7 }, port := b.port } ∧
    work.port.settingsKept b.port ∧ work.listKept moved b ∧ b.afterPass t

/-- A request is refused: it answers the outcome and changes nothing but its frame's part of the port (R193). -/
def State.refuses (s : State) (c : Instr) (o : OutcomeCode) : Prop :=
  ∃ t, exec c s = .next t ∧ t.answers (refusal o) ∧ s.frameOnly t

/-- A block's own work with no pass: nothing but the records named, the presenter, the chime's timer and the port has
changed between `work` and `t`, with no pair of the warning list moved but these. -/
def State.presenterOnly (work : State) (moved : List (Source × WarnType)) (t : State) : Prop :=
  t = { work with warn := t.warn, timers := { work.timers with t7 := t.timers.t7 }, port := t.port } ∧
  work.port.settingsKept t.port ∧ work.listKept moved t

/-! ### Segments -/

/-- R78, steps 1, 2, 4 and 5: an account that has closed its segment. -/
def Account.closed (a : Account) : Account :=
  { a with
    lastSegment := some (a.segSeconds / 60)
    accumulated :=
      if a.settings.segment ≤ a.segSeconds / 60 then min (a.accumulated + a.segSeconds / 60) 2880 else a.accumulated
    segSeconds := 0, restEnd := if a.expectedEnd then none else a.restEnd }

/-- R78, step 3: the close raises REST_SHORT. -/
def Account.closesShort (a : Account) : Bool := decide (a.segSeconds / 60 < a.settings.segment) && !a.rested

/-- R90: an account whose staged set, if it holds one, has been applied. -/
def Account.applied (a : Account) : Account := { a with settings := a.staged.getD a.settings, staged := none }

/-- R76, R80: the account's own record at a segment start at this minute, the REST_DONE it may fire included. -/
def Account.started (a : Account) (now : Nat) : Account :=
  let b :=
    { a.applied with
      state := .resting, segSeconds := 0, restStart := some now
      restEnd :=
        if a.rested then a.restEnd
        else
          some (.expected (holdMinute
            ((now : Int) + (max (a.applied.settings.rest - a.accumulated) a.applied.settings.segment : Nat)))) }
  if a.rested = false ∧ a.applied.settings.rest ≤ a.accumulated then
    { b with rested := true, contSeconds := 0, breakSeconds := 0, dailySeconds := 0, restEnd := some (.fixed now) }
  else b

/-- R89: the three driving warnings of a slot are listed exactly when the conditions of its account hold. -/
def Warn.drivingWorked (w : Warn) (i : Slot) (a : Account) : Prop :=
  (hasPair (.slot i) .driveNear w.entries = true ↔
    (a.settings.drive - a.settings.lead) * 60 ≤ a.contSeconds ∧ a.contSeconds < a.settings.drive * 60) ∧
  (hasPair (.slot i) .driveOver w.entries = true ↔ a.settings.drive * 60 ≤ a.contSeconds) ∧
  (hasPair (.slot i) .dailyOver w.entries = true ↔ a.settings.daily * 60 ≤ a.dailySeconds)

/-- R89, R101: the same of what a slot's account finds listed, with the raises and removals held through a reset counted. -/
def State.drivingTested (s : State) (i : Slot) (a : Account) : Prop :=
  (s.listed (.slot i) .driveNear = true ↔
    (a.settings.drive - a.settings.lead) * 60 ≤ a.contSeconds ∧ a.contSeconds < a.settings.drive * 60) ∧
  (s.listed (.slot i) .driveOver = true ↔ a.settings.drive * 60 ≤ a.contSeconds) ∧
  (s.listed (.slot i) .dailyOver = true ↔ a.settings.daily * 60 ≤ a.dailySeconds)

/-- R78, R80, R89, R90: the warnings of a slot once an event has worked its account: REST_DONE listed as given, REST_SHORT
added where the account raised it, and the driving warnings tested against the account as it then stands, or left where no
rule tests them. -/
def State.slotHanded (s : State) (i : Slot) (done short tests : Bool) (t : State) : Prop :=
  hasPair (.slot i) .restDone t.warn.entries = done ∧
  hasPair (.slot i) .restShort t.warn.entries = (hasPair (.slot i) .restShort s.warn.entries || short) ∧
  (tests = true → ∀ a, t.account i = some a → t.warn.drivingWorked i a) ∧
  (tests = false → ∀ type, isDriving type = true →
    hasPair (.slot i) type t.warn.entries = hasPair (.slot i) type s.warn.entries)

/-- The warnings of every slot but one are listed or not as they were. -/
def State.otherSlotsKept (s : State) (i : Slot) (t : State) : Prop :=
  ∀ j, j ≠ i → ∀ type, type.ofAccount = true →
    hasPair (.slot j) type t.warn.entries = hasPair (.slot j) type s.warn.entries

/-- R109: an entry after one second of its countdown, which runs in QUEUED and PRESENTING alone and stays at 0; a QUEUED
entry that reaches 0 then is still to fall due (log entry 6). -/
def Entry.counted (e : Entry) : Entry :=
  match e.state with
  | .queued =>
    { e with due := e.due.map (fun n => n - 1), falling := e.falling || decide (e.due = some 1) }
  | .presenting => { e with due := e.due.map (fun n => n - 1) }
  | _ => e

/-- R54, R55: what the charge account's own work after a pulse leaves (R59, R61): the records of the other blocks as they
were, CHARGE_RESERVE listed exactly when its condition holds, as `State.listKept` says, and CHARGE set by a change
of the condition or by the attention. While RESET is asserted the raise or removal is held (R116), and what is held is
counted in what is listed (log entry 24). -/
def State.chargeWorked (s t : State) : Prop :=
  t =
    { s with
      charge := t.charge, sense := t.sense, warn := t.warn, timers := { s.timers with t7 := t.timers.t7 }
      port := t.port, rst := t.rst } ∧
  s.port.settingsKept t.port ∧
  (s.rst.asserted = true →
    t.warn = s.warn ∧ t.port = s.port ∧ t.timers = s.timers ∧
    (t.listed .part .chargeReserve = true ↔ t.charge.synced = true ∧ t.charge.count ≤ t.charge.reserve) ∧
    t.rst =
      { s.rst with
        heldWarnings :=
          s.rst.heldWarnings ++
            (if t.listed .part .chargeReserve = s.listed .part .chargeReserve then []
             else if t.listed .part .chargeReserve then [.raise .part .chargeReserve]
             else [.remove .part .chargeReserve]) }) ∧
  (s.rst.asserted = false →
    t.rst = s.rst ∧
    (hasPair .part .chargeReserve t.warn.entries = true ↔
      t.charge.synced = true ∧ t.charge.count ≤ t.charge.reserve) ∧
    s.listKept [(.part, .chargeReserve)] t ∧
    (Notice.charge.inByte t.port.flags = true ↔
      Notice.charge.inByte s.port.flags = true ∨
      hasPair .part .chargeReserve t.warn.entries ≠ hasPair .part .chargeReserve s.warn.entries ∨
      t.charge.synced = false ∨ t.charge.count ≤ t.charge.reserve))

/-- R17, R81: the order table after a placement of the wake order of a bunk: the order of a present key is replaced whole,
an absent key takes a free place in NORMAL or WORKSHOP, and otherwise the table stays as it is. -/
def ordersWithWake (mode : PartMode) (now : Nat) (side : Side) (level fade : Nat) (os : List Order) : List Order :=
  if (∃ o ∈ os, o.key = wakeKey side) ∨ ((mode = .normal ∨ mode = .workshop) ∧ os.length < 24) then
    insertOrder
      { key := wakeKey side, origin := .wake, load := readLoad side, cls := .comfort, target := .light level fade
        start := .immediate, finish := .duration 30, placedAt := now, state := .pending, resolvedStart := none
        resolvedEnd := none, forecast := 0, admittedAt := none }
      os
  else os

/-- R81: the order table after the wake order of an account, where its bunk and its settings ask for one. -/
def Account.wakeEntered (a : Account) (mode : PartMode) (now : Nat) (os : List Order) : List Order :=
  match a.bunk with
  | .bunkA =>
    if a.settings.wake then
      ordersWithWake mode now .a a.settings.wakeLevel (a.settings.wakeRamp * 60) os
    else os
  | .bunkB =>
    if a.settings.wake then
      ordersWithWake mode now .b a.settings.wakeLevel (a.settings.wakeRamp * 60) os
    else os
  | .noBunk => os

/-- R101: the order table after the held wake orders, in the order in which they were held
(DESIGN CHOICE, log entry 38). -/
def ordersWithWakes (mode : PartMode) (now : Nat) : List HeldWake → List Order → List Order
  | [], os => os
  | w :: ws, os => ordersWithWakes mode now ws (ordersWithWake mode now w.side w.level w.fade os)

/-- R76, R80: REST_DONE fires at the segment start of this account. -/
def Account.firesAtStart (a : Account) : Bool := !a.rested && decide (a.applied.settings.rest ≤ a.accumulated)

/-- R71, R81: the order table after the wake orders of the accounts whose segments start by the standstill condition, in the
order of the slots (log entry 35). -/
def State.ordersAtMove (s : State) (mode : PartMode) (os : List Order) : List Order :=
  allSlots.foldl
    (fun os i =>
      match s.account i with
      | some a =>
        if s.standstill && decide (a.state = .restWait) && a.firesAtStart then
          a.applied.wakeEntered mode s.clock.minute os
        else os
      | none => os)
    os

/-- R91, R92, R152, R169, R183: the quiet flag has been worked from `s` into `b`. As it becomes set the heater steps down
from level 4, the fridge in RUN goes to speed 1 and the cab light is held to its cap; as it becomes clear the cab light
alone pursues its own target again; either sets ACCOUNT; and a flag that has not changed moves nothing. -/
def State.quietWorked (s b : State) : Prop :=
  (b.quiet = s.quiet → b.heater = s.heater ∧ b.fridge = s.fridge ∧ b.lights = s.lights ∧
    b.timers = { s.timers with t7 := b.timers.t7 }) ∧
  (b.quiet = true → s.quiet = false →
    (s.heater.state = .run ∧ s.heater.level = 4 →
      b.heater = { s.heater with level := 3, desired := 3, stepTimer := 60, fuel := b.heater.fuel } ∧
      b.timers.t4.given s.heater.params.pulseWidth (60000 / s.heater.params.rate3) ∧
      b.timers.t5.given s.heater.params.fan3 1000) ∧
    (¬(s.heater.state = .run ∧ s.heater.level = 4) →
      b.heater = s.heater ∧ b.timers.t4 = s.timers.t4 ∧ b.timers.t5 = s.timers.t5) ∧
    b.fridge = { s.fridge with speed := if s.fridge.state = .run then 1 else s.fridge.speed } ∧
    (s.fridge.state = .run → s.fridge.speed ≠ 1 → b.timers.t6.given 400 1000) ∧
    (s.fridge.state ≠ .run ∨ s.fridge.speed = 1 → b.timers.t6 = s.timers.t6) ∧
    b.lights = { s.lights with cabLight := s.lights.cabLight.heldTo s.lights.quietCap }) ∧
  (b.quiet = false → s.quiet = true →
    b.heater = s.heater ∧ b.fridge = s.fridge ∧
    b.timers = { s.timers with t2 := b.timers.t2, t7 := b.timers.t7 } ∧
    b.lights =
      { s.lights with
        cabLight := s.lights.cabLight.pursue s.lights.cabLight.target (s.lights.cabLight.fadeTime * 100) }) ∧
  (b.quiet ≠ s.quiet →
    Notice.account.inByte b.port.flags = true ∧ s.lampDriven b .cabLight ∧
    b.timers =
      { s.timers with
        t2 := b.timers.t2, t4 := b.timers.t4, t5 := b.timers.t5, t6 := b.timers.t6, t7 := b.timers.t7 })

/-- What a change of an account leaves before its pass: the accounts and the accounts' own warnings as the rule that makes it
says, the order table as given, the quiet flag with what it moves, every due burst counted silent or taken that can be
(R107, R109), and nothing else. -/
def State.accountsWorked (s : State) (orders : List Order) (b : State) : Prop :=
  b =
    { s with
      orders := orders, accounts := b.accounts, quiet := b.quiet, heater := b.heater, fridge := b.fridge
      lights := b.lights, warn := b.warn, timers := b.timers, port := b.port } ∧
  s.port.settingsKept b.port ∧ s.quietWorked b ∧ s.listKept accountPairs b ∧ b.dueSettled

/-- R71: how one change of the standstill condition moves the account of a slot: an account in REST_WAIT starts its segment
when the condition holds, an account that is RESTING closes its segment and waits when it does not, and any other account
stays as it is. -/
def State.accountMoved (s : State) (i : Slot) (t : State) : Prop :=
  (∀ a, s.account i = some a →
    (s.standstill = true → a.state = .restWait → t.account i = some (a.started s.clock.minute)) ∧
    (s.standstill = false → a.state = .resting → t.account i = some { a.closed with state := .restWait }) ∧
    ((s.standstill = true → a.state ≠ .restWait) → (s.standstill = false → a.state ≠ .resting) →
      t.account i = some a)) ∧
  (s.account i = none → t.account i = none)

/-- R71, R76, R78, R80: what the standstill condition, worked afresh in `work`, does to the accounts; with one pass when an
account has moved, over the table with the wake orders of the segments that fire REST_DONE as they start, and nothing else
when none has. A segment start that fires lists REST_DONE and one that fires or applies a staged set tests the driving
warnings; a segment closed short lists REST_SHORT. -/
def State.standstillWorked (work t : State) : Prop :=
  (∀ i, work.accountMoved i t) ∧
  (t.accounts = work.accounts → t.orders = work.orders ∧ t.alloc = work.alloc ∧ t.heater = work.heater ∧
    t.fridge = work.fridge ∧ t.lights = work.lights ∧ t.warn = work.warn ∧ t.timers = work.timers) ∧
  (t.accounts ≠ work.accounts → Notice.account.inByte t.port.flags = true ∧
    ∃ b : State, b.accounts = t.accounts ∧
      work.accountsWorked (work.ordersAtMove work.port.mode work.orders) b ∧ b.afterPass t) ∧
  (HeldLaw work → ∀ i,
    (work.account i = none → ∀ type, type.ofAccount = true →
      hasPair (.slot i) type t.warn.entries = hasPair (.slot i) type work.warn.entries) ∧
    ∀ a, work.account i = some a → ∀ starts : Bool, starts = (work.standstill && decide (a.state = .restWait)) →
      work.slotHanded i
        (hasPair (.slot i) .restDone work.warn.entries || (starts && a.firesAtStart))
        (!work.standstill && decide (a.state = .resting) && a.closesShort)
        (starts && (a.firesAtStart || a.staged.isSome)) t) ∧
  t.clock = work.clock ∧ t.charge = work.charge ∧ t.transport = work.transport ∧ t.quiet = work.quiet ∧
  t.sense = work.sense ∧ t.rst = work.rst ∧ work.loadSettingsKept t

/-- R73, R76, R80: a rest has been declared for the account of a slot: REST_WAIT, or RESTING with its segment started, with
the quiet flag worked, and a pass exactly when an anchor moved, over the table with the wake order of R81 where REST_DONE
fires at the segment start. A segment start that fires lists REST_DONE, and one that fires or applies a staged set tests
the driving warnings. -/
def State.restDeclared (s : State) (i : Slot) (a : Account) (t : State) : Prop :=
  (∀ b, b = { a with restEnd := if a.fixedEnd then none else a.restEnd } →
    t.account i =
      some (if s.standstill then b.started s.clock.minute else { b with state := .restWait })) ∧
  (∀ j, j ≠ i → t.account j = s.account j) ∧ Notice.account.inByte t.port.flags = true ∧ t.quiet = t.quietNow ∧
  t.clock = s.clock ∧ t.charge = s.charge ∧ t.transport = s.transport ∧ t.sense = s.sense ∧ t.rst = s.rst ∧
  (HeldLaw s →
    s.slotHanded i (hasPair (.slot i) .restDone s.warn.entries || (s.standstill && a.firesAtStart)) false
      (s.standstill && (a.firesAtStart || a.staged.isSome)) t ∧
    s.otherSlotsKept i t) ∧
  (a.fixedEnd = false → s.standstill = false → s.accountsWorked s.orders t) ∧
  (a.fixedEnd = true ∨ s.standstill = true →
    ∃ b : State, b.accounts = t.accounts ∧ b.afterPass t ∧
      ((s.standstill && a.firesAtStart) = true →
        s.accountsWorked (a.applied.wakeEntered s.port.mode s.clock.minute s.orders) b) ∧
      ((s.standstill && a.firesAtStart) = false → s.accountsWorked s.orders b))

/-- R74, R78, R90: a rest has ended for the account of a slot: its segment closed, IDLE, its staged set applied with the
driving warnings tested, REST_DONE gone, REST_SHORT listed for a segment closed short, the quiet flag worked, and a
pass. -/
def State.restEnded (s : State) (i : Slot) (a : Account) (t : State) : Prop :=
  (∀ b, b = (if a.state = .resting then a.closed else a) → t.account i = some { b.applied with state := .idle }) ∧
  (∀ j, j ≠ i → t.account j = s.account j) ∧ Notice.account.inByte t.port.flags = true ∧ t.quiet = t.quietNow ∧
  t.clock = s.clock ∧ t.charge = s.charge ∧ t.transport = s.transport ∧ t.sense = s.sense ∧ t.rst = s.rst ∧
  (HeldLaw s →
    s.slotHanded i false (decide (a.state = .resting) && a.closesShort) a.staged.isSome t ∧ s.otherSlotsKept i t) ∧
  ∃ b : State, b.accounts = t.accounts ∧ s.accountsWorked s.orders b ∧ b.afterPass t

/-! ### Outputs and load blocks -/

/-- Only the heater, its two timers and the port differ, and HEATER is set. -/
def State.heaterMoves (s t : State) : Prop :=
  t =
    { s with
      heater := t.heater, timers := { s.timers with t4 := t.timers.t4, t5 := t.timers.t5 }, port := t.port } ∧
  s.port.settingsKept t.port ∧ Notice.heater.inByte t.port.flags = true

/-- R146: the heater has entered PREHEAT from `s`: GLOW on, the phase of its length, the fan at 200 ‰. -/
def State.preheated (s t : State) : Prop :=
  t.heater =
    { s.heater with
      state := .preheat, glow := true
      phase :=
        some
          (if s.sense.outside.fault ∨ s.sense.outside.value < -200 then 2 * s.heater.params.preheat
           else s.heater.params.preheat) } ∧
  t.timers.t5.given 200 1000 ∧ t.timers.t4 = s.timers.t4 ∧ s.heaterMoves t

/-- R155: the heater has entered COOLDOWN from `s` with a cause: the pump halted, GLOW off, the fan at full duty. -/
def State.cooled (s : State) (cause : CooldownCause) (t : State) : Prop :=
  t.heater =
    { s.heater with
      state := .cooldown, glow := false, phase := some s.heater.params.cooldown, cause := some cause, level := 0
      desired := 0, satisfy := none } ∧
  t.timers.t4.running = false ∧ t.timers.t5.given 1000 1000 ∧ s.heaterMoves t

/-- R149: a failed start from `s`: the count gains 1 up to 3, the cooldown of R155, and a retry below 3 while an order is
presented. -/
def State.startFailed (s t : State) : Prop :=
  t.heater =
    { s.heater with
      state := .cooldown, glow := false, phase := some s.heater.params.cooldown, cause := some .failedStart
      level := 0, desired := 0, satisfy := none, failed := gain 3 s.heater.failed
      restart := s.heater.presented.isSome && decide (s.heater.failed + 1 < 3) } ∧
  t.timers.t4.running = false ∧ t.timers.t5.given 1000 1000 ∧ s.heaterMoves t

/-- Only the fridge, its timer and the port differ. -/
def State.fridgeMoves (s t : State) : Prop :=
  t = { s with fridge := t.fridge, timers := { s.timers with t6 := t.timers.t6 }, port := t.port } ∧
  s.port.settingsKept t.port

/-- R166: the compressor has been switched on from `s`, at speed 1. -/
def State.compressorOn (s t : State) : Prop :=
  t.fridge =
    { s.fridge with
      state := .start, compressor := true, speed := 1, onSeconds := some 0, startWindows := some 0 } ∧
  t.timers.t6.given 400 1000 ∧ s.fridgeMoves t ∧ Notice.fridge.inByte t.port.flags = true

/-- R166: the compressor has been switched off from `s`, into this state with this stall count. -/
def State.compressorOff (s : State) (st : FridgeState) (stalls : Nat) (t : State) : Prop :=
  t.fridge =
    { s.fridge with
      state := st, compressor := false, speed := 0, offSeconds := 0, onSeconds := none, startWindows := none
      lowWindows := none, runSeconds := none, stalls := stalls } ∧
  t.timers.t6.running = false ∧ s.fridgeMoves t ∧ Notice.fridge.inByte t.port.flags = true

/-- R172: REST has ended from `s`: OFF with no order presented, else IDLE, or START where the start test holds. -/
def State.restOver (s t : State) : Prop :=
  s.fridgeMoves t ∧ Notice.fridge.inByte t.port.flags = true ∧
  (s.fridge.presented = none → t.fridge = { s.fridge with state := .off }) ∧
  (s.fridge.presented ≠ none → s.fridgeStarts → s.compressorOn t) ∧
  (s.fridge.presented ≠ none → ¬s.fridgeStarts → t.fridge = { s.fridge with state := .idle })

end Sys2Proof.Machine
end

