-- ==== Sys2Proof/WellFormed.lean ====
section
/-! DEFINITION. Which terms of `Instr` are commands of the table. -/
namespace Sys2Proof

/-- A frame of the UNKNOWN_REQUEST row fails one of the frame checks 2 to 4 of Table 38, or carries a declaration
outside Table 20: a frame that spells a request is the command of its own row. -/
def FrameArg.wf : FrameArg → Bool
  | .frame bytes => decide (frameRequest bytes = none)
  | .undeclared _ => true

/-- The well-formed commands. The fields of a request are checked and clamped by the request itself (R193), and the
counts of a window are held by R119, so only the operand of UNKNOWN_REQUEST can be no command of its row. -/
def Instr.wf : Instr → Bool
  | .unknownRequest arg => arg.wf
  | _ => true

/-- The rows that carry a request in a frame; the others are events (section 10.1 and the table). -/
def Instr.isRequest : Instr → Bool
  | .nop => true
  | .stat => true
  | .nfetch _ => true
  | .nmask _ => true
  | .sleep _ => true
  | .init _ _ => true
  | .shut => true
  | .oplace _ => true
  | .oamend _ => true
  | .olook _ => true
  | .oretire _ => true
  | .olist => true
  | .tset _ => true
  | .tlook => true
  | .bset _ _ => true
  | .blook => true
  | .plan _ => true
  | .cset _ _ _ => true
  | .csync _ => true
  | .clook => true
  | .aopen _ _ _ => true
  | .aset _ _ _ => true
  | .alook _ => true
  | .adeclRest _ => true
  | .adeclEnd _ => true
  | .adeclWheel _ => true
  | .adeclRelease _ => true
  | .aretire _ => true
  | .xmode _ => true
  | .wlist => true
  | .wack _ _ => true
  | .hset _ => true
  | .hlook => true
  | .hclear _ => true
  | .fset _ => true
  | .flook => true
  | .fclear => true
  | .lset _ => true
  | .llook => true
  | .slook => true
  | .sset _ => true
  | .unknownRequest _ => true
  | .frameStart => false
  | .coldStart => false
  | .resetAssert => false
  | .resetEnd => false
  | .timebaseSecond _ => false
  | .minuteExpiry => false
  | .restDone _ => false
  | .breakComplete _ => false
  | .countdownZero => false
  | .toneEnd => false
  | .endOfBurst => false
  | .wlampFlashPhase => false
  | .selftestEnd _ => false
  | .wakePulseEnd => false
  | .wakeWaitExpiry => false
  | .wakeSpacingExpiry => false
  | .preheatExpiry => false
  | .ignitionLimitExpiry => false
  | .provingExpiry => false
  | .cooldownExpiry => false
  | .heaterRunClearsCount => false
  | .satisfiedStop => false
  | .minOffEnd => false
  | .fixedCycleOnEnd => false
  | .fixedCycleOffEnd => false
  | .fridgeRunClearsStalls => false
  | .warmRunComplete => false
  | .fadeStep _ => false
  | .endOfPeriod _ => false
  | .vspdWindowEnd _ => false
  | .tempWindowEnd _ _ => false
  | .tachWindowEnd _ => false
  | .qchgPulse => false
  | .qdisPulse => false
  | .pinChange _ _ => false
  | .debounceExpiry _ _ => false
  | .longPress _ => false
  | .pressClassifierWaitEnd => false

end Sys2Proof
end

