-- ==== Sys2Proof/Certificates/Slice0/Obligations.lean ====
section
/-! DEFINITION. The statements for the provers: what each command does, in the terms of the rules, and what every step
keeps. The words they share about frames, replies, passes and the moves of each block stand in Safety.lean. -/
open Sys2Proof Sys2Proof.Machine

/-! ### The queue and the frame -/

/-- Section 4 of 00_scope.md ("Each event is taken whole"), and the form of this block's step: the command at the
front of the queue runs on everything but the queue, and with no command waiting the block idles. The queue, and the
idling, are the model's choices (log entry 1). -/
def Obligations.StepTakesFrontCommand : Prop :=
  (∀ (c : Instr) (rest : List Instr) (s : State),
    step { s with pending := c :: rest } = exec c { s with pending := rest }) ∧
  (∀ s : State, s.pending = [] → step s = .next s)

/-- R193 and the table: every command answers a next state, in every state. R192 and Table 39: a frame whose bytes
spell a request does what that request does, and the request's code is the frame's first byte (log entry 5). No
command touches the queue, so that a step takes the front command out of it and leaves the rest in order. -/
def Obligations.CommandsRunAndKeepTheQueue : Prop :=
  ((∀ (c : Instr) (s : State), ∃ t, exec c s = .next t) ∧
   (∀ (bytes : List Byte) (i : Instr), frameRequest bytes = some i →
     i.code = bytes.head? ∧ ∀ s : State, exec (.unknownRequest (.frame bytes)) s = exec i s)) ∧
  ((∀ (c : Instr) (s t : State), exec c s = .next t → t.pending = s.pending) ∧
   (∀ s t : State, step s = .next t → t.pending = s.pending.tail))

/-- R192 check 1 and R204: while RESET is asserted a request changes nothing, and in SELFTEST it answers BUSY and
changes nothing but its frame's part of the port. R191, R193: out of reset every request that is taken leaves its
reply pending, and one that answers neither DONE nor DONE_CLAMPED changes nothing but its frame's part of the port.
While RESET is asserted nothing changes but by a second, a minute expiry, the events of the rest accounts' counters,
a charge pulse, a pin, a timer's period, the ends of a WAKE pulse and of its spacing, the end of the reset and a
cold start. That repeated or other events have no effect while RESET is asserted is the model's reading of the
chapters' reset sections, and so is the empty body of a refusal (log entries 3, 8, 14 and 27). -/
def Obligations.RequestsActOnlyInService : Prop :=
  (∀ (c : Instr) (s : State), c.isRequest = true →
     (s.rst.asserted = true → exec c s = .next s) ∧
     (s.rst.asserted = false → s.port.mode = .selfTest →
       ∃ t, exec c s = .next t ∧ t.answers (refusal .busy) ∧ s.frameOnly t)) ∧
  (∀ (c : Instr) (s t : State), c.isRequest = true → s.rst.asserted = false → exec c s = .next t →
     ∃ r, t.answers r ∧ (r.outcome ≠ .done → r.outcome ≠ .doneClamped → s.frameOnly t)) ∧
  (∀ (c : Instr) (s t : State), s.rst.asserted = true → exec c s = .next t →
     t = s ∨ (∃ whole, c = .timebaseSecond whole) ∨ c = .minuteExpiry ∨ (∃ i, c = .restDone i) ∨
       (∃ i, c = .breakComplete i) ∨ c = .qchgPulse ∨ c = .qdisPulse ∨ (∃ i level, c = .pinChange i level) ∨
       (∃ i, c = .endOfPeriod i) ∨ c = .wakePulseEnd ∨ c = .wakeSpacingExpiry ∨ c = .coldStart ∨ c = .resetEnd)

/-- R192 checks 2 to 4 and R72 check 2: a frame of less than two bytes, with a length byte above 124 or too short for
its body, an unknown code, a body of another length than the code's, and an ADECL with no declaration of Table 20,
each with its outcome. R191, Table 41: what stands to be clocked out is the pending reply's outcome, the length of its
body with the least significant byte first, and the body, or the empty reply of 00h and length 0; a frame reads as
many bytes as it clocks, from the first. R191, R202: the falling of CS clocks the pending reply out, takes an ASLEEP
port back to AWAKE with the end of the wake wait, keeps the port state for STAT and works ATTN afresh; a frame under
way and a part held in reset are left as they are. How the two ends of a frame reach the block, the bytes of a body
that the reference does not lay out, which row carries a frame that fails, and the empty body of a refusal are the
model's (log entries 3, 4, 5 and 14). -/
def Obligations.FramesOpenAndFail : Prop :=
  (∀ s : State, s.serves →
     (∀ bytes : List Byte, bytes.length < 2 → s.refuses (.unknownRequest (.frame bytes)) .badLength) ∧
     (∀ (code length : Byte) (rest : List Byte),
       124 < length.toNat ∨ rest.length < length.toNat →
         s.refuses (.unknownRequest (.frame (code :: length :: rest))) .badLength) ∧
     (∀ (code length : Byte) (rest : List Byte), length.toNat ≤ 124 → length.toNat ≤ rest.length →
       (code.toNat ∉ requestCodes → s.refuses (.unknownRequest (.frame (code :: length :: rest))) .unknown) ∧
       (∀ n, statedBodyLength code = some n → n ≠ length.toNat →
         s.refuses (.unknownRequest (.frame (code :: length :: rest))) .badLength)) ∧
     (∀ slot : Nat, s.refuses (.unknownRequest (.undeclared slot)) .badField)) ∧
  (replyBytes none = [0x00#8, 0x00#8, 0x00#8] ∧
   (∀ r : Reply, r.body.bytes.length ≤ 511 ∧ ∃ low high : Byte,
     replyBytes (some r) = [r.outcome.byte, low, high] ++ r.body.bytes ∧
     low.toNat + 256 * high.toNat = r.body.bytes.length) ∧
   (∀ (r : Option Reply) (fill : Nat → Byte) (clocked : Nat),
     (misoBytes r fill clocked).length = clocked ∧
     ∀ k, k < clocked → k < (replyBytes r).length → (misoBytes r fill clocked)[k]? = (replyBytes r)[k]?)) ∧
  (∀ s : State,
     (s.rst.asserted = false → s.port.inFrame = false →
       exec .frameStart s = .next
         { s with
           port :=
             { s.port with
               inFrame := true, miso := s.port.reply, asleepAtStart := s.port.asleep, asleep := false
               wait := !s.port.asleep && s.port.wait
               attn := decide (s.port.flags &&& s.port.enables ≠ 0#8) } }) ∧
     (s.rst.asserted = true ∨ s.port.inFrame = true → exec .frameStart s = .next s))

/-- R192: NOP answers DONE with an empty body. R198: STAT answers the state of the port, with the port state as it stood
when the frame began, and then clears wake unanswered. R132: SLOOK returns the sensing records, each press state as
its classifier holds it, and moves nothing but the model's own counter of free values; the press state shown in the
wait of R131 is left free (log entry 12). -/
def Obligations.NopStatAndSlookAnswer : Prop :=
  (∀ s : State, s.serves →
     (∃ t, exec .nop s = .next t ∧ t.answers (done .empty) ∧ s.frameOnly t) ∧
     (∃ t, exec .stat s = .next t ∧
       t.answers (done (.status
         { mode := s.port.mode
           asleep := if s.port.inFrame then s.port.asleepAtStart else s.port.asleep
           selfTest := s.port.selfTest, cause := s.port.cause, clockSet := s.clock.isSet
           unanswered := s.port.unanswered, flags := s.port.flags, enables := s.port.enables
           mask := s.port.mask })) ∧
       State.frameOnly { s with port := { s.port with unanswered := false } } t)) ∧
  (∀ s : State, s.serves →
     ∃ t, exec .slook s = .next t ∧ ∃ a b,
       t.answers (done (.sensing
         { vspdCount := s.sense.vspdCount, motion := s.sense.motion, settleCount := s.sense.settleCount
           settleTime := s.sense.settleTime, chgTotal := s.sense.chgTotal, disTotal := s.sense.disTotal
           cab := s.sense.cab, fridgeT := s.sense.fridgeT, outside := s.sense.outside, tachRate := s.sense.tachRate
           pbrake := s.sense.pbrake.level, flame := s.sense.flame.level, ovht := s.sense.ovht.level
           btnA := s.sense.btnA.level, btnB := s.sense.btnB.level, pressA := a, pressB := b })) ∧
       (∀ p, s.sense.pressA.state = some p → a = p) ∧ (∀ p, s.sense.pressB.state = some p → b = p) ∧
       State.frameOnly { s with sense := { s.sense with drawn := t.sense.drawn } } t)

/-- R28: TLOOK returns the clock and changes nothing, and STAT carries the clock-set flag. Any other body length answers
BAD_LENGTH, in a frame that the UNKNOWN_REQUEST row carries (the model's choice, log entry 5) and with the empty body of
a refusal (DEDUCED, log entry 14). -/
def Obligations.TlookReportsTheClock : Prop :=
  ∀ s : State, s.serves →
    (∃ t, exec .tlook s = .next t ∧ t.answers (done (.time s.clock.minute s.clock.prescaler s.clock.isSet)) ∧
      s.frameOnly t) ∧
    (∀ (length : Byte) (rest : List Byte), length ≠ 0#8 →
      s.refuses (.unknownRequest (.frame (0x21#8 :: length :: rest))) .badLength) ∧
    (∃ t, exec .stat s = .next t ∧ ∃ b, t.answers (done (.status b)) ∧ b.clockSet = s.clock.isSet)

/-- R65, R114, R162, R177, R189: CLOOK, WLIST, HLOOK, FLOOK and LLOOK return their records as they stand and change
nothing. R51, whole: BLOOK returns the allocator's state in order, starts no pass and changes nothing; any other body
length is refused. ALOOK (R96) returns the account of its slot with its credited rest, the transport override and the
quiet flag, and is refused for a slot number above 3 and for an empty slot. WLIST lists every entry once with its
severity, ranked by the three tests of R106, and a tone counts as still to sound until its sound has ended (the
model's choice, log entry 23); LLOOK carries of a presented order its key alone. The empty body of a refusal is
DEDUCED, and the row that carries a frame of a wrong length is the model's choice (log entries 5 and 14). -/
def Obligations.LookUpsReportAndChangeNothing : Prop :=
  (∀ s : State, s.serves →
     (∃ t, exec .clook s = .next t ∧
       t.answers (done (.charge s.charge.count s.charge.residue s.charge.capacity s.charge.reserve s.charge.weight
         (s.charge.count - s.charge.reserve) s.charge.synced s.charge.netLast)) ∧ s.frameOnly t) ∧
     (∃ t, exec .wlist s = .next t ∧ ∃ es : List Entry, es.Perm s.warn.entries ∧ es.Pairwise Entry.ranksFirst ∧
       t.answers (done (.warnings
         (es.map (fun e =>
           { source := e.source, type := e.type, severity := e.type.severity, raisedAt := e.raisedAt
             state := e.state, bursts := e.bursts, due := e.due }))
         (match s.warn.chime with
          | .idle => .idle
          | .sounding a w n sound _ => .sounding a w (if sound then n else n - 1))
         s.warn.lamp)) ∧
       s.frameOnly t) ∧
     (∃ t, exec .hlook s = .next t ∧
       t.answers (done (.heater
         { state := s.heater.state, level := s.heater.level, desired := s.heater.desired, failed := s.heater.failed
           restart := s.heater.restart, cause := s.heater.cause, phase := s.heater.phase
           runSeconds := s.heater.runSeconds, satisfy := s.heater.satisfy, fuel := s.heater.fuel
           params := s.heater.params })) ∧ s.frameOnly t) ∧
     (∃ t, exec .flook s = .next t ∧
       t.answers (done (.fridge
         { state := s.fridge.state, speed := s.fridge.speed, call := s.fridge.call, stalls := s.fridge.stalls
           remaining := if s.fridge.state.turning then none else some (s.fridge.minOff - s.fridge.offSeconds)
           offSeconds := s.fridge.offSeconds, onSeconds := s.fridge.onSeconds
           fixedCycle := s.sense.fridgeT.fault, warmRun := s.fridge.warmRun, minOff := s.fridge.minOff })) ∧
       s.frameOnly t) ∧
     (∃ t, exec .llook s = .next t ∧ ∃ b, t.answers (done (.lights b)) ∧ s.frameOnly t ∧
       b.quietCap = s.lights.quietCap ∧ b.quiet = s.quiet ∧
       ∀ i x, (i, x) ∈
           [(LightId.readA, b.readA), (LightId.readB, b.readB), (LightId.cabLight, b.cabLight),
            (LightId.nightLight, b.nightLight)] →
         x =
           { duty := (s.channel i).duty, target := (s.channel i).target, fadeTime := (s.channel i).fadeTime
             effective := (s.channel i).effective, fade := (s.channel i).fade
             presentedKey := (s.channel i).presented.map Presented.key, polarity := (s.channel i).polarity
             fullDraw := (s.channel i).fullDraw })) ∧
  (∀ s : State, s.serves →
     (∃ t, exec .blook s = .next t ∧
       t.answers (done (.allocator s.alloc.horizon s.alloc.keepMargin
         { heaterDraw := s.alloc.heaterDraw, heaterStart := s.alloc.heaterStart, fridgeDraw := s.alloc.fridgeDraw
           fridgeDuty := s.alloc.fridgeDuty, readA := s.lights.readA.fullDraw, readB := s.lights.readB.fullDraw
           cabLight := s.lights.cabLight.fullDraw, nightLight := s.lights.nightLight.fullDraw }
         s.alloc.committed s.alloc.usable s.alloc.passMinute)) ∧
       s.frameOnly t) ∧
     (∀ (length : Byte) (rest : List Byte), length ≠ 0#8 →
       s.refuses (.unknownRequest (.frame (0x31#8 :: length :: rest))) .badLength)) ∧
  (∀ (n : Nat) (s : State), s.serves →
     (slotOf n = none → s.refuses (.alook n) .badField) ∧
     (∀ i, slotOf n = some i →
       (s.account i = none → s.refuses (.alook n) .noSuchAccount) ∧
       (∀ a, s.account i = some a →
         ∃ t, exec (.alook n) s = .next t ∧
           t.answers (done (.account
             { slot := i, tag := a.tag, bunk := a.bunk, state := a.state, settings := a.settings, staged := a.staged
               segSeconds := a.segSeconds
               credited :=
                 a.accumulated +
                   (if a.state = .resting ∧ a.settings.segment ≤ a.segSeconds / 60 then a.segSeconds / 60 else 0)
               lastSegment := a.lastSegment, accumulated := a.accumulated, rested := a.rested
               contSeconds := a.contSeconds, breakSeconds := a.breakSeconds, dailySeconds := a.dailySeconds
               restStart := a.restStart, restEnd := a.restEnd, transport := s.transport, quiet := s.quiet })) ∧
           s.frameOnly t)))

/-- R199, R200: NFETCH answers the flags before and after; after it a flag is set when it was set and either was not
named or has an attention that holds (log entry 15), ATTN is worked afresh, and nothing else changes. R201, whole:
NMASK writes the enables, works ATTN afresh and answers them; nothing else changes. R202: SLEEP writes the wake
mask; as its frame ends the port is ASLEEP with ATTN negated, and nothing else changes but the frame's own part of
the port. -/
def Obligations.FlagsAreFetchedEnabledAndMasked : Prop :=
  (∀ (ack : Byte) (s : State), s.serves →
     ∃ t, exec (.nfetch ack) s = .next t ∧ ∃ after, t.answers (done (.fetched s.port.flags after)) ∧
       (∀ n : Notice,
         n.inByte after = true ↔
           n.inByte s.port.flags = true ∧
           (n.inByte ack = true →
             (n = .charge ∧ (s.charge.synced = false ∨ s.charge.count ≤ s.charge.reserve)) ∨
             (n = .heater ∧ s.heater.state = .lockout) ∨ (n = .fridge ∧ s.fridge.state = .fault) ∨
             (n = .sensor ∧ (s.sense.cab.fault = true ∨ s.sense.fridgeT.fault = true ∨ s.sense.outside.fault = true)))) ∧
       AttnLaw t ∧ State.frameOnly { s with port := { s.port with flags := after } } t) ∧
  (∀ (enables : Byte) (s : State), s.serves →
     ∃ t, exec (.nmask enables) s = .next t ∧ t.answers (done (.enables enables)) ∧ t.port.enables = enables ∧
       AttnLaw t ∧ State.frameOnly { s with port := { s.port with enables := enables } } t) ∧
  (∀ (mask : Byte) (s : State), s.serves →
     exec (.sleep mask) s = .next
       { s with
         port :=
           { s.port with
             mask := mask, asleep := true, attn := false, inFrame := false, reply := some (done (.wakeMask mask))
             miso := if s.port.inFrame then s.port.miso else s.port.reply
             asleepAtStart := if s.port.inFrame then s.port.asleepAtStart else s.port.asleep
             wait := if s.port.inFrame then s.port.wait else !s.port.asleep && s.port.wait } })

/-- R195: INIT. An operand outside its values answers BAD_FIELD before the mode is looked at, and outside UNINIT it
answers WRONG_STATE; with the flag clear the mode carried is entered at once, with it set SELFTEST is, with no burst;
either way the change of mode runs a pass. R196: the self-test's end sets PART and the result, enters the mode INIT
carried or UNINIT by it, and runs a pass; with no self-test under way nothing happens. R197, R25: SHUT is refused in
UNINIT; elsewhere it empties the order table without the ORDER notice, enters UNINIT with cause SHUT and runs the
pass, which commits nothing and presents no order. R108: the entry into SELFTEST stops a burst, whose entry is QUEUED
and due again and counts nothing. R107, R109, R117, R197: none of them raises a warning or takes an entry out of the
list but FRIDGE_WARM, by its owner's own removal; INIT and the self-test's end leave no due entry suppressed, nor an
idle chime beside one outside SELFTEST; and SHUT, where no due entry waits so, leaves every other entry and the burst
as they are. The self-test's end out of SELFTEST, and the empty body of a refusal, are the model's (log entries 8 and
14). -/
def Obligations.ModeCommandsAct : Prop :=
  (∀ s : State, s.serves →
     (∀ (m : Option InitMode) (b : Option Bool), m = none ∨ b = none →
       ∃ t, exec (.init m b) s = .next t ∧ t.answers (refusal .badField) ∧ s.frameOnly t) ∧
     (∀ (m : InitMode) (b : Bool), s.port.mode ≠ .uninit →
       ∃ t, exec (.init (some m) (some b)) s = .next t ∧ t.answers (refusal .wrongState) ∧ s.frameOnly t) ∧
     (∀ m : InitMode, s.port.mode = .uninit →
       ∃ t, exec (.init (some m) (some false)) s = .next t ∧ t.answers (done (.mode m.toMode)) ∧ t.dueSettled ∧
         State.thenPass { s with port := { s.port with mode := m.toMode } } [] t) ∧
     (∀ m : InitMode, s.port.mode = .uninit →
       ∃ t, exec (.init (some m) (some true)) s = .next t ∧ t.answers (done (.mode .selfTest)) ∧
         t.warn.chime = .idle ∧ t.dueSettled ∧
         State.thenPass
           { s with
             port := { s.port with mode := .selfTest, initMode := m }
             warn :=
               { s.warn with
                 chime := .idle
                 entries :=
                   match s.warn.chime with
                   | .idle => s.warn.entries
                   | .sounding a w _ _ _ =>
                     s.warn.entries.map (fun e =>
                       if e.source = a ∧ e.type = w ∧ e.state = .presenting then
                         { e with state := .queued, due := some 0, falling := false }
                       else e) }
             timers :=
               if s.warn.chime = .idle then s.timers else { s.timers with t7 := s.timers.t7.halt } } [] t)) ∧
  (∀ s : State, s.rst.asserted = false →
     (s.port.mode ≠ .selfTest → ∀ failed, exec (.selftestEnd failed) s = .next s) ∧
     (s.port.mode = .selfTest →
       ∃ t, exec (.selftestEnd []) s = .next t ∧ Notice.part.inByte t.port.flags = true ∧ t.dueSettled ∧
         State.thenPass
           { s with port := { s.port with selfTest := .passed, mode := s.port.initMode.toMode } } [] t) ∧
     (s.port.mode = .selfTest → ∀ (failed : List (Fin 5)), ∀ n ∈ failed, (∀ k ∈ failed, n ≤ k) →
       ∃ t, exec (.selftestEnd failed) s = .next t ∧ Notice.part.inByte t.port.flags = true ∧ t.dueSettled ∧
         State.thenPass { s with port := { s.port with selfTest := .failed n, mode := .uninit } } [] t)) ∧
  (∀ s : State, s.serves →
     (s.port.mode = .uninit → ∃ t, exec .shut s = .next t ∧ t.answers (refusal .wrongState) ∧ s.frameOnly t) ∧
     (s.port.mode ≠ .uninit →
       ∃ t, exec .shut s = .next t ∧ t.answers (done .empty) ∧ t.orders = [] ∧ t.alloc.committed = 0 ∧
         Notice.order.inByte t.port.flags = Notice.order.inByte s.port.flags ∧
         (∀ load, t.presented load = none) ∧
         (s.dueSettled →
           (∀ e ∈ s.warn.entries, e.isPair .part .fridgeWarm = false → e ∈ t.warn.entries) ∧
           ((∀ n snd owned, s.warn.chime ≠ .sounding .part .fridgeWarm n snd owned) →
             t.warn.chime = s.warn.chime)) ∧
         State.thenPass { s with orders := [], port := { s.port with mode := .uninit, cause := .shut } } [] t))

/-- R199, R203: a notice that a block sets while RESET is released sets its flag and no other, asserts ATTN by the
enables, and begins a WAKE pulse with the spacing and the wait exactly when the flag was clear, the port is ASLEEP
in NORMAL or WORKSHOP, the wake mask names the flag and the spacing is clear; while RESET is asserted it does
nothing. R203: the pulse and the spacing end by their own timers, whatever else goes on; the wait that runs out with
no frame sets wake unanswered, and one that has ended does nothing. The three wake timers are modelled by their ends
alone (log entry 8). -/
def Obligations.NoticesSetFlagsAndWake : Prop :=
  (∀ (n : Notice) (s : State),
     (s.rst.asserted = true → s.notice n = s) ∧
     (s.rst.asserted = false →
       s.notice n = { s with port := (s.notice n).port } ∧ AttnLaw (s.notice n) ∧
       (∀ m : Notice, m.inByte (s.notice n).port.flags = true ↔ m.inByte s.port.flags = true ∨ m = n) ∧
       s.port.settingsKept (s.notice n).port ∧ (s.notice n).port.asleep = s.port.asleep ∧
       (s.notice n).port.reply = s.port.reply ∧
       (n.inByte s.port.flags = false ∧ s.port.asleep = true ∧ (s.port.mode = .normal ∨ s.port.mode = .workshop) ∧
           n.inByte s.port.mask = true ∧ s.port.spacing = false →
         (s.notice n).port.wake = true ∧ (s.notice n).port.spacing = true ∧ (s.notice n).port.wait = true) ∧
       (¬(n.inByte s.port.flags = false ∧ s.port.asleep = true ∧ (s.port.mode = .normal ∨ s.port.mode = .workshop) ∧
           n.inByte s.port.mask = true ∧ s.port.spacing = false) →
         (s.notice n).port.wake = s.port.wake ∧ (s.notice n).port.spacing = s.port.spacing ∧
         (s.notice n).port.wait = s.port.wait))) ∧
  (∀ s : State,
     exec .wakePulseEnd s = .next { s with port := { s.port with wake := false } } ∧
     exec .wakeSpacingExpiry s = .next { s with port := { s.port with spacing := false } } ∧
     (s.rst.asserted = false → s.port.wait = true →
       exec .wakeWaitExpiry s = .next { s with port := { s.port with wait := false, unanswered := true } }) ∧
     (s.rst.asserted = true ∨ s.port.wait = false → exec .wakeWaitExpiry s = .next s))

/-- R194 to R197, R204 and the table of R194: the part mode changes only by INIT from UNINIT, by the self-test's end
from SELFTEST, by SHUT (as its row or as a frame that spells it, log entry 5) from NORMAL or WORKSHOP to UNINIT, by
the end of a warm reset from SELFTEST to UNINIT, and by a cold start to UNINIT. -/
def Obligations.ModeChangesByItsTable : Prop :=
  ∀ (c : Instr) (s t : State), exec c s = .next t → t.port.mode ≠ s.port.mode →
    (∃ m b, c = .init (some m) (some b) ∧ s.port.mode = .uninit ∧
      t.port.mode = if b then .selfTest else m.toMode) ∨
    (∃ failed, c = .selftestEnd failed ∧ s.port.mode = .selfTest ∧
      t.port.mode = if failed = [] then s.port.initMode.toMode else .uninit) ∨
    ((c = .shut ∨ ∃ bytes, c = .unknownRequest (.frame bytes) ∧ frameRequest bytes = some .shut) ∧
      (s.port.mode = .normal ∨ s.port.mode = .workshop) ∧ t.port.mode = .uninit) ∨
    (c = .resetEnd ∧ s.rst.asserted = true ∧ s.port.mode = .selfTest ∧ t.port.mode = .uninit) ∨
    (c = .coldStart ∧ t.port.mode = .uninit)

/-! ### Orders and the allocation pass -/

/-- R5, R6, R7: a target is stored as clamped, in the form of its load, and a fade that a HEATER or FRIDGE order
carries is disregarded; an offset is clamped to 720 minutes either way; a form, an anchor name or a slot outside its
values, or a duration outside 1 to 1,440, is none. R18, R19: OPLACE. The checks of Table 11 in their order; an order
that passes them is entered with origin HOST, its fields as carried after clamping, placed at now and PENDING, and a
pass follows; the reply carries its state after it. The empty body of a refusal is DEDUCED (log entry 14). -/
def Obligations.OplaceEntersTheOrder : Prop :=
  ((∀ x : TargetArg,
      x.store .heater = .setpoint (max 50 (min 300 x.value)) ∧
      (x.clamped .heater = true ↔ x.value < 50 ∨ 300 < x.value) ∧
      x.store .fridge = .setpoint (max (-200) (min 100 x.value)) ∧
      (x.clamped .fridge = true ↔ x.value < -200 ∨ 100 < x.value) ∧
      ∀ load, load ≠ .heater → load ≠ .fridge →
        x.store load = .light (max 0 (min 1000 x.value)).toNat (min 1800 x.fade) ∧
        (x.clamped load = true ↔ x.value < 0 ∨ 1000 < x.value ∨ 1800 < x.fade)) ∧
   (StartArg.immediate.store = some .immediate ∧ StartArg.immediate.clamped = false ∧ StartArg.bad.store = none ∧
    (∀ m : Word32,
      (StartArg.absolute m).store = some (.absolute m.toNat) ∧ (StartArg.absolute m).clamped = false) ∧
    ∀ (n : Nat) (anchor : Option AnchorName) (offset : Int),
      (slotOf n = none ∨ anchor = none → (StartArg.anchored n anchor offset).store = none) ∧
      (∀ i, slotOf n = some i → ∀ name, anchor = some name →
        (StartArg.anchored n anchor offset).store = some (.anchored i name (max (-720) (min 720 offset)))) ∧
      ((StartArg.anchored n anchor offset).clamped = true ↔ offset < -720 ∨ 720 < offset)) ∧
   (FinishArg.unending.store = some .unending ∧ FinishArg.bad.store = none ∧
    (∀ m : Word32, (FinishArg.absolute m).store = some (.absolute m.toNat)) ∧
    ∀ n : Nat,
      (1 ≤ n → n ≤ 1440 → (FinishArg.duration n).store = some (.duration n)) ∧
      (n < 1 ∨ 1440 < n → (FinishArg.duration n).store = none))) ∧
  ∀ (a : PlaceArg) (s : State), s.serves →
    (s.port.mode = .uninit → s.refuses (.oplace a) .wrongState) ∧
    (s.port.mode ≠ .uninit →
      a.key.toNat = 0 ∨ 240 < a.key.toNat ∨ a.load = none ∨ a.cls = none ∨ a.start.store = none ∨
        a.finish.store = none →
      s.refuses (.oplace a) .badField) ∧
    (s.port.mode ≠ .uninit → 1 ≤ a.key.toNat → a.key.toNat ≤ 240 → ∀ load, a.load = some load → ∀ cls,
      a.cls = some cls → ∀ start, a.start.store = some start → ∀ finish, a.finish.store = some finish →
      ((∃ e, finish = .absolute e ∧ (e ≤ s.clock.minute ∨ ∃ b, start = .absolute b ∧ e ≤ b)) →
        s.refuses (.oplace a) .badField) ∧
      ((∀ e, finish = .absolute e → s.clock.minute < e ∧ ∀ b, start = .absolute b → b < e) →
        ((∃ i n off, start = .anchored i n off ∧ s.account i = none) → s.refuses (.oplace a) .noSuchAccount) ∧
        ((∀ i n off, start = .anchored i n off → s.account i ≠ none) →
          ((∃ o ∈ s.orders, o.key = a.key.toNat) → s.refuses (.oplace a) .keyInUse) ∧
          ((∀ o ∈ s.orders, o.key ≠ a.key.toNat) → 24 ≤ s.orders.length → s.refuses (.oplace a) .tableFull) ∧
          ((∀ o ∈ s.orders, o.key ≠ a.key.toNat) → s.orders.length < 24 →
            ∃ t, exec (.oplace a) s = .next t ∧
              t.answers (doneIf (a.target.clamped load || a.start.clamped)
                (.placed a.key.toNat ((findOrder a.key.toNat t.orders).map Order.state))) ∧
              State.afterPass
                { s with
                  orders :=
                    insertOrder
                      { key := a.key.toNat, origin := .host, load := load, cls := cls, target := a.target.store load
                        start := start, finish := finish, placedAt := s.clock.minute, state := .pending
                        resolvedStart := none, resolvedEnd := none, forecast := 0, admittedAt := none }
                      s.orders } t))))

/-- R20, R21: OAMEND. The checks of R20 in their order; an accepted one writes the fields marked to change, stored and
clamped as OplaceEntersTheOrder says of R5 to R7, sets
placed at to now for an immediate start, keeps everything else of the order, and starts a pass. The empty body of a
refusal is DEDUCED (log entry 14). -/
def Obligations.OamendRewritesTheOrder : Prop :=
  ∀ (a : AmendArg) (s : State), s.serves →
    (s.port.mode = .uninit → s.refuses (.oamend a) .wrongState) ∧
    (s.port.mode ≠ .uninit → a.key.toNat = 0 ∨ 244 < a.key.toNat → s.refuses (.oamend a) .badField) ∧
    (s.port.mode ≠ .uninit → 1 ≤ a.key.toNat → a.key.toNat ≤ 244 → findOrder a.key.toNat s.orders = none →
      s.refuses (.oamend a) .noSuchKey) ∧
    (∀ o, findOrder a.key.toNat s.orders = some o → s.port.mode ≠ .uninit → 1 ≤ a.key.toNat → a.key.toNat ≤ 244 →
      (a.load ≠ some o.load ∨ a.cls = some none ∨ (∃ x, a.start = some x ∧ x.store = none) ∨
          (∃ x, a.finish = some x ∧ x.store = none) →
        s.refuses (.oamend a) .badField) ∧
      (a.load = some o.load → ∀ cls, a.cls.getD (some o.cls) = some cls →
        ∀ start, (a.start.map StartArg.store).getD (some o.start) = some start →
        ∀ finish, (a.finish.map FinishArg.store).getD (some o.finish) = some finish →
        ((a.finish ≠ none ∧ ∃ e, finish = .absolute e ∧ e ≤ s.clock.minute) ∨
            (∃ b e, start = .absolute b ∧ finish = .absolute e ∧ e ≤ b) →
          s.refuses (.oamend a) .badField) ∧
        ((a.finish ≠ none → ∀ e, finish = .absolute e → s.clock.minute < e) →
          (∀ b e, start = .absolute b → finish = .absolute e → b < e) →
          ((a.start ≠ none ∧ ∃ i n off, start = .anchored i n off ∧ s.account i = none) →
            s.refuses (.oamend a) .noSuchAccount) ∧
          ((a.start ≠ none → ∀ i n off, start = .anchored i n off → s.account i ≠ none) →
            ∃ t, exec (.oamend a) s = .next t ∧
              t.answers (doneIf
                ((match a.target with
                  | none => false
                  | some x => x.clamped o.load) ||
                 (match a.start with
                  | none => false
                  | some x => x.clamped))
                (.placed a.key.toNat ((findOrder a.key.toNat t.orders).map Order.state))) ∧
              State.afterPass
                { s with
                  orders :=
                    insertOrder
                      { o with
                        cls := cls, start := start, finish := finish
                        target :=
                          match a.target with
                          | none => o.target
                          | some x => x.store o.load
                        placedAt := if a.start = some .immediate then s.clock.minute else o.placedAt }
                      s.orders } t))))

/-- R22, R24: OLOOK returns the order of a key, is refused in UNINIT, for a key of 0 or above 244 and for a key that
is not in the table, changes nothing and starts no pass. OLIST is refused in UNINIT and otherwise returns the keys,
loads and states of every order, at most 24 of them in ascending key order where the table keeps its law (log entry 37),
and changes nothing. The empty body of a refusal is DEDUCED (log entry 14). -/
def Obligations.OlookAndOlistReport : Prop :=
  ∀ s : State, s.serves →
    (s.port.mode = .uninit → (∀ key, s.refuses (.olook key) .wrongState) ∧ s.refuses .olist .wrongState) ∧
    (s.port.mode ≠ .uninit →
      (∀ key : Byte, key.toNat = 0 ∨ 244 < key.toNat → s.refuses (.olook key) .badField) ∧
      (∀ key : Byte, 1 ≤ key.toNat → key.toNat ≤ 244 → (∀ o ∈ s.orders, o.key ≠ key.toNat) →
        s.refuses (.olook key) .noSuchKey) ∧
      (∀ (key : Byte) (o : Order), findOrder key.toNat s.orders = some o → 1 ≤ key.toNat → key.toNat ≤ 244 →
        o ∈ s.orders ∧ o.key = key.toNat ∧
        ∃ t, exec (.olook key) s = .next t ∧ t.answers (done (.order o)) ∧ s.frameOnly t) ∧
      (∃ t, exec .olist s = .next t ∧ ∃ rows, t.answers (done (.orders rows)) ∧ s.frameOnly t ∧
        (OrderLaw s → rows.length ≤ 24 ∧ rows.Pairwise (fun a b => a.1 < b.1)) ∧
        rows.length = s.orders.length ∧
        ∀ row, row ∈ rows ↔ ∃ o ∈ s.orders, row = (o.key, o.load, o.state)))

/-- R23: ORETIRE. The checks in their order; an accepted one removes the order in whatever state it holds, answers that
state, and starts a pass, which alone may set ORDER. R1: the table holds no key twice: an order entered replaces one of
its own key, and a removal takes out that key alone. That the stored table stands in ascending key order is the model's
canonical form (log entry 37), and the empty body of a refusal is DEDUCED (log entry 14). -/
def Obligations.OretireRemovesTheOrder : Prop :=
  (∀ (key : Byte) (s : State), s.serves →
     (s.port.mode = .uninit → s.refuses (.oretire key) .wrongState) ∧
     (s.port.mode ≠ .uninit → key.toNat = 0 ∨ 244 < key.toNat → s.refuses (.oretire key) .badField) ∧
     (s.port.mode ≠ .uninit → 1 ≤ key.toNat → key.toNat ≤ 244 →
       ((∀ o ∈ s.orders, o.key ≠ key.toNat) → s.refuses (.oretire key) .noSuchKey) ∧
       (∀ o, findOrder key.toNat s.orders = some o →
         ∃ t, exec (.oretire key) s = .next t ∧ t.answers (done (.retired key.toNat o.state)) ∧
           (∀ p ∈ t.orders, p.key ≠ key.toNat) ∧
           State.afterPass { s with orders := s.orders.filter (fun p => decide (p.key ≠ key.toNat)) } t))) ∧
  (∀ (o : Order) (os : List Order), os.Pairwise (fun a b => a.key < b.key) →
     (insertOrder o os).Pairwise (fun a b => a.key < b.key) ∧
     (∀ p, p ∈ insertOrder o os ↔ p = o ∨ (p ∈ os ∧ p.key ≠ o.key)) ∧
     ((∀ p ∈ os, p.key ≠ o.key) → (insertOrder o os).length = os.length + 1) ∧
     (eraseOrder o.key os).Pairwise (fun a b => a.key < b.key) ∧
     (∀ p, p ∈ eraseOrder o.key os ↔ p ∈ os ∧ p.key ≠ o.key))

/-- R9, R10, R13: stages 1 and 2 of a pass. Every order left is one of the table with its start and its end resolved
from its form, the accounts and its placed at, with no end at or before now; every order taken out had such an end;
and the pass reports a removal exactly when it made one. R8, R48: admitted at is the minute of the pass that first makes
the order ACTIVE, and is kept otherwise. R11, R34 and Table 9: the state a pass gives each order it
leaves: PENDING when it is not eligible, BLOCKED when its load is unavailable, and otherwise STANDBY, ACTIVE or
WAITING, at most one of the last two for each load. A table has no key twice (R1). -/
def Obligations.PassResolvesAndStatesOrders : Prop :=
  (∀ (r : Reading) (os : List Order),
     (∀ o ∈ (r.run os).orders, ∃ p ∈ os,
       o = { p with
             state := o.state, resolvedStart := o.resolvedStart, resolvedEnd := o.resolvedEnd
             forecast := o.forecast, admittedAt := o.admittedAt } ∧
       o.resolvedStart =
         (match p.start with
          | .immediate => some p.placedAt
          | .absolute m => some m
          | .anchored i name offset =>
            (r.accounts.get i).bind (fun a =>
              (match name, a.restEnd with
               | .restStart, _ => a.restStart
               | .restEnd, some (.expected m) => some m
               | .restEnd, some (.fixed m) => some m
               | .restEnd, none => none).map (fun m => (max 0 (min (maxMinute : Int) (m + offset))).toNat))) ∧
       o.resolvedEnd =
         (match p.finish with
          | .unending => none
          | .absolute m => some m
          | .duration n => o.resolvedStart.map (fun m => min (m + n) maxMinute)) ∧
       o.admittedAt =
         (if o.state = .active ∧ p.admittedAt = none then some r.now else p.admittedAt) ∧
       ∀ e, o.resolvedEnd = some e → r.now < e) ∧
     (∀ p ∈ os, (∀ o ∈ (r.run os).orders, o.key ≠ p.key) → ∃ e, resolveEnd r.accounts p = some e ∧ e ≤ r.now) ∧
     ((r.run os).removed = true ↔ ∃ p ∈ os, ∃ e, resolveEnd r.accounts p = some e ∧ e ≤ r.now)) ∧
  (∀ (r : Reading) (os : List Order), (os.map Order.key).Nodup →
     ∀ o ∈ (r.run os).orders,
       (o.state = .pending ↔ eligible r.now o = false) ∧
       (o.state = .blocked ↔ eligible r.now o = true ∧
         ((o.load = .heater ∧ r.heater = .lockout) ∨ (o.load = .fridge ∧ r.fridge = .fault))) ∧
       (o.state ≠ .active → o.state ≠ .waiting → o.forecast = 0) ∧
       (∀ p ∈ (r.run os).orders, (o.state = .active ∨ o.state = .waiting) → (p.state = .active ∨ p.state = .waiting) →
         p.load = o.load → p.key = o.key) ∧
       (o.state = .standby → ∃ p ∈ (r.run os).orders, p.load = o.load ∧ (p.state = .active ∨ p.state = .waiting)) ∧
       (o.state = .active → o.admittedAt ≠ none))

/-- R35: the candidate of an available load is the eligible order that comes first by the five tests: manual keys before
wake keys before host keys, then for host orders the class, then the incumbent, then the earlier resolved start,
then the lower key; there is none exactly when the load is unavailable or has no eligible order. After a pass every
other eligible order of an available load is STANDBY, at most one order of each load is ACTIVE, and none of a load in
LOCKOUT or in FAULT. A table has no key twice (R1). -/
def Obligations.CandidateIsFirst : Prop :=
  (∀ (r : Reading) (os : List Order) (load : Load),
    (r.candidate os load = none ↔
      r.unavailable load = true ∨ ∀ o ∈ os, o.load = load → eligible r.now o = false) ∧
    (∀ c, r.candidate os load = some c →
      c ∈ os ∧ c.load = load ∧ eligible r.now c = true ∧
      ∀ o ∈ os, o.load = load → eligible r.now o = true →
        keyGroup c.key ≤ keyGroup o.key ∧
        (keyGroup c.key = keyGroup o.key →
          (keyGroup c.key = 2 → c.cls.rank ≤ o.cls.rank) ∧
          ((keyGroup c.key = 2 → c.cls = o.cls) →
            (o.state = .active → c.state = .active) ∧
            ((o.state = .active ↔ c.state = .active) →
              c.resolvedStart.getD 0 ≤ o.resolvedStart.getD 0 ∧
              (c.resolvedStart.getD 0 = o.resolvedStart.getD 0 → c.key ≤ o.key)))))) ∧
  (∀ (r : Reading) (os : List Order), (os.map Order.key).Nodup →
    ∀ o ∈ (r.run os).orders,
      (o.state = .standby ↔
        ∃ c, r.candidate (r.resolved os) o.load = some c ∧ c.key ≠ o.key ∧ eligible r.now o = true) ∧
      (o.state = .active →
        r.unavailable o.load = false ∧
        ¬(o.load = .heater ∧ r.heater = .lockout) ∧ ¬(o.load = .fridge ∧ r.fridge = .fault) ∧
        ∀ p ∈ (r.run os).orders, p.state = .active → p.load = o.load → p.key = o.key))

/-- R45, R46 and Table 15: each candidate of the walk is admitted by the first case that applies to it, against the
sum of the forecasts admitted before it; the walk goes on past one it leaves WAITING, and its last sum is the
committed charge. R44, whole: a pass walks its candidates, one of each load that has one and at most six, one by one
by class, then the incumbents, then the earlier resolved start, then the lower key, from a sum of 0. R42, R47: an
order is ACTIVE exactly when the walk admits its key, the committed charge is the walk's sum, and each candidate holds
its forecast. R37, R39 to R41: the forecast of a candidate: its draw over the minutes left of its window, at most the
horizon, rounded up, with the cold uplift and the start charge for the heater and the planning duty for the fridge. A
table has no key twice (R1). -/
def Obligations.WalkFollowsTable15 : Prop :=
  (∀ (r : Reading) (cs : List Order), (cs.map Order.key).Nodup →
     (∀ (before : List Order) (c : Order) (after : List Order), cs = before ++ c :: after →
       (c.key ∈ (r.walk 0 cs).2 ↔
         r.mode = .workshop ∨
         (¬(r.synced = true ∧ r.count = 0) ∧
           (c.cls = .essential ∨
             (r.synced = true ∧
               ((before.filter (fun o => decide (o.key ∈ (r.walk 0 cs).2))).map r.forecast).sum + r.forecast c ≤
                 (r.count - r.reserve) + (if c.state = .active then r.keepMargin else 0)))))) ∧
     (r.walk 0 cs).1 = ((cs.filter (fun o => decide (o.key ∈ (r.walk 0 cs).2))).map r.forecast).sum) ∧
  (∀ (r : Reading) (os : List Order), (os.map Order.key).Nodup →
     ∃ cs : List Order, cs = r.candidates (r.resolved os) ∧ cs.length ≤ 6 ∧ (cs.map Order.key).Nodup ∧
       (∀ c, c ∈ cs ↔ ∃ load, r.candidate (r.resolved os) load = some c) ∧
       cs.Pairwise (fun a b =>
         a.cls.rank ≤ b.cls.rank ∧
         (a.cls = b.cls →
           (b.state = .active → a.state = .active) ∧
           ((a.state = .active ↔ b.state = .active) →
             a.resolvedStart.getD 0 ≤ b.resolvedStart.getD 0 ∧
             (a.resolvedStart.getD 0 = b.resolvedStart.getD 0 → a.key < b.key)))) ∧
       (r.run os).committed = (r.walk 0 cs).1 ∧
       ∀ o ∈ (r.run os).orders,
         (o.state = .active ↔ o.key ∈ (r.walk 0 cs).2) ∧
         (o.state = .waiting ↔ (∃ c ∈ cs, c.key = o.key) ∧ o.key ∉ (r.walk 0 cs).2) ∧
         (∀ c ∈ cs, c.key = o.key → o.forecast = r.forecast c) ∧
         ((∀ c ∈ cs, c.key ≠ o.key) → o.forecast = 0)) ∧
  (∀ (r : Reading) (o : Order), ∀ m : Nat,
     m = (match o.resolvedEnd with
          | some e => min (e - r.now) r.horizon
          | none => r.horizon) →
     (o.load = .heater → ∀ k, k = (if r.outsideFault then 10 else if r.outside < 0 then min ((-r.outside).toNat / 50) 10 else 0) →
       r.forecast o =
         (r.draws.heaterDraw * (100 + 8 * k) / 100 * m + 59) / 60 +
           (if r.heater = .run ∨ r.heater = .proving then 0 else r.draws.heaterStart)) ∧
     (o.load = .fridge → r.forecast o = (r.draws.fridgeDraw * r.draws.fridgeDuty / 100 * m + 59) / 60) ∧
     (∀ level fade, o.target = .light level fade →
       (o.load = .readA → r.forecast o = (r.draws.readA * level / 1000 * m + 59) / 60) ∧
       (o.load = .readB → r.forecast o = (r.draws.readB * level / 1000 * m + 59) / 60) ∧
       (o.load = .cabLight → r.forecast o = (r.draws.cabLight * level / 1000 * m + 59) / 60) ∧
       (o.load = .nightLight → r.forecast o = (r.draws.nightLight * level / 1000 * m + 59) / 60)))

/-! ### The cab clock and the budget -/

/-- R27, R84: TSET sets the cab minute, clears the prescaler and sets the clock-set flag, shifts placed at and admitted
at of every order and every present anchor of every account by the step, held at both ends, and runs a pass. -/
def Obligations.TsetStepsTheClock : Prop :=
  ∀ (minute : Word32) (s : State), s.serves → ∀ step : Int, step = (minute.toNat : Int) - s.clock.minute →
    ∃ t, exec (.tset minute) s = .next t ∧ t.answers (done (.step step)) ∧
      State.afterPass
        { s with
          clock := { minute := minute.toNat, prescaler := 0, isSet := true }
          orders :=
            s.orders.map (fun o =>
              { o with
                placedAt := holdMinute (o.placedAt + step)
                admittedAt := o.admittedAt.map (fun m => holdMinute (m + step)) })
          accounts :=
            s.accounts.mapSome (fun a =>
              { a with
                restStart := a.restStart.map (fun m => holdMinute (m + step))
                restEnd :=
                  match a.restEnd with
                  | none => none
                  | some (.expected m) => some (.expected (holdMinute (m + step)))
                  | some (.fixed m) => some (.fixed (holdMinute (m + step))) }) } t

/-- R49, whole: BSET clamps and writes H and Mk, starts a pass that uses them, and answers them as stored. R50: PLAN
writes all eight draws, the four light draws into the light channels, p clamped to 100, starts a pass that forecasts
from them, and answers them as stored. -/
def Obligations.BsetAndPlanSetTheBudget : Prop :=
  (∀ (horizon keepMargin : Nat) (s : State), s.serves → ∀ h : Nat,
     h = (if horizon < 30 then 30 else if 1440 < horizon then 1440 else horizon) → ∀ k : Nat,
     k = (if 20000 < keepMargin then 20000 else keepMargin) →
     ∃ t, exec (.bset horizon keepMargin) s = .next t ∧
       t.answers (doneIf (decide (h ≠ horizon ∨ k ≠ keepMargin)) (.budget h k)) ∧
       State.afterPass { s with alloc := { s.alloc with horizon := h, keepMargin := k } } t) ∧
  (∀ (a : PlanArg) (s : State), s.serves → ∀ p : Nat, p = min a.fridgeDuty 100 →
     ∃ t, exec (.plan a) s = .next t ∧
       t.answers (doneIf (decide (100 < a.fridgeDuty)) (.draws
         { heaterDraw := a.heaterDraw.toNat, heaterStart := a.heaterStart.toNat, fridgeDraw := a.fridgeDraw.toNat
           fridgeDuty := p, readA := a.readA.toNat, readB := a.readB.toNat, cabLight := a.cabLight.toNat
           nightLight := a.nightLight.toNat })) ∧
       State.afterPass
         { s with
           alloc :=
             { s.alloc with
               heaterDraw := a.heaterDraw.toNat, heaterStart := a.heaterStart.toNat
               fridgeDraw := a.fridgeDraw.toNat, fridgeDuty := p }
           lights :=
             { s.lights with
               readA := { s.lights.readA with fullDraw := a.readA.toNat }
               readB := { s.lights.readB with fullDraw := a.readB.toNat }
               cabLight := { s.lights.cabLight with fullDraw := a.cabLight.toNat }
               nightLight := { s.lights.nightLight with fullDraw := a.nightLight.toNat } } } t)

/-- R26, R29: the cab minute moves only by TSET, at a minute expiry (as its own command or within a second that ends the
minute, log entry 6) and at a cold start, and the clock-set flag is set by TSET alone and cleared by a cold start
alone. A TSET may also stand as a frame that spells it (log entry 5). -/
def Obligations.CabClockMovesOnlyByItsEvents : Prop :=
  ∀ (c : Instr) (s t : State), exec c s = .next t →
    (t.clock.minute ≠ s.clock.minute →
      (∃ m : Word32, (c = .tset m ∨ ∃ bytes, c = .unknownRequest (.frame bytes) ∧ frameRequest bytes = some (.tset m)) ∧
        t.clock.minute = m.toNat) ∨
      ((c = .minuteExpiry ∨ (c = .timebaseSecond true ∧ 59 ≤ s.clock.prescaler)) ∧
        t.clock.minute = (if s.clock.minute = maxMinute then 0 else s.clock.minute + 1)) ∨
      c = .coldStart) ∧
    (t.clock.isSet ≠ s.clock.isSet →
      ((∃ m : Word32, c = .tset m ∨ ∃ bytes, c = .unknownRequest (.frame bytes) ∧ frameRequest bytes = some (.tset m)) ∧
        t.clock.isSet = true) ∨
      (c = .coldStart ∧ t.clock.isSet = false))

/-! ### The charge account -/

/-- R53 to R55, R58, R59, R61, R125: a charge pulse adds its weight to the content of Q and r, up to a full count; a
discharge pulse takes it away, down to nothing; each moves the minute tally and its own total, and then CHARGE_RESERVE
is listed exactly when its condition holds, with CHARGE set when that changes or the attention holds. R116: while
RESET is asserted the raise or the removal is held for its end and no notice is set; that what is already held counts
in what is listed is DEDUCED (log entry 24). -/
def Obligations.PulsesMoveTheCharge : Prop :=
  ∀ s : State, ChargeLaw s → HeldLaw s →
    (∃ t, exec .qchgPulse s = .next t ∧
      t.charge.count * 3600 + t.charge.residue =
        min (s.charge.count * 3600 + s.charge.residue + s.charge.weight) (s.charge.capacity * 3600) ∧
      t.charge =
        { s.charge with
          count := t.charge.count, residue := t.charge.residue
          tally := min (s.charge.tally + s.charge.weight) 2147483647 } ∧
      t.charge.residue < 3600 ∧ t.sense = { s.sense with chgTotal := s.sense.chgTotal + 1 } ∧
      s.chargeWorked t) ∧
    (∃ t, exec .qdisPulse s = .next t ∧
      t.charge.count * 3600 + t.charge.residue =
        s.charge.count * 3600 + s.charge.residue - s.charge.weight ∧
      t.charge =
        { s.charge with
          count := t.charge.count, residue := t.charge.residue
          tally := max (s.charge.tally - s.charge.weight) (-2147483647) } ∧
      t.charge.residue < 3600 ∧ t.sense = { s.sense with disTotal := s.sense.disTotal + 1 } ∧
      s.chargeWorked t)

/-- R62, R63: CSET refuses a capacity, weight or reserve outside its range; else it writes the three, holds Q at the
new capacity with no residue there, answers them with Q and r, and runs a pass. R60, R64: CSYNC sets Q to the charge
carried, held at the capacity, with r 0 and SYNCED, answers the Q it set, and runs a pass. R59, R61: after either,
CHARGE_RESERVE is listed exactly when its condition holds, and CHARGE is set by a change of that or by the attention.
The empty body of a refusal is DEDUCED (log entry 14). -/
def Obligations.CsetAndCsyncSetTheAccount : Prop :=
  (∀ (capacity reserve weight : Nat) (s : State), s.serves →
     (capacity < 10000 ∨ 1000000 < capacity ∨ weight < 1 ∨ 36000 < weight ∨ capacity ≤ reserve →
       s.refuses (.cset capacity reserve weight) .badField) ∧
     (10000 ≤ capacity → capacity ≤ 1000000 → 1 ≤ weight → weight ≤ 36000 → reserve < capacity →
       ∀ c, c =
           { s.charge with
             capacity := capacity, reserve := reserve, weight := weight, count := min s.charge.count capacity
             residue := if capacity ≤ s.charge.count then 0 else s.charge.residue } →
         ∃ t, exec (.cset capacity reserve weight) s = .next t ∧
           t.answers (done (.chargeSet capacity reserve weight c.count c.residue)) ∧
           State.thenPass { s with charge := c } [(.part, .chargeReserve)] t ∧
           (HeldLaw s →
             (hasPair .part .chargeReserve t.warn.entries = true ↔ c.synced = true ∧ c.count ≤ c.reserve) ∧
             (Notice.charge.inByte t.port.flags = true ↔
               Notice.charge.inByte s.port.flags = true ∨
               hasPair .part .chargeReserve t.warn.entries ≠ hasPair .part .chargeReserve s.warn.entries ∨
               c.synced = false ∨ c.count ≤ c.reserve)))) ∧
  (∀ (x : Word32) (s : State), s.serves →
     ∃ t, exec (.csync x) s = .next t ∧
       t.answers (doneIf (decide (s.charge.capacity < x.toNat)) (.synced (min x.toNat s.charge.capacity))) ∧
       State.thenPass
         { s with charge := { s.charge with count := min x.toNat s.charge.capacity, residue := 0, synced := true } }
         [(.part, .chargeReserve)] t ∧
       (HeldLaw s →
         (hasPair .part .chargeReserve t.warn.entries = true ↔
           min x.toNat s.charge.capacity ≤ s.charge.reserve) ∧
         (Notice.charge.inByte t.port.flags = true ↔
           Notice.charge.inByte s.port.flags = true ∨
           hasPair .part .chargeReserve t.warn.entries ≠ hasPair .part .chargeReserve s.warn.entries ∨
           min x.toNat s.charge.capacity ≤ s.charge.reserve)))

/-! ### The rest accounts -/

/-- R94: AOPEN, with its checks in their order; an account it opens is IDLE with the default settings, nothing counted
and no anchor, and nothing else changes. The empty body of a refusal is DEDUCED (log entry 14). -/
def Obligations.AopenOpensTheSlot : Prop :=
  ∀ (n : Nat) (tag : Word32) (s : State), s.serves →
    (∀ b : Option Bunk, slotOf n = none ∨ b = none ∨ tag.toNat = 0 → s.refuses (.aopen n tag b) .badField) ∧
    (∀ i, slotOf n = some i → ∀ b : Bunk, tag.toNat ≠ 0 →
      (s.account i ≠ none → s.refuses (.aopen n tag (some b)) .slotInUse) ∧
      (s.account i = none →
        ((∃ j a, s.account j = some a ∧ a.tag = tag.toNat) → s.refuses (.aopen n tag (some b)) .tagInUse) ∧
        ((∀ j a, s.account j = some a → a.tag ≠ tag.toNat) →
          ((b ≠ .noBunk ∧ ∃ j a, s.account j = some a ∧ a.bunk = b) →
            s.refuses (.aopen n tag (some b)) .bunkTaken) ∧
          (b = .noBunk ∨ (∀ j a, s.account j = some a → a.bunk ≠ b) →
            ∃ t, exec (.aopen n tag (some b)) s = .next t ∧ t.answers (done (.opened i tag.toNat)) ∧
              State.frameOnly
                { s with
                  accounts :=
                    s.accounts.set i
                      (some
                        { tag := tag.toNat, bunk := b, state := .idle
                          settings :=
                            { rest := 660, segment := 180, drive := 270, lead := 15, pause := 45, daily := 540
                              wake := true, wakeLevel := 400, wakeRamp := 10 }
                          staged := none, segSeconds := 0, lastSegment := none, accumulated := 0, rested := false
                          contSeconds := 0, breakSeconds := 0, dailySeconds := 0, restStart := none
                          restEnd := none }) } t))))

/-- R90, R95: ASET, with its checks in their order; the bunk is written at once, and the set as stored is staged while
the rest is declared and replaces the set in force otherwise, where a break already long enough is complete and the
driving warnings are those the new figures give; no other warning is raised or removed, and no pass runs. The empty
body of a refusal is DEDUCED (log entry 14). When within the event a warning is tested for suppression is DEDUCED (log
entry 29). -/
def Obligations.AsetWritesTheSettings : Prop :=
  ∀ (n : Nat) (arg : SettingsArg) (s : State), s.serves →
    (∀ b : Option Bunk, slotOf n = none ∨ b = none ∨ arg.wake = none → s.refuses (.aset n b arg) .badField) ∧
    (∀ i, slotOf n = some i → ∀ w, arg.wake = some w → ∀ b : Bunk,
      (s.account i = none → s.refuses (.aset n (some b) arg) .noSuchAccount) ∧
      (∀ a, s.account i = some a →
        (a.declared = true → b ≠ a.bunk → s.refuses (.aset n (some b) arg) .wrongState) ∧
        (a.declared = false → b ≠ a.bunk → b ≠ .noBunk → (∃ j c, s.account j = some c ∧ c.bunk = b) →
          s.refuses (.aset n (some b) arg) .bunkTaken) ∧
        (b = a.bunk ∨ (a.declared = false ∧ (b = .noBunk ∨ ∀ j c, s.account j = some c → c.bunk ≠ b)) →
          ∀ r, r = clampNat 60 1440 arg.rest → ∀ x,
            x =
              { rest := r, segment := clampNat 15 r arg.segment, drive := clampNat 60 600 arg.drive
                lead := clampNat 0 60 arg.lead, pause := clampNat 15 120 arg.pause
                daily := clampNat 60 900 arg.daily, wake := w, wakeLevel := clampNat 0 1000 arg.wakeLevel
                wakeRamp := clampNat 1 30 arg.wakeRamp } →
            ∃ t, exec (.aset n (some b) arg) s = .next t ∧
              t.answers (doneIf arg.clamped (.settings a.declared x)) ∧
              State.presenterOnly { s with accounts := t.accounts }
                [(.slot i, .driveNear), (.slot i, .driveOver), (.slot i, .dailyOver)] t ∧
              t.dueSettled ∧ (∀ j, j ≠ i → t.account j = s.account j) ∧
              (a.declared = true → t.account i = some { a with staged := some x } ∧
                ∀ source type,
                  hasPair source type t.warn.entries = hasPair source type s.warn.entries) ∧
              (a.declared = false →
                t.account i =
                  some
                    { a with
                      bunk := b, settings := x
                      contSeconds :=
                        if a.state = .driving ∧ s.sense.motion ≠ .moving ∧ x.pause * 60 ≤ a.breakSeconds then 0
                        else a.contSeconds } ∧
                (HeldLaw s → ∀ c, t.account i = some c → t.warn.drivingWorked i c)))))

/-- R72, R73, R76: ADECL REST is refused while the rest is declared; from IDLE or DRIVING it clears a FIXED REST_END
and takes the account to REST_WAIT, or at a standstill to RESTING with its segment started, sets ACCOUNT, works the
quiet flag, and runs a pass exactly when an anchor moved, over the table with the wake order of R81 where REST_DONE
fires at that segment start. R72, R74, R78: ADECL END is refused while no rest is declared; else it closes a running
segment, takes the account to IDLE, applies staged settings, removes REST_DONE, works the quiet flag and runs a pass.
The warnings of R78, R80 and R89 that each of them raises and removes are those said in `restDeclared` and
`restEnded`. The empty body of a refusal is DEDUCED (log entry 14). When within the event a warning is tested for
suppression is DEDUCED (log entry 29). -/
def Obligations.AdeclRestAndEndAct : Prop :=
  (∀ (n : Nat) (s : State), s.serves →
     (slotOf n = none → s.refuses (.adeclRest n) .badField) ∧
     (∀ i, slotOf n = some i →
       (s.account i = none → s.refuses (.adeclRest n) .noSuchAccount) ∧
       (∀ a, s.account i = some a →
         (a.declared = true → s.refuses (.adeclRest n) .wrongState) ∧
         (a.declared = false →
           ∃ t, exec (.adeclRest n) s = .next t ∧
             t.answers (done (.declared i (if s.standstill then .resting else .restWait))) ∧
             s.restDeclared i a t)))) ∧
  (∀ (n : Nat) (s : State), s.serves →
     (slotOf n = none → s.refuses (.adeclEnd n) .badField) ∧
     (∀ i, slotOf n = some i →
       (s.account i = none → s.refuses (.adeclEnd n) .noSuchAccount) ∧
       (∀ a, s.account i = some a →
         (a.declared = false → s.refuses (.adeclEnd n) .wrongState) ∧
         (a.declared = true →
           ∃ t, exec (.adeclEnd n) s = .next t ∧ t.answers (done (.declared i .idle)) ∧ s.restEnded i a t))))

/-- R72, R75: ADECL WHEEL changes nothing for the account that is DRIVING and is refused while another one is; else
the account leaves its rest as by END, with REST_SHORT for a segment closed short, the driving warnings tested where a
staged set is applied and REST_DONE gone, begins a new duty period if it is rested, and is DRIVING, with a pass
exactly when it left a rest; from IDLE no warning is raised or removed. R72: ADECL RELEASE takes a DRIVING account to
IDLE with its counters held, sets ACCOUNT and runs no pass; in any other state it is refused. The empty body of a
refusal is DEDUCED (log entry 14). When within the event a warning is tested for suppression is DEDUCED (log entry
29). -/
def Obligations.AdeclWheelAndReleaseAct : Prop :=
  (∀ (n : Nat) (s : State), s.serves →
     (slotOf n = none → s.refuses (.adeclWheel n) .badField) ∧
     (∀ i, slotOf n = some i →
       (s.account i = none → s.refuses (.adeclWheel n) .noSuchAccount) ∧
       (∀ a, s.account i = some a →
         (a.state = .driving →
           ∃ t, exec (.adeclWheel n) s = .next t ∧ t.answers (done (.declared i .driving)) ∧ s.frameOnly t) ∧
         (a.state ≠ .driving → (∃ j b, s.account j = some b ∧ b.state = .driving) →
           s.refuses (.adeclWheel n) .roleTaken) ∧
         (a.state ≠ .driving → (∀ j b, s.account j = some b → b.state ≠ .driving) →
           ∃ t, exec (.adeclWheel n) s = .next t ∧ t.answers (done (.declared i .driving)) ∧
             (∀ j, j ≠ i → t.account j = s.account j) ∧
             (∀ b, b = (if a.state = .resting then a.closed.applied else if a.declared then a.applied else a) →
               t.account i =
                 some
                   { b with
                     state := .driving, rested := false
                     accumulated := if b.rested then 0 else b.accumulated }) ∧
             Notice.account.inByte t.port.flags = true ∧ t.quiet = t.quietNow ∧
             (a.declared = false → s.accountsWorked s.orders t ∧
               ∀ source type,
                 hasPair source type t.warn.entries = hasPair source type s.warn.entries) ∧
             (a.declared = true →
               (∃ b : State, b.accounts = t.accounts ∧ s.accountsWorked s.orders b ∧ b.afterPass t) ∧
               (HeldLaw s →
                 s.slotHanded i false (decide (a.state = .resting) && a.closesShort) a.staged.isSome t ∧
                 s.otherSlotsKept i t)))))) ∧
  (∀ (n : Nat) (s : State), s.serves →
     (slotOf n = none → s.refuses (.adeclRelease n) .badField) ∧
     (∀ i, slotOf n = some i →
       (s.account i = none → s.refuses (.adeclRelease n) .noSuchAccount) ∧
       (∀ a, s.account i = some a →
         (a.state ≠ .driving → s.refuses (.adeclRelease n) .wrongState) ∧
         (a.state = .driving →
           ∃ t, exec (.adeclRelease n) s = .next t ∧ t.answers (done (.declared i .idle)) ∧
             State.presenterOnly { s with accounts := s.accounts.set i (some { a with state := .idle }) } [] t ∧
             t.dueSettled ∧
             Notice.account.inByte t.port.flags = true))))

/-- R97, R98, R14: ARETIRE empties the slot, takes out every order anchored to it (with ORDER when there is one) and
every entry of its account, works the quiet flag and runs a pass; every other account stays. R92: a change of the
quiet flag sets ACCOUNT. That ORDER is set only where there is an orphan, and the empty body of a refusal, are DEDUCED
(log entries 14 and 32). When within the event a warning is tested for suppression is DEDUCED (log entry 29). -/
def Obligations.AretireEmptiesTheSlot : Prop :=
  ∀ (n : Nat) (s : State), s.serves →
    (slotOf n = none → s.refuses (.aretire n) .badField) ∧
    (∀ i, slotOf n = some i →
      (s.account i = none → s.refuses (.aretire n) .noSuchAccount) ∧
      (∀ a, s.account i = some a →
        ∃ t, exec (.aretire n) s = .next t ∧ t.answers (done (.emptied i a.tag)) ∧
          t.account i = none ∧ (∀ j, j ≠ i → t.account j = s.account j) ∧ t.quiet = t.quietNow ∧
          (t.quiet ≠ s.quiet → Notice.account.inByte t.port.flags = true) ∧
          (∀ type, type.ofAccount = true → hasPair (.slot i) type t.warn.entries = false) ∧
          (∀ source type, source ≠ .slot i → (source, type) ≠ (.part, .fridgeWarm) →
            hasPair source type t.warn.entries = hasPair source type s.warn.entries) ∧
          t.clock = s.clock ∧ t.charge = s.charge ∧ t.transport = s.transport ∧ t.sense = s.sense ∧ t.rst = s.rst ∧
          ∃ b : State, b.accounts = t.accounts ∧ b.afterPass t ∧
            s.accountsWorked
              (s.orders.filter (fun o =>
                match o.start with
                | .anchored j _ _ => decide (j ≠ i)
                | _ => true)) b ∧
            (Notice.order.inByte b.port.flags = true ↔
              Notice.order.inByte s.port.flags = true ∨ ∃ o ∈ s.orders, ∃ m off, o.start = .anchored i m off)))

/-- R80, R81, R17: REST_DONE is taken for an account that is RESTING, not rested and credited with its required rest:
it is rested, with its drive counters at 0, REST_END FIXED at now, the REST_DONE entry listed, ACCOUNT set, and a pass
over the table with the wake order of its bunk, which replaces a present one, takes a free place in NORMAL or
WORKSHOP, or else is not placed and sets ORDER. R101: while RESET is asserted the account does the same, and what it
hands on is held: the driving warnings' raises and removals, REST_DONE, the wake order and ACCOUNT; that a raise or
removal already held counts in what those warnings' tests find listed is DEDUCED (log entry 24). R87: BREAK_COMPLETE
sets the continuous drive seconds of a DRIVING account to 0 when it is not moving and its break has lasted, and its
driving warnings follow. That either event does nothing for any other account is the model's choice (log entry 8).
When within the event a warning is tested for suppression is DEDUCED (log entry 29). -/
def Obligations.RestAndBreakComplete : Prop :=
  (∀ (i : Slot) (s : State),
     ((∀ a, s.account i = some a → ¬(a.state = .resting ∧ a.rested = false ∧ a.settings.rest ≤ a.credited)) →
       exec (.restDone i) s = .next s) ∧
     (∀ a, s.account i = some a → a.state = .resting → a.rested = false → a.settings.rest ≤ a.credited →
       ∃ t, exec (.restDone i) s = .next t ∧
         t.account i =
           some
             { a with
               rested := true, contSeconds := 0, breakSeconds := 0, dailySeconds := 0
               restEnd := some (.fixed s.clock.minute) } ∧
         (∀ j, j ≠ i → t.account j = s.account j) ∧
         (s.rst.asserted = true →
           t = { s with accounts := t.accounts, rst := t.rst } ∧
           t.rst =
             { s.rst with
               heldWarnings := t.rst.heldWarnings, heldWakes := t.rst.heldWakes, accountNotice := true } ∧
           (∃ tests : List Handed,
             (∀ h ∈ tests, ∃ w ∈ [WarnType.driveNear, .driveOver, .dailyOver],
               h = .raise (.slot i) w ∨ h = .remove (.slot i) w) ∧
             t.rst.heldWarnings = s.rst.heldWarnings ++ tests ++ [.raise (.slot i) .restDone]) ∧
           (∀ c, t.account i = some c → t.drivingTested i c) ∧
           (∀ side, side.bunk = a.bunk → a.settings.wake = true →
             t.rst.heldWakes =
               s.rst.heldWakes ++
                 [{ side := side, level := a.settings.wakeLevel, fade := a.settings.wakeRamp * 60 }]) ∧
           (a.bunk = .noBunk ∨ a.settings.wake = false → t.rst.heldWakes = s.rst.heldWakes)) ∧
         (s.rst.asserted = false →
           Notice.account.inByte t.port.flags = true ∧
           (HeldLaw s → s.slotHanded i true false true t ∧ s.otherSlotsKept i t) ∧
           ∃ b : State, b.accounts = t.accounts ∧ b.afterPass t ∧
             s.accountsWorked (a.wakeEntered s.port.mode s.clock.minute s.orders) b ∧
             (Notice.order.inByte b.port.flags = true ↔
               Notice.order.inByte s.port.flags = true ∨
               (a.settings.wake = true ∧ ∃ side : Side, side.bunk = a.bunk ∧
                 (∀ o ∈ s.orders, o.key ≠ wakeKey side) ∧
                 ¬((s.port.mode = .normal ∨ s.port.mode = .workshop) ∧ s.orders.length < 24)))))) ∧
  (∀ (i : Slot) (s : State),
     ((∀ a, s.account i = some a →
         ¬(a.state = .driving ∧ s.sense.motion ≠ .moving ∧ a.settings.pause * 60 ≤ a.breakSeconds)) →
       exec (.breakComplete i) s = .next s) ∧
     (∀ a, s.account i = some a → a.state = .driving → s.sense.motion ≠ .moving →
       a.settings.pause * 60 ≤ a.breakSeconds →
       ∃ t, exec (.breakComplete i) s = .next t ∧ t.account i = some { a with contSeconds := 0 } ∧
         (∀ j, j ≠ i → t.account j = s.account j) ∧
         t =
           { s with
             accounts := t.accounts, warn := t.warn, timers := { s.timers with t7 := t.timers.t7 }, port := t.port
             rst := t.rst } ∧
         (s.rst.asserted = true →
           t.warn = s.warn ∧ t.port = s.port ∧ (∀ c, t.account i = some c → t.drivingTested i c) ∧
           ∃ tests : List Handed,
             (∀ h ∈ tests, ∃ w ∈ [WarnType.driveNear, .driveOver, .dailyOver],
               h = .raise (.slot i) w ∨ h = .remove (.slot i) w) ∧
             t.rst = { s.rst with heldWarnings := s.rst.heldWarnings ++ tests }) ∧
         (s.rst.asserted = false →
           t.rst = s.rst ∧
           s.listKept [(.slot i, .driveNear), (.slot i, .driveOver), (.slot i, .dailyOver)] t ∧
           (HeldLaw s → ∀ c, t.account i = some c → t.warn.drivingWorked i c))))

/-- R93, R130: LONG_PRESS takes a PRESSED classifier to LONG_HELD with 2,000 ms, where the hold time stays (the model's
choice, log entry 41); the account bound to that bunk then ends its declared rest or declares one, and with no such
account nothing else happens. That a LONG_PRESS with a classifier that is not PRESSED, or while RESET is asserted, does
nothing is the model's choice (log entry 8). When within the event a warning is tested for suppression is DEDUCED (log
entry 29). -/
def Obligations.LongPressDeclaresOrEnds : Prop :=
  ∀ (side : Side) (s : State),
    (s.rst.asserted = true ∨ (s.sense.press side).state ≠ some .pressed → exec (.longPress side) s = .next s) ∧
    (s.rst.asserted = false → (s.sense.press side).state = some .pressed →
      ∀ u, u = { s with sense := s.sense.setPress side { state := some .longHeld, hold := 2000 } } →
      ((∀ i a, s.account i = some a → a.bunk ≠ side.bunk) → exec (.longPress side) s = .next u) ∧
      (∀ i a, s.account i = some a → a.bunk = side.bunk →
        (∀ j b, s.account j = some b → b.bunk = side.bunk → j = i) →
        ∃ t, exec (.longPress side) s = .next t ∧
          (a.declared = true → u.restEnded i a t) ∧ (a.declared = false → u.restDeclared i a t)))

/-- R26, R77, R86: a second that is taken bare advances the prescaler and every running count by one, each held at its
bound: segment seconds while RESTING, drive or break seconds while DRIVING, and out of reset the counters of the
heater and the fridge. R109: out of reset the countdown of each QUEUED or PRESENTING entry loses 1 and one at 0 stays,
and while RESET is asserted no countdown runs; an entry that had already fallen due may be taken by the chime when a
driving warning is raised within the second. A second in FAULT sets FRIDGE, as R175 has each event of the fridge do;
that a second is one is the model's choice (log entry 39). R26, R58, R61: a minute expiry advances the cab minute with
its wrap, clears the prescaler, takes the tally, divided by 3,600 toward zero, as the net charge of the last minute,
and runs a pass out of reset; a whole second with the prescaler at 59 makes one too (log entry 6). The operand that
tells a bare second from a whole one, and what holds while RESET is asserted, are the model's choices (log entries 6,
7, 9 and 31), and that the raises and removals held then count in what a test finds listed is DEDUCED (log entry 24).
When within the event a warning is tested for suppression is DEDUCED (log entry 29). -/
def Obligations.SecondsAndMinutesAdvance : Prop :=
  (∀ s : State,
     ∃ t, exec (.timebaseSecond false) s = .next t ∧
       t.clock = { s.clock with prescaler := if 59 ≤ s.clock.prescaler then 0 else s.clock.prescaler + 1 } ∧
       (∀ i, t.account i = (s.account i).map (fun a =>
         { a with
           segSeconds := if a.state = .resting then gain 16777215 a.segSeconds else a.segSeconds
           contSeconds :=
             if a.state = .driving ∧ s.sense.motion = .moving then gain 16777215 a.contSeconds else a.contSeconds
           dailySeconds :=
             if a.state = .driving ∧ s.sense.motion = .moving then gain 16777215 a.dailySeconds else a.dailySeconds
           breakSeconds :=
             if a.state = .driving then
               (if s.sense.motion = .moving then 0 else gain 16777215 a.breakSeconds)
             else a.breakSeconds })) ∧
       t.heater =
         (if s.rst.asserted then s.heater
          else
           { s.heater with
             phase := s.heater.phase.map (fun n => n - 1)
             runSeconds := if s.heater.state = .run then gain 600 s.heater.runSeconds else s.heater.runSeconds
             stepTimer := if s.heater.state = .run then s.heater.stepTimer - 1 else s.heater.stepTimer
             satisfy := if s.heater.state = .run then s.heater.satisfy.map (gain 300) else s.heater.satisfy }) ∧
       t.fridge =
         (if s.rst.asserted then s.fridge
          else
           { s.fridge with
             offSeconds := if s.fridge.state.turning then s.fridge.offSeconds else gain 65535 s.fridge.offSeconds
             onSeconds := s.fridge.onSeconds.map (gain 65535)
             runSeconds := s.fridge.runSeconds.map (gain 1800)
             warmRun := s.fridge.warmRun.map (gain 1200) }) ∧
       t =
         { s with
           clock := t.clock, accounts := t.accounts, heater := t.heater, fridge := t.fridge, warn := t.warn
           timers := { s.timers with t7 := t.timers.t7 }, port := t.port, rst := t.rst } ∧
       s.port.settingsKept t.port ∧
       (s.rst.asserted = true → t.warn = s.warn ∧ t.port = s.port ∧ t.timers = s.timers ∧
         (∀ i a, t.account i = some a → a.state = .driving → t.drivingTested i a) ∧
         ∃ tests : List Handed,
           (∀ h ∈ tests, ∃ i a, s.account i = some a ∧ a.state = .driving ∧
             ∃ w ∈ [WarnType.driveNear, .driveOver, .dailyOver],
               h = .raise (.slot i) w ∨ h = .remove (.slot i) w) ∧
           t.rst = { s.rst with heldWarnings := s.rst.heldWarnings ++ tests }) ∧
       (s.rst.asserted = false → t.rst = s.rst ∧
         State.listKept
           { s with warn := { s.warn with entries := s.warn.entries.map Entry.counted } }
           (allSlots.flatMap (fun i => [(.slot i, .driveNear), (.slot i, .driveOver), (.slot i, .dailyOver)])) t ∧
         (s.fridge.state = .fault → Notice.fridge.inByte t.port.flags = true) ∧
         ((∀ i a, s.account i = some a → a.state ≠ .driving) →
           t.warn = { s.warn with entries := s.warn.entries.map Entry.counted } ∧ t.timers = s.timers) ∧
         (WarnLaw s → ∀ e ∈ s.warn.entries,
           (∀ i, e.source = .slot i → ∀ a, s.account i = some a → a.state = .driving →
             e.type = .restDone ∨ e.type = .restShort) →
           (e.ready = false → e.counted ∈ t.warn.entries) ∧
           (e.ready = true →
             e.counted ∈ t.warn.entries ∨ { e with state := .presenting, due := e.type.interval } ∈ t.warn.entries ∨
               (s.suppressed e = true ∧ ∃ x ∈ t.warn.entries, x.source = e.source ∧ x.type = e.type ∧
                 x.raisedAt = e.raisedAt ∧ x.bursts = gain 65535 e.bursts))) ∧
         (HeldLaw s → ∀ i a, t.account i = some a → a.state = .driving → t.warn.drivingWorked i a))) ∧
  (∀ s : State, ∀ m : Nat, m = (if s.clock.minute = 4294967295 then 0 else s.clock.minute + 1) →
     (∀ u, u =
         { s with
           clock := { s.clock with minute := m, prescaler := 0 }
           charge := { s.charge with netLast := s.charge.tally.tdiv 3600, tally := 0 } } →
       (s.rst.asserted = true → exec .minuteExpiry s = .next u) ∧
       (s.rst.asserted = false → ∃ t, exec .minuteExpiry s = .next t ∧ u.thenPass [] t ∧
         (s.charge.synced = false ∨ s.charge.count ≤ s.charge.reserve → Notice.charge.inByte t.port.flags = true))) ∧
     (∃ t, exec (.timebaseSecond true) s = .next t ∧
       (59 ≤ s.clock.prescaler →
         t.clock = { s.clock with minute := m, prescaler := 0 } ∧
         t.charge = { s.charge with netLast := s.charge.tally.tdiv 3600, tally := 0 } ∧
         (s.rst.asserted = false → t.alloc.passMinute = m)) ∧
       (s.clock.prescaler < 59 →
         t.clock = { s.clock with prescaler := s.clock.prescaler + 1 } ∧ t.charge = s.charge)))

/-! ### The warning presenter -/

/-- R111, R112: WACK, with its checks in their order; an event entry leaves the list, its burst going on for no entry;
a condition entry is SILENCED, or stays so; R110: the lamp is worked afresh, and nothing else changes. The empty body
of a refusal is DEDUCED (log entry 14). -/
def Obligations.WackAcknowledges : Prop :=
  ∀ s : State, s.serves →
    (∀ (a : Option Source) (t : Option WarnType), a = none ∨ t = none → s.refuses (.wack a t) .badField) ∧
    (∀ (a : Source) (w : WarnType),
      ((a = .part ↔ w.ofAccount = true) → s.refuses (.wack (some a) (some w)) .badField) ∧
      (¬(a = .part ↔ w.ofAccount = true) →
        ((∀ e ∈ s.warn.entries, ¬(e.source = a ∧ e.type = w)) →
          s.refuses (.wack (some a) (some w)) .noSuchWarning) ∧
        (∀ e, findPair a w s.warn.entries = some e →
          (w.isEvent = true →
            ∃ t, exec (.wack (some a) (some w)) s = .next t ∧ t.answers (done (.acknowledged a w .removed)) ∧
              State.frameOnly
                { s with
                  warn :=
                    { entries := s.warn.entries.filter (fun x => !(decide (x.source = a) && decide (x.type = w)))
                      chime :=
                        match s.warn.chime with
                        | .idle => .idle
                        | .sounding b v n snd owned => .sounding b v n snd (owned && !(decide (b = a) && decide (v = w)))
                      lamp := t.warn.lamp, lampOn := t.warn.lampOn } } t ∧
              s.warn.lampWorked t.warn) ∧
          (w.isEvent = false → e.state = .silenced →
            ∃ t, exec (.wack (some a) (some w)) s = .next t ∧
              t.answers (done (.acknowledged a w .alreadySilenced)) ∧ s.frameOnly t) ∧
          (w.isEvent = false → e.state ≠ .silenced →
            ∃ t, exec (.wack (some a) (some w)) s = .next t ∧ t.answers (done (.acknowledged a w .silenced)) ∧
              State.frameOnly
                { s with
                  warn :=
                    { s.warn with
                      entries :=
                        s.warn.entries.map (fun x =>
                          if x.source = a ∧ x.type = w then
                            { x with state := .silenced, due := none, falling := false }
                          else x)
                      lamp := t.warn.lamp, lampOn := t.warn.lampOn } } t ∧
              s.warn.lampWorked t.warn))))

/-- R106, R107, R109: at COUNTDOWN_ZERO every QUEUED entry whose countdown has reached 0 falls due (log entry 6), every
suppressed due entry counts its burst in silence, and an IDLE chime outside SELFTEST takes the highest-ranked entry that
is due and not suppressed, with its tones and its interval; afterwards no due entry is suppressed, and one is left only
behind a sounding chime or in SELFTEST. -/
def Obligations.CountdownZeroSelectsByRank : Prop :=
  ∀ s : State,
    (s.rst.asserted = true → exec .countdownZero s = .next s) ∧
    (s.rst.asserted = false → ∀ es, es = s.warn.entries.map (fun e => { e with falling := false }) →
      ∀ tested, tested = es.map (fun e => if e.ready = true ∧ s.suppressed e = true then e.silent else e) →
      ∃ t, exec .countdownZero s = .next t ∧
        t = { s with warn := t.warn, timers := { s.timers with t7 := t.timers.t7 } } ∧
        t.warn.lamp = s.warn.lamp ∧ t.warn.lampOn = s.warn.lampOn ∧ t.dueSettled ∧
        (s.warn.chime ≠ .idle ∨ s.port.mode = .selfTest ∨
            (∀ e ∈ es, e.ready = true → s.suppressed e = true) →
          t.warn.chime = s.warn.chime ∧ t.timers = s.timers ∧
          t.warn.entries = tested) ∧
        (s.warn.chime = .idle → s.port.mode ≠ .selfTest →
          (∃ e ∈ es, e.ready = true ∧ s.suppressed e = false) →
          ∃ e ∈ es, e.ready = true ∧ s.suppressed e = false ∧
            (∀ x ∈ es, x.ready = true → s.suppressed x = false → e.ranksFirst x) ∧
            t.warn.chime = .sounding e.source e.type e.type.tones true true ∧
            t.warn.entries = tested.map (fun x => if x.source = e.source ∧ x.type = e.type then x.taken else x) ∧
            t.timers.t7.given 200 400))

/-- R108, R110: the tones of a burst follow each other with sound and silence on the CHIME timer; the end of the last
silence counts the burst for the entry it belongs to, which is then LAMP_ONLY at its limit and QUEUED below it, and
the chime is IDLE unless another entry is due, of which it takes the highest-ranked by R106 (R107); a FLASHING lamp
toggles at the end of its phase. That the tones still to sound include the tone under way, and that each of the three
events does nothing where it is not due, are the model's choices (log entries 8 and 23). -/
def Obligations.BurstRunsItsTones : Prop :=
  ∀ s : State, s.rst.asserted = false →
    (∀ a w n owned, s.warn.chime = .sounding a w n true owned →
      ∃ t, exec .toneEnd s = .next t ∧
        t = { s with
              warn := { s.warn with chime := .sounding a w n false owned }
              timers := { s.timers with t7 := t.timers.t7 } } ∧
        t.timers.t7.given 0 400) ∧
    (∀ a w n owned, s.warn.chime = .sounding a w n false owned → 2 ≤ n →
      (∃ t, exec .toneEnd s = .next t ∧
        t = { s with
              warn := { s.warn with chime := .sounding a w (n - 1) true owned }
              timers := { s.timers with t7 := t.timers.t7 } } ∧
        t.timers.t7.given 200 400) ∧
      exec .endOfBurst s = .next s) ∧
    (∀ a w n owned, s.warn.chime = .sounding a w n false owned → n ≤ 1 →
      ∀ es, es =
          s.warn.entries.map (fun e =>
            if owned = true ∧ e.source = a ∧ e.type = w then
              (if e.state = .presenting then
                (match e.type.limit with
                 | some m =>
                   if m ≤ gain 65535 e.bursts then
                     { e with bursts := gain 65535 e.bursts, state := .lampOnly, due := none }
                   else { e with bursts := gain 65535 e.bursts, state := .queued }
                 | none => { e with bursts := gain 65535 e.bursts, state := .queued })
               else { e with bursts := gain 65535 e.bursts })
            else e) →
        exec .toneEnd s = .next s ∧
        (∃ t, exec .endOfBurst s = .next t ∧
          t = { s with warn := t.warn, timers := { s.timers with t7 := t.timers.t7 } } ∧
          ((∀ e ∈ es, e.ready = true → s.suppressed e = true) →
            t.warn = { s.warn with chime := .idle, entries := es } ∧ t.timers = s.timers) ∧
          (s.port.mode ≠ .selfTest → (∃ e ∈ es, e.ready = true ∧ s.suppressed e = false) →
            ∃ e ∈ es, e.ready = true ∧ s.suppressed e = false ∧
              (∀ x ∈ es, x.ready = true → s.suppressed x = false → e.ranksFirst x) ∧
              t.warn =
                { s.warn with
                  chime := .sounding e.source e.type e.type.tones true true
                  entries := es.map (fun x => if x.source = e.source ∧ x.type = e.type then x.taken else x) } ∧
              t.timers.t7.given 200 400))) ∧
    (s.warn.chime = .idle → exec .toneEnd s = .next s ∧ exec .endOfBurst s = .next s) ∧
    (s.warn.lamp = .flashing →
      exec .wlampFlashPhase s = .next { s with warn := { s.warn with lampOn := !s.warn.lampOn } }) ∧
    (s.warn.lamp ≠ .flashing → exec .wlampFlashPhase s = .next s)

/-! ### The heater -/

/-- R161, R163: HSET writes the thirteen parameters, each clamped to its range of Table 30, in OFF and LOCKOUT only.
HCLEAR leaves LOCKOUT once OVHT is inactive, with the count at 0, HEATER_LOCKOUT gone and a pass, and clears the
fuel pulse count where its option asks it; it is refused where it would do nothing. That an option outside its
values is refused before the state is looked at is the model's choice (log entry 17), and the empty body of a refusal is
DEDUCED (log entry 14). -/
def Obligations.HsetAndHclearAct : Prop :=
  ∀ s : State, s.serves →
    (∀ a : HeaterArg, s.heater.state ≠ .off → s.heater.state ≠ .lockout → s.refuses (.hset a) .wrongState) ∧
    (∀ a : HeaterArg, s.heater.state = .off ∨ s.heater.state = .lockout → ∀ x : HeaterParams,
      x =
        { preheat := clampNat 20 90 a.preheat, ignition := clampNat 60 180 a.ignition
          cooldown := clampNat 120 300 a.cooldown, startRate := clampNat 20 300 a.startRate
          rate1 := clampNat 20 300 a.rate1, rate2 := clampNat 20 300 a.rate2, rate3 := clampNat 20 300 a.rate3
          rate4 := clampNat 20 300 a.rate4, pulseWidth := clampNat 20 50 a.pulseWidth
          fan1 := min a.fan1 1000, fan2 := min a.fan2 1000, fan3 := min a.fan3 1000, fan4 := min a.fan4 1000 } →
      ∃ t, exec (.hset a) s = .next t ∧ t.answers (doneIf (decide (x ≠ a.raw)) (.heaterParams x)) ∧
        t = { s with heater := { s.heater with params := x }, port := t.port } ∧ s.port.settingsKept t.port) ∧
    s.refuses (.hclear none) .badField ∧
    (∀ clear : Bool,
      (s.heater.state = .lockout → s.sense.ovht.level = true → s.refuses (.hclear (some clear)) .wrongState) ∧
      (s.heater.state ≠ .lockout → clear = false → s.refuses (.hclear (some clear)) .wrongState) ∧
      (s.heater.state ≠ .lockout → clear = true →
        ∃ t, exec (.hclear (some clear)) s = .next t ∧ t.answers (done (.heaterCleared s.heater.state 0)) ∧
          State.frameOnly { s with heater := { s.heater with fuel := 0 } } t) ∧
      (s.heater.state = .lockout → s.sense.ovht.level = false →
        ∃ t, exec (.hclear (some clear)) s = .next t ∧
          t.answers (done (.heaterCleared t.heater.state (if clear then 0 else s.heater.fuel))) ∧
          Notice.heater.inByte t.port.flags = true ∧
          (HeldLaw s → hasPair .part .heaterLockout t.warn.entries = false) ∧
          State.thenPass
            { s with
              heater :=
                { s.heater with state := .off, failed := 0, fuel := if clear then 0 else s.heater.fuel } }
            [(.part, .heaterLockout)] t))

/-- R146 to R148, R150, R153: the timed phases of a start end by their expiries: PREHEAT into IGNITION, or a failed
start where a flame shows; IGNITION into a failed start; PROVING into RUN at level 2; and in RUN ten minutes clear
the count and five satisfied ones cool the heater. In any other state each expiry does nothing. That an expiry
outside its state has no effect is the model's choice (log entry 8). -/
def Obligations.HeaterPhasesEnd : Prop :=
  ∀ s : State, s.rst.asserted = false →
    (s.heater.state = .preheat → s.sense.flame.level = false →
      ∃ t, exec .preheatExpiry s = .next t ∧ s.heaterMoves t ∧
        t.heater =
          { s.heater with state := .ignition, phase := some s.heater.params.ignition, fuel := t.heater.fuel } ∧
        t.heater.fuel =
          (if s.timers.t4.running = false ∧ 0 < s.heater.params.pulseWidth then s.heater.fuel + 1 else s.heater.fuel) ∧
        t.timers.t4.given s.heater.params.pulseWidth (60000 / s.heater.params.startRate) ∧
        t.timers.t5.given 300 1000) ∧
    (s.heater.state = .preheat → s.sense.flame.level = true →
      ∃ t, exec .preheatExpiry s = .next t ∧ s.startFailed t) ∧
    (s.heater.state ≠ .preheat → exec .preheatExpiry s = .next s) ∧
    (s.heater.state = .ignition → ∃ t, exec .ignitionLimitExpiry s = .next t ∧ s.startFailed t) ∧
    (s.heater.state ≠ .ignition → exec .ignitionLimitExpiry s = .next s) ∧
    (s.heater.state = .proving →
      ∃ t, exec .provingExpiry s = .next t ∧ s.heaterMoves t ∧
        t.heater =
          { s.heater with
            state := .run, glow := false, phase := none, level := 2, desired := 2, stepTimer := 60, runSeconds := 0
            satisfy := none, fuel := t.heater.fuel } ∧
        t.timers.t4.given s.heater.params.pulseWidth (60000 / s.heater.params.rate2) ∧
        t.timers.t5.given s.heater.params.fan2 1000) ∧
    (s.heater.state ≠ .proving → exec .provingExpiry s = .next s) ∧
    (s.heater.state = .run → s.heater.runSeconds = 600 →
      exec .heaterRunClearsCount s = .next { s with heater := { s.heater with failed := 0 } }) ∧
    (s.heater.state ≠ .run ∨ s.heater.runSeconds ≠ 600 → exec .heaterRunClearsCount s = .next s) ∧
    (s.heater.state = .run → s.heater.satisfy = some 300 →
      ∃ t, exec .satisfiedStop s = .next t ∧ s.cooled .satisfied t) ∧
    (s.heater.state ≠ .run ∨ s.heater.satisfy ≠ some 300 → exec .satisfiedStop s = .next s)

/-- R156, R158 and Table 31: the end of a cooldown by the first line that applies: LOCKOUT with its warning and its
pass after an overheat or a third failed start, SATISFIED, PREHEAT again, or OFF; the cause and restart-pending are
gone. That COOLDOWN_EXPIRY does nothing outside COOLDOWN is the model's choice (log entry 8). -/
def Obligations.CooldownEndsByTable31 : Prop :=
  ∀ s : State, s.rst.asserted = false → ∀ u : State,
    u = { s with heater := { s.heater with cause := none, restart := false } } →
    (s.heater.state ≠ .cooldown → exec .cooldownExpiry s = .next s) ∧
    (s.heater.state = .cooldown →
      (s.heater.cause = some .overheat ∨ (s.heater.cause = some .failedStart ∧ s.heater.failed = 3) →
        ∃ t, exec .cooldownExpiry s = .next t ∧
          State.thenPass
            { u with
              heater := { u.heater with state := .lockout, phase := none, glow := false }
              timers := { s.timers with t5 := s.timers.t5.write 0 1000 } }
            [(.part, .heaterLockout)] t ∧
          t.heater.state = .lockout ∧ t.heater.presented = presentedFor .heater t.orders ∧
          (∀ o ∈ t.orders, o.load = .heater → o.state ≠ .active ∧ o.state ≠ .waiting) ∧
          Notice.heater.inByte t.port.flags = true ∧
          (HeldLaw s → hasPair .part .heaterLockout t.warn.entries = true)) ∧
      (s.heater.cause ≠ some .overheat → ¬(s.heater.cause = some .failedStart ∧ s.heater.failed = 3) →
        (s.heater.cause = some .satisfied →
          ∃ t, exec .cooldownExpiry s = .next t ∧ u.heaterMoves t ∧ t.timers.t5.given 0 1000 ∧
            t.heater = { u.heater with state := .satisfied, phase := none }) ∧
        (s.heater.cause ≠ some .satisfied → s.heater.restart = true ∧ s.sense.ovht.level = false →
          ∃ t, exec .cooldownExpiry s = .next t ∧ u.preheated t) ∧
        (s.heater.cause ≠ some .satisfied → ¬(s.heater.restart = true ∧ s.sense.ovht.level = false) →
          ∃ t, exec .cooldownExpiry s = .next t ∧ u.heaterMoves t ∧ t.timers.t5.given 0 1000 ∧
            t.heater = { u.heater with state := .off, phase := none, glow := false })))

/-- R145, R155 to R158: a burning heater is left only through COOLDOWN; RUN is entered only from PROVING at its expiry,
PROVING only from IGNITION by the flame, IGNITION only from PREHEAT at its expiry; LOCKOUT is entered only from
COOLDOWN at its expiry and left only by HCLEAR with OVHT inactive. A cold start alone may do otherwise. -/
def Obligations.BurnerKeepsItsOrder : Prop :=
  ∀ (c : Instr) (s t : State), exec c s = .next t → c ≠ .coldStart →
    (s.heater.state.burning = true → t.heater.state.burning = true ∨ t.heater.state = .cooldown) ∧
    (t.heater.state = .run → s.heater.state ≠ .run → s.heater.state = .proving ∧ c = .provingExpiry) ∧
    (t.heater.state = .proving → s.heater.state ≠ .proving →
      s.heater.state = .ignition ∧ ∃ held, c = .debounceExpiry .flame held) ∧
    (t.heater.state = .ignition → s.heater.state ≠ .ignition →
      s.heater.state = .preheat ∧ c = .preheatExpiry) ∧
    (t.heater.state = .lockout → s.heater.state ≠ .lockout → s.heater.state = .cooldown ∧ c = .cooldownExpiry) ∧
    (s.heater.state = .lockout → t.heater.state ≠ .lockout →
      s.sense.ovht.level = false ∧ ∃ clear, c = .hclear (some clear))

/-! ### The refrigerator -/

/-- R176, R178: FSET clamps and writes the min-off time and ends a REST that has lasted it. FCLEAR is refused outside
FAULT; from FAULT it goes to REST with the stall count at 0 and a pass, and that REST ends at once where it has
lasted. The empty body of a refusal is DEDUCED (log entry 14). -/
def Obligations.FsetAndFclearAct : Prop :=
  ∀ s : State, s.serves →
    (∀ seconds : Nat, ∀ m : Nat, m = clampNat 120 600 seconds → ∀ u : State,
      u = { s with fridge := { s.fridge with minOff := m } } →
      (¬(s.fridge.state = .rest ∧ m ≤ s.fridge.offSeconds) →
        ∃ t, exec (.fset seconds) s = .next t ∧ t.answers (doneIf (decide (m ≠ seconds)) (.minOff m s.fridge.state)) ∧
          t = { u with port := t.port } ∧ u.port.settingsKept t.port) ∧
      (s.fridge.state = .rest → m ≤ s.fridge.offSeconds →
        ∃ t, exec (.fset seconds) s = .next t ∧ t.answers (doneIf (decide (m ≠ seconds)) (.minOff m t.fridge.state)) ∧
          u.restOver t)) ∧
    (s.fridge.state ≠ .fault → s.refuses .fclear .wrongState) ∧
    (s.fridge.state = .fault →
      ∃ t, exec .fclear s = .next t ∧ t.answers (done (.fridgeState t.fridge.state)) ∧ ∃ b : State,
        State.thenPass { s with fridge := { s.fridge with state := .rest, stalls := 0 } } [] b ∧
        b.fridge.state = .rest ∧ Notice.fridge.inByte t.port.flags = true ∧
        (b.fridge.minOff ≤ b.fridge.offSeconds → b.restOver t) ∧
        (b.fridge.offSeconds < b.fridge.minOff → t = { b with port := t.port }))

/-- R168, R169, R172 to R174: the events of the fridge's counters: the end of the min-off time ends REST or lets a call
start the compressor, the fixed cycle stops and starts it while C3 is faulted, a long run clears the stalls, and a
warm run that is complete raises FRIDGE_WARM; where its condition does not hold each does nothing. In FAULT the end of
the warm run sets FRIDGE, as R175 has each event of the fridge do; that it is one is the model's choice (log entry 39).
That a counter's event has no effect where it is not due is the model's choice (log entry 8). -/
def Obligations.FridgeCountersFallDue : Prop :=
  ∀ s : State, s.rst.asserted = false →
    (s.fridge.state = .rest → s.fridge.minOff ≤ s.fridge.offSeconds →
      ∃ t, exec .minOffEnd s = .next t ∧ s.restOver t) ∧
    (s.fridge.state = .idle → s.sense.fridgeT.fault = false → s.fridgeStarts →
      ∃ t, exec .minOffEnd s = .next t ∧ s.compressorOn t) ∧
    (¬(s.fridge.state = .rest ∧ s.fridge.minOff ≤ s.fridge.offSeconds) →
      ¬(s.fridge.state = .idle ∧ s.sense.fridgeT.fault = false ∧ s.fridgeStarts) →
      exec .minOffEnd s = .next s) ∧
    (s.fridge.state.turning = true → s.sense.fridgeT.fault = true → 600 ≤ s.fridge.onSeconds.getD 0 →
      ∃ t, exec .fixedCycleOnEnd s = .next t ∧ s.compressorOff .rest s.fridge.stalls t) ∧
    (¬(s.fridge.state.turning = true ∧ s.sense.fridgeT.fault = true ∧ 600 ≤ s.fridge.onSeconds.getD 0) →
      exec .fixedCycleOnEnd s = .next s) ∧
    (s.fridge.state = .idle → s.sense.fridgeT.fault = true → 1200 ≤ s.fridge.offSeconds →
      ∃ t, exec .fixedCycleOffEnd s = .next t ∧ s.compressorOn t) ∧
    (¬(s.fridge.state = .idle ∧ s.sense.fridgeT.fault = true ∧ 1200 ≤ s.fridge.offSeconds) →
      exec .fixedCycleOffEnd s = .next s) ∧
    (s.fridge.state = .run → s.fridge.runSeconds = some 1800 →
      exec .fridgeRunClearsStalls s = .next { s with fridge := { s.fridge with stalls := 0 } }) ∧
    (s.fridge.state ≠ .run ∨ s.fridge.runSeconds ≠ some 1800 → exec .fridgeRunClearsStalls s = .next s) ∧
    (s.fridge.warmRun = some 1200 →
      ∃ t, exec .warmRunComplete s = .next t ∧
        State.presenterOnly { s with fridge := { s.fridge with warmRun := none } } [(.part, .fridgeWarm)] t ∧
        hasPair .part .fridgeWarm t.warn.entries = true ∧
        (s.fridge.state = .fault → Notice.fridge.inByte t.port.flags = true)) ∧
    (s.fridge.warmRun ≠ some 1200 → exec .warmRunComplete s = .next s)

/-- R124, R170, R175: a tach window's end stores the rate, held at 65,535, and acts on it: START passes to RUN at 20 Hz
or more and stalls at the tenth window below; RUN stalls at the fifth low window in a row; a stall switches the
compressor off with the count one up, and the third enters FAULT with a pass. -/
def Obligations.TachWindowFindsStalls : Prop :=
  ∀ (edges : Nat) (s : State), s.rst.asserted = false → ∀ rate, rate = min edges 65535 → ∀ u : State,
    u = { s with sense := { s.sense with tachRate := rate } } →
    (s.fridge.state = .start → 20 ≤ rate →
      ∃ t, exec (.tachWindowEnd edges) s = .next t ∧ u.fridgeMoves t ∧ Notice.fridge.inByte t.port.flags = true ∧
        t.timers = s.timers ∧
        t.fridge =
          { s.fridge with state := .run, startWindows := none, lowWindows := some 0, runSeconds := some 0 }) ∧
    (s.fridge.state = .start → rate < 20 → s.fridge.startWindows.getD 0 < 9 →
      exec (.tachWindowEnd edges) s =
        .next { u with fridge := { s.fridge with startWindows := some (s.fridge.startWindows.getD 0 + 1) } }) ∧
    (s.fridge.state = .run → 15 ≤ rate →
      exec (.tachWindowEnd edges) s = .next { u with fridge := { s.fridge with lowWindows := some 0 } }) ∧
    (s.fridge.state = .run → rate < 15 → s.fridge.lowWindows.getD 0 < 4 →
      exec (.tachWindowEnd edges) s =
        .next { u with fridge := { s.fridge with lowWindows := some (s.fridge.lowWindows.getD 0 + 1) } }) ∧
    ((s.fridge.state = .start ∧ rate < 20 ∧ 9 ≤ s.fridge.startWindows.getD 0) ∨
        (s.fridge.state = .run ∧ rate < 15 ∧ 4 ≤ s.fridge.lowWindows.getD 0) →
      (s.fridge.stalls < 2 →
        ∃ t, exec (.tachWindowEnd edges) s = .next t ∧ u.compressorOff .rest (s.fridge.stalls + 1) t) ∧
      (s.fridge.stalls = 2 →
        ∃ t, exec (.tachWindowEnd edges) s = .next t ∧ t.fridge.state = .fault ∧
          Notice.fridge.inByte t.port.flags = true ∧
          (∀ o ∈ t.orders, o.load = .fridge → o.state ≠ .active ∧ o.state ≠ .waiting) ∧
          State.thenPass
            { u with
              fridge :=
                { s.fridge with
                  state := .fault, compressor := false, speed := 0, offSeconds := 0, onSeconds := none
                  startWindows := none, lowWindows := none, runSeconds := none, stalls := 3 }
              timers := { s.timers with t6 := s.timers.t6.halt } }
            [] t)) ∧
    (s.fridge.state.turning = false →
      ∃ t, exec (.tachWindowEnd edges) s = .next t ∧ t = { u with port := t.port } ∧ u.port.settingsKept t.port ∧
        (s.fridge.state = .fault → Notice.fridge.inByte t.port.flags = true))

/-- R166, R168, R172, R173: from a state that meets the fridge's law the compressor comes on only into START with the
min-off time past, and whatever takes it off, the assertion of RESET among them, begins the count of off seconds
afresh. -/
def Obligations.CompressorKeepsItsRest : Prop :=
  ∀ (c : Instr) (s t : State), exec c s = .next t → FridgeLaw s →
    (s.fridge.state.turning = false → t.fridge.state.turning = true →
      t.fridge.state = .start ∧ t.fridge.speed = 1 ∧ t.fridge.minOff ≤ t.fridge.offSeconds) ∧
    (s.fridge.state.turning = true → t.fridge.state.turning = false → t.fridge.offSeconds = 0)

/-! ### The lights -/

/-- R138, R181, R183, R188: LSET refuses a polarity that is neither; else it writes the nine items, each polarity at
once to a stopped timer and at the end of the period to a running one, and leaves every lamp alone but a CAB_LIGHT
held down by a new quiet cap, which takes its fade afresh as the setting of the quiet flag does. FADE_STEP moves a
fading channel to its next duty, on the way between its two ends. That a FADE_STEP with no fade under way does nothing
is the model's choice (log entry 8), and the empty body of a refusal is DEDUCED (log entry 14). -/
def Obligations.LsetAndFadeStepAct : Prop :=
  (∀ (a : LightArg) (s : State), s.serves →
    (a.polA = none ∨ a.polB = none ∨ a.polCab = none ∨ a.polNight = none → s.refuses (.lset a) .badField) ∧
    (∀ pa, a.polA = some pa → ∀ pb, a.polB = some pb → ∀ pc, a.polCab = some pc → ∀ pn, a.polNight = some pn →
      ∀ x, x =
        { polA := pa, polB := pb, polCab := pc, polNight := pn, drawA := a.drawA.toNat, drawB := a.drawB.toNat
          drawCab := a.drawCab.toNat, drawNight := a.drawNight.toNat, quietCap := min a.quietCap 300 } →
      ∃ t, exec (.lset a) s = .next t ∧ t.answers (doneIf (decide (300 < a.quietCap)) (.lightsSet x)) ∧
        t = { s with
              lights := t.lights, port := t.port
              timers :=
                { s.timers with t0 := t.timers.t0, t1 := t.timers.t1, t2 := t.timers.t2, t3 := t.timers.t3 } } ∧
        s.port.settingsKept t.port ∧ t.lights.quietCap = x.quietCap ∧
        (∀ i p d, (i, p, d) ∈
            [(LightId.readA, pa, x.drawA), (LightId.readB, pb, x.drawB), (LightId.cabLight, pc, x.drawCab),
             (LightId.nightLight, pn, x.drawNight)] →
          (t.channel i).polarity = p ∧ (t.channel i).fullDraw = d ∧
          ((s.timers.get i.timer).running = false → (t.timers.get i.timer).polarity = p) ∧
          ((s.timers.get i.timer).running = true →
            (t.timers.get i.timer).shadowPol = some p ∧
            (t.timers.get i.timer).polarity = (s.timers.get i.timer).polarity) ∧
          (i ≠ .cabLight ∨ s.quiet = false ∨ x.quietCap = s.lights.quietCap →
            t.channel i = { s.channel i with polarity := p, fullDraw := d } ∧
            (t.timers.get i.timer).onCmp = (s.timers.get i.timer).onCmp)) ∧
        (LightLaw s → s.quiet = true →
          (t.channel .cabLight).duty ≤ x.quietCap ∧
          (t.channel .cabLight).effective = min (s.channel .cabLight).target x.quietCap) ∧
        (s.quiet = true → x.quietCap ≠ s.lights.quietCap →
          t.channel .cabLight =
            { s.channel .cabLight with polarity := pc, fullDraw := x.drawCab }.heldTo x.quietCap ∧
          ((t.channel .cabLight).duty = (s.channel .cabLight).duty →
            t.timers.t2 = { s.timers.t2 with polarity := t.timers.t2.polarity, shadowPol := t.timers.t2.shadowPol }) ∧
          ((t.channel .cabLight).duty ≠ (s.channel .cabLight).duty →
            t.timers.t2.given (t.channel .cabLight).duty 1000)))) ∧
  (∀ (i : LightId) (s : State), s.rst.asserted = false →
    ((s.channel i).fade = none → exec (.fadeStep i) s = .next s) ∧
    (∀ f, (s.channel i).fade = some f → f.taken < f.steps →
      ∃ t, exec (.fadeStep i) s = .next t ∧ ∃ d : Nat,
        (d : Int) = f.from_ + Int.tdiv (((f.to_ : Int) - f.from_) * (f.taken + 1 : Nat)) f.steps ∧
        min f.from_ f.to_ ≤ d ∧ d ≤ max f.from_ f.to_ ∧ (f.taken + 1 = f.steps → d = f.to_) ∧
        t.channel i =
          { s.channel i with
            duty := d, fade := if f.taken + 1 = f.steps then none else some { f with taken := f.taken + 1 } } ∧
        (∀ j, j ≠ i → t.channel j = s.channel j ∧ t.timers.get j.timer = s.timers.get j.timer) ∧
        (d = (s.channel i).duty → t.timers = s.timers) ∧
        (d ≠ (s.channel i).duty → (t.timers.get i.timer).given d 1000) ∧
        t = { s with
              lights := t.lights
              timers :=
                { s.timers with t0 := t.timers.t0, t1 := t.timers.t1, t2 := t.timers.t2, t3 := t.timers.t3 } }))

/-! ### Sensing -/

/-- R70, R71, R86, R99, R126, R127, R133: what moves the standstill condition. XMODE writes the transport override, a
C0 window steps the motion detector by Table 25, and SSET writes the settle time, which may make a STOPPING detector
STATIONARY; wherever the motion or the override has changed the accounts meet the condition afresh, MOVING having put
the DRIVING account's break seconds to 0; the warnings of R78, R80 and R89 that the accounts then raise and remove are
those said in `standstillWorked`. The order of the accounts of one change (log entry 35) is the model's choice, and
the empty body of a refusal is DEDUCED (log entry 14). When within the event a warning is tested for suppression is
DEDUCED (log entry 29). -/
def Obligations.StandstillIsWorkedAfresh : Prop :=
  (∀ s : State, s.serves →
    s.refuses (.xmode none) .badField ∧
    (∀ on : Bool, ∃ t, exec (.xmode (some on)) s = .next t ∧ t.answers (done (.transport on)) ∧
      State.standstillWorked { s with transport := on } t) ∧
    (∀ seconds : Nat, ∀ m, m = clampNat 10 600 seconds →
      (s.sense.motion = .stopping → m * 10 ≤ s.sense.settleCount →
        ∃ t, exec (.sset seconds) s = .next t ∧
          t.answers (doneIf (decide (m ≠ seconds)) (.settle m .stationary)) ∧
          State.standstillWorked { s with sense := { s.sense with settleTime := m, motion := .stationary } } t) ∧
      (s.sense.motion ≠ .stopping ∨ s.sense.settleCount < m * 10 →
        ∃ t, exec (.sset seconds) s = .next t ∧
          t.answers (doneIf (decide (m ≠ seconds)) (.settle m s.sense.motion)) ∧
          State.frameOnly { s with sense := { s.sense with settleTime := m } } t))) ∧
  (∀ (edges : Nat) (s : State), s.rst.asserted = false → ∀ n, n = min edges 65535 → ∀ x : Sense,
    x =
      (if 1 ≤ n then { s.sense with vspdCount := n, motion := .moving }
       else if s.sense.motion = .moving then { s.sense with vspdCount := n, motion := .stopping, settleCount := 0 }
       else if s.sense.motion = .stopping then
         { s.sense with
           vspdCount := n, settleCount := s.sense.settleCount + 1
           motion := if s.sense.settleTime * 10 ≤ s.sense.settleCount + 1 then .stationary else .stopping }
       else { s.sense with vspdCount := n }) →
    (x.motion = s.sense.motion → exec (.vspdWindowEnd edges) s = .next { s with sense := x }) ∧
    (x.motion ≠ s.sense.motion →
      ∃ t, exec (.vspdWindowEnd edges) s = .next t ∧
        State.standstillWorked
          { s with
            sense := x
            accounts :=
              s.accounts.mapSome (fun a =>
                if x.motion = .moving ∧ a.state = .driving then { a with breakSeconds := 0 } else a) } t))

/-- R119 to R123 and Table 24: the end of a temperature window moves its channel alone: the count, held at 65,535, is
classified, an invalid one faults the channel and the third valid one in a row recovers it; SENSOR is set by a
fault, a recovery and each window of a faulted channel; and the reading reaches the heater from C2, the fridge from
C3 and neither from C4. The edges come as an unbounded number (the model's choice, log entry 28). -/
def Obligations.TempWindowMovesItsChannel : Prop :=
  ∀ (i : TempId) (edges : Nat) (s : State), s.rst.asserted = false →
    ∀ n, n = min edges 65535 → ∀ c, c = s.sense.temp i → ∀ v, v = max (-500) (min 500 ((n : Int) - 1500)) → ∀ d,
    d =
      (if n < 900 ∨ 2100 < n then { c with fault := true, count := n, validRun := 0 }
       else if c.fault = false then { c with value := v, count := n }
       else if 2 ≤ c.validRun then { value := v, fault := false, count := n, validRun := 3 }
       else { c with count := n, validRun := c.validRun + 1 }) →
    ∃ t, exec (.tempWindowEnd i edges) s = .next t ∧ t.sense = s.sense.setTemp i d ∧
      (Notice.sensor.inByte t.port.flags = true ↔
        Notice.sensor.inByte s.port.flags = true ∨ c.fault = true ∨ d.fault = true) ∧
      t = { s with
            sense := t.sense, heater := t.heater, fridge := t.fridge, warn := t.warn, port := t.port
            timers := { s.timers with t4 := t.timers.t4, t5 := t.timers.t5, t6 := t.timers.t6 } } ∧
      s.port.settingsKept t.port ∧
      (i ≠ .c2 → t.heater = s.heater ∧ t.timers.t4 = s.timers.t4 ∧ t.timers.t5 = s.timers.t5) ∧
      (i ≠ .c3 → t.fridge = s.fridge ∧ t.timers.t6 = s.timers.t6 ∧ t.warn = s.warn)

/-- R151 to R154: a C2 reading in RUN works the desired level from the setpoint, steps the level toward it when the step
timer has run out, and starts, keeps or ends the satisfy run; in SATISFIED it starts the heater again when the cab
has cooled or C2 is faulted and OVHT is inactive; in any other state, and with no order presented, the heater keeps its
record. R160: each C2 reading in LOCKOUT sets HEATER. -/
def Obligations.CabReadingDrivesTheHeater : Prop :=
  ∀ (edges : Nat) (s : State), s.rst.asserted = false →
    ∀ t, exec (.tempWindowEnd .c2 edges) s = .next t → ∀ d, d = t.sense.cab →
    (s.heater.state ≠ .run → s.heater.state ≠ .satisfied → t.heater = s.heater ∧ t.timers = s.timers) ∧
    (s.heater.presented = none → t.heater = s.heater ∧ t.timers = s.timers) ∧
    (s.heater.state = .lockout → Notice.heater.inByte t.port.flags = true) ∧
    (∀ p, s.heater.presented = some p → ∀ set, p.target = .setpoint set →
      (s.heater.state = .run →
        ∀ want : Nat, want =
            (if d.fault = true then 2 else if 30 ≤ set - d.value then (if s.quiet then 3 else 4)
             else if 15 ≤ set - d.value then 3 else if 5 ≤ set - d.value then 2 else 1) → ∀ level : Nat,
          level =
            (if s.heater.stepTimer ≠ 0 ∨ s.heater.level = want then s.heater.level
             else if s.heater.level < want then s.heater.level + 1 else s.heater.level - 1) →
          t.heater =
            { s.heater with
              desired := want, level := level
              stepTimer := if level = s.heater.level then s.heater.stepTimer else 60
              satisfy :=
                if level = 1 ∧ d.fault = false ∧ set + 10 ≤ d.value then some (s.heater.satisfy.getD 0) else none
              fuel := t.heater.fuel } ∧
          (level = s.heater.level → t.timers = s.timers) ∧
          (level ≠ s.heater.level →
            t.timers.t4.given s.heater.params.pulseWidth (60000 / s.heater.params.rate level) ∧
            t.timers.t5.given (s.heater.params.fan level) 1000)) ∧
      (s.heater.state = .satisfied →
        ((d.fault = true ∨ d.value ≤ set - 10) ∧ s.sense.ovht.level = false →
          State.preheated { s with sense := t.sense } t) ∧
        (¬((d.fault = true ∨ d.value ≤ set - 10) ∧ s.sense.ovht.level = false) →
          t.heater = s.heater ∧ t.timers = s.timers)))

/-- R168, R169, R173, R174: a C3 reading works the cooling call from the setpoint, and with the fault clear follows
the warm run and FRIDGE_WARM, starts the compressor from IDLE, and in RUN stops it at the setpoint or sets its speed;
the window at which C3 faults ends the warm run and begins the fixed cycle, and a C3 that stays faulted moves the
compressor no more. R175: each C3 reading in FAULT sets FRIDGE. That the call is cleared where no setpoint stands
although C3 is faulted is the model's choice (log entry 16). -/
def Obligations.FridgeReadingDrivesTheFridge : Prop :=
  ∀ (edges : Nat) (s : State), s.rst.asserted = false → HeldLaw s →
    ∀ t, exec (.tempWindowEnd .c3 edges) s = .next t → ∀ d, d = t.sense.fridgeT → ∀ set : Option Int,
    set = (if s.fridge.state = .fault then s.fridge.monitored else s.fridge.presented.map Presented.setpoint) →
    ∀ monitored, monitored = s.fridge.monitored → ∀ call : Bool,
    call =
      (match set with
       | none => false
       | some x =>
         if d.fault then s.fridge.call
         else if x + 20 ≤ d.value then true else if d.value ≤ x then false else s.fridge.call) → ∀ warm : Option Nat,
    warm =
      (if d.fault then (if s.sense.fridgeT.fault then s.fridge.warmRun else none)
       else
         match monitored with
         | none => s.fridge.warmRun
         | some x => if x + 80 ≤ d.value then some (s.fridge.warmRun.getD 0) else none) → ∀ u : State,
    u = { s with sense := t.sense, warn := t.warn, fridge := { s.fridge with call := call, warmRun := warm } } →
    (hasPair .part .fridgeWarm t.warn.entries = true ↔
      hasPair .part .fridgeWarm s.warn.entries = true ∧
      ¬(d.fault = false ∧ ∃ x, monitored = some x ∧ d.value < x + 40)) ∧
    (s.fridge.state = .off ∨ s.fridge.state = .rest ∨ s.fridge.state = .fault →
      t.fridge = u.fridge ∧ t.timers = s.timers) ∧
    (s.fridge.state = .fault → Notice.fridge.inByte t.port.flags = true) ∧
    (s.warn.fridgeWarmGone t.warn) ∧
    (s.fridge.state = .idle → d.fault = false ∨ s.sense.fridgeT.fault = false →
      (u.fridgeStarts → u.compressorOn t) ∧ (¬u.fridgeStarts → t.fridge = u.fridge ∧ t.timers = s.timers)) ∧
    (s.fridge.state.turning = true → d.fault = true → s.sense.fridgeT.fault = false →
      (600 ≤ s.fridge.onSeconds.getD 0 → u.compressorOff .rest s.fridge.stalls t) ∧
      (s.fridge.onSeconds.getD 0 < 600 → t.fridge = { u.fridge with speed := 1 } ∧
        (s.fridge.speed ≠ 1 → t.timers.t6.given 400 1000))) ∧
    (d.fault = true → s.sense.fridgeT.fault = true → t.fridge = u.fridge ∧ t.timers = s.timers) ∧
    (s.fridge.state = .start → d.fault = false → t.fridge = u.fridge ∧ t.timers = s.timers) ∧
    (s.fridge.state = .run → d.fault = false → set = none → t.fridge = u.fridge ∧ t.timers = s.timers) ∧
    (∀ x, set = some x → s.fridge.state = .run → d.fault = false →
      (d.value ≤ x → u.compressorOff .rest s.fridge.stalls t) ∧
      (x < d.value →
        ∀ v, v = (if s.quiet then 1 else if 50 ≤ d.value - x then 3 else if 30 ≤ d.value - x then 2 else 1) →
          t.fridge = { u.fridge with speed := v } ∧
          (s.fridge.speed ≠ v → t.timers.t6.given (if v = 1 then 400 else if v = 2 then 700 else 1000) 1000)))

/-- R129, R144, R147 to R150, R157: a debounce timer that runs out gives its input the level of its pin and hands it
on: PBRAKE to the standstill condition, FLAME and OVHT to the heater. That with no timer running, and while RESET is
asserted, nothing happens (log entry 8), and the order in which one change of the standstill condition moves the
accounts (log entry 35), are the model's choices. When within the event a warning is tested for suppression is DEDUCED
(log entry 29). -/
def Obligations.DebounceHandsTheLevelOn : Prop :=
  ∀ (i : DigitalIn) (held : Nat) (s : State), ∀ u : State,
    u = { s with
          sense :=
            s.sense.setInput i
              { pin := (s.sense.input i).pin, level := (s.sense.input i).pin, timer := false, fromReset := false } } →
    (s.rst.asserted = true ∨ (s.sense.input i).timer = false → exec (.debounceExpiry i held) s = .next s) ∧
    (s.rst.asserted = false → (s.sense.input i).timer = true →
      ∃ t, exec (.debounceExpiry i held) s = .next t ∧
        (i = .pbrake → u.standstillWorked t) ∧
        (i = .flame →
          ((s.sense.input i).pin = true → s.heater.state = .ignition →
            u.heaterMoves t ∧ t.heater = { s.heater with state := .proving, phase := some 20 } ∧
            t.timers.t5.given 400 1000 ∧ t.timers.t4 = s.timers.t4) ∧
          ((s.sense.input i).pin = false → s.heater.state = .proving ∨ s.heater.state = .run → u.startFailed t) ∧
          ((s.sense.input i).pin = true → s.heater.state ≠ .ignition → t = { u with port := t.port }) ∧
          ((s.sense.input i).pin = false → s.heater.state ≠ .proving → s.heater.state ≠ .run →
            t = { u with port := t.port })) ∧
        (i = .ovht →
          ((s.sense.input i).pin = true →
            (s.heater.state = .preheat →
              u.heaterMoves t ∧ t.heater = { s.heater with state := .off, phase := none, glow := false } ∧
              t.timers.t5.given 0 1000) ∧
            (s.heater.state.burning = true → u.cooled .overheat t) ∧
            (s.heater.state = .cooldown → t = { u with heater := { s.heater with cause := some .overheat } }) ∧
            (s.heater.state = .off ∨ s.heater.state = .satisfied ∨ s.heater.state = .lockout →
              t = { u with port := t.port })) ∧
          ((s.sense.input i).pin = false →
            (s.heater.state = .off → s.heater.presented ≠ none → u.preheated t) ∧
            (¬(s.heater.state = .off ∧ s.heater.presented ≠ none) → t = { u with port := t.port }))))

/-- R129, R130, R185, R186 and Table 26: a debounced button. A press takes a RELEASED classifier to PRESSED; a release
stores the hold time and, below 1,000 ms, is a short press: it acknowledges the highest-ranked unsilenced entry of
the account bound to the bunk, does nothing where all are SILENCED, and with no entry toggles the manual order of
the bunk, with a pass; a release from LONG_HELD or HELD_OVER is only a release. The hold time in milliseconds is
carried by the event's operand (log entry 10), and what is stored of it in PRESSED and after a release is the model's
choice (log entry 41). -/
def Obligations.ButtonsClassifyTheirPresses : Prop :=
  ∀ (side : Side) (held : Nat) (s : State), s.rst.asserted = false →
    ∀ inp, inp = s.sense.input (buttonOf side) → inp.timer = true → ∀ x : Sense,
    x = s.sense.setInput (buttonOf side) { pin := inp.pin, level := inp.pin, timer := false, fromReset := false } →
    (inp.pin = true → (s.sense.press side).state = some .released →
      exec (.debounceExpiry (buttonOf side) held) s =
        .next { s with sense := x.setPress side { state := some .pressed, hold := 0 } }) ∧
    (inp.pin = true → (s.sense.press side).state ≠ some .released →
      exec (.debounceExpiry (buttonOf side) held) s = .next { s with sense := x }) ∧
    (inp.pin = false →
      ((s.sense.press side).state = some .longHeld ∨ (s.sense.press side).state = some .heldOver →
        exec (.debounceExpiry (buttonOf side) held) s =
          .next
            { s with
              sense := x.setPress side { state := some .released, hold := (s.sense.press side).hold } }) ∧
      ((s.sense.press side).state = some .released ∨ (s.sense.press side).state = none →
        exec (.debounceExpiry (buttonOf side) held) s = .next { s with sense := x }) ∧
      (∀ u, u = { s with sense := x.setPress side { state := some .released, hold := held } } →
        (s.sense.press side).state = some .pressed →
        (1000 ≤ held → exec (.debounceExpiry (buttonOf side) held) s = .next u) ∧
        (held < 1000 →
          (∀ i, s.boundSlot side.bunk = some i →
            (∀ e ∈ s.warn.entries, e.source = .slot i → e.type.ofAccount = true) →
            ((∃ e ∈ s.warn.entries, e.source = .slot i) →
              (∀ e ∈ s.warn.entries, e.source = .slot i → e.state = .silenced) →
              exec (.debounceExpiry (buttonOf side) held) s = .next u) ∧
            ((∃ e ∈ s.warn.entries, e.source = .slot i ∧ e.state ≠ .silenced) →
              ∃ t, exec (.debounceExpiry (buttonOf side) held) s = .next t ∧ t = { u with warn := t.warn } ∧
                s.warn.lampWorked t.warn ∧
                ∃ e ∈ s.warn.entries, e.source = .slot i ∧ e.state ≠ .silenced ∧
                  (∀ y ∈ s.warn.entries, y.source = .slot i → y.state ≠ .silenced →
                    y.type.severity ≤ e.type.severity) ∧
                  t.warn.entries =
                    (if e.type.isEvent then
                      s.warn.entries.filter (fun y => !(decide (y.source = e.source) && decide (y.type = e.type)))
                     else
                      s.warn.entries.map (fun y =>
                        if y.source = e.source ∧ y.type = e.type then
                          { y with state := .silenced, due := none, falling := false }
                        else y)))) ∧
          ((∀ i, s.boundSlot side.bunk = some i → ∀ e ∈ s.warn.entries, e.source ≠ .slot i) →
            ((∃ o ∈ s.orders, o.key = manualKey side) →
              ∃ t, exec (.debounceExpiry (buttonOf side) held) s = .next t ∧ ∃ b : State,
                b = { u with
                      orders := s.orders.filter (fun o => decide (o.key ≠ manualKey side)), port := b.port } ∧
                s.port.settingsKept b.port ∧ Notice.order.inByte b.port.flags = true ∧ b.afterPass t) ∧
            ((∀ o ∈ s.orders, o.key ≠ manualKey side) →
              (s.port.mode = .normal ∨ s.port.mode = .workshop → s.orders.length < 24 →
                ∃ t, exec (.debounceExpiry (buttonOf side) held) s = .next t ∧
                  State.afterPass
                    { u with
                      orders :=
                        insertOrder
                          { key := manualKey side, origin := .button, load := readLoad side, cls := .convenience
                            target := .light 600 1, start := .immediate, finish := .duration 120
                            placedAt := s.clock.minute, state := .pending, resolvedStart := none
                            resolvedEnd := none, forecast := 0, admittedAt := none }
                          s.orders } t) ∧
              (¬((s.port.mode = .normal ∨ s.port.mode = .workshop) ∧ s.orders.length < 24) →
                ∃ t, exec (.debounceExpiry (buttonOf side) held) s = .next t ∧ t = { u with port := t.port } ∧
                  Notice.order.inByte t.port.flags = true))))))

/-- R129, R131, R134 to R138: a pin that moves starts its debounce timer away from the debounced level and abandons it
at that level; the end of the 50 ms after a reset gives each waiting classifier RELEASED or HELD_OVER by its button;
and at the end of a running timer's period a pending pair and a waiting polarity take effect, with a pump pulse for
T4. That the end of a stopped timer's period, and PRESS_CLASSIFIER_WAIT_END with no classifier waiting or while RESET
is asserted, do nothing is the model's choice (log entry 8), and so are the hold time of 0 at the end of the wait (log
entry 36), the mark of a debounce that a reset's end began, and a counter that stands at 0 between commands (log
entries 11 and 30). -/
def Obligations.PinsAndPeriods : Prop :=
  (∀ (i : DigitalIn) (level : Bool) (s : State),
    (s.rst.asserted = false → level = (s.sense.input i).pin → exec (.pinChange i level) s = .next s) ∧
    (s.rst.asserted = false → level ≠ (s.sense.input i).pin →
      exec (.pinChange i level) s =
        .next
          { s with
            sense :=
              s.sense.setInput i
                { pin := level, level := (s.sense.input i).level
                  timer := decide (level ≠ (s.sense.input i).level), fromReset := false } }) ∧
    (s.rst.asserted = true →
      exec (.pinChange i level) s =
        .next { s with sense := s.sense.setInput i { s.sense.input i with pin := level } })) ∧
  (∀ s : State,
    (s.rst.asserted = true → exec .pressClassifierWaitEnd s = .next s) ∧
    (s.rst.asserted = false →
      ∃ t, exec .pressClassifierWaitEnd s = .next t ∧
        t = { s with
              sense :=
                { s.sense with
                  btnA := t.sense.btnA, btnB := t.sense.btnB, pressA := t.sense.pressA, pressB := t.sense.pressB } } ∧
        ∀ side : Side,
          ((s.sense.press side).state ≠ none →
            t.sense.press side = s.sense.press side ∧
            t.sense.input (buttonOf side) = s.sense.input (buttonOf side)) ∧
          ((s.sense.press side).state = none →
            t.sense.press side =
              { state := some (if (t.sense.input (buttonOf side)).level then .heldOver else .released), hold := 0 } ∧
            t.sense.input (buttonOf side) =
              (if (s.sense.input (buttonOf side)).timer && (s.sense.input (buttonOf side)).fromReset then
                { pin := (s.sense.input (buttonOf side)).pin, level := (s.sense.input (buttonOf side)).pin
                  timer := false, fromReset := false }
               else s.sense.input (buttonOf side))))) ∧
  (∀ (i : TimerId) (s : State),
    ((s.timers.get i).running = false → exec (.endOfPeriod i) s = .next s) ∧
    ((s.timers.get i).running = true →
      ∃ t, exec (.endOfPeriod i) s = .next t ∧
        t = { s with timers := t.timers, heater := { s.heater with fuel := t.heater.fuel } } ∧
        (∀ j, j ≠ i → t.timers.get j = s.timers.get j) ∧
        ((s.timers.get i).pending = true →
          (t.timers.get i).onCmp = (s.timers.get i).shadowOn ∧ (t.timers.get i).perCmp = (s.timers.get i).shadowPer) ∧
        ((s.timers.get i).pending = false →
          (t.timers.get i).onCmp = (s.timers.get i).onCmp ∧ (t.timers.get i).perCmp = (s.timers.get i).perCmp) ∧
        (t.timers.get i).running = true ∧ (t.timers.get i).pending = false ∧ (t.timers.get i).counter = 0 ∧
        (t.timers.get i).shadowPol = none ∧
        (t.timers.get i).polarity = (s.timers.get i).shadowPol.getD (s.timers.get i).polarity ∧
        t.heater.fuel =
          (if i = .t4 ∧ 0 < (t.timers.get i).onCmp then s.heater.fuel + 1 else s.heater.fuel)))

/-! ### Resets -/

/-- R25, R29, R52, R67, R100, R117, R129, R139, R140, R164, R179, R190, R204 and Tables 18, 30 and 37: a cold start
gives every record its cold-start value, spelt out here, and sets PART; the pins keep their levels, each one found at
its first level with its debounce timer running (log entry 13); and every law of the blocks holds in that state.
`State.reset` is such a state, with every pin low, which a cold start leaves as it is. The hold times, the free values
drawn, which go on, the step timer and INIT's kept mode have no reset value in the reference: they are the model's
(log entries 12, 19 and 36). -/
def Obligations.ColdStartSetsEveryRecord : Prop :=
  exec .coldStart State.reset = .next State.reset ∧ ∀ s : State, ∃ t, exec .coldStart s = .next t ∧
    (t.clock = { minute := 0, prescaler := 0, isSet := false } ∧ t.orders = [] ∧
     t.alloc =
       { horizon := 480, keepMargin := 500, heaterDraw := 1800, heaterStart := 800, fridgeDraw := 3500
         fridgeDuty := 40, committed := 0, usable := 0, passMinute := 0 } ∧
     t.charge =
       { count := 0, residue := 0, capacity := 200000, reserve := 80000, weight := 360, synced := false, tally := 0
         netLast := 0 } ∧
     (∀ i, t.account i = none) ∧ t.transport = false ∧ t.quiet = false ∧
     t.warn = { entries := [], chime := .idle, lamp := .off, lampOn := false }) ∧
    (t.sense =
       { vspdCount := 0, motion := .stopping, settleCount := 0, settleTime := 60, chgTotal := 0, disTotal := 0
         cab := { value := 0, fault := true, count := 0, validRun := 0 }
         fridgeT := { value := 0, fault := true, count := 0, validRun := 0 }
         outside := { value := 0, fault := true, count := 0, validRun := 0 }
         tachRate := 0, pbrake := t.sense.pbrake, flame := t.sense.flame, ovht := t.sense.ovht, btnA := t.sense.btnA
         btnB := t.sense.btnB, pressA := { state := none, hold := 0 }, pressB := { state := none, hold := 0 }
         drawn := s.sense.drawn } ∧
     (∀ i, t.sense.input i =
       { pin := (s.sense.input i).pin, level := false, timer := (s.sense.input i).pin
         fromReset := (s.sense.input i).pin }) ∧
     (∀ i, t.timers.get i =
       { running := false, counter := 0, onCmp := 0, perCmp := 0, shadowOn := 0, shadowPer := 0, pending := false
         polarity := .activeHigh, shadowPol := none })) ∧
    (t.heater =
       { state := .off, level := 0, desired := 0, failed := 0, restart := false, cause := none, phase := none
         runSeconds := 0, stepTimer := 0, satisfy := none, fuel := 0
         params :=
           { preheat := 45, ignition := 120, cooldown := 180, startRate := 90, rate1 := 60, rate2 := 110, rate3 := 160
             rate4 := 220, pulseWidth := 30, fan1 := 350, fan2 := 500, fan3 := 700, fan4 := 900 }
         glow := false, presented := none } ∧
     t.fridge =
       { state := .rest, speed := 0, call := false, stalls := 0, offSeconds := 0, onSeconds := none
         startWindows := none, lowWindows := none, runSeconds := none, warmRun := none, minOff := 180
         compressor := false, monitored := none, presented := none } ∧
     (∀ i draw, (i, draw) ∈
         [(LightId.readA, 600), (LightId.readB, 600), (LightId.cabLight, 2000), (LightId.nightLight, 300)] →
       t.channel i =
         { duty := 0, target := 0, fadeTime := 1, effective := 0, fade := none, polarity := .activeHigh
           fullDraw := draw, presented := none }) ∧
     t.lights.quietCap = 100) ∧
    (t.port =
       { mode := .uninit, asleep := false, reply := none, miso := none, inFrame := false, asleepAtStart := false
         flags := 0x80#8, enables := 0xFF#8, mask := 0x00#8, attn := true, wake := false, spacing := false
         wait := false, unanswered := false, selfTest := .none, cause := .cold, initMode := .normal } ∧
     t.rst =
       { asserted := false, heldWarnings := [], heldWakes := [], accountNotice := false, heaterMoved := false
         fridgeMoved := false } ∧
     t.pending = s.pending) ∧
    (AttnLaw t ∧ WakeLaw t ∧ HeldLaw t ∧ OrderLaw t ∧ ActiveLaw t ∧ CommittedLaw t ∧ PresentationLaw t ∧ ChargeLaw t ∧
     AccountLaw t ∧ WarnLaw t ∧ HeaterLaw t ∧ FridgeLaw t ∧ LightLaw t ∧ SenseLaw t ∧ TimerLaw t)

/-- R25, R52, R100, R116, R128, R129, R131, R139, R165, R166, R179, R190, R204: the assertion of RESET keeps the
clock, the charge account, the rest accounts and the warning list but for the entry of the burst it cuts off, which is
QUEUED and not counted, withdraws every presented order, silences the chime and the lamp, stops every timer but the
fan's, takes a burning heater to COOLDOWN and the fridge to REST, with its off seconds at 0 where the compressor was
on, turns the lights off, abandons the debounce timers, the press classifiers and a self-test, and negates ATTN and
WAKE. A repeated assertion, what T5 takes at once, the empty reply and the frame cut off, the lamp that is set OFF,
the hold times at 0, a polarity that waited, and the full phase time of a COOLDOWN while RESET is asserted are the
model's choices (log entries 3, 20, 21, 22, 26, 27, 36 and 42). -/
def Obligations.ResetAssertStopsTheBlocks : Prop :=
  ∀ s : State,
    (s.rst.asserted = true → exec .resetAssert s = .next s) ∧
    (s.rst.asserted = false →
      ∃ t, exec .resetAssert s = .next t ∧
        t =
          { s with
            orders := t.orders, alloc := { s.alloc with committed := 0 }, warn := t.warn, sense := t.sense
            timers := t.timers, heater := t.heater, fridge := t.fridge, lights := t.lights, port := t.port
            rst := t.rst } ∧
        t.orders = s.orders.map (fun o => { o with state := if o.state = .active then .waiting else o.state }) ∧
        t.port =
          { s.port with
            reply := none, miso := none, inFrame := false, attn := false, wake := false
            selfTest := if s.port.mode = .selfTest then .abandoned else s.port.selfTest } ∧
        t.warn =
          { entries :=
              (match s.warn.chime with
               | .idle => s.warn.entries
               | .sounding a w _ _ _ =>
                 s.warn.entries.map (fun e =>
                   if e.source = a ∧ e.type = w ∧ e.state = .presenting then { e with state := .queued } else e))
            chime := .idle, lamp := .off, lampOn := false } ∧
        (∀ st, st =
            (if s.heater.state.burning ∨ s.heater.state = .cooldown then HeaterState.cooldown
             else if s.heater.state = .lockout then .lockout else .off) →
          t.heater =
            { s.heater with
              state := st
              cause :=
                if s.heater.state.burning then some .stopped
                else if s.heater.state = .cooldown then s.heater.cause else none
              phase := if st = .cooldown then some s.heater.params.cooldown else none
              glow := false, satisfy := none, restart := false, level := 0, desired := 0, presented := none }) ∧
        t.fridge =
          { s.fridge with
            state := if s.fridge.state = .fault then .fault else .rest
            offSeconds := if s.fridge.state.turning then 0 else s.fridge.offSeconds
            compressor := false, speed := 0, onSeconds := none, startWindows := none, lowWindows := none
            runSeconds := none, warmRun := none, presented := none } ∧
        (∀ i, t.channel i =
          { s.channel i with duty := 0, fade := none, target := 0, fadeTime := 1, effective := 0, presented := none }) ∧
        t.lights.quietCap = s.lights.quietCap ∧ (∀ load, t.presented load = none) ∧
        (∀ i, i ≠ .t5 →
          t.timers.get i =
            { s.timers.get i with
              running := false, counter := 0, pending := false
              polarity := (s.timers.get i).shadowPol.getD (s.timers.get i).polarity, shadowPol := none }) ∧
        t.timers.t5.given 1000 1000 ∧
        (∀ i, t.sense.input i = { s.sense.input i with timer := false, fromReset := false }) ∧
        (∀ i, t.sense.temp i = { s.sense.temp i with count := 0 }) ∧
        (∀ side, t.sense.press side = { state := none, hold := 0 }) ∧
        t.sense =
          { s.sense with
            vspdCount := 0, settleCount := 0, cab := t.sense.cab, fridgeT := t.sense.fridgeT
            outside := t.sense.outside, pbrake := t.sense.pbrake, flame := t.sense.flame, ovht := t.sense.ovht
            btnA := t.sense.btnA, btnB := t.sense.btnB, pressA := t.sense.pressA, pressB := t.sense.pressB } ∧
        t.rst =
          { asserted := true, heldWarnings := [], heldWakes := [], accountNotice := false
            heaterMoved := decide (t.heater.state ≠ s.heater.state)
            fridgeMoved := decide (t.fridge.state ≠ s.fridge.state) })

/-- R32, R101, R116, R129, R165, R179, R204: the end of a warm reset: the port at its values with PART set and cause
WARM, SELFTEST left for UNINIT, the raises and removals that were held applied to the list, every QUEUED entry's
countdown restarted and the due ones tested and selected, the held wake orders placed by R17, debouncing afresh, a
full cooldown and a full rest begun, the fan of a heater outside COOLDOWN off, the standstill condition worked afresh,
and the one pass at the cab minute it finds. That no CHARGE is set by a held removal alone (log entry 34), the order
in which the blocks take up their work, the wake orders are placed and the accounts are moved (log entries 24, 25, 35
and 38), the mark of a debounce that begins here (log entry 30), that the PART set here gives no WAKE pulse (log entry
40), and a reset's end with none asserted (log entry 27) are the model's choices. When within the event a warning is
tested for suppression is DEDUCED (log entry 29). -/
def Obligations.ResetEndReleasesTheBlocks : Prop :=
  ∀ s : State,
    (s.rst.asserted = false → exec .resetEnd s = .next s) ∧
    (s.rst.asserted = true →
      ∃ t, exec .resetEnd s = .next t ∧
        t.rst =
          { asserted := false, heldWarnings := [], heldWakes := [], accountNotice := false, heaterMoved := false
            fridgeMoved := false } ∧
        (t.port.mode = (if s.port.mode = .selfTest then .uninit else s.port.mode) ∧ t.port.cause = .warm ∧
          t.port.enables = 0xFF#8 ∧ t.port.mask = 0x00#8 ∧ t.port.asleep = false ∧ t.port.spacing = false ∧
          t.port.wait = false ∧ t.port.unanswered = false ∧ t.port.attn = true ∧ t.port.wake = s.port.wake ∧
          t.port.selfTest = s.port.selfTest ∧ Notice.part.inByte t.port.flags = true ∧
          (s.rst.accountNotice = true ∨ t.accounts ≠ s.accounts → Notice.account.inByte t.port.flags = true) ∧
          (s.rst.heaterMoved = true ∨ s.heater.state = .lockout → Notice.heater.inByte t.port.flags = true) ∧
          (s.rst.fridgeMoved = true ∨ s.fridge.state = .fault → Notice.fridge.inByte t.port.flags = true) ∧
          (Notice.charge.inByte t.port.flags = true ↔ s.charge.synced = false ∨ s.charge.count ≤ s.charge.reserve)) ∧
        (∀ x ∈ t.warn.entries, (∀ e ∈ s.warn.entries, ¬(e.source = x.source ∧ e.type = x.type)) →
          x.raisedAt = s.clock.minute ∧ Notice.warning.inByte t.port.flags = true) ∧
        (∀ w, w ≠ .fridgeWarm →
          hasPair .part w t.warn.entries =
            handedPresence .part w (hasPair .part w s.warn.entries) s.rst.heldWarnings) ∧
        (∀ i, (∀ a, s.account i = some a →
            hasPair (.slot i) .restDone t.warn.entries =
              (handedPresence (.slot i) .restDone (hasPair (.slot i) .restDone s.warn.entries) s.rst.heldWarnings ||
                (s.standstill && decide (a.state = .restWait) && a.firesAtStart)) ∧
            hasPair (.slot i) .restShort t.warn.entries =
              (handedPresence (.slot i) .restShort (hasPair (.slot i) .restShort s.warn.entries) s.rst.heldWarnings ||
                (!s.standstill && decide (a.state = .resting) && a.closesShort))) ∧
          ∀ a, t.account i = some a → t.warn.drivingWorked i a) ∧
        (∀ e ∈ t.warn.entries, e.state = .queued →
          e.due = (if e.bursts = 0 then some 0 else e.type.interval) ∧ e.falling = false) ∧
        (∀ e ∈ t.warn.entries, e.ready = true → t.suppressed e = false ∧ t.warn.chime ≠ .idle) ∧
        (WarnLaw s → ∀ e ∈ s.warn.entries, (∀ h ∈ s.rst.heldWarnings, h ≠ .remove e.source e.type) →
          e.type ≠ .driveNear → e.type ≠ .driveOver → e.type ≠ .dailyOver → e.type ≠ .fridgeWarm →
          ∃ x ∈ t.warn.entries, x.source = e.source ∧ x.type = e.type ∧ x.raisedAt = e.raisedAt ∧
            (e.state = .silenced ∨ e.state = .lampOnly → x = e)) ∧
        s.warn.lampWorked t.warn ∧
        (s.warn.entries.Pairwise (fun a b => ¬(a.source = b.source ∧ a.type = b.type)) → ∀ x ∈ t.warn.entries,
          (∃ e ∈ s.warn.entries,
            Entry.handled
              (if e.state = .queued then
                { e with due := if e.bursts = 0 then some 0 else e.type.interval, falling := false }
               else e) s t x) ∨
          (Notice.warning.inByte t.port.flags = true ∧
            (Entry.atRaise x.source x.type s.clock.minute).handled s t x)) ∧
        t.clock = s.clock ∧ t.charge = s.charge ∧ t.transport = s.transport ∧ t.quiet = s.quiet ∧
        (∀ i, s.accountMoved i t) ∧
        t.sense =
          { s.sense with
            pbrake := t.sense.pbrake, flame := t.sense.flame, ovht := t.sense.ovht, btnA := t.sense.btnA
            btnB := t.sense.btnB } ∧
        (∀ i, t.sense.input i =
          { s.sense.input i with
            timer := decide ((s.sense.input i).pin ≠ (s.sense.input i).level)
            fromReset := decide ((s.sense.input i).pin ≠ (s.sense.input i).level) }) ∧
        t.fridge.offSeconds = 0 ∧
        (s.heater.state = .cooldown → t.heater.state = .cooldown ∧
          t.heater.phase = some s.heater.params.cooldown ∧ t.timers.t5.given 1000 1000) ∧
        (s.heater.state = .lockout → t.heater.state = .lockout ∧ t.timers.t5.given 0 1000) ∧
        (s.heater.state = .off →
          (t.heater.state = .off ∧ t.timers.t5.given 0 1000) ∨
          (t.heater.state = .preheat ∧ t.timers.t5.given 200 1000)) ∧
        (∃ b : State,
          b =
            { s with
              orders :=
                s.ordersAtMove t.port.mode (ordersWithWakes t.port.mode s.clock.minute s.rst.heldWakes s.orders)
              accounts := t.accounts, warn := b.warn, sense := t.sense
              timers := { s.timers with t5 := b.timers.t5, t7 := b.timers.t7 }
              heater :=
                { s.heater with
                  phase := if s.heater.state = .cooldown then some s.heater.params.cooldown else s.heater.phase }
              fridge := { s.fridge with offSeconds := 0 }, port := b.port, rst := t.rst } ∧
          b.port.settingsKept t.port ∧ b.afterPass t) ∧
        (∀ o ∈ t.orders, o.key ≤ 240 → ∃ p ∈ s.orders, p.key = o.key))

/-! ### Laws that every step keeps -/

/-- R199, R202 to R204: the ATTN line, the wake wait, and what is held for the end of a reset. R53, R58, R62, R121,
R126, R127, R134, R136: the charge account, sensing and the timer bank in their ranges. -/
def Obligations.StepKeepsThePortAndCounterLaws : Prop :=
  (∀ s t : State, step s = .next t → AttnLaw s ∧ WakeLaw s ∧ HeldLaw s → AttnLaw t ∧ WakeLaw t ∧ HeldLaw t) ∧
  (∀ s t : State, step s = .next t → ChargeLaw s ∧ SenseLaw s ∧ TimerLaw s → ChargeLaw t ∧ SenseLaw t ∧ TimerLaw t)

/-- R1, R2, R5, R6, R14, R17, R34, R35, R45: the order table, the ACTIVE orders and the committed charge; the figures
of a wake order come from settings in their ranges (Table 18). That the stored table stands in ascending key order is
the model's canonical form (log entry 37). -/
def Obligations.StepKeepsTheOrderLaws : Prop :=
  ∀ s t : State, step s = .next t → AccountLaw s → OrderLaw s ∧ ActiveLaw s ∧ CommittedLaw s →
    OrderLaw t ∧ ActiveLaw t ∧ CommittedLaw t

/-- R12, R48: every load block holds its ACTIVE order or nothing. R180 to R183: each channel's target and fade time are
those of its presented order, or 0 over 1 s; what it pursues, its timer, and the quiet cap. -/
def Obligations.StepKeepsPresentationsAndLights : Prop :=
  (∀ s t : State, step s = .next t → PresentationLaw s → PresentationLaw t) ∧
  (∀ s t : State, step s = .next t → LightLaw s → LightLaw t)

/-- R68 to R71, R77, R79, R83, R90, R91: the rest accounts and the quiet flag. -/
def Obligations.StepKeepsTheAccountLaw : Prop :=
  ∀ s t : State, step s = .next t → AccountLaw s → AccountLaw t

/-- R102, R107, R108, R110, R111, R116: the warning list, the chime and the lamp. That the lamp is OFF while RESET is
asserted, the order in which the list is stored, and the mark of an entry that is still to fall due are the model's (log
entries 6, 26 and 37). -/
def Obligations.StepKeepsTheWarningLaw : Prop :=
  ∀ s t : State, step s = .next t → WarnLaw s → WarnLaw t

/-- R141 to R158, R165: the heater's outputs, levels and optional items by its state, an order presented in OFF only
while OVHT is active, and restart-pending in a COOLDOWN that can end in PREHEAT while one is presented. -/
def Obligations.StepKeepsTheHeaterLaw : Prop :=
  ∀ s t : State, step s = .next t → HeaterLaw s → HeaterLaw t

/-- R166 to R175, R179: the fridge's outputs, speed and optional items by its state. -/
def Obligations.StepKeepsTheFridgeLaw : Prop :=
  ∀ s t : State, step s = .next t → FridgeLaw s → FridgeLaw t
end

