-- ==== Sys2Proof/Laws/State.lean ====
section
/-! SUPPORT. The small updates of State: what a notice, a timer write, a halt and an account write leave as it was, one
conjunct per field. -/
namespace Sys2Proof.Machine

@[simp] theorem State.notice_keeps (s : State) (n : Notice) :
    (s.notice n).clock = s.clock ∧ (s.notice n).orders = s.orders ∧ (s.notice n).alloc = s.alloc ∧
    (s.notice n).charge = s.charge ∧ (s.notice n).accounts = s.accounts ∧ (s.notice n).transport = s.transport ∧
    (s.notice n).quiet = s.quiet ∧ (s.notice n).warn = s.warn ∧ (s.notice n).sense = s.sense ∧
    (s.notice n).timers = s.timers ∧ (s.notice n).heater = s.heater ∧ (s.notice n).fridge = s.fridge ∧
    (s.notice n).lights = s.lights ∧ (s.notice n).rst = s.rst ∧ (s.notice n).pending = s.pending ∧
    (s.notice n).port.mode = s.port.mode ∧ (s.notice n).port.asleep = s.port.asleep ∧
    (s.notice n).port.reply = s.port.reply ∧ (s.notice n).port.miso = s.port.miso ∧
    (s.notice n).port.inFrame = s.port.inFrame ∧ (s.notice n).port.asleepAtStart = s.port.asleepAtStart ∧
    (s.notice n).port.enables = s.port.enables ∧ (s.notice n).port.mask = s.port.mask ∧
    (s.notice n).port.unanswered = s.port.unanswered ∧ (s.notice n).port.selfTest = s.port.selfTest ∧
    (s.notice n).port.cause = s.port.cause ∧ (s.notice n).port.initMode = s.port.initMode := by
  simp only [State.notice, Port.setFlag, Port.workAttn, Port.startWake]
  repeat' split
  all_goals simp

@[simp] theorem State.noticeIf_keeps (s : State) (b : Bool) (n : Notice) :
    (s.noticeIf b n).clock = s.clock ∧ (s.noticeIf b n).orders = s.orders ∧ (s.noticeIf b n).alloc = s.alloc ∧
    (s.noticeIf b n).charge = s.charge ∧ (s.noticeIf b n).accounts = s.accounts ∧
    (s.noticeIf b n).transport = s.transport ∧ (s.noticeIf b n).quiet = s.quiet ∧ (s.noticeIf b n).warn = s.warn ∧
    (s.noticeIf b n).sense = s.sense ∧ (s.noticeIf b n).timers = s.timers ∧ (s.noticeIf b n).heater = s.heater ∧
    (s.noticeIf b n).fridge = s.fridge ∧ (s.noticeIf b n).lights = s.lights ∧ (s.noticeIf b n).rst = s.rst ∧
    (s.noticeIf b n).pending = s.pending ∧ (s.noticeIf b n).port.mode = s.port.mode ∧
    (s.noticeIf b n).port.asleep = s.port.asleep ∧ (s.noticeIf b n).port.reply = s.port.reply ∧
    (s.noticeIf b n).port.miso = s.port.miso ∧ (s.noticeIf b n).port.inFrame = s.port.inFrame ∧
    (s.noticeIf b n).port.asleepAtStart = s.port.asleepAtStart ∧ (s.noticeIf b n).port.enables = s.port.enables ∧
    (s.noticeIf b n).port.mask = s.port.mask ∧ (s.noticeIf b n).port.unanswered = s.port.unanswered ∧
    (s.noticeIf b n).port.selfTest = s.port.selfTest ∧ (s.noticeIf b n).port.cause = s.port.cause ∧
    (s.noticeIf b n).port.initMode = s.port.initMode := by
  simp only [State.noticeIf]
  repeat' split
  all_goals simp

@[simp] theorem State.accountNotice_keeps (s : State) :
    s.accountNotice.clock = s.clock ∧ s.accountNotice.orders = s.orders ∧ s.accountNotice.alloc = s.alloc ∧
    s.accountNotice.charge = s.charge ∧ s.accountNotice.accounts = s.accounts ∧
    s.accountNotice.transport = s.transport ∧ s.accountNotice.quiet = s.quiet ∧ s.accountNotice.warn = s.warn ∧
    s.accountNotice.sense = s.sense ∧ s.accountNotice.timers = s.timers ∧ s.accountNotice.heater = s.heater ∧
    s.accountNotice.fridge = s.fridge ∧ s.accountNotice.lights = s.lights ∧ s.accountNotice.pending = s.pending ∧
    s.accountNotice.port.mode = s.port.mode ∧ s.accountNotice.port.asleep = s.port.asleep ∧
    s.accountNotice.port.reply = s.port.reply ∧ s.accountNotice.port.miso = s.port.miso ∧
    s.accountNotice.port.inFrame = s.port.inFrame ∧ s.accountNotice.port.asleepAtStart = s.port.asleepAtStart ∧
    s.accountNotice.port.enables = s.port.enables ∧ s.accountNotice.port.mask = s.port.mask ∧
    s.accountNotice.port.unanswered = s.port.unanswered ∧ s.accountNotice.port.selfTest = s.port.selfTest ∧
    s.accountNotice.port.cause = s.port.cause ∧ s.accountNotice.port.initMode = s.port.initMode ∧
    s.accountNotice.rst.asserted = s.rst.asserted ∧ s.accountNotice.rst.heldWarnings = s.rst.heldWarnings ∧
    s.accountNotice.rst.heldWakes = s.rst.heldWakes ∧ s.accountNotice.rst.heaterMoved = s.rst.heaterMoved ∧
    s.accountNotice.rst.fridgeMoved = s.rst.fridgeMoved := by
  simp only [State.accountNotice]
  repeat' split
  all_goals simp

@[simp] theorem State.pumpPulse_keeps (s : State) :
    s.pumpPulse.clock = s.clock ∧ s.pumpPulse.orders = s.orders ∧ s.pumpPulse.alloc = s.alloc ∧
    s.pumpPulse.charge = s.charge ∧ s.pumpPulse.accounts = s.accounts ∧ s.pumpPulse.transport = s.transport ∧
    s.pumpPulse.quiet = s.quiet ∧ s.pumpPulse.warn = s.warn ∧ s.pumpPulse.sense = s.sense ∧
    s.pumpPulse.timers = s.timers ∧ s.pumpPulse.fridge = s.fridge ∧ s.pumpPulse.lights = s.lights ∧
    s.pumpPulse.port = s.port ∧ s.pumpPulse.rst = s.rst ∧ s.pumpPulse.pending = s.pending ∧
    s.pumpPulse.heater.state = s.heater.state ∧ s.pumpPulse.heater.level = s.heater.level ∧
    s.pumpPulse.heater.desired = s.heater.desired ∧ s.pumpPulse.heater.failed = s.heater.failed ∧
    s.pumpPulse.heater.restart = s.heater.restart ∧ s.pumpPulse.heater.cause = s.heater.cause ∧
    s.pumpPulse.heater.phase = s.heater.phase ∧ s.pumpPulse.heater.runSeconds = s.heater.runSeconds ∧
    s.pumpPulse.heater.stepTimer = s.heater.stepTimer ∧ s.pumpPulse.heater.satisfy = s.heater.satisfy ∧
    s.pumpPulse.heater.params = s.heater.params ∧ s.pumpPulse.heater.glow = s.heater.glow ∧
    s.pumpPulse.heater.presented = s.heater.presented := by
  simp [State.pumpPulse]

@[simp] theorem State.setTimer_keeps (s : State) (i : TimerId) (t : Timer) :
    (s.setTimer i t).clock = s.clock ∧ (s.setTimer i t).orders = s.orders ∧ (s.setTimer i t).alloc = s.alloc ∧
    (s.setTimer i t).charge = s.charge ∧ (s.setTimer i t).accounts = s.accounts ∧
    (s.setTimer i t).transport = s.transport ∧ (s.setTimer i t).quiet = s.quiet ∧ (s.setTimer i t).warn = s.warn ∧
    (s.setTimer i t).sense = s.sense ∧ (s.setTimer i t).heater = s.heater ∧ (s.setTimer i t).fridge = s.fridge ∧
    (s.setTimer i t).lights = s.lights ∧ (s.setTimer i t).port = s.port ∧ (s.setTimer i t).rst = s.rst ∧
    (s.setTimer i t).pending = s.pending := by
  simp [State.setTimer]

@[simp] theorem State.writeTimer_keeps (s : State) (i : TimerId) (on per : Nat) :
    (s.writeTimer i on per).clock = s.clock ∧ (s.writeTimer i on per).orders = s.orders ∧
    (s.writeTimer i on per).alloc = s.alloc ∧ (s.writeTimer i on per).charge = s.charge ∧
    (s.writeTimer i on per).accounts = s.accounts ∧ (s.writeTimer i on per).transport = s.transport ∧
    (s.writeTimer i on per).quiet = s.quiet ∧ (s.writeTimer i on per).warn = s.warn ∧
    (s.writeTimer i on per).sense = s.sense ∧ (s.writeTimer i on per).fridge = s.fridge ∧
    (s.writeTimer i on per).lights = s.lights ∧ (s.writeTimer i on per).port = s.port ∧
    (s.writeTimer i on per).rst = s.rst ∧ (s.writeTimer i on per).pending = s.pending ∧
    (s.writeTimer i on per).heater.state = s.heater.state ∧ (s.writeTimer i on per).heater.level = s.heater.level ∧
    (s.writeTimer i on per).heater.desired = s.heater.desired ∧
    (s.writeTimer i on per).heater.failed = s.heater.failed ∧
    (s.writeTimer i on per).heater.restart = s.heater.restart ∧
    (s.writeTimer i on per).heater.cause = s.heater.cause ∧ (s.writeTimer i on per).heater.phase = s.heater.phase ∧
    (s.writeTimer i on per).heater.runSeconds = s.heater.runSeconds ∧
    (s.writeTimer i on per).heater.stepTimer = s.heater.stepTimer ∧
    (s.writeTimer i on per).heater.satisfy = s.heater.satisfy ∧
    (s.writeTimer i on per).heater.params = s.heater.params ∧ (s.writeTimer i on per).heater.glow = s.heater.glow ∧
    (s.writeTimer i on per).heater.presented = s.heater.presented := by
  simp only [State.writeTimer]
  repeat' split
  all_goals simp

@[simp] theorem State.haltTimer_keeps (s : State) (i : TimerId) :
    (s.haltTimer i).clock = s.clock ∧ (s.haltTimer i).orders = s.orders ∧ (s.haltTimer i).alloc = s.alloc ∧
    (s.haltTimer i).charge = s.charge ∧ (s.haltTimer i).accounts = s.accounts ∧
    (s.haltTimer i).transport = s.transport ∧ (s.haltTimer i).quiet = s.quiet ∧ (s.haltTimer i).warn = s.warn ∧
    (s.haltTimer i).sense = s.sense ∧ (s.haltTimer i).heater = s.heater ∧ (s.haltTimer i).fridge = s.fridge ∧
    (s.haltTimer i).lights = s.lights ∧ (s.haltTimer i).port = s.port ∧ (s.haltTimer i).rst = s.rst ∧
    (s.haltTimer i).pending = s.pending := by
  simp [State.haltTimer]

/-- R159: of the timers, T4 alone hands the heater a pump pulse. -/
@[simp] theorem State.writeTimer_heater (s : State) (i : TimerId) (on per : Nat) (h : i ≠ .t4) :
    (s.writeTimer i on per).heater = s.heater := by
  simp [State.writeTimer, h]

@[simp] theorem LightId.timer_ne_t4 (i : LightId) : i.timer ≠ .t4 := by
  cases i <;> decide

@[simp] theorem State.writeTimer_t0 (s : State) (i : TimerId) (on per : Nat) (h : i ≠ .t0) :
    (s.writeTimer i on per).timers.t0 = s.timers.t0 := by
  simp only [State.writeTimer]
  split <;> cases i <;> first | rfl | exact absurd rfl h

@[simp] theorem State.haltTimer_t0 (s : State) (i : TimerId) (h : i ≠ .t0) :
    (s.haltTimer i).timers.t0 = s.timers.t0 := by
  cases i <;> first | rfl | exact absurd rfl h

@[simp] theorem State.writeTimer_t1 (s : State) (i : TimerId) (on per : Nat) (h : i ≠ .t1) :
    (s.writeTimer i on per).timers.t1 = s.timers.t1 := by
  simp only [State.writeTimer]
  split <;> cases i <;> first | rfl | exact absurd rfl h

@[simp] theorem State.haltTimer_t1 (s : State) (i : TimerId) (h : i ≠ .t1) :
    (s.haltTimer i).timers.t1 = s.timers.t1 := by
  cases i <;> first | rfl | exact absurd rfl h

@[simp] theorem State.writeTimer_t2 (s : State) (i : TimerId) (on per : Nat) (h : i ≠ .t2) :
    (s.writeTimer i on per).timers.t2 = s.timers.t2 := by
  simp only [State.writeTimer]
  split <;> cases i <;> first | rfl | exact absurd rfl h

@[simp] theorem State.haltTimer_t2 (s : State) (i : TimerId) (h : i ≠ .t2) :
    (s.haltTimer i).timers.t2 = s.timers.t2 := by
  cases i <;> first | rfl | exact absurd rfl h

@[simp] theorem State.writeTimer_t3 (s : State) (i : TimerId) (on per : Nat) (h : i ≠ .t3) :
    (s.writeTimer i on per).timers.t3 = s.timers.t3 := by
  simp only [State.writeTimer]
  split <;> cases i <;> first | rfl | exact absurd rfl h

@[simp] theorem State.haltTimer_t3 (s : State) (i : TimerId) (h : i ≠ .t3) :
    (s.haltTimer i).timers.t3 = s.timers.t3 := by
  cases i <;> first | rfl | exact absurd rfl h

@[simp] theorem State.writeTimer_t4 (s : State) (i : TimerId) (on per : Nat) (h : i ≠ .t4) :
    (s.writeTimer i on per).timers.t4 = s.timers.t4 := by
  simp only [State.writeTimer]
  split <;> cases i <;> first | rfl | exact absurd rfl h

@[simp] theorem State.haltTimer_t4 (s : State) (i : TimerId) (h : i ≠ .t4) :
    (s.haltTimer i).timers.t4 = s.timers.t4 := by
  cases i <;> first | rfl | exact absurd rfl h

@[simp] theorem State.writeTimer_t5 (s : State) (i : TimerId) (on per : Nat) (h : i ≠ .t5) :
    (s.writeTimer i on per).timers.t5 = s.timers.t5 := by
  simp only [State.writeTimer]
  split <;> cases i <;> first | rfl | exact absurd rfl h

@[simp] theorem State.haltTimer_t5 (s : State) (i : TimerId) (h : i ≠ .t5) :
    (s.haltTimer i).timers.t5 = s.timers.t5 := by
  cases i <;> first | rfl | exact absurd rfl h

@[simp] theorem State.writeTimer_t6 (s : State) (i : TimerId) (on per : Nat) (h : i ≠ .t6) :
    (s.writeTimer i on per).timers.t6 = s.timers.t6 := by
  simp only [State.writeTimer]
  split <;> cases i <;> first | rfl | exact absurd rfl h

@[simp] theorem State.haltTimer_t6 (s : State) (i : TimerId) (h : i ≠ .t6) :
    (s.haltTimer i).timers.t6 = s.timers.t6 := by
  cases i <;> first | rfl | exact absurd rfl h

@[simp] theorem State.writeTimer_t7 (s : State) (i : TimerId) (on per : Nat) (h : i ≠ .t7) :
    (s.writeTimer i on per).timers.t7 = s.timers.t7 := by
  simp only [State.writeTimer]
  split <;> cases i <;> first | rfl | exact absurd rfl h

@[simp] theorem State.haltTimer_t7 (s : State) (i : TimerId) (h : i ≠ .t7) :
    (s.haltTimer i).timers.t7 = s.timers.t7 := by
  cases i <;> first | rfl | exact absurd rfl h

@[simp] theorem LightId.timer_ne_t5 (i : LightId) : i.timer ≠ .t5 := by
  cases i <;> decide

@[simp] theorem LightId.timer_ne_t6 (i : LightId) : i.timer ≠ .t6 := by
  cases i <;> decide

@[simp] theorem LightId.timer_ne_t7 (i : LightId) : i.timer ≠ .t7 := by
  cases i <;> decide

@[simp] theorem State.setAccount_keeps (s : State) (i : Slot) (a : Account) :
    (s.setAccount i a).clock = s.clock ∧ (s.setAccount i a).orders = s.orders ∧ (s.setAccount i a).alloc = s.alloc ∧
    (s.setAccount i a).charge = s.charge ∧ (s.setAccount i a).transport = s.transport ∧
    (s.setAccount i a).quiet = s.quiet ∧ (s.setAccount i a).warn = s.warn ∧ (s.setAccount i a).sense = s.sense ∧
    (s.setAccount i a).timers = s.timers ∧ (s.setAccount i a).heater = s.heater ∧
    (s.setAccount i a).fridge = s.fridge ∧ (s.setAccount i a).lights = s.lights ∧ (s.setAccount i a).port = s.port ∧
    (s.setAccount i a).rst = s.rst ∧ (s.setAccount i a).pending = s.pending := by
  simp [State.setAccount]

end Sys2Proof.Machine
end

