-- ==== Sys2Proof/Laws/WarningFrames.lean ====
section
/-! SUPPORT. What each operation of the warning presenter leaves as it was. -/
namespace Sys2Proof.Machine

@[simp] theorem State.testSuppression_keeps (s : State) :
    s.testSuppression.clock = s.clock ∧ s.testSuppression.orders = s.orders ∧ s.testSuppression.alloc = s.alloc ∧
    s.testSuppression.charge = s.charge ∧ s.testSuppression.accounts = s.accounts ∧
    s.testSuppression.transport = s.transport ∧ s.testSuppression.quiet = s.quiet ∧
    s.testSuppression.sense = s.sense ∧ s.testSuppression.timers = s.timers ∧ s.testSuppression.heater = s.heater ∧
    s.testSuppression.fridge = s.fridge ∧ s.testSuppression.lights = s.lights ∧ s.testSuppression.port = s.port ∧
    s.testSuppression.rst = s.rst ∧ s.testSuppression.pending = s.pending := by
  simp [State.testSuppression]

@[simp] theorem State.beginBurst_keeps (s : State) (e : Entry) :
    (s.beginBurst e).clock = s.clock ∧ (s.beginBurst e).orders = s.orders ∧ (s.beginBurst e).alloc = s.alloc ∧
    (s.beginBurst e).charge = s.charge ∧ (s.beginBurst e).accounts = s.accounts ∧
    (s.beginBurst e).transport = s.transport ∧ (s.beginBurst e).quiet = s.quiet ∧ (s.beginBurst e).sense = s.sense ∧
    (s.beginBurst e).heater = s.heater ∧ (s.beginBurst e).fridge = s.fridge ∧ (s.beginBurst e).lights = s.lights ∧
    (s.beginBurst e).port = s.port ∧ (s.beginBurst e).rst = s.rst ∧ (s.beginBurst e).pending = s.pending ∧
    (s.beginBurst e).timers.t0 = s.timers.t0 ∧ (s.beginBurst e).timers.t1 = s.timers.t1 ∧
    (s.beginBurst e).timers.t2 = s.timers.t2 ∧ (s.beginBurst e).timers.t3 = s.timers.t3 ∧
    (s.beginBurst e).timers.t4 = s.timers.t4 ∧ (s.beginBurst e).timers.t5 = s.timers.t5 ∧
    (s.beginBurst e).timers.t6 = s.timers.t6 := by
  simp [State.beginBurst]

@[simp] theorem State.select_keeps (s : State) :
    s.select.clock = s.clock ∧ s.select.orders = s.orders ∧ s.select.alloc = s.alloc ∧ s.select.charge = s.charge ∧
    s.select.accounts = s.accounts ∧ s.select.transport = s.transport ∧ s.select.quiet = s.quiet ∧
    s.select.sense = s.sense ∧ s.select.heater = s.heater ∧ s.select.fridge = s.fridge ∧
    s.select.lights = s.lights ∧ s.select.port = s.port ∧ s.select.rst = s.rst ∧ s.select.pending = s.pending ∧
    s.select.timers.t0 = s.timers.t0 ∧ s.select.timers.t1 = s.timers.t1 ∧ s.select.timers.t2 = s.timers.t2 ∧
    s.select.timers.t3 = s.timers.t3 ∧ s.select.timers.t4 = s.timers.t4 ∧ s.select.timers.t5 = s.timers.t5 ∧
    s.select.timers.t6 = s.timers.t6 := by
  simp only [State.select]
  repeat' split
  all_goals simp

@[simp] theorem State.settle_keeps (s : State) :
    s.settle.clock = s.clock ∧ s.settle.orders = s.orders ∧ s.settle.alloc = s.alloc ∧ s.settle.charge = s.charge ∧
    s.settle.accounts = s.accounts ∧ s.settle.transport = s.transport ∧ s.settle.quiet = s.quiet ∧
    s.settle.sense = s.sense ∧ s.settle.heater = s.heater ∧ s.settle.fridge = s.fridge ∧
    s.settle.lights = s.lights ∧ s.settle.port = s.port ∧ s.settle.rst = s.rst ∧ s.settle.pending = s.pending ∧
    s.settle.timers.t0 = s.timers.t0 ∧ s.settle.timers.t1 = s.timers.t1 ∧ s.settle.timers.t2 = s.timers.t2 ∧
    s.settle.timers.t3 = s.timers.t3 ∧ s.settle.timers.t4 = s.timers.t4 ∧ s.settle.timers.t5 = s.timers.t5 ∧
    s.settle.timers.t6 = s.timers.t6 := by
  simp only [State.settle]
  repeat' split
  all_goals simp

@[simp] theorem State.countdownZero_keeps (s : State) :
    s.countdownZero.clock = s.clock ∧ s.countdownZero.orders = s.orders ∧ s.countdownZero.alloc = s.alloc ∧
    s.countdownZero.charge = s.charge ∧ s.countdownZero.accounts = s.accounts ∧
    s.countdownZero.transport = s.transport ∧ s.countdownZero.quiet = s.quiet ∧
    s.countdownZero.sense = s.sense ∧ s.countdownZero.heater = s.heater ∧ s.countdownZero.fridge = s.fridge ∧
    s.countdownZero.lights = s.lights ∧ s.countdownZero.port = s.port ∧ s.countdownZero.rst = s.rst ∧
    s.countdownZero.pending = s.pending ∧ s.countdownZero.timers.t0 = s.timers.t0 ∧
    s.countdownZero.timers.t1 = s.timers.t1 ∧ s.countdownZero.timers.t2 = s.timers.t2 ∧
    s.countdownZero.timers.t3 = s.timers.t3 ∧ s.countdownZero.timers.t4 = s.timers.t4 ∧
    s.countdownZero.timers.t5 = s.timers.t5 ∧ s.countdownZero.timers.t6 = s.timers.t6 := by
  simp only [State.countdownZero]
  split <;> simp

/-- R109: one second moves nothing of an entry but its countdown and the model's mark of its falling due. -/
@[simp] theorem Entry.second_keeps (e : Entry) :
    e.second.source = e.source ∧ e.second.type = e.type ∧ e.second.raisedAt = e.raisedAt ∧
    e.second.state = e.state ∧ e.second.bursts = e.bursts := by
  simp only [Entry.second]
  split <;> simp

@[simp] theorem Entry.fall_keeps (e : Entry) :
    e.fall.source = e.source ∧ e.fall.type = e.type ∧ e.fall.raisedAt = e.raisedAt ∧ e.fall.state = e.state ∧
    e.fall.bursts = e.bursts ∧ e.fall.due = e.due ∧ e.fall.falling = false := by
  simp [Entry.fall]

@[simp] theorem State.addEntry_keeps (s : State) (a : Source) (t : WarnType) :
    (s.addEntry a t).clock = s.clock ∧ (s.addEntry a t).orders = s.orders ∧ (s.addEntry a t).alloc = s.alloc ∧
    (s.addEntry a t).charge = s.charge ∧ (s.addEntry a t).accounts = s.accounts ∧
    (s.addEntry a t).transport = s.transport ∧ (s.addEntry a t).quiet = s.quiet ∧ (s.addEntry a t).sense = s.sense ∧
    (s.addEntry a t).timers = s.timers ∧ (s.addEntry a t).heater = s.heater ∧ (s.addEntry a t).fridge = s.fridge ∧
    (s.addEntry a t).lights = s.lights ∧ (s.addEntry a t).rst = s.rst ∧ (s.addEntry a t).pending = s.pending ∧
    (s.addEntry a t).port.mode = s.port.mode ∧ (s.addEntry a t).port.asleep = s.port.asleep ∧
    (s.addEntry a t).port.reply = s.port.reply ∧ (s.addEntry a t).port.miso = s.port.miso ∧
    (s.addEntry a t).port.inFrame = s.port.inFrame ∧ (s.addEntry a t).port.asleepAtStart = s.port.asleepAtStart ∧
    (s.addEntry a t).port.enables = s.port.enables ∧ (s.addEntry a t).port.mask = s.port.mask ∧
    (s.addEntry a t).port.unanswered = s.port.unanswered ∧ (s.addEntry a t).port.selfTest = s.port.selfTest ∧
    (s.addEntry a t).port.cause = s.port.cause ∧ (s.addEntry a t).port.initMode = s.port.initMode := by
  simp only [State.addEntry]
  repeat' split
  all_goals simp

@[simp] theorem State.dropEntry_keeps (s : State) (a : Source) (t : WarnType) :
    (s.dropEntry a t).clock = s.clock ∧ (s.dropEntry a t).orders = s.orders ∧ (s.dropEntry a t).alloc = s.alloc ∧
    (s.dropEntry a t).charge = s.charge ∧ (s.dropEntry a t).accounts = s.accounts ∧
    (s.dropEntry a t).transport = s.transport ∧ (s.dropEntry a t).quiet = s.quiet ∧
    (s.dropEntry a t).sense = s.sense ∧ (s.dropEntry a t).timers = s.timers ∧ (s.dropEntry a t).heater = s.heater ∧
    (s.dropEntry a t).fridge = s.fridge ∧ (s.dropEntry a t).lights = s.lights ∧ (s.dropEntry a t).port = s.port ∧
    (s.dropEntry a t).rst = s.rst ∧ (s.dropEntry a t).pending = s.pending := by
  simp only [State.dropEntry]
  repeat' split
  all_goals simp

@[simp] theorem State.raise_keeps (s : State) (a : Source) (t : WarnType) :
    (s.raise a t).clock = s.clock ∧ (s.raise a t).orders = s.orders ∧ (s.raise a t).alloc = s.alloc ∧
    (s.raise a t).charge = s.charge ∧ (s.raise a t).accounts = s.accounts ∧ (s.raise a t).transport = s.transport ∧
    (s.raise a t).quiet = s.quiet ∧ (s.raise a t).sense = s.sense ∧ (s.raise a t).heater = s.heater ∧
    (s.raise a t).fridge = s.fridge ∧ (s.raise a t).lights = s.lights ∧ (s.raise a t).pending = s.pending ∧
    (s.raise a t).port.mode = s.port.mode ∧ (s.raise a t).port.asleep = s.port.asleep ∧
    (s.raise a t).port.reply = s.port.reply ∧ (s.raise a t).port.miso = s.port.miso ∧
    (s.raise a t).port.inFrame = s.port.inFrame ∧ (s.raise a t).port.asleepAtStart = s.port.asleepAtStart ∧
    (s.raise a t).port.enables = s.port.enables ∧ (s.raise a t).port.mask = s.port.mask ∧
    (s.raise a t).port.unanswered = s.port.unanswered ∧ (s.raise a t).port.selfTest = s.port.selfTest ∧
    (s.raise a t).port.cause = s.port.cause ∧ (s.raise a t).port.initMode = s.port.initMode ∧
    (s.raise a t).rst.asserted = s.rst.asserted ∧ (s.raise a t).rst.heldWakes = s.rst.heldWakes ∧
    (s.raise a t).rst.accountNotice = s.rst.accountNotice ∧ (s.raise a t).rst.heaterMoved = s.rst.heaterMoved ∧
    (s.raise a t).rst.fridgeMoved = s.rst.fridgeMoved ∧ (s.raise a t).timers.t0 = s.timers.t0 ∧
    (s.raise a t).timers.t1 = s.timers.t1 ∧ (s.raise a t).timers.t2 = s.timers.t2 ∧
    (s.raise a t).timers.t3 = s.timers.t3 ∧ (s.raise a t).timers.t4 = s.timers.t4 ∧
    (s.raise a t).timers.t5 = s.timers.t5 ∧ (s.raise a t).timers.t6 = s.timers.t6 := by
  simp only [State.raise]
  repeat' split
  all_goals simp

@[simp] theorem State.remove_keeps (s : State) (a : Source) (t : WarnType) :
    (s.remove a t).clock = s.clock ∧ (s.remove a t).orders = s.orders ∧ (s.remove a t).alloc = s.alloc ∧
    (s.remove a t).charge = s.charge ∧ (s.remove a t).accounts = s.accounts ∧
    (s.remove a t).transport = s.transport ∧ (s.remove a t).quiet = s.quiet ∧ (s.remove a t).sense = s.sense ∧
    (s.remove a t).timers = s.timers ∧ (s.remove a t).heater = s.heater ∧ (s.remove a t).fridge = s.fridge ∧
    (s.remove a t).lights = s.lights ∧ (s.remove a t).port = s.port ∧ (s.remove a t).pending = s.pending ∧
    (s.remove a t).rst.asserted = s.rst.asserted ∧ (s.remove a t).rst.heldWakes = s.rst.heldWakes ∧
    (s.remove a t).rst.accountNotice = s.rst.accountNotice ∧ (s.remove a t).rst.heaterMoved = s.rst.heaterMoved ∧
    (s.remove a t).rst.fridgeMoved = s.rst.fridgeMoved := by
  simp only [State.remove]
  repeat' split
  all_goals simp

@[simp] theorem State.workCondition_keeps (s : State) (a : Source) (t : WarnType) (b : Bool) :
    (s.workCondition a t b).clock = s.clock ∧ (s.workCondition a t b).orders = s.orders ∧
    (s.workCondition a t b).alloc = s.alloc ∧ (s.workCondition a t b).charge = s.charge ∧
    (s.workCondition a t b).accounts = s.accounts ∧ (s.workCondition a t b).transport = s.transport ∧
    (s.workCondition a t b).quiet = s.quiet ∧ (s.workCondition a t b).sense = s.sense ∧
    (s.workCondition a t b).heater = s.heater ∧ (s.workCondition a t b).fridge = s.fridge ∧
    (s.workCondition a t b).lights = s.lights ∧ (s.workCondition a t b).pending = s.pending ∧
    (s.workCondition a t b).port.mode = s.port.mode ∧ (s.workCondition a t b).port.asleep = s.port.asleep ∧
    (s.workCondition a t b).port.reply = s.port.reply ∧ (s.workCondition a t b).port.miso = s.port.miso ∧
    (s.workCondition a t b).port.inFrame = s.port.inFrame ∧
    (s.workCondition a t b).port.asleepAtStart = s.port.asleepAtStart ∧
    (s.workCondition a t b).port.enables = s.port.enables ∧ (s.workCondition a t b).port.mask = s.port.mask ∧
    (s.workCondition a t b).port.unanswered = s.port.unanswered ∧
    (s.workCondition a t b).port.selfTest = s.port.selfTest ∧ (s.workCondition a t b).port.cause = s.port.cause ∧
    (s.workCondition a t b).port.initMode = s.port.initMode ∧
    (s.workCondition a t b).rst.asserted = s.rst.asserted ∧
    (s.workCondition a t b).rst.heldWakes = s.rst.heldWakes ∧
    (s.workCondition a t b).rst.accountNotice = s.rst.accountNotice ∧
    (s.workCondition a t b).rst.heaterMoved = s.rst.heaterMoved ∧
    (s.workCondition a t b).rst.fridgeMoved = s.rst.fridgeMoved ∧ (s.workCondition a t b).timers.t0 = s.timers.t0 ∧
    (s.workCondition a t b).timers.t1 = s.timers.t1 ∧ (s.workCondition a t b).timers.t2 = s.timers.t2 ∧
    (s.workCondition a t b).timers.t3 = s.timers.t3 ∧ (s.workCondition a t b).timers.t4 = s.timers.t4 ∧
    (s.workCondition a t b).timers.t5 = s.timers.t5 ∧ (s.workCondition a t b).timers.t6 = s.timers.t6 := by
  simp only [State.workCondition]
  repeat' split
  all_goals simp

@[simp] theorem State.acknowledge_keeps (s : State) (e : Entry) :
    (s.acknowledge e).clock = s.clock ∧ (s.acknowledge e).orders = s.orders ∧ (s.acknowledge e).alloc = s.alloc ∧
    (s.acknowledge e).charge = s.charge ∧ (s.acknowledge e).accounts = s.accounts ∧
    (s.acknowledge e).transport = s.transport ∧ (s.acknowledge e).quiet = s.quiet ∧
    (s.acknowledge e).sense = s.sense ∧ (s.acknowledge e).timers = s.timers ∧ (s.acknowledge e).heater = s.heater ∧
    (s.acknowledge e).fridge = s.fridge ∧ (s.acknowledge e).lights = s.lights ∧ (s.acknowledge e).port = s.port ∧
    (s.acknowledge e).rst = s.rst ∧ (s.acknowledge e).pending = s.pending := by
  simp only [State.acknowledge]
  repeat' split
  all_goals simp

@[simp] theorem State.cutBurst_keeps (s : State) (f : Entry → Entry) :
    (s.cutBurst f).clock = s.clock ∧ (s.cutBurst f).orders = s.orders ∧ (s.cutBurst f).alloc = s.alloc ∧
    (s.cutBurst f).charge = s.charge ∧ (s.cutBurst f).accounts = s.accounts ∧
    (s.cutBurst f).transport = s.transport ∧ (s.cutBurst f).quiet = s.quiet ∧ (s.cutBurst f).sense = s.sense ∧
    (s.cutBurst f).heater = s.heater ∧ (s.cutBurst f).fridge = s.fridge ∧ (s.cutBurst f).lights = s.lights ∧
    (s.cutBurst f).port = s.port ∧ (s.cutBurst f).rst = s.rst ∧ (s.cutBurst f).pending = s.pending ∧
    (s.cutBurst f).timers.t0 = s.timers.t0 ∧ (s.cutBurst f).timers.t1 = s.timers.t1 ∧
    (s.cutBurst f).timers.t2 = s.timers.t2 ∧ (s.cutBurst f).timers.t3 = s.timers.t3 ∧
    (s.cutBurst f).timers.t4 = s.timers.t4 ∧ (s.cutBurst f).timers.t5 = s.timers.t5 ∧
    (s.cutBurst f).timers.t6 = s.timers.t6 := by
  simp only [State.cutBurst]
  repeat' split
  all_goals simp

end Sys2Proof.Machine
end

