-- ==== Sys2Proof/Laws/FridgeFrames.lean ====
section
/-! SUPPORT. What each operation of the fridge controller leaves as it was. -/
namespace Sys2Proof.Machine

@[simp] theorem State.withFridge_keeps (s : State) (f : Fridge → Fridge) :
    (s.withFridge f).clock = s.clock ∧ (s.withFridge f).orders = s.orders ∧ (s.withFridge f).alloc = s.alloc ∧
    (s.withFridge f).charge = s.charge ∧ (s.withFridge f).accounts = s.accounts ∧
    (s.withFridge f).transport = s.transport ∧ (s.withFridge f).quiet = s.quiet ∧ (s.withFridge f).warn = s.warn ∧
    (s.withFridge f).sense = s.sense ∧ (s.withFridge f).timers = s.timers ∧ (s.withFridge f).heater = s.heater ∧
    (s.withFridge f).lights = s.lights ∧ (s.withFridge f).port = s.port ∧ (s.withFridge f).rst = s.rst ∧
    (s.withFridge f).pending = s.pending := by
  simp [State.withFridge]

@[simp] theorem State.withFridge_fridge (s : State) (f : Fridge → Fridge) :
    (s.withFridge f).fridge = f s.fridge := rfl

@[simp] theorem State.fridgeGo_keeps (s : State) (st : FridgeState) :
    (s.fridgeGo st).clock = s.clock ∧ (s.fridgeGo st).orders = s.orders ∧ (s.fridgeGo st).alloc = s.alloc ∧
    (s.fridgeGo st).charge = s.charge ∧ (s.fridgeGo st).accounts = s.accounts ∧
    (s.fridgeGo st).transport = s.transport ∧ (s.fridgeGo st).quiet = s.quiet ∧ (s.fridgeGo st).warn = s.warn ∧
    (s.fridgeGo st).sense = s.sense ∧ (s.fridgeGo st).timers = s.timers ∧ (s.fridgeGo st).heater = s.heater ∧
    (s.fridgeGo st).lights = s.lights ∧ (s.fridgeGo st).rst = s.rst ∧ (s.fridgeGo st).pending = s.pending ∧
    (s.fridgeGo st).port.mode = s.port.mode ∧ (s.fridgeGo st).port.asleep = s.port.asleep ∧
    (s.fridgeGo st).port.reply = s.port.reply ∧ (s.fridgeGo st).port.miso = s.port.miso ∧
    (s.fridgeGo st).port.inFrame = s.port.inFrame ∧ (s.fridgeGo st).port.asleepAtStart = s.port.asleepAtStart ∧
    (s.fridgeGo st).port.enables = s.port.enables ∧ (s.fridgeGo st).port.mask = s.port.mask ∧
    (s.fridgeGo st).port.unanswered = s.port.unanswered ∧ (s.fridgeGo st).port.selfTest = s.port.selfTest ∧
    (s.fridgeGo st).port.cause = s.port.cause ∧ (s.fridgeGo st).port.initMode = s.port.initMode ∧
    (s.fridgeGo st).fridge.minOff = s.fridge.minOff ∧ (s.fridgeGo st).fridge.presented = s.fridge.presented ∧
    (s.fridgeGo st).fridge.stalls = s.fridge.stalls ∧ (s.fridgeGo st).fridge.call = s.fridge.call := by
  simp [State.fridgeGo]

@[simp] theorem State.fridgeAttention_keeps (s : State) :
    s.fridgeAttention.clock = s.clock ∧ s.fridgeAttention.orders = s.orders ∧ s.fridgeAttention.alloc = s.alloc ∧
    s.fridgeAttention.charge = s.charge ∧ s.fridgeAttention.accounts = s.accounts ∧
    s.fridgeAttention.transport = s.transport ∧ s.fridgeAttention.quiet = s.quiet ∧
    s.fridgeAttention.warn = s.warn ∧ s.fridgeAttention.sense = s.sense ∧ s.fridgeAttention.timers = s.timers ∧
    s.fridgeAttention.heater = s.heater ∧ s.fridgeAttention.fridge = s.fridge ∧
    s.fridgeAttention.lights = s.lights ∧ s.fridgeAttention.rst = s.rst ∧ s.fridgeAttention.pending = s.pending ∧
    s.fridgeAttention.port.mode = s.port.mode ∧ s.fridgeAttention.port.asleep = s.port.asleep ∧
    s.fridgeAttention.port.reply = s.port.reply ∧ s.fridgeAttention.port.miso = s.port.miso ∧
    s.fridgeAttention.port.inFrame = s.port.inFrame ∧ s.fridgeAttention.port.asleepAtStart = s.port.asleepAtStart ∧
    s.fridgeAttention.port.enables = s.port.enables ∧ s.fridgeAttention.port.mask = s.port.mask ∧
    s.fridgeAttention.port.unanswered = s.port.unanswered ∧ s.fridgeAttention.port.selfTest = s.port.selfTest ∧
    s.fridgeAttention.port.cause = s.port.cause ∧ s.fridgeAttention.port.initMode = s.port.initMode := by
  simp [State.fridgeAttention]

@[simp] theorem State.enterStart_keeps (s : State) :
    s.enterStart.clock = s.clock ∧ s.enterStart.orders = s.orders ∧ s.enterStart.alloc = s.alloc ∧
    s.enterStart.charge = s.charge ∧ s.enterStart.accounts = s.accounts ∧ s.enterStart.transport = s.transport ∧
    s.enterStart.quiet = s.quiet ∧ s.enterStart.warn = s.warn ∧ s.enterStart.sense = s.sense ∧
    s.enterStart.heater = s.heater ∧ s.enterStart.lights = s.lights ∧ s.enterStart.rst = s.rst ∧
    s.enterStart.pending = s.pending ∧ s.enterStart.port.mode = s.port.mode ∧
    s.enterStart.port.asleep = s.port.asleep ∧ s.enterStart.port.reply = s.port.reply ∧
    s.enterStart.port.miso = s.port.miso ∧ s.enterStart.port.inFrame = s.port.inFrame ∧
    s.enterStart.port.asleepAtStart = s.port.asleepAtStart ∧ s.enterStart.port.enables = s.port.enables ∧
    s.enterStart.port.mask = s.port.mask ∧ s.enterStart.port.unanswered = s.port.unanswered ∧
    s.enterStart.port.selfTest = s.port.selfTest ∧ s.enterStart.port.cause = s.port.cause ∧
    s.enterStart.port.initMode = s.port.initMode ∧ s.enterStart.fridge.minOff = s.fridge.minOff ∧
    s.enterStart.fridge.presented = s.fridge.presented ∧ s.enterStart.fridge.stalls = s.fridge.stalls ∧
    s.enterStart.fridge.call = s.fridge.call ∧ s.enterStart.timers.t0 = s.timers.t0 ∧
    s.enterStart.timers.t1 = s.timers.t1 ∧ s.enterStart.timers.t2 = s.timers.t2 ∧
    s.enterStart.timers.t3 = s.timers.t3 ∧ s.enterStart.timers.t4 = s.timers.t4 ∧
    s.enterStart.timers.t5 = s.timers.t5 ∧ s.enterStart.timers.t7 = s.timers.t7 := by
  simp [State.enterStart]

@[simp] theorem State.switchOff_keeps (s : State) :
    s.switchOff.clock = s.clock ∧ s.switchOff.orders = s.orders ∧ s.switchOff.alloc = s.alloc ∧
    s.switchOff.charge = s.charge ∧ s.switchOff.accounts = s.accounts ∧ s.switchOff.transport = s.transport ∧
    s.switchOff.quiet = s.quiet ∧ s.switchOff.warn = s.warn ∧ s.switchOff.sense = s.sense ∧
    s.switchOff.heater = s.heater ∧ s.switchOff.lights = s.lights ∧ s.switchOff.port = s.port ∧
    s.switchOff.rst = s.rst ∧ s.switchOff.pending = s.pending ∧ s.switchOff.fridge.minOff = s.fridge.minOff ∧
    s.switchOff.fridge.presented = s.fridge.presented ∧ s.switchOff.fridge.stalls = s.fridge.stalls ∧
    s.switchOff.fridge.call = s.fridge.call ∧ s.switchOff.timers.t0 = s.timers.t0 ∧
    s.switchOff.timers.t1 = s.timers.t1 ∧ s.switchOff.timers.t2 = s.timers.t2 ∧
    s.switchOff.timers.t3 = s.timers.t3 ∧ s.switchOff.timers.t4 = s.timers.t4 ∧
    s.switchOff.timers.t5 = s.timers.t5 ∧ s.switchOff.timers.t7 = s.timers.t7 := by
  simp [State.switchOff]

@[simp] theorem State.stopToRest_keeps (s : State) :
    s.stopToRest.clock = s.clock ∧ s.stopToRest.orders = s.orders ∧ s.stopToRest.alloc = s.alloc ∧
    s.stopToRest.charge = s.charge ∧ s.stopToRest.accounts = s.accounts ∧ s.stopToRest.transport = s.transport ∧
    s.stopToRest.quiet = s.quiet ∧ s.stopToRest.warn = s.warn ∧ s.stopToRest.sense = s.sense ∧
    s.stopToRest.heater = s.heater ∧ s.stopToRest.lights = s.lights ∧ s.stopToRest.rst = s.rst ∧
    s.stopToRest.pending = s.pending ∧ s.stopToRest.port.mode = s.port.mode ∧
    s.stopToRest.port.asleep = s.port.asleep ∧ s.stopToRest.port.reply = s.port.reply ∧
    s.stopToRest.port.miso = s.port.miso ∧ s.stopToRest.port.inFrame = s.port.inFrame ∧
    s.stopToRest.port.asleepAtStart = s.port.asleepAtStart ∧ s.stopToRest.port.enables = s.port.enables ∧
    s.stopToRest.port.mask = s.port.mask ∧ s.stopToRest.port.unanswered = s.port.unanswered ∧
    s.stopToRest.port.selfTest = s.port.selfTest ∧ s.stopToRest.port.cause = s.port.cause ∧
    s.stopToRest.port.initMode = s.port.initMode ∧ s.stopToRest.fridge.minOff = s.fridge.minOff ∧
    s.stopToRest.fridge.presented = s.fridge.presented ∧ s.stopToRest.fridge.stalls = s.fridge.stalls ∧
    s.stopToRest.fridge.call = s.fridge.call ∧ s.stopToRest.timers.t0 = s.timers.t0 ∧
    s.stopToRest.timers.t1 = s.timers.t1 ∧ s.stopToRest.timers.t2 = s.timers.t2 ∧
    s.stopToRest.timers.t3 = s.timers.t3 ∧ s.stopToRest.timers.t4 = s.timers.t4 ∧
    s.stopToRest.timers.t5 = s.timers.t5 ∧ s.stopToRest.timers.t7 = s.timers.t7 := by
  simp [State.stopToRest]

@[simp] theorem State.startTest_keeps (s : State) :
    s.startTest.clock = s.clock ∧ s.startTest.orders = s.orders ∧ s.startTest.alloc = s.alloc ∧
    s.startTest.charge = s.charge ∧ s.startTest.accounts = s.accounts ∧ s.startTest.transport = s.transport ∧
    s.startTest.quiet = s.quiet ∧ s.startTest.warn = s.warn ∧ s.startTest.sense = s.sense ∧
    s.startTest.heater = s.heater ∧ s.startTest.lights = s.lights ∧ s.startTest.rst = s.rst ∧
    s.startTest.pending = s.pending ∧ s.startTest.port.mode = s.port.mode ∧
    s.startTest.port.asleep = s.port.asleep ∧ s.startTest.port.reply = s.port.reply ∧
    s.startTest.port.miso = s.port.miso ∧ s.startTest.port.inFrame = s.port.inFrame ∧
    s.startTest.port.asleepAtStart = s.port.asleepAtStart ∧ s.startTest.port.enables = s.port.enables ∧
    s.startTest.port.mask = s.port.mask ∧ s.startTest.port.unanswered = s.port.unanswered ∧
    s.startTest.port.selfTest = s.port.selfTest ∧ s.startTest.port.cause = s.port.cause ∧
    s.startTest.port.initMode = s.port.initMode ∧ s.startTest.fridge.minOff = s.fridge.minOff ∧
    s.startTest.fridge.presented = s.fridge.presented ∧ s.startTest.fridge.stalls = s.fridge.stalls ∧
    s.startTest.fridge.call = s.fridge.call ∧ s.startTest.timers.t0 = s.timers.t0 ∧
    s.startTest.timers.t1 = s.timers.t1 ∧ s.startTest.timers.t2 = s.timers.t2 ∧
    s.startTest.timers.t3 = s.timers.t3 ∧ s.startTest.timers.t4 = s.timers.t4 ∧
    s.startTest.timers.t5 = s.timers.t5 ∧ s.startTest.timers.t7 = s.timers.t7 := by
  simp only [State.startTest]
  repeat' split
  all_goals simp

@[simp] theorem State.enterIdle_keeps (s : State) :
    s.enterIdle.clock = s.clock ∧ s.enterIdle.orders = s.orders ∧ s.enterIdle.alloc = s.alloc ∧
    s.enterIdle.charge = s.charge ∧ s.enterIdle.accounts = s.accounts ∧ s.enterIdle.transport = s.transport ∧
    s.enterIdle.quiet = s.quiet ∧ s.enterIdle.warn = s.warn ∧ s.enterIdle.sense = s.sense ∧
    s.enterIdle.heater = s.heater ∧ s.enterIdle.lights = s.lights ∧ s.enterIdle.rst = s.rst ∧
    s.enterIdle.pending = s.pending ∧ s.enterIdle.port.mode = s.port.mode ∧
    s.enterIdle.port.asleep = s.port.asleep ∧ s.enterIdle.port.reply = s.port.reply ∧
    s.enterIdle.port.miso = s.port.miso ∧ s.enterIdle.port.inFrame = s.port.inFrame ∧
    s.enterIdle.port.asleepAtStart = s.port.asleepAtStart ∧ s.enterIdle.port.enables = s.port.enables ∧
    s.enterIdle.port.mask = s.port.mask ∧ s.enterIdle.port.unanswered = s.port.unanswered ∧
    s.enterIdle.port.selfTest = s.port.selfTest ∧ s.enterIdle.port.cause = s.port.cause ∧
    s.enterIdle.port.initMode = s.port.initMode ∧ s.enterIdle.fridge.minOff = s.fridge.minOff ∧
    s.enterIdle.fridge.presented = s.fridge.presented ∧ s.enterIdle.fridge.stalls = s.fridge.stalls ∧
    s.enterIdle.fridge.call = s.fridge.call ∧ s.enterIdle.timers.t0 = s.timers.t0 ∧
    s.enterIdle.timers.t1 = s.timers.t1 ∧ s.enterIdle.timers.t2 = s.timers.t2 ∧
    s.enterIdle.timers.t3 = s.timers.t3 ∧ s.enterIdle.timers.t4 = s.timers.t4 ∧
    s.enterIdle.timers.t5 = s.timers.t5 ∧ s.enterIdle.timers.t7 = s.timers.t7 := by
  simp [State.enterIdle]

@[simp] theorem State.endRestPhase_keeps (s : State) :
    s.endRestPhase.clock = s.clock ∧ s.endRestPhase.orders = s.orders ∧ s.endRestPhase.alloc = s.alloc ∧
    s.endRestPhase.charge = s.charge ∧ s.endRestPhase.accounts = s.accounts ∧
    s.endRestPhase.transport = s.transport ∧ s.endRestPhase.quiet = s.quiet ∧ s.endRestPhase.warn = s.warn ∧
    s.endRestPhase.sense = s.sense ∧ s.endRestPhase.heater = s.heater ∧ s.endRestPhase.lights = s.lights ∧
    s.endRestPhase.rst = s.rst ∧ s.endRestPhase.pending = s.pending ∧ s.endRestPhase.port.mode = s.port.mode ∧
    s.endRestPhase.port.asleep = s.port.asleep ∧ s.endRestPhase.port.reply = s.port.reply ∧
    s.endRestPhase.port.miso = s.port.miso ∧ s.endRestPhase.port.inFrame = s.port.inFrame ∧
    s.endRestPhase.port.asleepAtStart = s.port.asleepAtStart ∧ s.endRestPhase.port.enables = s.port.enables ∧
    s.endRestPhase.port.mask = s.port.mask ∧ s.endRestPhase.port.unanswered = s.port.unanswered ∧
    s.endRestPhase.port.selfTest = s.port.selfTest ∧ s.endRestPhase.port.cause = s.port.cause ∧
    s.endRestPhase.port.initMode = s.port.initMode ∧ s.endRestPhase.fridge.minOff = s.fridge.minOff ∧
    s.endRestPhase.fridge.presented = s.fridge.presented ∧ s.endRestPhase.fridge.stalls = s.fridge.stalls ∧
    s.endRestPhase.fridge.call = s.fridge.call ∧ s.endRestPhase.timers.t0 = s.timers.t0 ∧
    s.endRestPhase.timers.t1 = s.timers.t1 ∧ s.endRestPhase.timers.t2 = s.timers.t2 ∧
    s.endRestPhase.timers.t3 = s.timers.t3 ∧ s.endRestPhase.timers.t4 = s.timers.t4 ∧
    s.endRestPhase.timers.t5 = s.timers.t5 ∧ s.endRestPhase.timers.t7 = s.timers.t7 := by
  simp only [State.endRestPhase]
  repeat' split
  all_goals simp

@[simp] theorem State.endRestIfDue_keeps (s : State) :
    s.endRestIfDue.clock = s.clock ∧ s.endRestIfDue.orders = s.orders ∧ s.endRestIfDue.alloc = s.alloc ∧
    s.endRestIfDue.charge = s.charge ∧ s.endRestIfDue.accounts = s.accounts ∧
    s.endRestIfDue.transport = s.transport ∧ s.endRestIfDue.quiet = s.quiet ∧ s.endRestIfDue.warn = s.warn ∧
    s.endRestIfDue.sense = s.sense ∧ s.endRestIfDue.heater = s.heater ∧ s.endRestIfDue.lights = s.lights ∧
    s.endRestIfDue.rst = s.rst ∧ s.endRestIfDue.pending = s.pending ∧ s.endRestIfDue.port.mode = s.port.mode ∧
    s.endRestIfDue.port.asleep = s.port.asleep ∧ s.endRestIfDue.port.reply = s.port.reply ∧
    s.endRestIfDue.port.miso = s.port.miso ∧ s.endRestIfDue.port.inFrame = s.port.inFrame ∧
    s.endRestIfDue.port.asleepAtStart = s.port.asleepAtStart ∧ s.endRestIfDue.port.enables = s.port.enables ∧
    s.endRestIfDue.port.mask = s.port.mask ∧ s.endRestIfDue.port.unanswered = s.port.unanswered ∧
    s.endRestIfDue.port.selfTest = s.port.selfTest ∧ s.endRestIfDue.port.cause = s.port.cause ∧
    s.endRestIfDue.port.initMode = s.port.initMode ∧ s.endRestIfDue.fridge.minOff = s.fridge.minOff ∧
    s.endRestIfDue.fridge.presented = s.fridge.presented ∧ s.endRestIfDue.fridge.stalls = s.fridge.stalls ∧
    s.endRestIfDue.fridge.call = s.fridge.call ∧ s.endRestIfDue.timers.t0 = s.timers.t0 ∧
    s.endRestIfDue.timers.t1 = s.timers.t1 ∧ s.endRestIfDue.timers.t2 = s.timers.t2 ∧
    s.endRestIfDue.timers.t3 = s.timers.t3 ∧ s.endRestIfDue.timers.t4 = s.timers.t4 ∧
    s.endRestIfDue.timers.t5 = s.timers.t5 ∧ s.endRestIfDue.timers.t7 = s.timers.t7 := by
  simp only [State.endRestIfDue]
  repeat' split
  all_goals simp

@[simp] theorem State.fridgePresented_keeps (s : State) :
    s.fridgePresented.clock = s.clock ∧ s.fridgePresented.orders = s.orders ∧ s.fridgePresented.alloc = s.alloc ∧
    s.fridgePresented.charge = s.charge ∧ s.fridgePresented.accounts = s.accounts ∧
    s.fridgePresented.transport = s.transport ∧ s.fridgePresented.quiet = s.quiet ∧
    s.fridgePresented.warn = s.warn ∧ s.fridgePresented.sense = s.sense ∧ s.fridgePresented.heater = s.heater ∧
    s.fridgePresented.lights = s.lights ∧ s.fridgePresented.rst = s.rst ∧ s.fridgePresented.pending = s.pending ∧
    s.fridgePresented.port.mode = s.port.mode ∧ s.fridgePresented.port.asleep = s.port.asleep ∧
    s.fridgePresented.port.reply = s.port.reply ∧ s.fridgePresented.port.miso = s.port.miso ∧
    s.fridgePresented.port.inFrame = s.port.inFrame ∧ s.fridgePresented.port.asleepAtStart = s.port.asleepAtStart ∧
    s.fridgePresented.port.enables = s.port.enables ∧ s.fridgePresented.port.mask = s.port.mask ∧
    s.fridgePresented.port.unanswered = s.port.unanswered ∧ s.fridgePresented.port.selfTest = s.port.selfTest ∧
    s.fridgePresented.port.cause = s.port.cause ∧ s.fridgePresented.port.initMode = s.port.initMode ∧
    s.fridgePresented.fridge.minOff = s.fridge.minOff ∧ s.fridgePresented.fridge.presented = s.fridge.presented ∧
    s.fridgePresented.fridge.stalls = s.fridge.stalls ∧ s.fridgePresented.fridge.call = s.fridge.call ∧
    s.fridgePresented.timers.t0 = s.timers.t0 ∧ s.fridgePresented.timers.t1 = s.timers.t1 ∧
    s.fridgePresented.timers.t2 = s.timers.t2 ∧ s.fridgePresented.timers.t3 = s.timers.t3 ∧
    s.fridgePresented.timers.t4 = s.timers.t4 ∧ s.fridgePresented.timers.t5 = s.timers.t5 ∧
    s.fridgePresented.timers.t7 = s.timers.t7 := by
  simp only [State.fridgePresented]
  repeat' split
  all_goals simp

@[simp] theorem State.fridgeWithdrawn_keeps (s : State) :
    s.fridgeWithdrawn.clock = s.clock ∧ s.fridgeWithdrawn.orders = s.orders ∧ s.fridgeWithdrawn.alloc = s.alloc ∧
    s.fridgeWithdrawn.charge = s.charge ∧ s.fridgeWithdrawn.accounts = s.accounts ∧
    s.fridgeWithdrawn.transport = s.transport ∧ s.fridgeWithdrawn.quiet = s.quiet ∧
    s.fridgeWithdrawn.warn = s.warn ∧ s.fridgeWithdrawn.sense = s.sense ∧ s.fridgeWithdrawn.heater = s.heater ∧
    s.fridgeWithdrawn.lights = s.lights ∧ s.fridgeWithdrawn.rst = s.rst ∧ s.fridgeWithdrawn.pending = s.pending ∧
    s.fridgeWithdrawn.port.mode = s.port.mode ∧ s.fridgeWithdrawn.port.asleep = s.port.asleep ∧
    s.fridgeWithdrawn.port.reply = s.port.reply ∧ s.fridgeWithdrawn.port.miso = s.port.miso ∧
    s.fridgeWithdrawn.port.inFrame = s.port.inFrame ∧ s.fridgeWithdrawn.port.asleepAtStart = s.port.asleepAtStart ∧
    s.fridgeWithdrawn.port.enables = s.port.enables ∧ s.fridgeWithdrawn.port.mask = s.port.mask ∧
    s.fridgeWithdrawn.port.unanswered = s.port.unanswered ∧ s.fridgeWithdrawn.port.selfTest = s.port.selfTest ∧
    s.fridgeWithdrawn.port.cause = s.port.cause ∧ s.fridgeWithdrawn.port.initMode = s.port.initMode ∧
    s.fridgeWithdrawn.fridge.minOff = s.fridge.minOff ∧ s.fridgeWithdrawn.fridge.presented = s.fridge.presented ∧
    s.fridgeWithdrawn.fridge.stalls = s.fridge.stalls ∧ s.fridgeWithdrawn.fridge.call = s.fridge.call ∧
    s.fridgeWithdrawn.timers.t0 = s.timers.t0 ∧ s.fridgeWithdrawn.timers.t1 = s.timers.t1 ∧
    s.fridgeWithdrawn.timers.t2 = s.timers.t2 ∧ s.fridgeWithdrawn.timers.t3 = s.timers.t3 ∧
    s.fridgeWithdrawn.timers.t4 = s.timers.t4 ∧ s.fridgeWithdrawn.timers.t5 = s.timers.t5 ∧
    s.fridgeWithdrawn.timers.t7 = s.timers.t7 := by
  simp only [State.fridgeWithdrawn]
  repeat' split
  all_goals simp

@[simp] theorem State.presentFridge_keeps (s : State) (p : Option Presented) :
    (s.presentFridge p).clock = s.clock ∧ (s.presentFridge p).orders = s.orders ∧
    (s.presentFridge p).alloc = s.alloc ∧ (s.presentFridge p).charge = s.charge ∧
    (s.presentFridge p).accounts = s.accounts ∧ (s.presentFridge p).transport = s.transport ∧
    (s.presentFridge p).quiet = s.quiet ∧ (s.presentFridge p).warn = s.warn ∧ (s.presentFridge p).sense = s.sense ∧
    (s.presentFridge p).heater = s.heater ∧ (s.presentFridge p).lights = s.lights ∧
    (s.presentFridge p).rst = s.rst ∧ (s.presentFridge p).pending = s.pending ∧
    (s.presentFridge p).port.mode = s.port.mode ∧ (s.presentFridge p).port.asleep = s.port.asleep ∧
    (s.presentFridge p).port.reply = s.port.reply ∧ (s.presentFridge p).port.miso = s.port.miso ∧
    (s.presentFridge p).port.inFrame = s.port.inFrame ∧
    (s.presentFridge p).port.asleepAtStart = s.port.asleepAtStart ∧
    (s.presentFridge p).port.enables = s.port.enables ∧ (s.presentFridge p).port.mask = s.port.mask ∧
    (s.presentFridge p).port.unanswered = s.port.unanswered ∧ (s.presentFridge p).port.selfTest = s.port.selfTest ∧
    (s.presentFridge p).port.cause = s.port.cause ∧ (s.presentFridge p).port.initMode = s.port.initMode ∧
    (s.presentFridge p).fridge.minOff = s.fridge.minOff ∧ (s.presentFridge p).fridge.stalls = s.fridge.stalls ∧
    (s.presentFridge p).fridge.call = s.fridge.call ∧ (s.presentFridge p).timers.t0 = s.timers.t0 ∧
    (s.presentFridge p).timers.t1 = s.timers.t1 ∧ (s.presentFridge p).timers.t2 = s.timers.t2 ∧
    (s.presentFridge p).timers.t3 = s.timers.t3 ∧ (s.presentFridge p).timers.t4 = s.timers.t4 ∧
    (s.presentFridge p).timers.t5 = s.timers.t5 ∧ (s.presentFridge p).timers.t7 = s.timers.t7 := by
  simp only [State.presentFridge]
  repeat' split
  all_goals simp

@[simp] theorem State.workMonitor_keeps (s : State) (os : List Order) :
    (s.workMonitor os).clock = s.clock ∧ (s.workMonitor os).orders = s.orders ∧ (s.workMonitor os).alloc = s.alloc ∧
    (s.workMonitor os).charge = s.charge ∧ (s.workMonitor os).accounts = s.accounts ∧
    (s.workMonitor os).transport = s.transport ∧ (s.workMonitor os).quiet = s.quiet ∧
    (s.workMonitor os).sense = s.sense ∧ (s.workMonitor os).timers = s.timers ∧
    (s.workMonitor os).heater = s.heater ∧ (s.workMonitor os).lights = s.lights ∧ (s.workMonitor os).port = s.port ∧
    (s.workMonitor os).pending = s.pending ∧ (s.workMonitor os).rst.asserted = s.rst.asserted ∧
    (s.workMonitor os).fridge.minOff = s.fridge.minOff ∧ (s.workMonitor os).fridge.presented = s.fridge.presented ∧
    (s.workMonitor os).fridge.stalls = s.fridge.stalls ∧ (s.workMonitor os).fridge.call = s.fridge.call ∧
    (s.workMonitor os).rst.heldWakes = s.rst.heldWakes ∧
    (s.workMonitor os).rst.accountNotice = s.rst.accountNotice ∧
    (s.workMonitor os).rst.heaterMoved = s.rst.heaterMoved ∧
        (s.workMonitor os).rst.fridgeMoved = s.rst.fridgeMoved := by
  simp only [State.workMonitor]
  repeat' split
  all_goals simp

@[simp] theorem State.setSpeed_keeps (s : State) (v : Nat) :
    (s.setSpeed v).clock = s.clock ∧ (s.setSpeed v).orders = s.orders ∧ (s.setSpeed v).alloc = s.alloc ∧
    (s.setSpeed v).charge = s.charge ∧ (s.setSpeed v).accounts = s.accounts ∧
    (s.setSpeed v).transport = s.transport ∧ (s.setSpeed v).quiet = s.quiet ∧ (s.setSpeed v).warn = s.warn ∧
    (s.setSpeed v).sense = s.sense ∧ (s.setSpeed v).heater = s.heater ∧ (s.setSpeed v).lights = s.lights ∧
    (s.setSpeed v).port = s.port ∧ (s.setSpeed v).rst = s.rst ∧ (s.setSpeed v).pending = s.pending ∧
    (s.setSpeed v).fridge.minOff = s.fridge.minOff ∧ (s.setSpeed v).fridge.presented = s.fridge.presented ∧
    (s.setSpeed v).fridge.stalls = s.fridge.stalls ∧ (s.setSpeed v).fridge.call = s.fridge.call ∧
    (s.setSpeed v).timers.t0 = s.timers.t0 ∧ (s.setSpeed v).timers.t1 = s.timers.t1 ∧
    (s.setSpeed v).timers.t2 = s.timers.t2 ∧ (s.setSpeed v).timers.t3 = s.timers.t3 ∧
    (s.setSpeed v).timers.t4 = s.timers.t4 ∧ (s.setSpeed v).timers.t5 = s.timers.t5 ∧
    (s.setSpeed v).timers.t7 = s.timers.t7 := by
  simp only [State.setSpeed]
  repeat' split
  all_goals simp

@[simp] theorem State.c3InRun_keeps (s : State) (a b : Int) :
    (s.c3InRun a b).clock = s.clock ∧ (s.c3InRun a b).orders = s.orders ∧ (s.c3InRun a b).alloc = s.alloc ∧
    (s.c3InRun a b).charge = s.charge ∧ (s.c3InRun a b).accounts = s.accounts ∧
    (s.c3InRun a b).transport = s.transport ∧ (s.c3InRun a b).quiet = s.quiet ∧ (s.c3InRun a b).warn = s.warn ∧
    (s.c3InRun a b).sense = s.sense ∧ (s.c3InRun a b).heater = s.heater ∧ (s.c3InRun a b).lights = s.lights ∧
    (s.c3InRun a b).rst = s.rst ∧ (s.c3InRun a b).pending = s.pending ∧ (s.c3InRun a b).port.mode = s.port.mode ∧
    (s.c3InRun a b).port.asleep = s.port.asleep ∧ (s.c3InRun a b).port.reply = s.port.reply ∧
    (s.c3InRun a b).port.miso = s.port.miso ∧ (s.c3InRun a b).port.inFrame = s.port.inFrame ∧
    (s.c3InRun a b).port.asleepAtStart = s.port.asleepAtStart ∧ (s.c3InRun a b).port.enables = s.port.enables ∧
    (s.c3InRun a b).port.mask = s.port.mask ∧ (s.c3InRun a b).port.unanswered = s.port.unanswered ∧
    (s.c3InRun a b).port.selfTest = s.port.selfTest ∧ (s.c3InRun a b).port.cause = s.port.cause ∧
    (s.c3InRun a b).port.initMode = s.port.initMode ∧ (s.c3InRun a b).fridge.minOff = s.fridge.minOff ∧
    (s.c3InRun a b).fridge.presented = s.fridge.presented ∧ (s.c3InRun a b).fridge.stalls = s.fridge.stalls ∧
    (s.c3InRun a b).fridge.call = s.fridge.call ∧ (s.c3InRun a b).timers.t0 = s.timers.t0 ∧
    (s.c3InRun a b).timers.t1 = s.timers.t1 ∧ (s.c3InRun a b).timers.t2 = s.timers.t2 ∧
    (s.c3InRun a b).timers.t3 = s.timers.t3 ∧ (s.c3InRun a b).timers.t4 = s.timers.t4 ∧
    (s.c3InRun a b).timers.t5 = s.timers.t5 ∧ (s.c3InRun a b).timers.t7 = s.timers.t7 := by
  simp only [State.c3InRun]
  repeat' split
  all_goals simp

@[simp] theorem State.fixedCycleOnEnd_keeps (s : State) :
    s.fixedCycleOnEnd.clock = s.clock ∧ s.fixedCycleOnEnd.orders = s.orders ∧ s.fixedCycleOnEnd.alloc = s.alloc ∧
    s.fixedCycleOnEnd.charge = s.charge ∧ s.fixedCycleOnEnd.accounts = s.accounts ∧
    s.fixedCycleOnEnd.transport = s.transport ∧ s.fixedCycleOnEnd.quiet = s.quiet ∧
    s.fixedCycleOnEnd.warn = s.warn ∧ s.fixedCycleOnEnd.sense = s.sense ∧ s.fixedCycleOnEnd.heater = s.heater ∧
    s.fixedCycleOnEnd.lights = s.lights ∧ s.fixedCycleOnEnd.rst = s.rst ∧ s.fixedCycleOnEnd.pending = s.pending ∧
    s.fixedCycleOnEnd.port.mode = s.port.mode ∧ s.fixedCycleOnEnd.port.asleep = s.port.asleep ∧
    s.fixedCycleOnEnd.port.reply = s.port.reply ∧ s.fixedCycleOnEnd.port.miso = s.port.miso ∧
    s.fixedCycleOnEnd.port.inFrame = s.port.inFrame ∧ s.fixedCycleOnEnd.port.asleepAtStart = s.port.asleepAtStart ∧
    s.fixedCycleOnEnd.port.enables = s.port.enables ∧ s.fixedCycleOnEnd.port.mask = s.port.mask ∧
    s.fixedCycleOnEnd.port.unanswered = s.port.unanswered ∧ s.fixedCycleOnEnd.port.selfTest = s.port.selfTest ∧
    s.fixedCycleOnEnd.port.cause = s.port.cause ∧ s.fixedCycleOnEnd.port.initMode = s.port.initMode ∧
    s.fixedCycleOnEnd.fridge.minOff = s.fridge.minOff ∧ s.fixedCycleOnEnd.fridge.presented = s.fridge.presented ∧
    s.fixedCycleOnEnd.fridge.stalls = s.fridge.stalls ∧ s.fixedCycleOnEnd.fridge.call = s.fridge.call ∧
    s.fixedCycleOnEnd.timers.t0 = s.timers.t0 ∧ s.fixedCycleOnEnd.timers.t1 = s.timers.t1 ∧
    s.fixedCycleOnEnd.timers.t2 = s.timers.t2 ∧ s.fixedCycleOnEnd.timers.t3 = s.timers.t3 ∧
    s.fixedCycleOnEnd.timers.t4 = s.timers.t4 ∧ s.fixedCycleOnEnd.timers.t5 = s.timers.t5 ∧
    s.fixedCycleOnEnd.timers.t7 = s.timers.t7 := by
  simp only [State.fixedCycleOnEnd]
  repeat' split
  all_goals simp

@[simp] theorem State.c3Faults_keeps (s : State) :
    s.c3Faults.clock = s.clock ∧ s.c3Faults.orders = s.orders ∧ s.c3Faults.alloc = s.alloc ∧
    s.c3Faults.charge = s.charge ∧ s.c3Faults.accounts = s.accounts ∧ s.c3Faults.transport = s.transport ∧
    s.c3Faults.quiet = s.quiet ∧ s.c3Faults.warn = s.warn ∧ s.c3Faults.sense = s.sense ∧
    s.c3Faults.heater = s.heater ∧ s.c3Faults.lights = s.lights ∧ s.c3Faults.rst = s.rst ∧
    s.c3Faults.pending = s.pending ∧ s.c3Faults.port.mode = s.port.mode ∧ s.c3Faults.port.asleep = s.port.asleep ∧
    s.c3Faults.port.reply = s.port.reply ∧ s.c3Faults.port.miso = s.port.miso ∧
    s.c3Faults.port.inFrame = s.port.inFrame ∧ s.c3Faults.port.asleepAtStart = s.port.asleepAtStart ∧
    s.c3Faults.port.enables = s.port.enables ∧ s.c3Faults.port.mask = s.port.mask ∧
    s.c3Faults.port.unanswered = s.port.unanswered ∧ s.c3Faults.port.selfTest = s.port.selfTest ∧
    s.c3Faults.port.cause = s.port.cause ∧ s.c3Faults.port.initMode = s.port.initMode ∧
    s.c3Faults.fridge.minOff = s.fridge.minOff ∧ s.c3Faults.fridge.presented = s.fridge.presented ∧
    s.c3Faults.fridge.stalls = s.fridge.stalls ∧ s.c3Faults.fridge.call = s.fridge.call ∧
    s.c3Faults.timers.t0 = s.timers.t0 ∧ s.c3Faults.timers.t1 = s.timers.t1 ∧ s.c3Faults.timers.t2 = s.timers.t2 ∧
    s.c3Faults.timers.t3 = s.timers.t3 ∧ s.c3Faults.timers.t4 = s.timers.t4 ∧ s.c3Faults.timers.t5 = s.timers.t5 ∧
    s.c3Faults.timers.t7 = s.timers.t7 := by
  simp only [State.c3Faults]
  repeat' split
  all_goals simp

@[simp] theorem State.workWarm_keeps (s : State) (a : Int) :
    (s.workWarm a).clock = s.clock ∧ (s.workWarm a).orders = s.orders ∧ (s.workWarm a).alloc = s.alloc ∧
    (s.workWarm a).charge = s.charge ∧ (s.workWarm a).accounts = s.accounts ∧
    (s.workWarm a).transport = s.transport ∧ (s.workWarm a).quiet = s.quiet ∧ (s.workWarm a).sense = s.sense ∧
    (s.workWarm a).timers = s.timers ∧ (s.workWarm a).heater = s.heater ∧ (s.workWarm a).lights = s.lights ∧
    (s.workWarm a).port = s.port ∧ (s.workWarm a).pending = s.pending ∧
    (s.workWarm a).rst.asserted = s.rst.asserted ∧ (s.workWarm a).fridge.minOff = s.fridge.minOff ∧
    (s.workWarm a).fridge.presented = s.fridge.presented ∧ (s.workWarm a).fridge.stalls = s.fridge.stalls ∧
    (s.workWarm a).fridge.call = s.fridge.call ∧ (s.workWarm a).rst.heldWakes = s.rst.heldWakes ∧
    (s.workWarm a).rst.accountNotice = s.rst.accountNotice ∧ (s.workWarm a).rst.heaterMoved = s.rst.heaterMoved ∧
    (s.workWarm a).rst.fridgeMoved = s.rst.fridgeMoved := by
  simp only [State.workWarm]
  repeat' split
  all_goals simp

@[simp] theorem State.fridgeReading_keeps (s : State) (a : Int) (b c : Bool) :
    (s.fridgeReading a b c).clock = s.clock ∧ (s.fridgeReading a b c).orders = s.orders ∧
    (s.fridgeReading a b c).alloc = s.alloc ∧ (s.fridgeReading a b c).charge = s.charge ∧
    (s.fridgeReading a b c).accounts = s.accounts ∧ (s.fridgeReading a b c).transport = s.transport ∧
    (s.fridgeReading a b c).quiet = s.quiet ∧ (s.fridgeReading a b c).sense = s.sense ∧
    (s.fridgeReading a b c).heater = s.heater ∧ (s.fridgeReading a b c).lights = s.lights ∧
    (s.fridgeReading a b c).pending = s.pending ∧ (s.fridgeReading a b c).port.mode = s.port.mode ∧
    (s.fridgeReading a b c).port.asleep = s.port.asleep ∧ (s.fridgeReading a b c).port.reply = s.port.reply ∧
    (s.fridgeReading a b c).port.miso = s.port.miso ∧ (s.fridgeReading a b c).port.inFrame = s.port.inFrame ∧
    (s.fridgeReading a b c).port.asleepAtStart = s.port.asleepAtStart ∧
    (s.fridgeReading a b c).port.enables = s.port.enables ∧ (s.fridgeReading a b c).port.mask = s.port.mask ∧
    (s.fridgeReading a b c).port.unanswered = s.port.unanswered ∧
    (s.fridgeReading a b c).port.selfTest = s.port.selfTest ∧ (s.fridgeReading a b c).port.cause = s.port.cause ∧
    (s.fridgeReading a b c).port.initMode = s.port.initMode ∧
    (s.fridgeReading a b c).rst.asserted = s.rst.asserted ∧
    (s.fridgeReading a b c).fridge.minOff = s.fridge.minOff ∧
    (s.fridgeReading a b c).fridge.presented = s.fridge.presented ∧
    (s.fridgeReading a b c).rst.heldWakes = s.rst.heldWakes ∧
    (s.fridgeReading a b c).rst.accountNotice = s.rst.accountNotice ∧
    (s.fridgeReading a b c).rst.heaterMoved = s.rst.heaterMoved ∧
    (s.fridgeReading a b c).rst.fridgeMoved = s.rst.fridgeMoved ∧ (s.fridgeReading a b c).timers.t0 = s.timers.t0 ∧
    (s.fridgeReading a b c).timers.t1 = s.timers.t1 ∧ (s.fridgeReading a b c).timers.t2 = s.timers.t2 ∧
    (s.fridgeReading a b c).timers.t3 = s.timers.t3 ∧ (s.fridgeReading a b c).timers.t4 = s.timers.t4 ∧
    (s.fridgeReading a b c).timers.t5 = s.timers.t5 ∧ (s.fridgeReading a b c).timers.t7 = s.timers.t7 := by
  simp only [State.fridgeReading]
  repeat' split
  all_goals simp

@[simp] theorem State.fridgeQuiet_keeps (s : State) :
    s.fridgeQuiet.clock = s.clock ∧ s.fridgeQuiet.orders = s.orders ∧ s.fridgeQuiet.alloc = s.alloc ∧
    s.fridgeQuiet.charge = s.charge ∧ s.fridgeQuiet.accounts = s.accounts ∧ s.fridgeQuiet.transport = s.transport ∧
    s.fridgeQuiet.quiet = s.quiet ∧ s.fridgeQuiet.warn = s.warn ∧ s.fridgeQuiet.sense = s.sense ∧
    s.fridgeQuiet.heater = s.heater ∧ s.fridgeQuiet.lights = s.lights ∧ s.fridgeQuiet.port = s.port ∧
    s.fridgeQuiet.rst = s.rst ∧ s.fridgeQuiet.pending = s.pending ∧ s.fridgeQuiet.fridge.minOff = s.fridge.minOff ∧
    s.fridgeQuiet.fridge.presented = s.fridge.presented ∧ s.fridgeQuiet.fridge.stalls = s.fridge.stalls ∧
    s.fridgeQuiet.fridge.call = s.fridge.call ∧ s.fridgeQuiet.timers.t0 = s.timers.t0 ∧
    s.fridgeQuiet.timers.t1 = s.timers.t1 ∧ s.fridgeQuiet.timers.t2 = s.timers.t2 ∧
    s.fridgeQuiet.timers.t3 = s.timers.t3 ∧ s.fridgeQuiet.timers.t4 = s.timers.t4 ∧
    s.fridgeQuiet.timers.t5 = s.timers.t5 ∧ s.fridgeQuiet.timers.t7 = s.timers.t7 := by
  simp only [State.fridgeQuiet]
  repeat' split
  all_goals simp

@[simp] theorem State.enterFridgeRun_keeps (s : State) :
    s.enterFridgeRun.clock = s.clock ∧ s.enterFridgeRun.orders = s.orders ∧ s.enterFridgeRun.alloc = s.alloc ∧
    s.enterFridgeRun.charge = s.charge ∧ s.enterFridgeRun.accounts = s.accounts ∧
    s.enterFridgeRun.transport = s.transport ∧ s.enterFridgeRun.quiet = s.quiet ∧ s.enterFridgeRun.warn = s.warn ∧
    s.enterFridgeRun.sense = s.sense ∧ s.enterFridgeRun.timers = s.timers ∧ s.enterFridgeRun.heater = s.heater ∧
    s.enterFridgeRun.lights = s.lights ∧ s.enterFridgeRun.rst = s.rst ∧ s.enterFridgeRun.pending = s.pending ∧
    s.enterFridgeRun.port.mode = s.port.mode ∧ s.enterFridgeRun.port.asleep = s.port.asleep ∧
    s.enterFridgeRun.port.reply = s.port.reply ∧ s.enterFridgeRun.port.miso = s.port.miso ∧
    s.enterFridgeRun.port.inFrame = s.port.inFrame ∧ s.enterFridgeRun.port.asleepAtStart = s.port.asleepAtStart ∧
    s.enterFridgeRun.port.enables = s.port.enables ∧ s.enterFridgeRun.port.mask = s.port.mask ∧
    s.enterFridgeRun.port.unanswered = s.port.unanswered ∧ s.enterFridgeRun.port.selfTest = s.port.selfTest ∧
    s.enterFridgeRun.port.cause = s.port.cause ∧ s.enterFridgeRun.port.initMode = s.port.initMode ∧
    s.enterFridgeRun.fridge.minOff = s.fridge.minOff ∧ s.enterFridgeRun.fridge.presented = s.fridge.presented ∧
    s.enterFridgeRun.fridge.stalls = s.fridge.stalls ∧ s.enterFridgeRun.fridge.call = s.fridge.call := by
  simp [State.enterFridgeRun]

@[simp] theorem State.stall_keeps (s : State) :
    s.stall.clock = s.clock ∧ s.stall.orders = s.orders ∧ s.stall.alloc = s.alloc ∧ s.stall.charge = s.charge ∧
    s.stall.accounts = s.accounts ∧ s.stall.transport = s.transport ∧ s.stall.quiet = s.quiet ∧
    s.stall.warn = s.warn ∧ s.stall.sense = s.sense ∧ s.stall.heater = s.heater ∧ s.stall.lights = s.lights ∧
    s.stall.rst = s.rst ∧ s.stall.pending = s.pending ∧ s.stall.port.mode = s.port.mode ∧
    s.stall.port.asleep = s.port.asleep ∧ s.stall.port.reply = s.port.reply ∧ s.stall.port.miso = s.port.miso ∧
    s.stall.port.inFrame = s.port.inFrame ∧ s.stall.port.asleepAtStart = s.port.asleepAtStart ∧
    s.stall.port.enables = s.port.enables ∧ s.stall.port.mask = s.port.mask ∧
    s.stall.port.unanswered = s.port.unanswered ∧ s.stall.port.selfTest = s.port.selfTest ∧
    s.stall.port.cause = s.port.cause ∧ s.stall.port.initMode = s.port.initMode ∧
    s.stall.fridge.minOff = s.fridge.minOff ∧ s.stall.fridge.presented = s.fridge.presented ∧
    s.stall.timers.t0 = s.timers.t0 ∧ s.stall.timers.t1 = s.timers.t1 ∧ s.stall.timers.t2 = s.timers.t2 ∧
    s.stall.timers.t3 = s.timers.t3 ∧ s.stall.timers.t4 = s.timers.t4 ∧ s.stall.timers.t5 = s.timers.t5 ∧
    s.stall.timers.t7 = s.timers.t7 := by
  simp only [State.stall]
  repeat' split
  all_goals simp

@[simp] theorem State.tachReading_keeps (s : State) (r : Nat) :
    (s.tachReading r).clock = s.clock ∧ (s.tachReading r).orders = s.orders ∧ (s.tachReading r).alloc = s.alloc ∧
    (s.tachReading r).charge = s.charge ∧ (s.tachReading r).accounts = s.accounts ∧
    (s.tachReading r).transport = s.transport ∧ (s.tachReading r).quiet = s.quiet ∧
    (s.tachReading r).warn = s.warn ∧ (s.tachReading r).sense = s.sense ∧ (s.tachReading r).heater = s.heater ∧
    (s.tachReading r).lights = s.lights ∧ (s.tachReading r).rst = s.rst ∧ (s.tachReading r).pending = s.pending ∧
    (s.tachReading r).port.mode = s.port.mode ∧ (s.tachReading r).port.asleep = s.port.asleep ∧
    (s.tachReading r).port.reply = s.port.reply ∧ (s.tachReading r).port.miso = s.port.miso ∧
    (s.tachReading r).port.inFrame = s.port.inFrame ∧ (s.tachReading r).port.asleepAtStart = s.port.asleepAtStart ∧
    (s.tachReading r).port.enables = s.port.enables ∧ (s.tachReading r).port.mask = s.port.mask ∧
    (s.tachReading r).port.unanswered = s.port.unanswered ∧ (s.tachReading r).port.selfTest = s.port.selfTest ∧
    (s.tachReading r).port.cause = s.port.cause ∧ (s.tachReading r).port.initMode = s.port.initMode ∧
    (s.tachReading r).fridge.minOff = s.fridge.minOff ∧ (s.tachReading r).fridge.presented = s.fridge.presented ∧
    (s.tachReading r).timers.t0 = s.timers.t0 ∧ (s.tachReading r).timers.t1 = s.timers.t1 ∧
    (s.tachReading r).timers.t2 = s.timers.t2 ∧ (s.tachReading r).timers.t3 = s.timers.t3 ∧
    (s.tachReading r).timers.t4 = s.timers.t4 ∧ (s.tachReading r).timers.t5 = s.timers.t5 ∧
    (s.tachReading r).timers.t7 = s.timers.t7 := by
  simp only [State.tachReading]
  repeat' split
  all_goals simp

@[simp] theorem State.minOffEnd_keeps (s : State) :
    s.minOffEnd.clock = s.clock ∧ s.minOffEnd.orders = s.orders ∧ s.minOffEnd.alloc = s.alloc ∧
    s.minOffEnd.charge = s.charge ∧ s.minOffEnd.accounts = s.accounts ∧ s.minOffEnd.transport = s.transport ∧
    s.minOffEnd.quiet = s.quiet ∧ s.minOffEnd.warn = s.warn ∧ s.minOffEnd.sense = s.sense ∧
    s.minOffEnd.heater = s.heater ∧ s.minOffEnd.lights = s.lights ∧ s.minOffEnd.rst = s.rst ∧
    s.minOffEnd.pending = s.pending ∧ s.minOffEnd.port.mode = s.port.mode ∧
    s.minOffEnd.port.asleep = s.port.asleep ∧ s.minOffEnd.port.reply = s.port.reply ∧
    s.minOffEnd.port.miso = s.port.miso ∧ s.minOffEnd.port.inFrame = s.port.inFrame ∧
    s.minOffEnd.port.asleepAtStart = s.port.asleepAtStart ∧ s.minOffEnd.port.enables = s.port.enables ∧
    s.minOffEnd.port.mask = s.port.mask ∧ s.minOffEnd.port.unanswered = s.port.unanswered ∧
    s.minOffEnd.port.selfTest = s.port.selfTest ∧ s.minOffEnd.port.cause = s.port.cause ∧
    s.minOffEnd.port.initMode = s.port.initMode ∧ s.minOffEnd.fridge.minOff = s.fridge.minOff ∧
    s.minOffEnd.fridge.presented = s.fridge.presented ∧ s.minOffEnd.fridge.stalls = s.fridge.stalls ∧
    s.minOffEnd.fridge.call = s.fridge.call ∧ s.minOffEnd.timers.t0 = s.timers.t0 ∧
    s.minOffEnd.timers.t1 = s.timers.t1 ∧ s.minOffEnd.timers.t2 = s.timers.t2 ∧
    s.minOffEnd.timers.t3 = s.timers.t3 ∧ s.minOffEnd.timers.t4 = s.timers.t4 ∧
    s.minOffEnd.timers.t5 = s.timers.t5 ∧ s.minOffEnd.timers.t7 = s.timers.t7 := by
  simp only [State.minOffEnd]
  repeat' split
  all_goals simp

@[simp] theorem State.fixedCycleOffEnd_keeps (s : State) :
    s.fixedCycleOffEnd.clock = s.clock ∧ s.fixedCycleOffEnd.orders = s.orders ∧ s.fixedCycleOffEnd.alloc = s.alloc ∧
    s.fixedCycleOffEnd.charge = s.charge ∧ s.fixedCycleOffEnd.accounts = s.accounts ∧
    s.fixedCycleOffEnd.transport = s.transport ∧ s.fixedCycleOffEnd.quiet = s.quiet ∧
    s.fixedCycleOffEnd.warn = s.warn ∧ s.fixedCycleOffEnd.sense = s.sense ∧ s.fixedCycleOffEnd.heater = s.heater ∧
    s.fixedCycleOffEnd.lights = s.lights ∧ s.fixedCycleOffEnd.rst = s.rst ∧ s.fixedCycleOffEnd.pending = s.pending ∧
    s.fixedCycleOffEnd.port.mode = s.port.mode ∧ s.fixedCycleOffEnd.port.asleep = s.port.asleep ∧
    s.fixedCycleOffEnd.port.reply = s.port.reply ∧ s.fixedCycleOffEnd.port.miso = s.port.miso ∧
    s.fixedCycleOffEnd.port.inFrame = s.port.inFrame ∧
    s.fixedCycleOffEnd.port.asleepAtStart = s.port.asleepAtStart ∧
    s.fixedCycleOffEnd.port.enables = s.port.enables ∧ s.fixedCycleOffEnd.port.mask = s.port.mask ∧
    s.fixedCycleOffEnd.port.unanswered = s.port.unanswered ∧ s.fixedCycleOffEnd.port.selfTest = s.port.selfTest ∧
    s.fixedCycleOffEnd.port.cause = s.port.cause ∧ s.fixedCycleOffEnd.port.initMode = s.port.initMode ∧
    s.fixedCycleOffEnd.fridge.minOff = s.fridge.minOff ∧ s.fixedCycleOffEnd.fridge.presented = s.fridge.presented ∧
    s.fixedCycleOffEnd.fridge.stalls = s.fridge.stalls ∧ s.fixedCycleOffEnd.fridge.call = s.fridge.call ∧
    s.fixedCycleOffEnd.timers.t0 = s.timers.t0 ∧ s.fixedCycleOffEnd.timers.t1 = s.timers.t1 ∧
    s.fixedCycleOffEnd.timers.t2 = s.timers.t2 ∧ s.fixedCycleOffEnd.timers.t3 = s.timers.t3 ∧
    s.fixedCycleOffEnd.timers.t4 = s.timers.t4 ∧ s.fixedCycleOffEnd.timers.t5 = s.timers.t5 ∧
    s.fixedCycleOffEnd.timers.t7 = s.timers.t7 := by
  simp only [State.fixedCycleOffEnd]
  repeat' split
  all_goals simp

@[simp] theorem State.runClearsStalls_keeps (s : State) :
    s.runClearsStalls.clock = s.clock ∧ s.runClearsStalls.orders = s.orders ∧ s.runClearsStalls.alloc = s.alloc ∧
    s.runClearsStalls.charge = s.charge ∧ s.runClearsStalls.accounts = s.accounts ∧
    s.runClearsStalls.transport = s.transport ∧ s.runClearsStalls.quiet = s.quiet ∧
    s.runClearsStalls.warn = s.warn ∧ s.runClearsStalls.sense = s.sense ∧ s.runClearsStalls.timers = s.timers ∧
    s.runClearsStalls.heater = s.heater ∧ s.runClearsStalls.lights = s.lights ∧ s.runClearsStalls.port = s.port ∧
    s.runClearsStalls.rst = s.rst ∧ s.runClearsStalls.pending = s.pending ∧
    s.runClearsStalls.fridge.minOff = s.fridge.minOff ∧ s.runClearsStalls.fridge.presented = s.fridge.presented := by
  simp only [State.runClearsStalls]
  repeat' split
  all_goals simp

@[simp] theorem State.warmRunComplete_keeps (s : State) :
    s.warmRunComplete.clock = s.clock ∧ s.warmRunComplete.orders = s.orders ∧ s.warmRunComplete.alloc = s.alloc ∧
    s.warmRunComplete.charge = s.charge ∧ s.warmRunComplete.accounts = s.accounts ∧
    s.warmRunComplete.transport = s.transport ∧ s.warmRunComplete.quiet = s.quiet ∧
    s.warmRunComplete.sense = s.sense ∧ s.warmRunComplete.heater = s.heater ∧ s.warmRunComplete.lights = s.lights ∧
    s.warmRunComplete.pending = s.pending ∧ s.warmRunComplete.port.mode = s.port.mode ∧
    s.warmRunComplete.port.asleep = s.port.asleep ∧ s.warmRunComplete.port.reply = s.port.reply ∧
    s.warmRunComplete.port.miso = s.port.miso ∧ s.warmRunComplete.port.inFrame = s.port.inFrame ∧
    s.warmRunComplete.port.asleepAtStart = s.port.asleepAtStart ∧ s.warmRunComplete.port.enables = s.port.enables ∧
    s.warmRunComplete.port.mask = s.port.mask ∧ s.warmRunComplete.port.unanswered = s.port.unanswered ∧
    s.warmRunComplete.port.selfTest = s.port.selfTest ∧ s.warmRunComplete.port.cause = s.port.cause ∧
    s.warmRunComplete.port.initMode = s.port.initMode ∧ s.warmRunComplete.rst.asserted = s.rst.asserted ∧
    s.warmRunComplete.fridge.minOff = s.fridge.minOff ∧ s.warmRunComplete.fridge.presented = s.fridge.presented ∧
    s.warmRunComplete.fridge.stalls = s.fridge.stalls ∧ s.warmRunComplete.fridge.call = s.fridge.call ∧
    s.warmRunComplete.rst.heldWakes = s.rst.heldWakes ∧ s.warmRunComplete.rst.accountNotice = s.rst.accountNotice ∧
    s.warmRunComplete.rst.heaterMoved = s.rst.heaterMoved ∧ s.warmRunComplete.rst.fridgeMoved = s.rst.fridgeMoved ∧
    s.warmRunComplete.timers.t0 = s.timers.t0 ∧ s.warmRunComplete.timers.t1 = s.timers.t1 ∧
    s.warmRunComplete.timers.t2 = s.timers.t2 ∧ s.warmRunComplete.timers.t3 = s.timers.t3 ∧
    s.warmRunComplete.timers.t4 = s.timers.t4 ∧ s.warmRunComplete.timers.t5 = s.timers.t5 := by
  simp only [State.warmRunComplete]
  repeat' split
  all_goals simp

end Sys2Proof.Machine
end

