-- ==== Sys2Proof/Laws/HeaterFrames.lean ====
section
/-! SUPPORT. What each operation of the heater sequencer leaves as it was. -/
namespace Sys2Proof.Machine

@[simp] theorem State.withHeater_keeps (s : State) (f : Heater → Heater) :
    (s.withHeater f).clock = s.clock ∧ (s.withHeater f).orders = s.orders ∧ (s.withHeater f).alloc = s.alloc ∧
    (s.withHeater f).charge = s.charge ∧ (s.withHeater f).accounts = s.accounts ∧
    (s.withHeater f).transport = s.transport ∧ (s.withHeater f).quiet = s.quiet ∧ (s.withHeater f).warn = s.warn ∧
    (s.withHeater f).sense = s.sense ∧ (s.withHeater f).timers = s.timers ∧ (s.withHeater f).fridge = s.fridge ∧
    (s.withHeater f).lights = s.lights ∧ (s.withHeater f).port = s.port ∧ (s.withHeater f).rst = s.rst ∧
    (s.withHeater f).pending = s.pending := by
  simp [State.withHeater]

@[simp] theorem State.withHeater_heater (s : State) (f : Heater → Heater) : (s.withHeater f).heater = f s.heater := rfl

@[simp] theorem State.writeFan_keeps (s : State) (d : Nat) :
    (s.writeFan d).clock = s.clock ∧ (s.writeFan d).orders = s.orders ∧ (s.writeFan d).alloc = s.alloc ∧
    (s.writeFan d).charge = s.charge ∧ (s.writeFan d).accounts = s.accounts ∧
    (s.writeFan d).transport = s.transport ∧ (s.writeFan d).quiet = s.quiet ∧ (s.writeFan d).warn = s.warn ∧
    (s.writeFan d).sense = s.sense ∧ (s.writeFan d).heater = s.heater ∧ (s.writeFan d).fridge = s.fridge ∧
    (s.writeFan d).lights = s.lights ∧ (s.writeFan d).port = s.port ∧ (s.writeFan d).rst = s.rst ∧
    (s.writeFan d).pending = s.pending ∧ (s.writeFan d).timers.t0 = s.timers.t0 ∧
    (s.writeFan d).timers.t1 = s.timers.t1 ∧ (s.writeFan d).timers.t2 = s.timers.t2 ∧
    (s.writeFan d).timers.t3 = s.timers.t3 ∧ (s.writeFan d).timers.t4 = s.timers.t4 ∧
    (s.writeFan d).timers.t6 = s.timers.t6 ∧ (s.writeFan d).timers.t7 = s.timers.t7 := by
  simp [State.writeFan]

@[simp] theorem State.writePump_keeps (s : State) (r : Nat) :
    (s.writePump r).clock = s.clock ∧ (s.writePump r).orders = s.orders ∧ (s.writePump r).alloc = s.alloc ∧
    (s.writePump r).charge = s.charge ∧ (s.writePump r).accounts = s.accounts ∧
    (s.writePump r).transport = s.transport ∧ (s.writePump r).quiet = s.quiet ∧ (s.writePump r).warn = s.warn ∧
    (s.writePump r).sense = s.sense ∧ (s.writePump r).fridge = s.fridge ∧ (s.writePump r).lights = s.lights ∧
    (s.writePump r).port = s.port ∧ (s.writePump r).rst = s.rst ∧ (s.writePump r).pending = s.pending ∧
    (s.writePump r).heater.state = s.heater.state ∧ (s.writePump r).heater.level = s.heater.level ∧
    (s.writePump r).heater.desired = s.heater.desired ∧ (s.writePump r).heater.failed = s.heater.failed ∧
    (s.writePump r).heater.restart = s.heater.restart ∧ (s.writePump r).heater.cause = s.heater.cause ∧
    (s.writePump r).heater.phase = s.heater.phase ∧ (s.writePump r).heater.runSeconds = s.heater.runSeconds ∧
    (s.writePump r).heater.stepTimer = s.heater.stepTimer ∧ (s.writePump r).heater.satisfy = s.heater.satisfy ∧
    (s.writePump r).heater.params = s.heater.params ∧ (s.writePump r).heater.glow = s.heater.glow ∧
    (s.writePump r).heater.presented = s.heater.presented ∧ (s.writePump r).timers.t0 = s.timers.t0 ∧
    (s.writePump r).timers.t1 = s.timers.t1 ∧ (s.writePump r).timers.t2 = s.timers.t2 ∧
    (s.writePump r).timers.t3 = s.timers.t3 ∧ (s.writePump r).timers.t6 = s.timers.t6 ∧
    (s.writePump r).timers.t7 = s.timers.t7 := by
  simp [State.writePump]

@[simp] theorem State.writeLevel_keeps (s : State) (l : Nat) :
    (s.writeLevel l).clock = s.clock ∧ (s.writeLevel l).orders = s.orders ∧ (s.writeLevel l).alloc = s.alloc ∧
    (s.writeLevel l).charge = s.charge ∧ (s.writeLevel l).accounts = s.accounts ∧
    (s.writeLevel l).transport = s.transport ∧ (s.writeLevel l).quiet = s.quiet ∧ (s.writeLevel l).warn = s.warn ∧
    (s.writeLevel l).sense = s.sense ∧ (s.writeLevel l).fridge = s.fridge ∧ (s.writeLevel l).lights = s.lights ∧
    (s.writeLevel l).port = s.port ∧ (s.writeLevel l).rst = s.rst ∧ (s.writeLevel l).pending = s.pending ∧
    (s.writeLevel l).heater.state = s.heater.state ∧ (s.writeLevel l).heater.level = s.heater.level ∧
    (s.writeLevel l).heater.desired = s.heater.desired ∧ (s.writeLevel l).heater.failed = s.heater.failed ∧
    (s.writeLevel l).heater.restart = s.heater.restart ∧ (s.writeLevel l).heater.cause = s.heater.cause ∧
    (s.writeLevel l).heater.phase = s.heater.phase ∧ (s.writeLevel l).heater.runSeconds = s.heater.runSeconds ∧
    (s.writeLevel l).heater.stepTimer = s.heater.stepTimer ∧ (s.writeLevel l).heater.satisfy = s.heater.satisfy ∧
    (s.writeLevel l).heater.params = s.heater.params ∧ (s.writeLevel l).heater.glow = s.heater.glow ∧
    (s.writeLevel l).heater.presented = s.heater.presented ∧ (s.writeLevel l).timers.t0 = s.timers.t0 ∧
    (s.writeLevel l).timers.t1 = s.timers.t1 ∧ (s.writeLevel l).timers.t2 = s.timers.t2 ∧
    (s.writeLevel l).timers.t3 = s.timers.t3 ∧ (s.writeLevel l).timers.t6 = s.timers.t6 ∧
    (s.writeLevel l).timers.t7 = s.timers.t7 := by
  simp [State.writeLevel]

@[simp] theorem State.heaterGo_keeps (s : State) (st : HeaterState) :
    (s.heaterGo st).clock = s.clock ∧ (s.heaterGo st).orders = s.orders ∧ (s.heaterGo st).alloc = s.alloc ∧
    (s.heaterGo st).charge = s.charge ∧ (s.heaterGo st).accounts = s.accounts ∧
    (s.heaterGo st).transport = s.transport ∧ (s.heaterGo st).quiet = s.quiet ∧ (s.heaterGo st).warn = s.warn ∧
    (s.heaterGo st).sense = s.sense ∧ (s.heaterGo st).timers = s.timers ∧ (s.heaterGo st).fridge = s.fridge ∧
    (s.heaterGo st).lights = s.lights ∧ (s.heaterGo st).rst = s.rst ∧ (s.heaterGo st).pending = s.pending ∧
    (s.heaterGo st).port.mode = s.port.mode ∧ (s.heaterGo st).port.asleep = s.port.asleep ∧
    (s.heaterGo st).port.reply = s.port.reply ∧ (s.heaterGo st).port.miso = s.port.miso ∧
    (s.heaterGo st).port.inFrame = s.port.inFrame ∧ (s.heaterGo st).port.asleepAtStart = s.port.asleepAtStart ∧
    (s.heaterGo st).port.enables = s.port.enables ∧ (s.heaterGo st).port.mask = s.port.mask ∧
    (s.heaterGo st).port.unanswered = s.port.unanswered ∧ (s.heaterGo st).port.selfTest = s.port.selfTest ∧
    (s.heaterGo st).port.cause = s.port.cause ∧ (s.heaterGo st).port.initMode = s.port.initMode ∧
    (s.heaterGo st).heater.params = s.heater.params ∧ (s.heaterGo st).heater.presented = s.heater.presented ∧
    (s.heaterGo st).heater.fuel = s.heater.fuel ∧ (s.heaterGo st).heater.failed = s.heater.failed := by
  simp [State.heaterGo]

@[simp] theorem State.heaterAttention_keeps (s : State) :
    s.heaterAttention.clock = s.clock ∧ s.heaterAttention.orders = s.orders ∧ s.heaterAttention.alloc = s.alloc ∧
    s.heaterAttention.charge = s.charge ∧ s.heaterAttention.accounts = s.accounts ∧
    s.heaterAttention.transport = s.transport ∧ s.heaterAttention.quiet = s.quiet ∧
    s.heaterAttention.warn = s.warn ∧ s.heaterAttention.sense = s.sense ∧ s.heaterAttention.timers = s.timers ∧
    s.heaterAttention.heater = s.heater ∧ s.heaterAttention.fridge = s.fridge ∧
    s.heaterAttention.lights = s.lights ∧ s.heaterAttention.rst = s.rst ∧ s.heaterAttention.pending = s.pending ∧
    s.heaterAttention.port.mode = s.port.mode ∧ s.heaterAttention.port.asleep = s.port.asleep ∧
    s.heaterAttention.port.reply = s.port.reply ∧ s.heaterAttention.port.miso = s.port.miso ∧
    s.heaterAttention.port.inFrame = s.port.inFrame ∧ s.heaterAttention.port.asleepAtStart = s.port.asleepAtStart ∧
    s.heaterAttention.port.enables = s.port.enables ∧ s.heaterAttention.port.mask = s.port.mask ∧
    s.heaterAttention.port.unanswered = s.port.unanswered ∧ s.heaterAttention.port.selfTest = s.port.selfTest ∧
    s.heaterAttention.port.cause = s.port.cause ∧ s.heaterAttention.port.initMode = s.port.initMode := by
  simp [State.heaterAttention]

@[simp] theorem State.enterPreheat_keeps (s : State) :
    s.enterPreheat.clock = s.clock ∧ s.enterPreheat.orders = s.orders ∧ s.enterPreheat.alloc = s.alloc ∧
    s.enterPreheat.charge = s.charge ∧ s.enterPreheat.accounts = s.accounts ∧
    s.enterPreheat.transport = s.transport ∧ s.enterPreheat.quiet = s.quiet ∧ s.enterPreheat.warn = s.warn ∧
    s.enterPreheat.sense = s.sense ∧ s.enterPreheat.fridge = s.fridge ∧ s.enterPreheat.lights = s.lights ∧
    s.enterPreheat.rst = s.rst ∧ s.enterPreheat.pending = s.pending ∧ s.enterPreheat.port.mode = s.port.mode ∧
    s.enterPreheat.port.asleep = s.port.asleep ∧ s.enterPreheat.port.reply = s.port.reply ∧
    s.enterPreheat.port.miso = s.port.miso ∧ s.enterPreheat.port.inFrame = s.port.inFrame ∧
    s.enterPreheat.port.asleepAtStart = s.port.asleepAtStart ∧ s.enterPreheat.port.enables = s.port.enables ∧
    s.enterPreheat.port.mask = s.port.mask ∧ s.enterPreheat.port.unanswered = s.port.unanswered ∧
    s.enterPreheat.port.selfTest = s.port.selfTest ∧ s.enterPreheat.port.cause = s.port.cause ∧
    s.enterPreheat.port.initMode = s.port.initMode ∧ s.enterPreheat.heater.params = s.heater.params ∧
    s.enterPreheat.heater.presented = s.heater.presented ∧ s.enterPreheat.heater.fuel = s.heater.fuel ∧
    s.enterPreheat.heater.failed = s.heater.failed ∧ s.enterPreheat.timers.t0 = s.timers.t0 ∧
    s.enterPreheat.timers.t1 = s.timers.t1 ∧ s.enterPreheat.timers.t2 = s.timers.t2 ∧
    s.enterPreheat.timers.t3 = s.timers.t3 ∧ s.enterPreheat.timers.t6 = s.timers.t6 ∧
    s.enterPreheat.timers.t7 = s.timers.t7 := by
  simp [State.enterPreheat]

@[simp] theorem State.enterOff_keeps (s : State) :
    s.enterOff.clock = s.clock ∧ s.enterOff.orders = s.orders ∧ s.enterOff.alloc = s.alloc ∧
    s.enterOff.charge = s.charge ∧ s.enterOff.accounts = s.accounts ∧ s.enterOff.transport = s.transport ∧
    s.enterOff.quiet = s.quiet ∧ s.enterOff.warn = s.warn ∧ s.enterOff.sense = s.sense ∧
    s.enterOff.fridge = s.fridge ∧ s.enterOff.lights = s.lights ∧ s.enterOff.rst = s.rst ∧
    s.enterOff.pending = s.pending ∧ s.enterOff.port.mode = s.port.mode ∧ s.enterOff.port.asleep = s.port.asleep ∧
    s.enterOff.port.reply = s.port.reply ∧ s.enterOff.port.miso = s.port.miso ∧
    s.enterOff.port.inFrame = s.port.inFrame ∧ s.enterOff.port.asleepAtStart = s.port.asleepAtStart ∧
    s.enterOff.port.enables = s.port.enables ∧ s.enterOff.port.mask = s.port.mask ∧
    s.enterOff.port.unanswered = s.port.unanswered ∧ s.enterOff.port.selfTest = s.port.selfTest ∧
    s.enterOff.port.cause = s.port.cause ∧ s.enterOff.port.initMode = s.port.initMode ∧
    s.enterOff.heater.params = s.heater.params ∧ s.enterOff.heater.presented = s.heater.presented ∧
    s.enterOff.heater.fuel = s.heater.fuel ∧ s.enterOff.heater.failed = s.heater.failed ∧
    s.enterOff.timers.t0 = s.timers.t0 ∧ s.enterOff.timers.t1 = s.timers.t1 ∧ s.enterOff.timers.t2 = s.timers.t2 ∧
    s.enterOff.timers.t3 = s.timers.t3 ∧ s.enterOff.timers.t6 = s.timers.t6 ∧ s.enterOff.timers.t7 = s.timers.t7 := by
  simp [State.enterOff]

@[simp] theorem State.enterIgnition_keeps (s : State) :
    s.enterIgnition.clock = s.clock ∧ s.enterIgnition.orders = s.orders ∧ s.enterIgnition.alloc = s.alloc ∧
    s.enterIgnition.charge = s.charge ∧ s.enterIgnition.accounts = s.accounts ∧
    s.enterIgnition.transport = s.transport ∧ s.enterIgnition.quiet = s.quiet ∧ s.enterIgnition.warn = s.warn ∧
    s.enterIgnition.sense = s.sense ∧ s.enterIgnition.fridge = s.fridge ∧ s.enterIgnition.lights = s.lights ∧
    s.enterIgnition.rst = s.rst ∧ s.enterIgnition.pending = s.pending ∧ s.enterIgnition.port.mode = s.port.mode ∧
    s.enterIgnition.port.asleep = s.port.asleep ∧ s.enterIgnition.port.reply = s.port.reply ∧
    s.enterIgnition.port.miso = s.port.miso ∧ s.enterIgnition.port.inFrame = s.port.inFrame ∧
    s.enterIgnition.port.asleepAtStart = s.port.asleepAtStart ∧ s.enterIgnition.port.enables = s.port.enables ∧
    s.enterIgnition.port.mask = s.port.mask ∧ s.enterIgnition.port.unanswered = s.port.unanswered ∧
    s.enterIgnition.port.selfTest = s.port.selfTest ∧ s.enterIgnition.port.cause = s.port.cause ∧
    s.enterIgnition.port.initMode = s.port.initMode ∧ s.enterIgnition.heater.params = s.heater.params ∧
    s.enterIgnition.heater.presented = s.heater.presented ∧ s.enterIgnition.heater.failed = s.heater.failed ∧
    s.enterIgnition.timers.t0 = s.timers.t0 ∧ s.enterIgnition.timers.t1 = s.timers.t1 ∧
    s.enterIgnition.timers.t2 = s.timers.t2 ∧ s.enterIgnition.timers.t3 = s.timers.t3 ∧
    s.enterIgnition.timers.t6 = s.timers.t6 ∧ s.enterIgnition.timers.t7 = s.timers.t7 := by
  simp [State.enterIgnition]

@[simp] theorem State.enterProving_keeps (s : State) :
    s.enterProving.clock = s.clock ∧ s.enterProving.orders = s.orders ∧ s.enterProving.alloc = s.alloc ∧
    s.enterProving.charge = s.charge ∧ s.enterProving.accounts = s.accounts ∧
    s.enterProving.transport = s.transport ∧ s.enterProving.quiet = s.quiet ∧ s.enterProving.warn = s.warn ∧
    s.enterProving.sense = s.sense ∧ s.enterProving.fridge = s.fridge ∧ s.enterProving.lights = s.lights ∧
    s.enterProving.rst = s.rst ∧ s.enterProving.pending = s.pending ∧ s.enterProving.port.mode = s.port.mode ∧
    s.enterProving.port.asleep = s.port.asleep ∧ s.enterProving.port.reply = s.port.reply ∧
    s.enterProving.port.miso = s.port.miso ∧ s.enterProving.port.inFrame = s.port.inFrame ∧
    s.enterProving.port.asleepAtStart = s.port.asleepAtStart ∧ s.enterProving.port.enables = s.port.enables ∧
    s.enterProving.port.mask = s.port.mask ∧ s.enterProving.port.unanswered = s.port.unanswered ∧
    s.enterProving.port.selfTest = s.port.selfTest ∧ s.enterProving.port.cause = s.port.cause ∧
    s.enterProving.port.initMode = s.port.initMode ∧ s.enterProving.heater.params = s.heater.params ∧
    s.enterProving.heater.presented = s.heater.presented ∧ s.enterProving.heater.fuel = s.heater.fuel ∧
    s.enterProving.heater.failed = s.heater.failed ∧ s.enterProving.timers.t0 = s.timers.t0 ∧
    s.enterProving.timers.t1 = s.timers.t1 ∧ s.enterProving.timers.t2 = s.timers.t2 ∧
    s.enterProving.timers.t3 = s.timers.t3 ∧ s.enterProving.timers.t6 = s.timers.t6 ∧
    s.enterProving.timers.t7 = s.timers.t7 := by
  simp [State.enterProving]

@[simp] theorem State.enterRun_keeps (s : State) :
    s.enterRun.clock = s.clock ∧ s.enterRun.orders = s.orders ∧ s.enterRun.alloc = s.alloc ∧
    s.enterRun.charge = s.charge ∧ s.enterRun.accounts = s.accounts ∧ s.enterRun.transport = s.transport ∧
    s.enterRun.quiet = s.quiet ∧ s.enterRun.warn = s.warn ∧ s.enterRun.sense = s.sense ∧
    s.enterRun.fridge = s.fridge ∧ s.enterRun.lights = s.lights ∧ s.enterRun.rst = s.rst ∧
    s.enterRun.pending = s.pending ∧ s.enterRun.port.mode = s.port.mode ∧ s.enterRun.port.asleep = s.port.asleep ∧
    s.enterRun.port.reply = s.port.reply ∧ s.enterRun.port.miso = s.port.miso ∧
    s.enterRun.port.inFrame = s.port.inFrame ∧ s.enterRun.port.asleepAtStart = s.port.asleepAtStart ∧
    s.enterRun.port.enables = s.port.enables ∧ s.enterRun.port.mask = s.port.mask ∧
    s.enterRun.port.unanswered = s.port.unanswered ∧ s.enterRun.port.selfTest = s.port.selfTest ∧
    s.enterRun.port.cause = s.port.cause ∧ s.enterRun.port.initMode = s.port.initMode ∧
    s.enterRun.heater.params = s.heater.params ∧ s.enterRun.heater.presented = s.heater.presented ∧
    s.enterRun.heater.failed = s.heater.failed ∧ s.enterRun.timers.t0 = s.timers.t0 ∧
    s.enterRun.timers.t1 = s.timers.t1 ∧ s.enterRun.timers.t2 = s.timers.t2 ∧ s.enterRun.timers.t3 = s.timers.t3 ∧
    s.enterRun.timers.t6 = s.timers.t6 ∧ s.enterRun.timers.t7 = s.timers.t7 := by
  simp [State.enterRun]

@[simp] theorem State.enterCooldown_keeps (s : State) (c : CooldownCause) :
    (s.enterCooldown c).clock = s.clock ∧ (s.enterCooldown c).orders = s.orders ∧
    (s.enterCooldown c).alloc = s.alloc ∧ (s.enterCooldown c).charge = s.charge ∧
    (s.enterCooldown c).accounts = s.accounts ∧ (s.enterCooldown c).transport = s.transport ∧
    (s.enterCooldown c).quiet = s.quiet ∧ (s.enterCooldown c).warn = s.warn ∧ (s.enterCooldown c).sense = s.sense ∧
    (s.enterCooldown c).fridge = s.fridge ∧ (s.enterCooldown c).lights = s.lights ∧
    (s.enterCooldown c).rst = s.rst ∧ (s.enterCooldown c).pending = s.pending ∧
    (s.enterCooldown c).port.mode = s.port.mode ∧ (s.enterCooldown c).port.asleep = s.port.asleep ∧
    (s.enterCooldown c).port.reply = s.port.reply ∧ (s.enterCooldown c).port.miso = s.port.miso ∧
    (s.enterCooldown c).port.inFrame = s.port.inFrame ∧
    (s.enterCooldown c).port.asleepAtStart = s.port.asleepAtStart ∧
    (s.enterCooldown c).port.enables = s.port.enables ∧ (s.enterCooldown c).port.mask = s.port.mask ∧
    (s.enterCooldown c).port.unanswered = s.port.unanswered ∧ (s.enterCooldown c).port.selfTest = s.port.selfTest ∧
    (s.enterCooldown c).port.cause = s.port.cause ∧ (s.enterCooldown c).port.initMode = s.port.initMode ∧
    (s.enterCooldown c).heater.params = s.heater.params ∧
    (s.enterCooldown c).heater.presented = s.heater.presented ∧ (s.enterCooldown c).heater.fuel = s.heater.fuel ∧
    (s.enterCooldown c).heater.failed = s.heater.failed ∧ (s.enterCooldown c).timers.t0 = s.timers.t0 ∧
    (s.enterCooldown c).timers.t1 = s.timers.t1 ∧ (s.enterCooldown c).timers.t2 = s.timers.t2 ∧
    (s.enterCooldown c).timers.t3 = s.timers.t3 ∧ (s.enterCooldown c).timers.t6 = s.timers.t6 ∧
    (s.enterCooldown c).timers.t7 = s.timers.t7 := by
  simp [State.enterCooldown]

@[simp] theorem State.failedStart_keeps (s : State) :
    s.failedStart.clock = s.clock ∧ s.failedStart.orders = s.orders ∧ s.failedStart.alloc = s.alloc ∧
    s.failedStart.charge = s.charge ∧ s.failedStart.accounts = s.accounts ∧ s.failedStart.transport = s.transport ∧
    s.failedStart.quiet = s.quiet ∧ s.failedStart.warn = s.warn ∧ s.failedStart.sense = s.sense ∧
    s.failedStart.fridge = s.fridge ∧ s.failedStart.lights = s.lights ∧ s.failedStart.rst = s.rst ∧
    s.failedStart.pending = s.pending ∧ s.failedStart.port.mode = s.port.mode ∧
    s.failedStart.port.asleep = s.port.asleep ∧ s.failedStart.port.reply = s.port.reply ∧
    s.failedStart.port.miso = s.port.miso ∧ s.failedStart.port.inFrame = s.port.inFrame ∧
    s.failedStart.port.asleepAtStart = s.port.asleepAtStart ∧ s.failedStart.port.enables = s.port.enables ∧
    s.failedStart.port.mask = s.port.mask ∧ s.failedStart.port.unanswered = s.port.unanswered ∧
    s.failedStart.port.selfTest = s.port.selfTest ∧ s.failedStart.port.cause = s.port.cause ∧
    s.failedStart.port.initMode = s.port.initMode ∧ s.failedStart.heater.params = s.heater.params ∧
    s.failedStart.heater.presented = s.heater.presented ∧ s.failedStart.heater.fuel = s.heater.fuel ∧
    s.failedStart.timers.t0 = s.timers.t0 ∧ s.failedStart.timers.t1 = s.timers.t1 ∧
    s.failedStart.timers.t2 = s.timers.t2 ∧ s.failedStart.timers.t3 = s.timers.t3 ∧
    s.failedStart.timers.t6 = s.timers.t6 ∧ s.failedStart.timers.t7 = s.timers.t7 := by
  simp [State.failedStart]

@[simp] theorem State.heaterPresented_keeps (s : State) :
    s.heaterPresented.clock = s.clock ∧ s.heaterPresented.orders = s.orders ∧ s.heaterPresented.alloc = s.alloc ∧
    s.heaterPresented.charge = s.charge ∧ s.heaterPresented.accounts = s.accounts ∧
    s.heaterPresented.transport = s.transport ∧ s.heaterPresented.quiet = s.quiet ∧
    s.heaterPresented.warn = s.warn ∧ s.heaterPresented.sense = s.sense ∧ s.heaterPresented.fridge = s.fridge ∧
    s.heaterPresented.lights = s.lights ∧ s.heaterPresented.rst = s.rst ∧ s.heaterPresented.pending = s.pending ∧
    s.heaterPresented.port.mode = s.port.mode ∧ s.heaterPresented.port.asleep = s.port.asleep ∧
    s.heaterPresented.port.reply = s.port.reply ∧ s.heaterPresented.port.miso = s.port.miso ∧
    s.heaterPresented.port.inFrame = s.port.inFrame ∧ s.heaterPresented.port.asleepAtStart = s.port.asleepAtStart ∧
    s.heaterPresented.port.enables = s.port.enables ∧ s.heaterPresented.port.mask = s.port.mask ∧
    s.heaterPresented.port.unanswered = s.port.unanswered ∧ s.heaterPresented.port.selfTest = s.port.selfTest ∧
    s.heaterPresented.port.cause = s.port.cause ∧ s.heaterPresented.port.initMode = s.port.initMode ∧
    s.heaterPresented.heater.params = s.heater.params ∧ s.heaterPresented.heater.presented = s.heater.presented ∧
    s.heaterPresented.heater.fuel = s.heater.fuel ∧ s.heaterPresented.heater.failed = s.heater.failed ∧
    s.heaterPresented.timers.t0 = s.timers.t0 ∧ s.heaterPresented.timers.t1 = s.timers.t1 ∧
    s.heaterPresented.timers.t2 = s.timers.t2 ∧ s.heaterPresented.timers.t3 = s.timers.t3 ∧
    s.heaterPresented.timers.t6 = s.timers.t6 ∧ s.heaterPresented.timers.t7 = s.timers.t7 := by
  simp only [State.heaterPresented]
  repeat' split
  all_goals simp

@[simp] theorem State.heaterWithdrawn_keeps (s : State) :
    s.heaterWithdrawn.clock = s.clock ∧ s.heaterWithdrawn.orders = s.orders ∧ s.heaterWithdrawn.alloc = s.alloc ∧
    s.heaterWithdrawn.charge = s.charge ∧ s.heaterWithdrawn.accounts = s.accounts ∧
    s.heaterWithdrawn.transport = s.transport ∧ s.heaterWithdrawn.quiet = s.quiet ∧
    s.heaterWithdrawn.warn = s.warn ∧ s.heaterWithdrawn.sense = s.sense ∧ s.heaterWithdrawn.fridge = s.fridge ∧
    s.heaterWithdrawn.lights = s.lights ∧ s.heaterWithdrawn.rst = s.rst ∧ s.heaterWithdrawn.pending = s.pending ∧
    s.heaterWithdrawn.port.mode = s.port.mode ∧ s.heaterWithdrawn.port.asleep = s.port.asleep ∧
    s.heaterWithdrawn.port.reply = s.port.reply ∧ s.heaterWithdrawn.port.miso = s.port.miso ∧
    s.heaterWithdrawn.port.inFrame = s.port.inFrame ∧ s.heaterWithdrawn.port.asleepAtStart = s.port.asleepAtStart ∧
    s.heaterWithdrawn.port.enables = s.port.enables ∧ s.heaterWithdrawn.port.mask = s.port.mask ∧
    s.heaterWithdrawn.port.unanswered = s.port.unanswered ∧ s.heaterWithdrawn.port.selfTest = s.port.selfTest ∧
    s.heaterWithdrawn.port.cause = s.port.cause ∧ s.heaterWithdrawn.port.initMode = s.port.initMode ∧
    s.heaterWithdrawn.heater.params = s.heater.params ∧ s.heaterWithdrawn.heater.presented = s.heater.presented ∧
    s.heaterWithdrawn.heater.fuel = s.heater.fuel ∧ s.heaterWithdrawn.heater.failed = s.heater.failed ∧
    s.heaterWithdrawn.timers.t0 = s.timers.t0 ∧ s.heaterWithdrawn.timers.t1 = s.timers.t1 ∧
    s.heaterWithdrawn.timers.t2 = s.timers.t2 ∧ s.heaterWithdrawn.timers.t3 = s.timers.t3 ∧
    s.heaterWithdrawn.timers.t6 = s.timers.t6 ∧ s.heaterWithdrawn.timers.t7 = s.timers.t7 := by
  simp only [State.heaterWithdrawn]
  repeat' split
  all_goals simp

@[simp] theorem State.presentHeater_keeps (s : State) (p : Option Presented) :
    (s.presentHeater p).clock = s.clock ∧ (s.presentHeater p).orders = s.orders ∧
    (s.presentHeater p).alloc = s.alloc ∧ (s.presentHeater p).charge = s.charge ∧
    (s.presentHeater p).accounts = s.accounts ∧ (s.presentHeater p).transport = s.transport ∧
    (s.presentHeater p).quiet = s.quiet ∧ (s.presentHeater p).warn = s.warn ∧ (s.presentHeater p).sense = s.sense ∧
    (s.presentHeater p).fridge = s.fridge ∧ (s.presentHeater p).lights = s.lights ∧
    (s.presentHeater p).rst = s.rst ∧ (s.presentHeater p).pending = s.pending ∧
    (s.presentHeater p).port.mode = s.port.mode ∧ (s.presentHeater p).port.asleep = s.port.asleep ∧
    (s.presentHeater p).port.reply = s.port.reply ∧ (s.presentHeater p).port.miso = s.port.miso ∧
    (s.presentHeater p).port.inFrame = s.port.inFrame ∧
    (s.presentHeater p).port.asleepAtStart = s.port.asleepAtStart ∧
    (s.presentHeater p).port.enables = s.port.enables ∧ (s.presentHeater p).port.mask = s.port.mask ∧
    (s.presentHeater p).port.unanswered = s.port.unanswered ∧ (s.presentHeater p).port.selfTest = s.port.selfTest ∧
    (s.presentHeater p).port.cause = s.port.cause ∧ (s.presentHeater p).port.initMode = s.port.initMode ∧
    (s.presentHeater p).heater.params = s.heater.params ∧ (s.presentHeater p).heater.fuel = s.heater.fuel ∧
    (s.presentHeater p).heater.failed = s.heater.failed ∧ (s.presentHeater p).timers.t0 = s.timers.t0 ∧
    (s.presentHeater p).timers.t1 = s.timers.t1 ∧ (s.presentHeater p).timers.t2 = s.timers.t2 ∧
    (s.presentHeater p).timers.t3 = s.timers.t3 ∧ (s.presentHeater p).timers.t6 = s.timers.t6 ∧
    (s.presentHeater p).timers.t7 = s.timers.t7 := by
  simp only [State.presentHeater]
  repeat' split
  all_goals simp

@[simp] theorem State.ovhtActive_keeps (s : State) :
    s.ovhtActive.clock = s.clock ∧ s.ovhtActive.orders = s.orders ∧ s.ovhtActive.alloc = s.alloc ∧
    s.ovhtActive.charge = s.charge ∧ s.ovhtActive.accounts = s.accounts ∧ s.ovhtActive.transport = s.transport ∧
    s.ovhtActive.quiet = s.quiet ∧ s.ovhtActive.warn = s.warn ∧ s.ovhtActive.sense = s.sense ∧
    s.ovhtActive.fridge = s.fridge ∧ s.ovhtActive.lights = s.lights ∧ s.ovhtActive.rst = s.rst ∧
    s.ovhtActive.pending = s.pending ∧ s.ovhtActive.port.mode = s.port.mode ∧
    s.ovhtActive.port.asleep = s.port.asleep ∧ s.ovhtActive.port.reply = s.port.reply ∧
    s.ovhtActive.port.miso = s.port.miso ∧ s.ovhtActive.port.inFrame = s.port.inFrame ∧
    s.ovhtActive.port.asleepAtStart = s.port.asleepAtStart ∧ s.ovhtActive.port.enables = s.port.enables ∧
    s.ovhtActive.port.mask = s.port.mask ∧ s.ovhtActive.port.unanswered = s.port.unanswered ∧
    s.ovhtActive.port.selfTest = s.port.selfTest ∧ s.ovhtActive.port.cause = s.port.cause ∧
    s.ovhtActive.port.initMode = s.port.initMode ∧ s.ovhtActive.heater.params = s.heater.params ∧
    s.ovhtActive.heater.presented = s.heater.presented ∧ s.ovhtActive.heater.fuel = s.heater.fuel ∧
    s.ovhtActive.heater.failed = s.heater.failed ∧ s.ovhtActive.timers.t0 = s.timers.t0 ∧
    s.ovhtActive.timers.t1 = s.timers.t1 ∧ s.ovhtActive.timers.t2 = s.timers.t2 ∧
    s.ovhtActive.timers.t3 = s.timers.t3 ∧ s.ovhtActive.timers.t6 = s.timers.t6 ∧
    s.ovhtActive.timers.t7 = s.timers.t7 := by
  simp only [State.ovhtActive]
  repeat' split
  all_goals simp

@[simp] theorem State.ovhtInactive_keeps (s : State) :
    s.ovhtInactive.clock = s.clock ∧ s.ovhtInactive.orders = s.orders ∧ s.ovhtInactive.alloc = s.alloc ∧
    s.ovhtInactive.charge = s.charge ∧ s.ovhtInactive.accounts = s.accounts ∧
    s.ovhtInactive.transport = s.transport ∧ s.ovhtInactive.quiet = s.quiet ∧ s.ovhtInactive.warn = s.warn ∧
    s.ovhtInactive.sense = s.sense ∧ s.ovhtInactive.fridge = s.fridge ∧ s.ovhtInactive.lights = s.lights ∧
    s.ovhtInactive.rst = s.rst ∧ s.ovhtInactive.pending = s.pending ∧ s.ovhtInactive.port.mode = s.port.mode ∧
    s.ovhtInactive.port.asleep = s.port.asleep ∧ s.ovhtInactive.port.reply = s.port.reply ∧
    s.ovhtInactive.port.miso = s.port.miso ∧ s.ovhtInactive.port.inFrame = s.port.inFrame ∧
    s.ovhtInactive.port.asleepAtStart = s.port.asleepAtStart ∧ s.ovhtInactive.port.enables = s.port.enables ∧
    s.ovhtInactive.port.mask = s.port.mask ∧ s.ovhtInactive.port.unanswered = s.port.unanswered ∧
    s.ovhtInactive.port.selfTest = s.port.selfTest ∧ s.ovhtInactive.port.cause = s.port.cause ∧
    s.ovhtInactive.port.initMode = s.port.initMode ∧ s.ovhtInactive.heater.params = s.heater.params ∧
    s.ovhtInactive.heater.presented = s.heater.presented ∧ s.ovhtInactive.heater.fuel = s.heater.fuel ∧
    s.ovhtInactive.heater.failed = s.heater.failed ∧ s.ovhtInactive.timers.t0 = s.timers.t0 ∧
    s.ovhtInactive.timers.t1 = s.timers.t1 ∧ s.ovhtInactive.timers.t2 = s.timers.t2 ∧
    s.ovhtInactive.timers.t3 = s.timers.t3 ∧ s.ovhtInactive.timers.t6 = s.timers.t6 ∧
    s.ovhtInactive.timers.t7 = s.timers.t7 := by
  simp only [State.ovhtInactive]
  repeat' split
  all_goals simp

@[simp] theorem State.flamePresent_keeps (s : State) :
    s.flamePresent.clock = s.clock ∧ s.flamePresent.orders = s.orders ∧ s.flamePresent.alloc = s.alloc ∧
    s.flamePresent.charge = s.charge ∧ s.flamePresent.accounts = s.accounts ∧
    s.flamePresent.transport = s.transport ∧ s.flamePresent.quiet = s.quiet ∧ s.flamePresent.warn = s.warn ∧
    s.flamePresent.sense = s.sense ∧ s.flamePresent.fridge = s.fridge ∧ s.flamePresent.lights = s.lights ∧
    s.flamePresent.rst = s.rst ∧ s.flamePresent.pending = s.pending ∧ s.flamePresent.port.mode = s.port.mode ∧
    s.flamePresent.port.asleep = s.port.asleep ∧ s.flamePresent.port.reply = s.port.reply ∧
    s.flamePresent.port.miso = s.port.miso ∧ s.flamePresent.port.inFrame = s.port.inFrame ∧
    s.flamePresent.port.asleepAtStart = s.port.asleepAtStart ∧ s.flamePresent.port.enables = s.port.enables ∧
    s.flamePresent.port.mask = s.port.mask ∧ s.flamePresent.port.unanswered = s.port.unanswered ∧
    s.flamePresent.port.selfTest = s.port.selfTest ∧ s.flamePresent.port.cause = s.port.cause ∧
    s.flamePresent.port.initMode = s.port.initMode ∧ s.flamePresent.heater.params = s.heater.params ∧
    s.flamePresent.heater.presented = s.heater.presented ∧ s.flamePresent.heater.fuel = s.heater.fuel ∧
    s.flamePresent.heater.failed = s.heater.failed ∧ s.flamePresent.timers.t0 = s.timers.t0 ∧
    s.flamePresent.timers.t1 = s.timers.t1 ∧ s.flamePresent.timers.t2 = s.timers.t2 ∧
    s.flamePresent.timers.t3 = s.timers.t3 ∧ s.flamePresent.timers.t6 = s.timers.t6 ∧
    s.flamePresent.timers.t7 = s.timers.t7 := by
  simp only [State.flamePresent]
  repeat' split
  all_goals simp

@[simp] theorem State.flameAbsent_keeps (s : State) :
    s.flameAbsent.clock = s.clock ∧ s.flameAbsent.orders = s.orders ∧ s.flameAbsent.alloc = s.alloc ∧
    s.flameAbsent.charge = s.charge ∧ s.flameAbsent.accounts = s.accounts ∧ s.flameAbsent.transport = s.transport ∧
    s.flameAbsent.quiet = s.quiet ∧ s.flameAbsent.warn = s.warn ∧ s.flameAbsent.sense = s.sense ∧
    s.flameAbsent.fridge = s.fridge ∧ s.flameAbsent.lights = s.lights ∧ s.flameAbsent.rst = s.rst ∧
    s.flameAbsent.pending = s.pending ∧ s.flameAbsent.port.mode = s.port.mode ∧
    s.flameAbsent.port.asleep = s.port.asleep ∧ s.flameAbsent.port.reply = s.port.reply ∧
    s.flameAbsent.port.miso = s.port.miso ∧ s.flameAbsent.port.inFrame = s.port.inFrame ∧
    s.flameAbsent.port.asleepAtStart = s.port.asleepAtStart ∧ s.flameAbsent.port.enables = s.port.enables ∧
    s.flameAbsent.port.mask = s.port.mask ∧ s.flameAbsent.port.unanswered = s.port.unanswered ∧
    s.flameAbsent.port.selfTest = s.port.selfTest ∧ s.flameAbsent.port.cause = s.port.cause ∧
    s.flameAbsent.port.initMode = s.port.initMode ∧ s.flameAbsent.heater.params = s.heater.params ∧
    s.flameAbsent.heater.presented = s.heater.presented ∧ s.flameAbsent.heater.fuel = s.heater.fuel ∧
    s.flameAbsent.timers.t0 = s.timers.t0 ∧ s.flameAbsent.timers.t1 = s.timers.t1 ∧
    s.flameAbsent.timers.t2 = s.timers.t2 ∧ s.flameAbsent.timers.t3 = s.timers.t3 ∧
    s.flameAbsent.timers.t6 = s.timers.t6 ∧ s.flameAbsent.timers.t7 = s.timers.t7 := by
  simp only [State.flameAbsent]
  repeat' split
  all_goals simp

@[simp] theorem State.stepLevel_keeps (s : State) :
    s.stepLevel.clock = s.clock ∧ s.stepLevel.orders = s.orders ∧ s.stepLevel.alloc = s.alloc ∧
    s.stepLevel.charge = s.charge ∧ s.stepLevel.accounts = s.accounts ∧ s.stepLevel.transport = s.transport ∧
    s.stepLevel.quiet = s.quiet ∧ s.stepLevel.warn = s.warn ∧ s.stepLevel.sense = s.sense ∧
    s.stepLevel.fridge = s.fridge ∧ s.stepLevel.lights = s.lights ∧ s.stepLevel.port = s.port ∧
    s.stepLevel.rst = s.rst ∧ s.stepLevel.pending = s.pending ∧ s.stepLevel.heater.params = s.heater.params ∧
    s.stepLevel.heater.presented = s.heater.presented ∧ s.stepLevel.heater.failed = s.heater.failed ∧
    s.stepLevel.timers.t0 = s.timers.t0 ∧ s.stepLevel.timers.t1 = s.timers.t1 ∧
    s.stepLevel.timers.t2 = s.timers.t2 ∧ s.stepLevel.timers.t3 = s.timers.t3 ∧
    s.stepLevel.timers.t6 = s.timers.t6 ∧ s.stepLevel.timers.t7 = s.timers.t7 := by
  simp only [State.stepLevel]
  repeat' split
  all_goals simp

@[simp] theorem State.workSatisfy_keeps (s : State) (a b : Int) (c : Bool) :
    (s.workSatisfy a b c).clock = s.clock ∧ (s.workSatisfy a b c).orders = s.orders ∧
    (s.workSatisfy a b c).alloc = s.alloc ∧ (s.workSatisfy a b c).charge = s.charge ∧
    (s.workSatisfy a b c).accounts = s.accounts ∧ (s.workSatisfy a b c).transport = s.transport ∧
    (s.workSatisfy a b c).quiet = s.quiet ∧ (s.workSatisfy a b c).warn = s.warn ∧
    (s.workSatisfy a b c).sense = s.sense ∧ (s.workSatisfy a b c).timers = s.timers ∧
    (s.workSatisfy a b c).fridge = s.fridge ∧ (s.workSatisfy a b c).lights = s.lights ∧
    (s.workSatisfy a b c).port = s.port ∧ (s.workSatisfy a b c).rst = s.rst ∧
    (s.workSatisfy a b c).pending = s.pending ∧ (s.workSatisfy a b c).heater.params = s.heater.params ∧
    (s.workSatisfy a b c).heater.presented = s.heater.presented ∧
    (s.workSatisfy a b c).heater.fuel = s.heater.fuel ∧ (s.workSatisfy a b c).heater.failed = s.heater.failed := by
  simp [State.workSatisfy]

@[simp] theorem State.c2InRun_keeps (s : State) (a b : Int) (c : Bool) :
    (s.c2InRun a b c).clock = s.clock ∧ (s.c2InRun a b c).orders = s.orders ∧ (s.c2InRun a b c).alloc = s.alloc ∧
    (s.c2InRun a b c).charge = s.charge ∧ (s.c2InRun a b c).accounts = s.accounts ∧
    (s.c2InRun a b c).transport = s.transport ∧ (s.c2InRun a b c).quiet = s.quiet ∧
    (s.c2InRun a b c).warn = s.warn ∧ (s.c2InRun a b c).sense = s.sense ∧ (s.c2InRun a b c).fridge = s.fridge ∧
    (s.c2InRun a b c).lights = s.lights ∧ (s.c2InRun a b c).port = s.port ∧ (s.c2InRun a b c).rst = s.rst ∧
    (s.c2InRun a b c).pending = s.pending ∧ (s.c2InRun a b c).heater.params = s.heater.params ∧
    (s.c2InRun a b c).heater.presented = s.heater.presented ∧ (s.c2InRun a b c).heater.failed = s.heater.failed ∧
    (s.c2InRun a b c).timers.t0 = s.timers.t0 ∧ (s.c2InRun a b c).timers.t1 = s.timers.t1 ∧
    (s.c2InRun a b c).timers.t2 = s.timers.t2 ∧ (s.c2InRun a b c).timers.t3 = s.timers.t3 ∧
    (s.c2InRun a b c).timers.t6 = s.timers.t6 ∧ (s.c2InRun a b c).timers.t7 = s.timers.t7 := by
  simp [State.c2InRun]

@[simp] theorem State.c2InSatisfied_keeps (s : State) (a b : Int) (c : Bool) :
    (s.c2InSatisfied a b c).clock = s.clock ∧ (s.c2InSatisfied a b c).orders = s.orders ∧
    (s.c2InSatisfied a b c).alloc = s.alloc ∧ (s.c2InSatisfied a b c).charge = s.charge ∧
    (s.c2InSatisfied a b c).accounts = s.accounts ∧ (s.c2InSatisfied a b c).transport = s.transport ∧
    (s.c2InSatisfied a b c).quiet = s.quiet ∧ (s.c2InSatisfied a b c).warn = s.warn ∧
    (s.c2InSatisfied a b c).sense = s.sense ∧ (s.c2InSatisfied a b c).fridge = s.fridge ∧
    (s.c2InSatisfied a b c).lights = s.lights ∧ (s.c2InSatisfied a b c).rst = s.rst ∧
    (s.c2InSatisfied a b c).pending = s.pending ∧ (s.c2InSatisfied a b c).port.mode = s.port.mode ∧
    (s.c2InSatisfied a b c).port.asleep = s.port.asleep ∧ (s.c2InSatisfied a b c).port.reply = s.port.reply ∧
    (s.c2InSatisfied a b c).port.miso = s.port.miso ∧ (s.c2InSatisfied a b c).port.inFrame = s.port.inFrame ∧
    (s.c2InSatisfied a b c).port.asleepAtStart = s.port.asleepAtStart ∧
    (s.c2InSatisfied a b c).port.enables = s.port.enables ∧ (s.c2InSatisfied a b c).port.mask = s.port.mask ∧
    (s.c2InSatisfied a b c).port.unanswered = s.port.unanswered ∧
    (s.c2InSatisfied a b c).port.selfTest = s.port.selfTest ∧ (s.c2InSatisfied a b c).port.cause = s.port.cause ∧
    (s.c2InSatisfied a b c).port.initMode = s.port.initMode ∧
    (s.c2InSatisfied a b c).heater.params = s.heater.params ∧
    (s.c2InSatisfied a b c).heater.presented = s.heater.presented ∧
    (s.c2InSatisfied a b c).heater.fuel = s.heater.fuel ∧ (s.c2InSatisfied a b c).heater.failed = s.heater.failed ∧
    (s.c2InSatisfied a b c).timers.t0 = s.timers.t0 ∧ (s.c2InSatisfied a b c).timers.t1 = s.timers.t1 ∧
    (s.c2InSatisfied a b c).timers.t2 = s.timers.t2 ∧ (s.c2InSatisfied a b c).timers.t3 = s.timers.t3 ∧
    (s.c2InSatisfied a b c).timers.t6 = s.timers.t6 ∧ (s.c2InSatisfied a b c).timers.t7 = s.timers.t7 := by
  simp only [State.c2InSatisfied]
  repeat' split
  all_goals simp

@[simp] theorem State.heaterReading_keeps (s : State) (a : Int) (c : Bool) :
    (s.heaterReading a c).clock = s.clock ∧ (s.heaterReading a c).orders = s.orders ∧
    (s.heaterReading a c).alloc = s.alloc ∧ (s.heaterReading a c).charge = s.charge ∧
    (s.heaterReading a c).accounts = s.accounts ∧ (s.heaterReading a c).transport = s.transport ∧
    (s.heaterReading a c).quiet = s.quiet ∧ (s.heaterReading a c).warn = s.warn ∧
    (s.heaterReading a c).sense = s.sense ∧ (s.heaterReading a c).fridge = s.fridge ∧
    (s.heaterReading a c).lights = s.lights ∧ (s.heaterReading a c).rst = s.rst ∧
    (s.heaterReading a c).pending = s.pending ∧ (s.heaterReading a c).port.mode = s.port.mode ∧
    (s.heaterReading a c).port.asleep = s.port.asleep ∧ (s.heaterReading a c).port.reply = s.port.reply ∧
    (s.heaterReading a c).port.miso = s.port.miso ∧ (s.heaterReading a c).port.inFrame = s.port.inFrame ∧
    (s.heaterReading a c).port.asleepAtStart = s.port.asleepAtStart ∧
    (s.heaterReading a c).port.enables = s.port.enables ∧ (s.heaterReading a c).port.mask = s.port.mask ∧
    (s.heaterReading a c).port.unanswered = s.port.unanswered ∧
    (s.heaterReading a c).port.selfTest = s.port.selfTest ∧ (s.heaterReading a c).port.cause = s.port.cause ∧
    (s.heaterReading a c).port.initMode = s.port.initMode ∧ (s.heaterReading a c).heater.params = s.heater.params ∧
    (s.heaterReading a c).heater.presented = s.heater.presented ∧
    (s.heaterReading a c).heater.failed = s.heater.failed ∧ (s.heaterReading a c).timers.t0 = s.timers.t0 ∧
    (s.heaterReading a c).timers.t1 = s.timers.t1 ∧ (s.heaterReading a c).timers.t2 = s.timers.t2 ∧
    (s.heaterReading a c).timers.t3 = s.timers.t3 ∧ (s.heaterReading a c).timers.t6 = s.timers.t6 ∧
    (s.heaterReading a c).timers.t7 = s.timers.t7 := by
  simp only [State.heaterReading]
  repeat' split
  all_goals simp

@[simp] theorem State.heaterQuiet_keeps (s : State) :
    s.heaterQuiet.clock = s.clock ∧ s.heaterQuiet.orders = s.orders ∧ s.heaterQuiet.alloc = s.alloc ∧
    s.heaterQuiet.charge = s.charge ∧ s.heaterQuiet.accounts = s.accounts ∧ s.heaterQuiet.transport = s.transport ∧
    s.heaterQuiet.quiet = s.quiet ∧ s.heaterQuiet.warn = s.warn ∧ s.heaterQuiet.sense = s.sense ∧
    s.heaterQuiet.fridge = s.fridge ∧ s.heaterQuiet.lights = s.lights ∧ s.heaterQuiet.port = s.port ∧
    s.heaterQuiet.rst = s.rst ∧ s.heaterQuiet.pending = s.pending ∧ s.heaterQuiet.heater.params = s.heater.params ∧
    s.heaterQuiet.heater.presented = s.heater.presented ∧ s.heaterQuiet.heater.failed = s.heater.failed ∧
    s.heaterQuiet.timers.t0 = s.timers.t0 ∧ s.heaterQuiet.timers.t1 = s.timers.t1 ∧
    s.heaterQuiet.timers.t2 = s.timers.t2 ∧ s.heaterQuiet.timers.t3 = s.timers.t3 ∧
    s.heaterQuiet.timers.t6 = s.timers.t6 ∧ s.heaterQuiet.timers.t7 = s.timers.t7 := by
  simp only [State.heaterQuiet]
  repeat' split
  all_goals simp

@[simp] theorem State.runClearsCount_keeps (s : State) :
    s.runClearsCount.clock = s.clock ∧ s.runClearsCount.orders = s.orders ∧ s.runClearsCount.alloc = s.alloc ∧
    s.runClearsCount.charge = s.charge ∧ s.runClearsCount.accounts = s.accounts ∧
    s.runClearsCount.transport = s.transport ∧ s.runClearsCount.quiet = s.quiet ∧ s.runClearsCount.warn = s.warn ∧
    s.runClearsCount.sense = s.sense ∧ s.runClearsCount.timers = s.timers ∧ s.runClearsCount.fridge = s.fridge ∧
    s.runClearsCount.lights = s.lights ∧ s.runClearsCount.port = s.port ∧ s.runClearsCount.rst = s.rst ∧
    s.runClearsCount.pending = s.pending ∧ s.runClearsCount.heater.params = s.heater.params ∧
    s.runClearsCount.heater.presented = s.heater.presented ∧ s.runClearsCount.heater.fuel = s.heater.fuel := by
  simp only [State.runClearsCount]
  repeat' split
  all_goals simp

@[simp] theorem State.satisfiedStop_keeps (s : State) :
    s.satisfiedStop.clock = s.clock ∧ s.satisfiedStop.orders = s.orders ∧ s.satisfiedStop.alloc = s.alloc ∧
    s.satisfiedStop.charge = s.charge ∧ s.satisfiedStop.accounts = s.accounts ∧
    s.satisfiedStop.transport = s.transport ∧ s.satisfiedStop.quiet = s.quiet ∧ s.satisfiedStop.warn = s.warn ∧
    s.satisfiedStop.sense = s.sense ∧ s.satisfiedStop.fridge = s.fridge ∧ s.satisfiedStop.lights = s.lights ∧
    s.satisfiedStop.rst = s.rst ∧ s.satisfiedStop.pending = s.pending ∧ s.satisfiedStop.port.mode = s.port.mode ∧
    s.satisfiedStop.port.asleep = s.port.asleep ∧ s.satisfiedStop.port.reply = s.port.reply ∧
    s.satisfiedStop.port.miso = s.port.miso ∧ s.satisfiedStop.port.inFrame = s.port.inFrame ∧
    s.satisfiedStop.port.asleepAtStart = s.port.asleepAtStart ∧ s.satisfiedStop.port.enables = s.port.enables ∧
    s.satisfiedStop.port.mask = s.port.mask ∧ s.satisfiedStop.port.unanswered = s.port.unanswered ∧
    s.satisfiedStop.port.selfTest = s.port.selfTest ∧ s.satisfiedStop.port.cause = s.port.cause ∧
    s.satisfiedStop.port.initMode = s.port.initMode ∧ s.satisfiedStop.heater.params = s.heater.params ∧
    s.satisfiedStop.heater.presented = s.heater.presented ∧ s.satisfiedStop.heater.fuel = s.heater.fuel ∧
    s.satisfiedStop.heater.failed = s.heater.failed ∧ s.satisfiedStop.timers.t0 = s.timers.t0 ∧
    s.satisfiedStop.timers.t1 = s.timers.t1 ∧ s.satisfiedStop.timers.t2 = s.timers.t2 ∧
    s.satisfiedStop.timers.t3 = s.timers.t3 ∧ s.satisfiedStop.timers.t6 = s.timers.t6 ∧
    s.satisfiedStop.timers.t7 = s.timers.t7 := by
  simp only [State.satisfiedStop]
  repeat' split
  all_goals simp

end Sys2Proof.Machine
end

