-- ==== Sys2Proof/Laws/LightFrames.lean ====
section
/-! SUPPORT. What each operation of the light channels leaves as it was. -/
namespace Sys2Proof.Machine

@[simp] theorem State.setChannel_keeps (s : State) (i : LightId) (c : Channel) :
    (s.setChannel i c).clock = s.clock ∧ (s.setChannel i c).orders = s.orders ∧ (s.setChannel i c).alloc = s.alloc ∧
    (s.setChannel i c).charge = s.charge ∧ (s.setChannel i c).accounts = s.accounts ∧
    (s.setChannel i c).transport = s.transport ∧ (s.setChannel i c).quiet = s.quiet ∧
    (s.setChannel i c).warn = s.warn ∧ (s.setChannel i c).sense = s.sense ∧ (s.setChannel i c).timers = s.timers ∧
    (s.setChannel i c).heater = s.heater ∧ (s.setChannel i c).fridge = s.fridge ∧ (s.setChannel i c).port = s.port ∧
    (s.setChannel i c).rst = s.rst ∧ (s.setChannel i c).pending = s.pending ∧
    (s.setChannel i c).lights.quietCap = s.lights.quietCap := by
  cases i <;> simp [State.setChannel, Lights.set]

@[simp] theorem State.setDuty_keeps (s : State) (i : LightId) (d : Nat) :
    (s.setDuty i d).clock = s.clock ∧ (s.setDuty i d).orders = s.orders ∧ (s.setDuty i d).alloc = s.alloc ∧
    (s.setDuty i d).charge = s.charge ∧ (s.setDuty i d).accounts = s.accounts ∧
    (s.setDuty i d).transport = s.transport ∧ (s.setDuty i d).quiet = s.quiet ∧ (s.setDuty i d).warn = s.warn ∧
    (s.setDuty i d).sense = s.sense ∧ (s.setDuty i d).heater = s.heater ∧ (s.setDuty i d).fridge = s.fridge ∧
    (s.setDuty i d).port = s.port ∧ (s.setDuty i d).rst = s.rst ∧ (s.setDuty i d).pending = s.pending ∧
    (s.setDuty i d).lights.quietCap = s.lights.quietCap ∧ (s.setDuty i d).timers.t4 = s.timers.t4 ∧
    (s.setDuty i d).timers.t5 = s.timers.t5 ∧ (s.setDuty i d).timers.t6 = s.timers.t6 ∧
    (s.setDuty i d).timers.t7 = s.timers.t7 := by
  simp only [State.setDuty]
  repeat' split
  all_goals simp

@[simp] theorem State.beginFade_keeps (s : State) (i : LightId) (d n : Nat) :
    (s.beginFade i d n).clock = s.clock ∧ (s.beginFade i d n).orders = s.orders ∧
    (s.beginFade i d n).alloc = s.alloc ∧ (s.beginFade i d n).charge = s.charge ∧
    (s.beginFade i d n).accounts = s.accounts ∧ (s.beginFade i d n).transport = s.transport ∧
    (s.beginFade i d n).quiet = s.quiet ∧ (s.beginFade i d n).warn = s.warn ∧ (s.beginFade i d n).sense = s.sense ∧
    (s.beginFade i d n).heater = s.heater ∧ (s.beginFade i d n).fridge = s.fridge ∧
    (s.beginFade i d n).port = s.port ∧ (s.beginFade i d n).rst = s.rst ∧ (s.beginFade i d n).pending = s.pending ∧
    (s.beginFade i d n).lights.quietCap = s.lights.quietCap ∧ (s.beginFade i d n).timers.t4 = s.timers.t4 ∧
    (s.beginFade i d n).timers.t5 = s.timers.t5 ∧ (s.beginFade i d n).timers.t6 = s.timers.t6 ∧
    (s.beginFade i d n).timers.t7 = s.timers.t7 := by
  simp only [State.beginFade]
  repeat' split
  all_goals simp

@[simp] theorem State.fadeStep_keeps (s : State) (i : LightId) :
    (s.fadeStep i).clock = s.clock ∧ (s.fadeStep i).orders = s.orders ∧ (s.fadeStep i).alloc = s.alloc ∧
    (s.fadeStep i).charge = s.charge ∧ (s.fadeStep i).accounts = s.accounts ∧
    (s.fadeStep i).transport = s.transport ∧ (s.fadeStep i).quiet = s.quiet ∧ (s.fadeStep i).warn = s.warn ∧
    (s.fadeStep i).sense = s.sense ∧ (s.fadeStep i).heater = s.heater ∧ (s.fadeStep i).fridge = s.fridge ∧
    (s.fadeStep i).port = s.port ∧ (s.fadeStep i).rst = s.rst ∧ (s.fadeStep i).pending = s.pending ∧
    (s.fadeStep i).lights.quietCap = s.lights.quietCap ∧ (s.fadeStep i).timers.t4 = s.timers.t4 ∧
    (s.fadeStep i).timers.t5 = s.timers.t5 ∧ (s.fadeStep i).timers.t6 = s.timers.t6 ∧
    (s.fadeStep i).timers.t7 = s.timers.t7 := by
  simp only [State.fadeStep]
  repeat' split
  all_goals simp

@[simp] theorem State.presentLight_keeps (s : State) (i : LightId) (p : Option Presented) :
    (s.presentLight i p).clock = s.clock ∧ (s.presentLight i p).orders = s.orders ∧
    (s.presentLight i p).alloc = s.alloc ∧ (s.presentLight i p).charge = s.charge ∧
    (s.presentLight i p).accounts = s.accounts ∧ (s.presentLight i p).transport = s.transport ∧
    (s.presentLight i p).quiet = s.quiet ∧ (s.presentLight i p).warn = s.warn ∧
    (s.presentLight i p).sense = s.sense ∧ (s.presentLight i p).heater = s.heater ∧
    (s.presentLight i p).fridge = s.fridge ∧ (s.presentLight i p).port = s.port ∧ (s.presentLight i p).rst = s.rst ∧
    (s.presentLight i p).pending = s.pending ∧ (s.presentLight i p).lights.quietCap = s.lights.quietCap ∧
    (s.presentLight i p).timers.t4 = s.timers.t4 ∧ (s.presentLight i p).timers.t5 = s.timers.t5 ∧
    (s.presentLight i p).timers.t6 = s.timers.t6 ∧ (s.presentLight i p).timers.t7 = s.timers.t7 := by
  simp only [State.presentLight]
  repeat' split
  all_goals simp

@[simp] theorem State.cabQuietSet_keeps (s : State) :
    s.cabQuietSet.clock = s.clock ∧ s.cabQuietSet.orders = s.orders ∧ s.cabQuietSet.alloc = s.alloc ∧
    s.cabQuietSet.charge = s.charge ∧ s.cabQuietSet.accounts = s.accounts ∧ s.cabQuietSet.transport = s.transport ∧
    s.cabQuietSet.quiet = s.quiet ∧ s.cabQuietSet.warn = s.warn ∧ s.cabQuietSet.sense = s.sense ∧
    s.cabQuietSet.heater = s.heater ∧ s.cabQuietSet.fridge = s.fridge ∧ s.cabQuietSet.port = s.port ∧
    s.cabQuietSet.rst = s.rst ∧ s.cabQuietSet.pending = s.pending ∧
    s.cabQuietSet.lights.quietCap = s.lights.quietCap ∧ s.cabQuietSet.timers.t4 = s.timers.t4 ∧
    s.cabQuietSet.timers.t5 = s.timers.t5 ∧ s.cabQuietSet.timers.t6 = s.timers.t6 ∧
    s.cabQuietSet.timers.t7 = s.timers.t7 := by
  simp only [State.cabQuietSet]
  repeat' split
  all_goals simp

@[simp] theorem State.cabQuietClear_keeps (s : State) :
    s.cabQuietClear.clock = s.clock ∧ s.cabQuietClear.orders = s.orders ∧ s.cabQuietClear.alloc = s.alloc ∧
    s.cabQuietClear.charge = s.charge ∧ s.cabQuietClear.accounts = s.accounts ∧
    s.cabQuietClear.transport = s.transport ∧ s.cabQuietClear.quiet = s.quiet ∧ s.cabQuietClear.warn = s.warn ∧
    s.cabQuietClear.sense = s.sense ∧ s.cabQuietClear.heater = s.heater ∧ s.cabQuietClear.fridge = s.fridge ∧
    s.cabQuietClear.port = s.port ∧ s.cabQuietClear.rst = s.rst ∧ s.cabQuietClear.pending = s.pending ∧
    s.cabQuietClear.lights.quietCap = s.lights.quietCap ∧ s.cabQuietClear.timers.t4 = s.timers.t4 ∧
    s.cabQuietClear.timers.t5 = s.timers.t5 ∧ s.cabQuietClear.timers.t6 = s.timers.t6 ∧
    s.cabQuietClear.timers.t7 = s.timers.t7 := by
  simp only [State.cabQuietClear]
  repeat' split
  all_goals simp

@[simp] theorem State.presentLights_keeps (s : State) (os : List Order) :
    (s.presentLights os).clock = s.clock ∧ (s.presentLights os).orders = s.orders ∧
    (s.presentLights os).alloc = s.alloc ∧ (s.presentLights os).charge = s.charge ∧
    (s.presentLights os).accounts = s.accounts ∧ (s.presentLights os).transport = s.transport ∧
    (s.presentLights os).quiet = s.quiet ∧ (s.presentLights os).warn = s.warn ∧
    (s.presentLights os).sense = s.sense ∧ (s.presentLights os).heater = s.heater ∧
    (s.presentLights os).fridge = s.fridge ∧ (s.presentLights os).port = s.port ∧ (s.presentLights os).rst = s.rst ∧
    (s.presentLights os).pending = s.pending ∧ (s.presentLights os).lights.quietCap = s.lights.quietCap ∧
    (s.presentLights os).timers.t4 = s.timers.t4 ∧ (s.presentLights os).timers.t5 = s.timers.t5 ∧
    (s.presentLights os).timers.t6 = s.timers.t6 ∧ (s.presentLights os).timers.t7 = s.timers.t7 := by
  simp [State.presentLights]

end Sys2Proof.Machine
end

