-- ==== Sys2Proof/Laws/PassFrames.lean ====
section
/-! SUPPORT. What stage 8 and the allocation pass leave as they were. -/
namespace Sys2Proof.Machine

@[simp] theorem State.presentAll_keeps (s : State) (os : List Order) :
    (s.presentAll os).clock = s.clock ∧ (s.presentAll os).orders = s.orders ∧ (s.presentAll os).alloc = s.alloc ∧
    (s.presentAll os).charge = s.charge ∧ (s.presentAll os).accounts = s.accounts ∧
    (s.presentAll os).transport = s.transport ∧ (s.presentAll os).quiet = s.quiet ∧
    (s.presentAll os).sense = s.sense ∧ (s.presentAll os).pending = s.pending ∧
    (s.presentAll os).port.mode = s.port.mode ∧ (s.presentAll os).port.asleep = s.port.asleep ∧
    (s.presentAll os).port.reply = s.port.reply ∧ (s.presentAll os).port.miso = s.port.miso ∧
    (s.presentAll os).port.inFrame = s.port.inFrame ∧ (s.presentAll os).port.asleepAtStart = s.port.asleepAtStart ∧
    (s.presentAll os).port.enables = s.port.enables ∧ (s.presentAll os).port.mask = s.port.mask ∧
    (s.presentAll os).port.unanswered = s.port.unanswered ∧ (s.presentAll os).port.selfTest = s.port.selfTest ∧
    (s.presentAll os).port.cause = s.port.cause ∧ (s.presentAll os).port.initMode = s.port.initMode ∧
    (s.presentAll os).lights.quietCap = s.lights.quietCap ∧ (s.presentAll os).rst.asserted = s.rst.asserted ∧
    (s.presentAll os).heater.params = s.heater.params ∧ (s.presentAll os).heater.fuel = s.heater.fuel ∧
    (s.presentAll os).heater.failed = s.heater.failed ∧ (s.presentAll os).fridge.minOff = s.fridge.minOff ∧
    (s.presentAll os).fridge.stalls = s.fridge.stalls ∧ (s.presentAll os).fridge.call = s.fridge.call ∧
    (s.presentAll os).rst.heldWakes = s.rst.heldWakes ∧ (s.presentAll os).rst.accountNotice = s.rst.accountNotice ∧
    (s.presentAll os).rst.heaterMoved = s.rst.heaterMoved ∧ (s.presentAll os).rst.fridgeMoved = s.rst.fridgeMoved ∧
    (s.presentAll os).timers.t7 = s.timers.t7 := by
  simp [State.presentAll]

@[simp] theorem State.pass_keeps (s : State) :
    s.pass.clock = s.clock ∧ s.pass.charge = s.charge ∧ s.pass.accounts = s.accounts ∧
    s.pass.transport = s.transport ∧ s.pass.quiet = s.quiet ∧ s.pass.sense = s.sense ∧ s.pass.pending = s.pending ∧
    s.pass.alloc.horizon = s.alloc.horizon ∧ s.pass.alloc.keepMargin = s.alloc.keepMargin ∧
    s.pass.alloc.heaterDraw = s.alloc.heaterDraw ∧ s.pass.alloc.heaterStart = s.alloc.heaterStart ∧
    s.pass.alloc.fridgeDraw = s.alloc.fridgeDraw ∧ s.pass.alloc.fridgeDuty = s.alloc.fridgeDuty ∧
    s.pass.port.mode = s.port.mode ∧ s.pass.port.asleep = s.port.asleep ∧ s.pass.port.reply = s.port.reply ∧
    s.pass.port.miso = s.port.miso ∧ s.pass.port.inFrame = s.port.inFrame ∧
    s.pass.port.asleepAtStart = s.port.asleepAtStart ∧ s.pass.port.enables = s.port.enables ∧
    s.pass.port.mask = s.port.mask ∧ s.pass.port.unanswered = s.port.unanswered ∧
    s.pass.port.selfTest = s.port.selfTest ∧ s.pass.port.cause = s.port.cause ∧
    s.pass.port.initMode = s.port.initMode ∧ s.pass.lights.quietCap = s.lights.quietCap ∧
    s.pass.rst.asserted = s.rst.asserted ∧ s.pass.heater.params = s.heater.params ∧
    s.pass.heater.fuel = s.heater.fuel ∧ s.pass.heater.failed = s.heater.failed ∧
    s.pass.fridge.minOff = s.fridge.minOff ∧ s.pass.fridge.stalls = s.fridge.stalls ∧
    s.pass.fridge.call = s.fridge.call ∧ s.pass.rst.heldWakes = s.rst.heldWakes ∧
    s.pass.rst.accountNotice = s.rst.accountNotice ∧ s.pass.rst.heaterMoved = s.rst.heaterMoved ∧
    s.pass.rst.fridgeMoved = s.rst.fridgeMoved ∧ s.pass.timers.t7 = s.timers.t7 := by
  simp only [State.pass]
  repeat' split
  all_goals simp

@[simp] theorem State.passIf_keeps (s : State) (b : Bool) :
    (s.passIf b).clock = s.clock ∧ (s.passIf b).charge = s.charge ∧ (s.passIf b).accounts = s.accounts ∧
    (s.passIf b).transport = s.transport ∧ (s.passIf b).quiet = s.quiet ∧ (s.passIf b).sense = s.sense ∧
    (s.passIf b).pending = s.pending ∧ (s.passIf b).alloc.horizon = s.alloc.horizon ∧
    (s.passIf b).alloc.keepMargin = s.alloc.keepMargin ∧ (s.passIf b).alloc.heaterDraw = s.alloc.heaterDraw ∧
    (s.passIf b).alloc.heaterStart = s.alloc.heaterStart ∧ (s.passIf b).alloc.fridgeDraw = s.alloc.fridgeDraw ∧
    (s.passIf b).alloc.fridgeDuty = s.alloc.fridgeDuty ∧ (s.passIf b).port.mode = s.port.mode ∧
    (s.passIf b).port.asleep = s.port.asleep ∧ (s.passIf b).port.reply = s.port.reply ∧
    (s.passIf b).port.miso = s.port.miso ∧ (s.passIf b).port.inFrame = s.port.inFrame ∧
    (s.passIf b).port.asleepAtStart = s.port.asleepAtStart ∧ (s.passIf b).port.enables = s.port.enables ∧
    (s.passIf b).port.mask = s.port.mask ∧ (s.passIf b).port.unanswered = s.port.unanswered ∧
    (s.passIf b).port.selfTest = s.port.selfTest ∧ (s.passIf b).port.cause = s.port.cause ∧
    (s.passIf b).port.initMode = s.port.initMode ∧ (s.passIf b).lights.quietCap = s.lights.quietCap ∧
    (s.passIf b).rst.asserted = s.rst.asserted ∧ (s.passIf b).heater.params = s.heater.params ∧
    (s.passIf b).heater.fuel = s.heater.fuel ∧ (s.passIf b).heater.failed = s.heater.failed ∧
    (s.passIf b).fridge.minOff = s.fridge.minOff ∧ (s.passIf b).fridge.stalls = s.fridge.stalls ∧
    (s.passIf b).fridge.call = s.fridge.call ∧ (s.passIf b).rst.heldWakes = s.rst.heldWakes ∧
    (s.passIf b).rst.accountNotice = s.rst.accountNotice ∧ (s.passIf b).rst.heaterMoved = s.rst.heaterMoved ∧
    (s.passIf b).rst.fridgeMoved = s.rst.fridgeMoved ∧ (s.passIf b).timers.t7 = s.timers.t7 := by
  simp only [State.passIf]
  repeat' split
  all_goals simp

end Sys2Proof.Machine
end

