-- ==== Sys2Proof/Laws/AccountFrames.lean ====
section
/-! SUPPORT. What each operation of the rest accounts, and a placement by the part, leaves as it was. -/
namespace Sys2Proof.Machine

@[simp] theorem State.updAccount_keeps (s : State) (i : Slot) (f : Account → Account) :
    (s.updAccount i f).clock = s.clock ∧ (s.updAccount i f).orders = s.orders ∧ (s.updAccount i f).alloc = s.alloc ∧
    (s.updAccount i f).charge = s.charge ∧ (s.updAccount i f).transport = s.transport ∧
    (s.updAccount i f).quiet = s.quiet ∧ (s.updAccount i f).warn = s.warn ∧ (s.updAccount i f).sense = s.sense ∧
    (s.updAccount i f).timers = s.timers ∧ (s.updAccount i f).heater = s.heater ∧
    (s.updAccount i f).fridge = s.fridge ∧ (s.updAccount i f).lights = s.lights ∧ (s.updAccount i f).port = s.port ∧
    (s.updAccount i f).rst = s.rst ∧ (s.updAccount i f).pending = s.pending := by
  simp only [State.updAccount]
  repeat' split
  all_goals simp

@[simp] theorem State.placePart_keeps (s : State) (o : Order) :
    (s.placePart o).clock = s.clock ∧ (s.placePart o).alloc = s.alloc ∧ (s.placePart o).charge = s.charge ∧
    (s.placePart o).accounts = s.accounts ∧ (s.placePart o).transport = s.transport ∧
    (s.placePart o).quiet = s.quiet ∧ (s.placePart o).warn = s.warn ∧ (s.placePart o).sense = s.sense ∧
    (s.placePart o).timers = s.timers ∧ (s.placePart o).heater = s.heater ∧ (s.placePart o).fridge = s.fridge ∧
    (s.placePart o).lights = s.lights ∧ (s.placePart o).rst = s.rst ∧ (s.placePart o).pending = s.pending ∧
    (s.placePart o).port.mode = s.port.mode ∧ (s.placePart o).port.asleep = s.port.asleep ∧
    (s.placePart o).port.reply = s.port.reply ∧ (s.placePart o).port.miso = s.port.miso ∧
    (s.placePart o).port.inFrame = s.port.inFrame ∧ (s.placePart o).port.asleepAtStart = s.port.asleepAtStart ∧
    (s.placePart o).port.enables = s.port.enables ∧ (s.placePart o).port.mask = s.port.mask ∧
    (s.placePart o).port.unanswered = s.port.unanswered ∧ (s.placePart o).port.selfTest = s.port.selfTest ∧
    (s.placePart o).port.cause = s.port.cause ∧ (s.placePart o).port.initMode = s.port.initMode := by
  simp only [State.placePart]
  repeat' split
  all_goals simp

@[simp] theorem State.testDriving_keeps (s : State) (i : Slot) :
    (s.testDriving i).clock = s.clock ∧ (s.testDriving i).orders = s.orders ∧ (s.testDriving i).alloc = s.alloc ∧
    (s.testDriving i).charge = s.charge ∧ (s.testDriving i).accounts = s.accounts ∧
    (s.testDriving i).transport = s.transport ∧ (s.testDriving i).quiet = s.quiet ∧
    (s.testDriving i).sense = s.sense ∧ (s.testDriving i).heater = s.heater ∧ (s.testDriving i).fridge = s.fridge ∧
    (s.testDriving i).lights = s.lights ∧ (s.testDriving i).pending = s.pending ∧
    (s.testDriving i).port.mode = s.port.mode ∧ (s.testDriving i).port.asleep = s.port.asleep ∧
    (s.testDriving i).port.reply = s.port.reply ∧ (s.testDriving i).port.miso = s.port.miso ∧
    (s.testDriving i).port.inFrame = s.port.inFrame ∧ (s.testDriving i).port.asleepAtStart = s.port.asleepAtStart ∧
    (s.testDriving i).port.enables = s.port.enables ∧ (s.testDriving i).port.mask = s.port.mask ∧
    (s.testDriving i).port.unanswered = s.port.unanswered ∧ (s.testDriving i).port.selfTest = s.port.selfTest ∧
    (s.testDriving i).port.cause = s.port.cause ∧ (s.testDriving i).port.initMode = s.port.initMode ∧
    (s.testDriving i).rst.asserted = s.rst.asserted ∧ (s.testDriving i).rst.heldWakes = s.rst.heldWakes ∧
    (s.testDriving i).rst.accountNotice = s.rst.accountNotice ∧
    (s.testDriving i).rst.heaterMoved = s.rst.heaterMoved ∧ (s.testDriving i).rst.fridgeMoved = s.rst.fridgeMoved ∧
    (s.testDriving i).timers.t0 = s.timers.t0 ∧ (s.testDriving i).timers.t1 = s.timers.t1 ∧
    (s.testDriving i).timers.t2 = s.timers.t2 ∧ (s.testDriving i).timers.t3 = s.timers.t3 ∧
    (s.testDriving i).timers.t4 = s.timers.t4 ∧ (s.testDriving i).timers.t5 = s.timers.t5 ∧
    (s.testDriving i).timers.t6 = s.timers.t6 := by
  simp only [State.testDriving]
  repeat' split
  all_goals simp

@[simp] theorem State.testBreak_keeps (s : State) (i : Slot) :
    (s.testBreak i).clock = s.clock ∧ (s.testBreak i).orders = s.orders ∧ (s.testBreak i).alloc = s.alloc ∧
    (s.testBreak i).charge = s.charge ∧ (s.testBreak i).transport = s.transport ∧ (s.testBreak i).quiet = s.quiet ∧
    (s.testBreak i).sense = s.sense ∧ (s.testBreak i).heater = s.heater ∧ (s.testBreak i).fridge = s.fridge ∧
    (s.testBreak i).lights = s.lights ∧ (s.testBreak i).pending = s.pending ∧
    (s.testBreak i).port.mode = s.port.mode ∧ (s.testBreak i).port.asleep = s.port.asleep ∧
    (s.testBreak i).port.reply = s.port.reply ∧ (s.testBreak i).port.miso = s.port.miso ∧
    (s.testBreak i).port.inFrame = s.port.inFrame ∧ (s.testBreak i).port.asleepAtStart = s.port.asleepAtStart ∧
    (s.testBreak i).port.enables = s.port.enables ∧ (s.testBreak i).port.mask = s.port.mask ∧
    (s.testBreak i).port.unanswered = s.port.unanswered ∧ (s.testBreak i).port.selfTest = s.port.selfTest ∧
    (s.testBreak i).port.cause = s.port.cause ∧ (s.testBreak i).port.initMode = s.port.initMode ∧
    (s.testBreak i).rst.asserted = s.rst.asserted ∧ (s.testBreak i).rst.heldWakes = s.rst.heldWakes ∧
    (s.testBreak i).rst.accountNotice = s.rst.accountNotice ∧ (s.testBreak i).rst.heaterMoved = s.rst.heaterMoved ∧
    (s.testBreak i).rst.fridgeMoved = s.rst.fridgeMoved ∧ (s.testBreak i).timers.t0 = s.timers.t0 ∧
    (s.testBreak i).timers.t1 = s.timers.t1 ∧ (s.testBreak i).timers.t2 = s.timers.t2 ∧
    (s.testBreak i).timers.t3 = s.timers.t3 ∧ (s.testBreak i).timers.t4 = s.timers.t4 ∧
    (s.testBreak i).timers.t5 = s.timers.t5 ∧ (s.testBreak i).timers.t6 = s.timers.t6 := by
  simp only [State.testBreak]
  repeat' split
  all_goals simp

@[simp] theorem State.applyStaged_keeps (s : State) (i : Slot) :
    (s.applyStaged i).clock = s.clock ∧ (s.applyStaged i).orders = s.orders ∧ (s.applyStaged i).alloc = s.alloc ∧
    (s.applyStaged i).charge = s.charge ∧ (s.applyStaged i).transport = s.transport ∧
    (s.applyStaged i).quiet = s.quiet ∧ (s.applyStaged i).sense = s.sense ∧ (s.applyStaged i).heater = s.heater ∧
    (s.applyStaged i).fridge = s.fridge ∧ (s.applyStaged i).lights = s.lights ∧
    (s.applyStaged i).pending = s.pending ∧ (s.applyStaged i).port.mode = s.port.mode ∧
    (s.applyStaged i).port.asleep = s.port.asleep ∧ (s.applyStaged i).port.reply = s.port.reply ∧
    (s.applyStaged i).port.miso = s.port.miso ∧ (s.applyStaged i).port.inFrame = s.port.inFrame ∧
    (s.applyStaged i).port.asleepAtStart = s.port.asleepAtStart ∧ (s.applyStaged i).port.enables = s.port.enables ∧
    (s.applyStaged i).port.mask = s.port.mask ∧ (s.applyStaged i).port.unanswered = s.port.unanswered ∧
    (s.applyStaged i).port.selfTest = s.port.selfTest ∧ (s.applyStaged i).port.cause = s.port.cause ∧
    (s.applyStaged i).port.initMode = s.port.initMode ∧ (s.applyStaged i).rst.asserted = s.rst.asserted ∧
    (s.applyStaged i).rst.heldWakes = s.rst.heldWakes ∧ (s.applyStaged i).rst.heaterMoved = s.rst.heaterMoved ∧
    (s.applyStaged i).rst.fridgeMoved = s.rst.fridgeMoved ∧ (s.applyStaged i).timers.t0 = s.timers.t0 ∧
    (s.applyStaged i).timers.t1 = s.timers.t1 ∧ (s.applyStaged i).timers.t2 = s.timers.t2 ∧
    (s.applyStaged i).timers.t3 = s.timers.t3 ∧ (s.applyStaged i).timers.t4 = s.timers.t4 ∧
    (s.applyStaged i).timers.t5 = s.timers.t5 ∧ (s.applyStaged i).timers.t6 = s.timers.t6 := by
  simp only [State.applyStaged]
  repeat' split
  all_goals simp

@[simp] theorem State.placeWake_keeps (s : State) (d : Side) (l f : Nat) :
    (s.placeWake d l f).clock = s.clock ∧ (s.placeWake d l f).alloc = s.alloc ∧
    (s.placeWake d l f).charge = s.charge ∧ (s.placeWake d l f).accounts = s.accounts ∧
    (s.placeWake d l f).transport = s.transport ∧ (s.placeWake d l f).quiet = s.quiet ∧
    (s.placeWake d l f).warn = s.warn ∧ (s.placeWake d l f).sense = s.sense ∧
    (s.placeWake d l f).timers = s.timers ∧ (s.placeWake d l f).heater = s.heater ∧
    (s.placeWake d l f).fridge = s.fridge ∧ (s.placeWake d l f).lights = s.lights ∧
    (s.placeWake d l f).pending = s.pending ∧ (s.placeWake d l f).port.mode = s.port.mode ∧
    (s.placeWake d l f).port.asleep = s.port.asleep ∧ (s.placeWake d l f).port.reply = s.port.reply ∧
    (s.placeWake d l f).port.miso = s.port.miso ∧ (s.placeWake d l f).port.inFrame = s.port.inFrame ∧
    (s.placeWake d l f).port.asleepAtStart = s.port.asleepAtStart ∧
    (s.placeWake d l f).port.enables = s.port.enables ∧ (s.placeWake d l f).port.mask = s.port.mask ∧
    (s.placeWake d l f).port.unanswered = s.port.unanswered ∧ (s.placeWake d l f).port.selfTest = s.port.selfTest ∧
    (s.placeWake d l f).port.cause = s.port.cause ∧ (s.placeWake d l f).port.initMode = s.port.initMode ∧
    (s.placeWake d l f).rst.asserted = s.rst.asserted ∧ (s.placeWake d l f).rst.heldWarnings = s.rst.heldWarnings ∧
    (s.placeWake d l f).rst.accountNotice = s.rst.accountNotice ∧
    (s.placeWake d l f).rst.heaterMoved = s.rst.heaterMoved ∧
    (s.placeWake d l f).rst.fridgeMoved = s.rst.fridgeMoved := by
  simp only [State.placeWake]
  repeat' split
  all_goals simp

@[simp] theorem State.wakeFor_keeps (s : State) (a : Account) :
    (s.wakeFor a).clock = s.clock ∧ (s.wakeFor a).alloc = s.alloc ∧ (s.wakeFor a).charge = s.charge ∧
    (s.wakeFor a).accounts = s.accounts ∧ (s.wakeFor a).transport = s.transport ∧ (s.wakeFor a).quiet = s.quiet ∧
    (s.wakeFor a).warn = s.warn ∧ (s.wakeFor a).sense = s.sense ∧ (s.wakeFor a).timers = s.timers ∧
    (s.wakeFor a).heater = s.heater ∧ (s.wakeFor a).fridge = s.fridge ∧ (s.wakeFor a).lights = s.lights ∧
    (s.wakeFor a).pending = s.pending ∧ (s.wakeFor a).port.mode = s.port.mode ∧
    (s.wakeFor a).port.asleep = s.port.asleep ∧ (s.wakeFor a).port.reply = s.port.reply ∧
    (s.wakeFor a).port.miso = s.port.miso ∧ (s.wakeFor a).port.inFrame = s.port.inFrame ∧
    (s.wakeFor a).port.asleepAtStart = s.port.asleepAtStart ∧ (s.wakeFor a).port.enables = s.port.enables ∧
    (s.wakeFor a).port.mask = s.port.mask ∧ (s.wakeFor a).port.unanswered = s.port.unanswered ∧
    (s.wakeFor a).port.selfTest = s.port.selfTest ∧ (s.wakeFor a).port.cause = s.port.cause ∧
    (s.wakeFor a).port.initMode = s.port.initMode ∧ (s.wakeFor a).rst.asserted = s.rst.asserted ∧
    (s.wakeFor a).rst.heldWarnings = s.rst.heldWarnings ∧ (s.wakeFor a).rst.accountNotice = s.rst.accountNotice ∧
    (s.wakeFor a).rst.heaterMoved = s.rst.heaterMoved ∧ (s.wakeFor a).rst.fridgeMoved = s.rst.fridgeMoved := by
  simp only [State.wakeFor]
  repeat' split
  all_goals simp

@[simp] theorem State.fireRestDone_keeps (s : State) (i : Slot) (a : Account) :
    (s.fireRestDone i a).clock = s.clock ∧ (s.fireRestDone i a).alloc = s.alloc ∧
    (s.fireRestDone i a).charge = s.charge ∧ (s.fireRestDone i a).transport = s.transport ∧
    (s.fireRestDone i a).quiet = s.quiet ∧ (s.fireRestDone i a).sense = s.sense ∧
    (s.fireRestDone i a).heater = s.heater ∧ (s.fireRestDone i a).fridge = s.fridge ∧
    (s.fireRestDone i a).lights = s.lights ∧ (s.fireRestDone i a).pending = s.pending ∧
    (s.fireRestDone i a).port.mode = s.port.mode ∧ (s.fireRestDone i a).port.asleep = s.port.asleep ∧
    (s.fireRestDone i a).port.reply = s.port.reply ∧ (s.fireRestDone i a).port.miso = s.port.miso ∧
    (s.fireRestDone i a).port.inFrame = s.port.inFrame ∧
    (s.fireRestDone i a).port.asleepAtStart = s.port.asleepAtStart ∧
    (s.fireRestDone i a).port.enables = s.port.enables ∧ (s.fireRestDone i a).port.mask = s.port.mask ∧
    (s.fireRestDone i a).port.unanswered = s.port.unanswered ∧
    (s.fireRestDone i a).port.selfTest = s.port.selfTest ∧ (s.fireRestDone i a).port.cause = s.port.cause ∧
    (s.fireRestDone i a).port.initMode = s.port.initMode ∧ (s.fireRestDone i a).rst.asserted = s.rst.asserted ∧
    (s.fireRestDone i a).rst.heaterMoved = s.rst.heaterMoved ∧
    (s.fireRestDone i a).rst.fridgeMoved = s.rst.fridgeMoved ∧ (s.fireRestDone i a).timers.t0 = s.timers.t0 ∧
    (s.fireRestDone i a).timers.t1 = s.timers.t1 ∧ (s.fireRestDone i a).timers.t2 = s.timers.t2 ∧
    (s.fireRestDone i a).timers.t3 = s.timers.t3 ∧ (s.fireRestDone i a).timers.t4 = s.timers.t4 ∧
    (s.fireRestDone i a).timers.t5 = s.timers.t5 ∧ (s.fireRestDone i a).timers.t6 = s.timers.t6 := by
  simp [State.fireRestDone]

@[simp] theorem State.testRestDone_keeps (s : State) (i : Slot) :
    (s.testRestDone i).clock = s.clock ∧ (s.testRestDone i).alloc = s.alloc ∧ (s.testRestDone i).charge = s.charge ∧
    (s.testRestDone i).transport = s.transport ∧ (s.testRestDone i).quiet = s.quiet ∧
    (s.testRestDone i).sense = s.sense ∧ (s.testRestDone i).heater = s.heater ∧
    (s.testRestDone i).fridge = s.fridge ∧ (s.testRestDone i).lights = s.lights ∧
    (s.testRestDone i).pending = s.pending ∧ (s.testRestDone i).port.mode = s.port.mode ∧
    (s.testRestDone i).port.asleep = s.port.asleep ∧ (s.testRestDone i).port.reply = s.port.reply ∧
    (s.testRestDone i).port.miso = s.port.miso ∧ (s.testRestDone i).port.inFrame = s.port.inFrame ∧
    (s.testRestDone i).port.asleepAtStart = s.port.asleepAtStart ∧
    (s.testRestDone i).port.enables = s.port.enables ∧ (s.testRestDone i).port.mask = s.port.mask ∧
    (s.testRestDone i).port.unanswered = s.port.unanswered ∧ (s.testRestDone i).port.selfTest = s.port.selfTest ∧
    (s.testRestDone i).port.cause = s.port.cause ∧ (s.testRestDone i).port.initMode = s.port.initMode ∧
    (s.testRestDone i).rst.asserted = s.rst.asserted ∧ (s.testRestDone i).rst.heaterMoved = s.rst.heaterMoved ∧
    (s.testRestDone i).rst.fridgeMoved = s.rst.fridgeMoved ∧ (s.testRestDone i).timers.t0 = s.timers.t0 ∧
    (s.testRestDone i).timers.t1 = s.timers.t1 ∧ (s.testRestDone i).timers.t2 = s.timers.t2 ∧
    (s.testRestDone i).timers.t3 = s.timers.t3 ∧ (s.testRestDone i).timers.t4 = s.timers.t4 ∧
    (s.testRestDone i).timers.t5 = s.timers.t5 ∧ (s.testRestDone i).timers.t6 = s.timers.t6 := by
  simp only [State.testRestDone]
  repeat' split
  all_goals simp

@[simp] theorem State.takeRestDone_keeps (s : State) (i : Slot) :
    (s.takeRestDone i).clock = s.clock ∧ (s.takeRestDone i).charge = s.charge ∧
    (s.takeRestDone i).transport = s.transport ∧ (s.takeRestDone i).quiet = s.quiet ∧
    (s.takeRestDone i).sense = s.sense ∧ (s.takeRestDone i).pending = s.pending ∧
    (s.takeRestDone i).alloc.horizon = s.alloc.horizon ∧ (s.takeRestDone i).alloc.keepMargin = s.alloc.keepMargin ∧
    (s.takeRestDone i).alloc.heaterDraw = s.alloc.heaterDraw ∧
    (s.takeRestDone i).alloc.heaterStart = s.alloc.heaterStart ∧
    (s.takeRestDone i).alloc.fridgeDraw = s.alloc.fridgeDraw ∧
    (s.takeRestDone i).alloc.fridgeDuty = s.alloc.fridgeDuty ∧ (s.takeRestDone i).port.mode = s.port.mode ∧
    (s.takeRestDone i).port.asleep = s.port.asleep ∧ (s.takeRestDone i).port.reply = s.port.reply ∧
    (s.takeRestDone i).port.miso = s.port.miso ∧ (s.takeRestDone i).port.inFrame = s.port.inFrame ∧
    (s.takeRestDone i).port.asleepAtStart = s.port.asleepAtStart ∧
    (s.takeRestDone i).port.enables = s.port.enables ∧ (s.takeRestDone i).port.mask = s.port.mask ∧
    (s.takeRestDone i).port.unanswered = s.port.unanswered ∧ (s.takeRestDone i).port.selfTest = s.port.selfTest ∧
    (s.takeRestDone i).port.cause = s.port.cause ∧ (s.takeRestDone i).port.initMode = s.port.initMode ∧
    (s.takeRestDone i).lights.quietCap = s.lights.quietCap ∧ (s.takeRestDone i).rst.asserted = s.rst.asserted ∧
    (s.takeRestDone i).heater.params = s.heater.params ∧ (s.takeRestDone i).heater.fuel = s.heater.fuel ∧
    (s.takeRestDone i).heater.failed = s.heater.failed ∧ (s.takeRestDone i).fridge.minOff = s.fridge.minOff ∧
    (s.takeRestDone i).fridge.stalls = s.fridge.stalls ∧ (s.takeRestDone i).fridge.call = s.fridge.call ∧
    (s.takeRestDone i).rst.heaterMoved = s.rst.heaterMoved ∧
        (s.takeRestDone i).rst.fridgeMoved = s.rst.fridgeMoved := by
  simp only [State.takeRestDone]
  repeat' split
  all_goals simp

@[simp] theorem State.startSegment_keeps (s : State) (i : Slot) :
    (s.startSegment i).clock = s.clock ∧ (s.startSegment i).alloc = s.alloc ∧ (s.startSegment i).charge = s.charge ∧
    (s.startSegment i).transport = s.transport ∧ (s.startSegment i).quiet = s.quiet ∧
    (s.startSegment i).sense = s.sense ∧ (s.startSegment i).heater = s.heater ∧
    (s.startSegment i).fridge = s.fridge ∧ (s.startSegment i).lights = s.lights ∧
    (s.startSegment i).pending = s.pending ∧ (s.startSegment i).port.mode = s.port.mode ∧
    (s.startSegment i).port.asleep = s.port.asleep ∧ (s.startSegment i).port.reply = s.port.reply ∧
    (s.startSegment i).port.miso = s.port.miso ∧ (s.startSegment i).port.inFrame = s.port.inFrame ∧
    (s.startSegment i).port.asleepAtStart = s.port.asleepAtStart ∧
    (s.startSegment i).port.enables = s.port.enables ∧ (s.startSegment i).port.mask = s.port.mask ∧
    (s.startSegment i).port.unanswered = s.port.unanswered ∧ (s.startSegment i).port.selfTest = s.port.selfTest ∧
    (s.startSegment i).port.cause = s.port.cause ∧ (s.startSegment i).port.initMode = s.port.initMode ∧
    (s.startSegment i).rst.asserted = s.rst.asserted ∧ (s.startSegment i).rst.heaterMoved = s.rst.heaterMoved ∧
    (s.startSegment i).rst.fridgeMoved = s.rst.fridgeMoved ∧ (s.startSegment i).timers.t0 = s.timers.t0 ∧
    (s.startSegment i).timers.t1 = s.timers.t1 ∧ (s.startSegment i).timers.t2 = s.timers.t2 ∧
    (s.startSegment i).timers.t3 = s.timers.t3 ∧ (s.startSegment i).timers.t4 = s.timers.t4 ∧
    (s.startSegment i).timers.t5 = s.timers.t5 ∧ (s.startSegment i).timers.t6 = s.timers.t6 := by
  simp [State.startSegment]

@[simp] theorem State.closeSegment_keeps (s : State) (i : Slot) :
    (s.closeSegment i).clock = s.clock ∧ (s.closeSegment i).orders = s.orders ∧ (s.closeSegment i).alloc = s.alloc ∧
    (s.closeSegment i).charge = s.charge ∧ (s.closeSegment i).transport = s.transport ∧
    (s.closeSegment i).quiet = s.quiet ∧ (s.closeSegment i).sense = s.sense ∧ (s.closeSegment i).heater = s.heater ∧
    (s.closeSegment i).fridge = s.fridge ∧ (s.closeSegment i).lights = s.lights ∧
    (s.closeSegment i).pending = s.pending ∧ (s.closeSegment i).port.mode = s.port.mode ∧
    (s.closeSegment i).port.asleep = s.port.asleep ∧ (s.closeSegment i).port.reply = s.port.reply ∧
    (s.closeSegment i).port.miso = s.port.miso ∧ (s.closeSegment i).port.inFrame = s.port.inFrame ∧
    (s.closeSegment i).port.asleepAtStart = s.port.asleepAtStart ∧
    (s.closeSegment i).port.enables = s.port.enables ∧ (s.closeSegment i).port.mask = s.port.mask ∧
    (s.closeSegment i).port.unanswered = s.port.unanswered ∧ (s.closeSegment i).port.selfTest = s.port.selfTest ∧
    (s.closeSegment i).port.cause = s.port.cause ∧ (s.closeSegment i).port.initMode = s.port.initMode ∧
    (s.closeSegment i).rst.asserted = s.rst.asserted ∧ (s.closeSegment i).rst.heldWakes = s.rst.heldWakes ∧
    (s.closeSegment i).rst.accountNotice = s.rst.accountNotice ∧
    (s.closeSegment i).rst.heaterMoved = s.rst.heaterMoved ∧
    (s.closeSegment i).rst.fridgeMoved = s.rst.fridgeMoved ∧ (s.closeSegment i).timers.t0 = s.timers.t0 ∧
    (s.closeSegment i).timers.t1 = s.timers.t1 ∧ (s.closeSegment i).timers.t2 = s.timers.t2 ∧
    (s.closeSegment i).timers.t3 = s.timers.t3 ∧ (s.closeSegment i).timers.t4 = s.timers.t4 ∧
    (s.closeSegment i).timers.t5 = s.timers.t5 ∧ (s.closeSegment i).timers.t6 = s.timers.t6 := by
  simp only [State.closeSegment]
  repeat' split
  all_goals simp

@[simp] theorem State.closeIfResting_keeps (s : State) (i : Slot) :
    (s.closeIfResting i).clock = s.clock ∧ (s.closeIfResting i).orders = s.orders ∧
    (s.closeIfResting i).alloc = s.alloc ∧ (s.closeIfResting i).charge = s.charge ∧
    (s.closeIfResting i).transport = s.transport ∧ (s.closeIfResting i).quiet = s.quiet ∧
    (s.closeIfResting i).sense = s.sense ∧ (s.closeIfResting i).heater = s.heater ∧
    (s.closeIfResting i).fridge = s.fridge ∧ (s.closeIfResting i).lights = s.lights ∧
    (s.closeIfResting i).pending = s.pending ∧ (s.closeIfResting i).port.mode = s.port.mode ∧
    (s.closeIfResting i).port.asleep = s.port.asleep ∧ (s.closeIfResting i).port.reply = s.port.reply ∧
    (s.closeIfResting i).port.miso = s.port.miso ∧ (s.closeIfResting i).port.inFrame = s.port.inFrame ∧
    (s.closeIfResting i).port.asleepAtStart = s.port.asleepAtStart ∧
    (s.closeIfResting i).port.enables = s.port.enables ∧ (s.closeIfResting i).port.mask = s.port.mask ∧
    (s.closeIfResting i).port.unanswered = s.port.unanswered ∧
    (s.closeIfResting i).port.selfTest = s.port.selfTest ∧ (s.closeIfResting i).port.cause = s.port.cause ∧
    (s.closeIfResting i).port.initMode = s.port.initMode ∧ (s.closeIfResting i).rst.asserted = s.rst.asserted ∧
    (s.closeIfResting i).rst.heldWakes = s.rst.heldWakes ∧
    (s.closeIfResting i).rst.accountNotice = s.rst.accountNotice ∧
    (s.closeIfResting i).rst.heaterMoved = s.rst.heaterMoved ∧
    (s.closeIfResting i).rst.fridgeMoved = s.rst.fridgeMoved ∧ (s.closeIfResting i).timers.t0 = s.timers.t0 ∧
    (s.closeIfResting i).timers.t1 = s.timers.t1 ∧ (s.closeIfResting i).timers.t2 = s.timers.t2 ∧
    (s.closeIfResting i).timers.t3 = s.timers.t3 ∧ (s.closeIfResting i).timers.t4 = s.timers.t4 ∧
    (s.closeIfResting i).timers.t5 = s.timers.t5 ∧ (s.closeIfResting i).timers.t6 = s.timers.t6 := by
  simp only [State.closeIfResting]
  repeat' split
  all_goals simp

@[simp] theorem State.workQuiet_keeps (s : State) :
    s.workQuiet.clock = s.clock ∧ s.workQuiet.orders = s.orders ∧ s.workQuiet.alloc = s.alloc ∧
    s.workQuiet.charge = s.charge ∧ s.workQuiet.accounts = s.accounts ∧ s.workQuiet.transport = s.transport ∧
    s.workQuiet.warn = s.warn ∧ s.workQuiet.sense = s.sense ∧ s.workQuiet.pending = s.pending ∧
    s.workQuiet.port.mode = s.port.mode ∧ s.workQuiet.port.asleep = s.port.asleep ∧
    s.workQuiet.port.reply = s.port.reply ∧ s.workQuiet.port.miso = s.port.miso ∧
    s.workQuiet.port.inFrame = s.port.inFrame ∧ s.workQuiet.port.asleepAtStart = s.port.asleepAtStart ∧
    s.workQuiet.port.enables = s.port.enables ∧ s.workQuiet.port.mask = s.port.mask ∧
    s.workQuiet.port.unanswered = s.port.unanswered ∧ s.workQuiet.port.selfTest = s.port.selfTest ∧
    s.workQuiet.port.cause = s.port.cause ∧ s.workQuiet.port.initMode = s.port.initMode ∧
    s.workQuiet.rst.asserted = s.rst.asserted ∧ s.workQuiet.lights.quietCap = s.lights.quietCap ∧
    s.workQuiet.heater.params = s.heater.params ∧ s.workQuiet.heater.failed = s.heater.failed ∧
    s.workQuiet.heater.presented = s.heater.presented ∧ s.workQuiet.fridge.minOff = s.fridge.minOff ∧
    s.workQuiet.fridge.presented = s.fridge.presented ∧ s.workQuiet.fridge.stalls = s.fridge.stalls ∧
    s.workQuiet.fridge.call = s.fridge.call ∧ s.workQuiet.rst.heldWarnings = s.rst.heldWarnings ∧
    s.workQuiet.rst.heldWakes = s.rst.heldWakes ∧ s.workQuiet.rst.heaterMoved = s.rst.heaterMoved ∧
    s.workQuiet.rst.fridgeMoved = s.rst.fridgeMoved ∧ s.workQuiet.timers.t7 = s.timers.t7 := by
  simp only [State.workQuiet]
  repeat' split
  all_goals simp

@[simp] theorem State.accountGo_keeps (s : State) (i : Slot) (st : AccountState) :
    (s.accountGo i st).clock = s.clock ∧ (s.accountGo i st).orders = s.orders ∧ (s.accountGo i st).alloc = s.alloc ∧
    (s.accountGo i st).charge = s.charge ∧ (s.accountGo i st).transport = s.transport ∧
    (s.accountGo i st).quiet = s.quiet ∧ (s.accountGo i st).warn = s.warn ∧ (s.accountGo i st).sense = s.sense ∧
    (s.accountGo i st).timers = s.timers ∧ (s.accountGo i st).heater = s.heater ∧
    (s.accountGo i st).fridge = s.fridge ∧ (s.accountGo i st).lights = s.lights ∧
    (s.accountGo i st).pending = s.pending ∧ (s.accountGo i st).port.mode = s.port.mode ∧
    (s.accountGo i st).port.asleep = s.port.asleep ∧ (s.accountGo i st).port.reply = s.port.reply ∧
    (s.accountGo i st).port.miso = s.port.miso ∧ (s.accountGo i st).port.inFrame = s.port.inFrame ∧
    (s.accountGo i st).port.asleepAtStart = s.port.asleepAtStart ∧
    (s.accountGo i st).port.enables = s.port.enables ∧ (s.accountGo i st).port.mask = s.port.mask ∧
    (s.accountGo i st).port.unanswered = s.port.unanswered ∧ (s.accountGo i st).port.selfTest = s.port.selfTest ∧
    (s.accountGo i st).port.cause = s.port.cause ∧ (s.accountGo i st).port.initMode = s.port.initMode ∧
    (s.accountGo i st).rst.asserted = s.rst.asserted ∧ (s.accountGo i st).rst.heldWarnings = s.rst.heldWarnings ∧
    (s.accountGo i st).rst.heldWakes = s.rst.heldWakes ∧ (s.accountGo i st).rst.heaterMoved = s.rst.heaterMoved ∧
    (s.accountGo i st).rst.fridgeMoved = s.rst.fridgeMoved := by
  simp [State.accountGo]

@[simp] theorem State.declareRest_keeps (s : State) (i : Slot) :
    (s.declareRest i).clock = s.clock ∧ (s.declareRest i).alloc = s.alloc ∧ (s.declareRest i).charge = s.charge ∧
    (s.declareRest i).transport = s.transport ∧ (s.declareRest i).sense = s.sense ∧
    (s.declareRest i).pending = s.pending ∧ (s.declareRest i).port.mode = s.port.mode ∧
    (s.declareRest i).port.asleep = s.port.asleep ∧ (s.declareRest i).port.reply = s.port.reply ∧
    (s.declareRest i).port.miso = s.port.miso ∧ (s.declareRest i).port.inFrame = s.port.inFrame ∧
    (s.declareRest i).port.asleepAtStart = s.port.asleepAtStart ∧ (s.declareRest i).port.enables = s.port.enables ∧
    (s.declareRest i).port.mask = s.port.mask ∧ (s.declareRest i).port.unanswered = s.port.unanswered ∧
    (s.declareRest i).port.selfTest = s.port.selfTest ∧ (s.declareRest i).port.cause = s.port.cause ∧
    (s.declareRest i).port.initMode = s.port.initMode ∧ (s.declareRest i).lights.quietCap = s.lights.quietCap ∧
    (s.declareRest i).rst.asserted = s.rst.asserted ∧ (s.declareRest i).heater.params = s.heater.params ∧
    (s.declareRest i).heater.failed = s.heater.failed ∧ (s.declareRest i).heater.presented = s.heater.presented ∧
    (s.declareRest i).fridge.minOff = s.fridge.minOff ∧ (s.declareRest i).fridge.presented = s.fridge.presented ∧
    (s.declareRest i).fridge.stalls = s.fridge.stalls ∧ (s.declareRest i).fridge.call = s.fridge.call ∧
    (s.declareRest i).rst.heaterMoved = s.rst.heaterMoved ∧
        (s.declareRest i).rst.fridgeMoved = s.rst.fridgeMoved := by
  simp only [State.declareRest]
  repeat' split
  all_goals simp

@[simp] theorem State.finishRest_keeps (s : State) (i : Slot) :
    (s.finishRest i).clock = s.clock ∧ (s.finishRest i).orders = s.orders ∧ (s.finishRest i).alloc = s.alloc ∧
    (s.finishRest i).charge = s.charge ∧ (s.finishRest i).transport = s.transport ∧
    (s.finishRest i).quiet = s.quiet ∧ (s.finishRest i).sense = s.sense ∧ (s.finishRest i).heater = s.heater ∧
    (s.finishRest i).fridge = s.fridge ∧ (s.finishRest i).lights = s.lights ∧ (s.finishRest i).pending = s.pending ∧
    (s.finishRest i).port.mode = s.port.mode ∧ (s.finishRest i).port.asleep = s.port.asleep ∧
    (s.finishRest i).port.reply = s.port.reply ∧ (s.finishRest i).port.miso = s.port.miso ∧
    (s.finishRest i).port.inFrame = s.port.inFrame ∧ (s.finishRest i).port.asleepAtStart = s.port.asleepAtStart ∧
    (s.finishRest i).port.enables = s.port.enables ∧ (s.finishRest i).port.mask = s.port.mask ∧
    (s.finishRest i).port.unanswered = s.port.unanswered ∧ (s.finishRest i).port.selfTest = s.port.selfTest ∧
    (s.finishRest i).port.cause = s.port.cause ∧ (s.finishRest i).port.initMode = s.port.initMode ∧
    (s.finishRest i).rst.asserted = s.rst.asserted ∧ (s.finishRest i).rst.heldWakes = s.rst.heldWakes ∧
    (s.finishRest i).rst.heaterMoved = s.rst.heaterMoved ∧ (s.finishRest i).rst.fridgeMoved = s.rst.fridgeMoved ∧
    (s.finishRest i).timers.t0 = s.timers.t0 ∧ (s.finishRest i).timers.t1 = s.timers.t1 ∧
    (s.finishRest i).timers.t2 = s.timers.t2 ∧ (s.finishRest i).timers.t3 = s.timers.t3 ∧
    (s.finishRest i).timers.t4 = s.timers.t4 ∧ (s.finishRest i).timers.t5 = s.timers.t5 ∧
    (s.finishRest i).timers.t6 = s.timers.t6 := by
  simp [State.finishRest]

@[simp] theorem State.endRest_keeps (s : State) (i : Slot) :
    (s.endRest i).clock = s.clock ∧ (s.endRest i).charge = s.charge ∧ (s.endRest i).transport = s.transport ∧
    (s.endRest i).sense = s.sense ∧ (s.endRest i).pending = s.pending ∧
    (s.endRest i).alloc.horizon = s.alloc.horizon ∧ (s.endRest i).alloc.keepMargin = s.alloc.keepMargin ∧
    (s.endRest i).alloc.heaterDraw = s.alloc.heaterDraw ∧ (s.endRest i).alloc.heaterStart = s.alloc.heaterStart ∧
    (s.endRest i).alloc.fridgeDraw = s.alloc.fridgeDraw ∧ (s.endRest i).alloc.fridgeDuty = s.alloc.fridgeDuty ∧
    (s.endRest i).port.mode = s.port.mode ∧ (s.endRest i).port.asleep = s.port.asleep ∧
    (s.endRest i).port.reply = s.port.reply ∧ (s.endRest i).port.miso = s.port.miso ∧
    (s.endRest i).port.inFrame = s.port.inFrame ∧ (s.endRest i).port.asleepAtStart = s.port.asleepAtStart ∧
    (s.endRest i).port.enables = s.port.enables ∧ (s.endRest i).port.mask = s.port.mask ∧
    (s.endRest i).port.unanswered = s.port.unanswered ∧ (s.endRest i).port.selfTest = s.port.selfTest ∧
    (s.endRest i).port.cause = s.port.cause ∧ (s.endRest i).port.initMode = s.port.initMode ∧
    (s.endRest i).lights.quietCap = s.lights.quietCap ∧ (s.endRest i).rst.asserted = s.rst.asserted ∧
    (s.endRest i).heater.params = s.heater.params ∧ (s.endRest i).heater.failed = s.heater.failed ∧
    (s.endRest i).fridge.minOff = s.fridge.minOff ∧ (s.endRest i).fridge.stalls = s.fridge.stalls ∧
    (s.endRest i).fridge.call = s.fridge.call ∧ (s.endRest i).rst.heaterMoved = s.rst.heaterMoved ∧
    (s.endRest i).rst.fridgeMoved = s.rst.fridgeMoved := by
  simp [State.endRest]

@[simp] theorem State.declareWheel_keeps (s : State) (i : Slot) (a : Account) :
    (s.declareWheel i a).clock = s.clock ∧ (s.declareWheel i a).charge = s.charge ∧
    (s.declareWheel i a).transport = s.transport ∧ (s.declareWheel i a).sense = s.sense ∧
    (s.declareWheel i a).pending = s.pending ∧ (s.declareWheel i a).alloc.horizon = s.alloc.horizon ∧
    (s.declareWheel i a).alloc.keepMargin = s.alloc.keepMargin ∧
    (s.declareWheel i a).alloc.heaterDraw = s.alloc.heaterDraw ∧
    (s.declareWheel i a).alloc.heaterStart = s.alloc.heaterStart ∧
    (s.declareWheel i a).alloc.fridgeDraw = s.alloc.fridgeDraw ∧
    (s.declareWheel i a).alloc.fridgeDuty = s.alloc.fridgeDuty ∧ (s.declareWheel i a).port.mode = s.port.mode ∧
    (s.declareWheel i a).port.asleep = s.port.asleep ∧ (s.declareWheel i a).port.reply = s.port.reply ∧
    (s.declareWheel i a).port.miso = s.port.miso ∧ (s.declareWheel i a).port.inFrame = s.port.inFrame ∧
    (s.declareWheel i a).port.asleepAtStart = s.port.asleepAtStart ∧
    (s.declareWheel i a).port.enables = s.port.enables ∧ (s.declareWheel i a).port.mask = s.port.mask ∧
    (s.declareWheel i a).port.unanswered = s.port.unanswered ∧
    (s.declareWheel i a).port.selfTest = s.port.selfTest ∧ (s.declareWheel i a).port.cause = s.port.cause ∧
    (s.declareWheel i a).port.initMode = s.port.initMode ∧
    (s.declareWheel i a).lights.quietCap = s.lights.quietCap ∧ (s.declareWheel i a).rst.asserted = s.rst.asserted ∧
    (s.declareWheel i a).heater.params = s.heater.params ∧ (s.declareWheel i a).heater.failed = s.heater.failed ∧
    (s.declareWheel i a).fridge.minOff = s.fridge.minOff ∧ (s.declareWheel i a).fridge.stalls = s.fridge.stalls ∧
    (s.declareWheel i a).fridge.call = s.fridge.call ∧ (s.declareWheel i a).rst.heaterMoved = s.rst.heaterMoved ∧
    (s.declareWheel i a).rst.fridgeMoved = s.rst.fridgeMoved := by
  simp only [State.declareWheel]
  repeat' split
  all_goals simp

@[simp] theorem State.longPress_keeps (s : State) (d : Side) :
    (s.longPress d).clock = s.clock ∧ (s.longPress d).charge = s.charge ∧ (s.longPress d).transport = s.transport ∧
    (s.longPress d).sense = s.sense ∧ (s.longPress d).pending = s.pending ∧
    (s.longPress d).alloc.horizon = s.alloc.horizon ∧ (s.longPress d).alloc.keepMargin = s.alloc.keepMargin ∧
    (s.longPress d).alloc.heaterDraw = s.alloc.heaterDraw ∧
    (s.longPress d).alloc.heaterStart = s.alloc.heaterStart ∧
    (s.longPress d).alloc.fridgeDraw = s.alloc.fridgeDraw ∧ (s.longPress d).alloc.fridgeDuty = s.alloc.fridgeDuty ∧
    (s.longPress d).port.mode = s.port.mode ∧ (s.longPress d).port.asleep = s.port.asleep ∧
    (s.longPress d).port.reply = s.port.reply ∧ (s.longPress d).port.miso = s.port.miso ∧
    (s.longPress d).port.inFrame = s.port.inFrame ∧ (s.longPress d).port.asleepAtStart = s.port.asleepAtStart ∧
    (s.longPress d).port.enables = s.port.enables ∧ (s.longPress d).port.mask = s.port.mask ∧
    (s.longPress d).port.unanswered = s.port.unanswered ∧ (s.longPress d).port.selfTest = s.port.selfTest ∧
    (s.longPress d).port.cause = s.port.cause ∧ (s.longPress d).port.initMode = s.port.initMode ∧
    (s.longPress d).lights.quietCap = s.lights.quietCap ∧ (s.longPress d).rst.asserted = s.rst.asserted ∧
    (s.longPress d).heater.params = s.heater.params ∧ (s.longPress d).heater.failed = s.heater.failed ∧
    (s.longPress d).fridge.minOff = s.fridge.minOff ∧ (s.longPress d).fridge.stalls = s.fridge.stalls ∧
    (s.longPress d).fridge.call = s.fridge.call ∧ (s.longPress d).rst.heaterMoved = s.rst.heaterMoved ∧
    (s.longPress d).rst.fridgeMoved = s.rst.fridgeMoved := by
  simp only [State.longPress]
  repeat' split
  all_goals simp

@[simp] theorem State.moveAccount_keeps (s : State) (i : Slot) :
    (s.moveAccount i).clock = s.clock ∧ (s.moveAccount i).alloc = s.alloc ∧ (s.moveAccount i).charge = s.charge ∧
    (s.moveAccount i).transport = s.transport ∧ (s.moveAccount i).quiet = s.quiet ∧
    (s.moveAccount i).sense = s.sense ∧ (s.moveAccount i).heater = s.heater ∧ (s.moveAccount i).fridge = s.fridge ∧
    (s.moveAccount i).lights = s.lights ∧ (s.moveAccount i).pending = s.pending ∧
    (s.moveAccount i).port.mode = s.port.mode ∧ (s.moveAccount i).port.asleep = s.port.asleep ∧
    (s.moveAccount i).port.reply = s.port.reply ∧ (s.moveAccount i).port.miso = s.port.miso ∧
    (s.moveAccount i).port.inFrame = s.port.inFrame ∧ (s.moveAccount i).port.asleepAtStart = s.port.asleepAtStart ∧
    (s.moveAccount i).port.enables = s.port.enables ∧ (s.moveAccount i).port.mask = s.port.mask ∧
    (s.moveAccount i).port.unanswered = s.port.unanswered ∧ (s.moveAccount i).port.selfTest = s.port.selfTest ∧
    (s.moveAccount i).port.cause = s.port.cause ∧ (s.moveAccount i).port.initMode = s.port.initMode ∧
    (s.moveAccount i).rst.asserted = s.rst.asserted ∧ (s.moveAccount i).rst.heaterMoved = s.rst.heaterMoved ∧
    (s.moveAccount i).rst.fridgeMoved = s.rst.fridgeMoved ∧ (s.moveAccount i).timers.t0 = s.timers.t0 ∧
    (s.moveAccount i).timers.t1 = s.timers.t1 ∧ (s.moveAccount i).timers.t2 = s.timers.t2 ∧
    (s.moveAccount i).timers.t3 = s.timers.t3 ∧ (s.moveAccount i).timers.t4 = s.timers.t4 ∧
    (s.moveAccount i).timers.t5 = s.timers.t5 ∧ (s.moveAccount i).timers.t6 = s.timers.t6 := by
  simp only [State.moveAccount]
  repeat' split
  all_goals simp

@[simp] theorem State.moveAccounts_keeps (s : State) :
    s.moveAccounts.clock = s.clock ∧ s.moveAccounts.alloc = s.alloc ∧ s.moveAccounts.charge = s.charge ∧
    s.moveAccounts.transport = s.transport ∧ s.moveAccounts.quiet = s.quiet ∧ s.moveAccounts.sense = s.sense ∧
    s.moveAccounts.heater = s.heater ∧ s.moveAccounts.fridge = s.fridge ∧ s.moveAccounts.lights = s.lights ∧
    s.moveAccounts.pending = s.pending ∧ s.moveAccounts.port.mode = s.port.mode ∧
    s.moveAccounts.port.asleep = s.port.asleep ∧ s.moveAccounts.port.reply = s.port.reply ∧
    s.moveAccounts.port.miso = s.port.miso ∧ s.moveAccounts.port.inFrame = s.port.inFrame ∧
    s.moveAccounts.port.asleepAtStart = s.port.asleepAtStart ∧ s.moveAccounts.port.enables = s.port.enables ∧
    s.moveAccounts.port.mask = s.port.mask ∧ s.moveAccounts.port.unanswered = s.port.unanswered ∧
    s.moveAccounts.port.selfTest = s.port.selfTest ∧ s.moveAccounts.port.cause = s.port.cause ∧
    s.moveAccounts.port.initMode = s.port.initMode ∧ s.moveAccounts.rst.asserted = s.rst.asserted ∧
    s.moveAccounts.rst.heaterMoved = s.rst.heaterMoved ∧ s.moveAccounts.rst.fridgeMoved = s.rst.fridgeMoved ∧
    s.moveAccounts.timers.t0 = s.timers.t0 ∧ s.moveAccounts.timers.t1 = s.timers.t1 ∧
    s.moveAccounts.timers.t2 = s.timers.t2 ∧ s.moveAccounts.timers.t3 = s.timers.t3 ∧
    s.moveAccounts.timers.t4 = s.timers.t4 ∧ s.moveAccounts.timers.t5 = s.timers.t5 ∧
    s.moveAccounts.timers.t6 = s.timers.t6 := by
  simp [State.moveAccounts]

@[simp] theorem State.workStandstill_keeps (s : State) :
    s.workStandstill.clock = s.clock ∧ s.workStandstill.charge = s.charge ∧
    s.workStandstill.transport = s.transport ∧ s.workStandstill.quiet = s.quiet ∧ s.workStandstill.sense = s.sense ∧
    s.workStandstill.pending = s.pending ∧ s.workStandstill.alloc.horizon = s.alloc.horizon ∧
    s.workStandstill.alloc.keepMargin = s.alloc.keepMargin ∧
    s.workStandstill.alloc.heaterDraw = s.alloc.heaterDraw ∧
    s.workStandstill.alloc.heaterStart = s.alloc.heaterStart ∧
    s.workStandstill.alloc.fridgeDraw = s.alloc.fridgeDraw ∧
    s.workStandstill.alloc.fridgeDuty = s.alloc.fridgeDuty ∧ s.workStandstill.port.mode = s.port.mode ∧
    s.workStandstill.port.asleep = s.port.asleep ∧ s.workStandstill.port.reply = s.port.reply ∧
    s.workStandstill.port.miso = s.port.miso ∧ s.workStandstill.port.inFrame = s.port.inFrame ∧
    s.workStandstill.port.asleepAtStart = s.port.asleepAtStart ∧ s.workStandstill.port.enables = s.port.enables ∧
    s.workStandstill.port.mask = s.port.mask ∧ s.workStandstill.port.unanswered = s.port.unanswered ∧
    s.workStandstill.port.selfTest = s.port.selfTest ∧ s.workStandstill.port.cause = s.port.cause ∧
    s.workStandstill.port.initMode = s.port.initMode ∧ s.workStandstill.lights.quietCap = s.lights.quietCap ∧
    s.workStandstill.rst.asserted = s.rst.asserted ∧ s.workStandstill.heater.params = s.heater.params ∧
    s.workStandstill.heater.fuel = s.heater.fuel ∧ s.workStandstill.heater.failed = s.heater.failed ∧
    s.workStandstill.fridge.minOff = s.fridge.minOff ∧ s.workStandstill.fridge.stalls = s.fridge.stalls ∧
    s.workStandstill.fridge.call = s.fridge.call ∧ s.workStandstill.rst.heaterMoved = s.rst.heaterMoved ∧
    s.workStandstill.rst.fridgeMoved = s.rst.fridgeMoved := by
  simp only [State.workStandstill]
  repeat' split
  all_goals simp

@[simp] theorem State.motionChanged_keeps (s : State) :
    s.motionChanged.clock = s.clock ∧ s.motionChanged.charge = s.charge ∧ s.motionChanged.transport = s.transport ∧
    s.motionChanged.quiet = s.quiet ∧ s.motionChanged.sense = s.sense ∧ s.motionChanged.pending = s.pending ∧
    s.motionChanged.alloc.horizon = s.alloc.horizon ∧ s.motionChanged.alloc.keepMargin = s.alloc.keepMargin ∧
    s.motionChanged.alloc.heaterDraw = s.alloc.heaterDraw ∧
    s.motionChanged.alloc.heaterStart = s.alloc.heaterStart ∧
    s.motionChanged.alloc.fridgeDraw = s.alloc.fridgeDraw ∧ s.motionChanged.alloc.fridgeDuty = s.alloc.fridgeDuty ∧
    s.motionChanged.port.mode = s.port.mode ∧ s.motionChanged.port.asleep = s.port.asleep ∧
    s.motionChanged.port.reply = s.port.reply ∧ s.motionChanged.port.miso = s.port.miso ∧
    s.motionChanged.port.inFrame = s.port.inFrame ∧ s.motionChanged.port.asleepAtStart = s.port.asleepAtStart ∧
    s.motionChanged.port.enables = s.port.enables ∧ s.motionChanged.port.mask = s.port.mask ∧
    s.motionChanged.port.unanswered = s.port.unanswered ∧ s.motionChanged.port.selfTest = s.port.selfTest ∧
    s.motionChanged.port.cause = s.port.cause ∧ s.motionChanged.port.initMode = s.port.initMode ∧
    s.motionChanged.lights.quietCap = s.lights.quietCap ∧ s.motionChanged.rst.asserted = s.rst.asserted ∧
    s.motionChanged.heater.params = s.heater.params ∧ s.motionChanged.heater.fuel = s.heater.fuel ∧
    s.motionChanged.heater.failed = s.heater.failed ∧ s.motionChanged.fridge.minOff = s.fridge.minOff ∧
    s.motionChanged.fridge.stalls = s.fridge.stalls ∧ s.motionChanged.fridge.call = s.fridge.call ∧
    s.motionChanged.rst.heaterMoved = s.rst.heaterMoved ∧ s.motionChanged.rst.fridgeMoved = s.rst.fridgeMoved := by
  simp only [State.motionChanged]
  repeat' split
  all_goals simp

end Sys2Proof.Machine
end

