-- ==== Sys2Proof/Laws/Frames.lean ====
section
/-! SUPPORT. The bytes of a frame: what a frame can spell, and what it reads on MISO. -/
namespace Sys2Proof

open Machine

/-- R191: a frame reads as many bytes as it clocks. -/
@[simp] theorem misoBytes_length (r : Option Reply) (fill : Nat → Byte) (n : Nat) :
    (misoBytes r fill n).length = n := by
  simp [misoBytes]

/-- R191: within the reply a frame reads the reply's bytes from its first. -/
theorem misoBytes_getElem (r : Option Reply) (fill : Nat → Byte) (n k : Nat) (hk : k < n)
    (h : k < (replyBytes r).length) :
    (misoBytes r fill n)[k]'(by simpa using hk) = (replyBytes r)[k] := by
  simp [misoBytes, h]

/-- R191: a reply body is at most 511 bytes long. -/
theorem Machine.ReplyBody.bytes_le (b : ReplyBody) : b.bytes.length ≤ 511 := by
  cases b <;> simp only [ReplyBody.bytes, List.length_take, StatBody.bytes, List.length_cons, List.length_nil] <;> omega

theorem lookCode_mem {α : Type} {code : Byte} {a : α} :
    ∀ {l : List (Nat × α)}, lookCode code l = some a → (code.toNat, a) ∈ l
  | (c, b) :: rest, h => by
    unfold lookCode at h
    split at h
    · next hc => cases h; simp [hc]
    · exact List.mem_cons_of_mem _ (lookCode_mem h)

/-- What a frame can spell: a request with an empty body, with a byte or with a 32-bit number. -/
theorem requestOf_cases {code : Byte} {body : List Byte} {i : Instr} (h : requestOf code body = some i) :
    (body = [] ∧ (code.toNat, i) ∈ emptyBodies) ∨
    (∃ b f, body = [b] ∧ (code.toNat, f) ∈ byteBodies ∧ i = f b) ∨
    (∃ b0 b1 b2 b3 f, body = [b0, b1, b2, b3] ∧ (code.toNat, f) ∈ wordBodies ∧ i = f (wordOfBytes b0 b1 b2 b3)) := by
  unfold requestOf at h
  split at h
  · exact .inl ⟨rfl, lookCode_mem h⟩
  · next b =>
    obtain ⟨f, hf, rfl⟩ := Option.map_eq_some_iff.1 h
    exact .inr (.inl ⟨b, f, rfl, lookCode_mem hf, rfl⟩)
  · next b0 b1 b2 b3 =>
    obtain ⟨f, hf, rfl⟩ := Option.map_eq_some_iff.1 h
    exact .inr (.inr ⟨b0, b1, b2, b3, f, rfl, lookCode_mem hf, rfl⟩)
  · cases h

end Sys2Proof
end

