-- ==== Sys2Proof/Laws/Notices.lean ====
section
/-! SUPPORT. The notices: what setting one does to the flags,
    and that every operation of the blocks changes the port by
setting notices alone. -/
namespace Sys2Proof.Machine


theorem Byte.or_and (a b c : Byte) : (a ||| b) &&& c = (a &&& c) ||| (b &&& c) := by
  ext i; simp [Bool.and_or_distrib_right]

@[simp] theorem Port.setFlag_flags (p : Port) (n : Notice) : (p.setFlag n).flags = p.flags ||| n.bit := by
  simp only [Port.setFlag, Port.workAttn, Port.startWake]; split <;> rfl

theorem Byte.or_ne_zero (a b : Byte) (h : b ≠ 0#8) : a ||| b ≠ 0#8 := by
  intro h'
  apply h
  ext i hi
  have := congrArg (fun x => x[i]) h'
  simp at this
  simpa using this.2

theorem Notice.inByte_or (m n : Notice) (b : Byte) : m.inByte (b ||| n.bit) = (m.inByte b || decide (n = m)) := by
  simp only [Notice.inByte, Byte.or_and]
  by_cases h : n = m
  · subst h
    simp only [decide_true, Bool.or_true, decide_eq_true_eq]
    exact Byte.or_ne_zero _ _ (by cases n <;> decide)
  · rw [show n.bit &&& m.bit = 0#8 by cases m <;> cases n <;> first | rfl | exact absurd rfl h]
    simp [h]

/-- What a block that sets a notice does to the flags. -/

theorem State.notice_inByte (s : State) (m n : Notice) :
    m.inByte (s.notice n).port.flags = (m.inByte s.port.flags || (!s.rst.asserted && decide (n = m))) := by
  simp only [State.notice]
  split <;> simp_all [Notice.inByte_or]

theorem State.noticeIf_inByte (s : State) (b : Bool) (m n : Notice) :
    m.inByte (s.noticeIf b n).port.flags = (m.inByte s.port.flags || (b && !s.rst.asserted && decide (n = m))) := by
  simp only [State.noticeIf]
  split <;> simp_all [State.notice_inByte]

/-- No flag is cleared. -/
def Port.flagsKept (p q : Port) : Prop := p.flags &&& q.flags = p.flags

theorem Port.flagsKept.refl (p : Port) : p.flagsKept p := by simp [Port.flagsKept]

theorem Port.flagsKept.trans {p q r : Port} (h : p.flagsKept q) (k : q.flagsKept r) : p.flagsKept r := by
  simp only [Port.flagsKept] at *
  rw [← h, BitVec.and_assoc, k]

theorem Port.setFlag_flagsKept (p : Port) (n : Notice) : p.flagsKept (p.setFlag n) := by
  simp only [Port.flagsKept, Port.setFlag_flags]
  ext i; simp; tauto

theorem State.notice_flagsKept (s : State) (n : Notice) : s.port.flagsKept (s.notice n).port := by
  simp only [State.notice]; split
  · exact .refl _
  · exact Port.setFlag_flagsKept _ _

theorem State.noticeIf_flagsKept (s : State) (b) (n : Notice) : s.port.flagsKept (s.noticeIf b n).port := by
  simp only [State.noticeIf]; split
  · exact State.notice_flagsKept _ _
  · exact .refl _

/-- The second state's port is the first's with some notices set, none while RESET is asserted. -/
def State.noticed (s t : State) : Prop :=
  t.rst.asserted = s.rst.asserted ∧
  ∃ ns : List Notice, t.port = ns.foldl Port.setFlag s.port ∧ (s.rst.asserted = true → ns = [])

theorem State.noticed.refl (s : State) : s.noticed s := ⟨rfl, [], rfl, fun _ => rfl⟩

theorem State.noticed.congr {r s t : State} (h : r.noticed s) (hp : t.port = s.port)
    (ha : t.rst.asserted = s.rst.asserted) : r.noticed t := by
  obtain ⟨h1, ns, h2, h3⟩ := h
  exact ⟨ha.trans h1, ns, hp.trans h2, h3⟩

theorem State.notice_noticed {r s : State} (n : Notice) (h : r.noticed s) : r.noticed (s.notice n) := by
  obtain ⟨h1, ns, h2, h3⟩ := h
  refine ⟨by simp [h1], ?_⟩
  by_cases ha : s.rst.asserted = true
  · exact ⟨ns, by simp [State.notice, ha, h2], h3⟩
  · exact ⟨ns ++ [n], by simp [State.notice, ha, h2], fun h => absurd (h1.trans h) ha⟩

theorem State.noticeIf_noticed {r s : State} (b : Bool) (n : Notice) (h : r.noticed s) :
    r.noticed (s.noticeIf b n) := by
  cases b
  · exact h
  · exact State.notice_noticed n h

theorem State.accountNotice_noticed {r s : State} (h : r.noticed s) : r.noticed s.accountNotice := by
  simp only [State.accountNotice]
  split
  · exact h.congr rfl rfl
  · exact State.notice_noticed _ h

variable {r s : State}

theorem State.pumpPulse_noticed (h : r.noticed s) : r.noticed s.pumpPulse :=
  h.congr (by simp) (by simp)

theorem State.setTimer_noticed (i : TimerId) (t : Timer) (h : r.noticed s) : r.noticed (s.setTimer i t) :=
  h.congr (by simp) (by simp)

theorem State.writeTimer_noticed (i : TimerId) (on per : Nat) (h : r.noticed s) : r.noticed (s.writeTimer i on per) :=
  h.congr (by simp) (by simp)

theorem State.haltTimer_noticed (i : TimerId) (h : r.noticed s) : r.noticed (s.haltTimer i) :=
  h.congr (by simp) (by simp)

theorem State.setAccount_noticed (i : Slot) (a : Account) (h : r.noticed s) : r.noticed (s.setAccount i a) :=
  h.congr (by simp) (by simp)

theorem State.testSuppression_noticed (h : r.noticed s) : r.noticed s.testSuppression :=
  h.congr (by simp) (by simp)

theorem State.beginBurst_noticed (e : Entry) (h : r.noticed s) : r.noticed (s.beginBurst e) :=
  h.congr (by simp) (by simp)

theorem State.select_noticed (h : r.noticed s) : r.noticed s.select :=
  h.congr (by simp) (by simp)

theorem State.settle_noticed (h : r.noticed s) : r.noticed s.settle :=
  h.congr (by simp) (by simp)

theorem State.countdownZero_noticed (h : r.noticed s) : r.noticed s.countdownZero :=
  h.congr (by simp) (by simp)

theorem State.addEntry_noticed (source : Source) (type : WarnType) (h : r.noticed s) :
    r.noticed (s.addEntry source type) := by
  simp only [State.addEntry]
  repeat' split
  all_goals repeat with_reducible first | exact h | apply State.notice_noticed
  all_goals exact h.congr rfl rfl

theorem State.dropEntry_noticed (source : Source) (type : WarnType) (h : r.noticed s) :
    r.noticed (s.dropEntry source type) :=
  h.congr (by simp) (by simp)

theorem State.raise_noticed (source : Source) (type : WarnType) (h : r.noticed s) :
    r.noticed (s.raise source type) := by
  simp only [State.raise]
  repeat' split
  all_goals repeat with_reducible first | exact h | apply State.settle_noticed | apply State.addEntry_noticed
  all_goals exact h.congr rfl rfl

theorem State.remove_noticed (source : Source) (type : WarnType) (h : r.noticed s) :
    r.noticed (s.remove source type) :=
  h.congr (by simp) (by simp)

theorem State.workCondition_noticed (source : Source) (type : WarnType) (holds : Bool) (h : r.noticed s) :
    r.noticed (s.workCondition source type holds) := by
  simp only [State.workCondition]
  repeat' split
  all_goals repeat with_reducible first | exact h | apply State.raise_noticed | apply State.remove_noticed

theorem State.acknowledge_noticed (e : Entry) (h : r.noticed s) : r.noticed (s.acknowledge e) :=
  h.congr (by simp) (by simp)

theorem State.cutBurst_noticed (back : Entry → Entry) (h : r.noticed s) : r.noticed (s.cutBurst back) :=
  h.congr (by simp) (by simp)

theorem State.withHeater_noticed (f : Heater → Heater) (h : r.noticed s) : r.noticed (s.withHeater f) :=
  h.congr (by simp) (by simp)

theorem State.writeFan_noticed (duty : Nat) (h : r.noticed s) : r.noticed (s.writeFan duty) :=
  h.congr (by simp) (by simp)

theorem State.writePump_noticed (rate : Nat) (h : r.noticed s) : r.noticed (s.writePump rate) :=
  h.congr (by simp) (by simp)

theorem State.heaterGo_noticed (st : HeaterState) (h : r.noticed s) : r.noticed (s.heaterGo st) := by
  simp only [State.heaterGo]
  repeat with_reducible first | exact h | apply State.notice_noticed | apply State.withHeater_noticed

theorem State.heaterAttention_noticed (h : r.noticed s) : r.noticed s.heaterAttention := by
  simp only [State.heaterAttention]
  repeat with_reducible first | exact h | apply State.noticeIf_noticed

theorem State.enterPreheat_noticed (h : r.noticed s) : r.noticed s.enterPreheat := by
  simp only [State.enterPreheat]
  repeat
    with_reducible
      first
      | exact h | apply State.withHeater_noticed | apply State.writeFan_noticed
      | apply State.heaterGo_noticed

theorem State.enterOff_noticed (h : r.noticed s) : r.noticed s.enterOff := by
  simp only [State.enterOff]
  repeat
    with_reducible
      first
      | exact h | apply State.withHeater_noticed | apply State.writeFan_noticed
      | apply State.heaterGo_noticed

theorem State.enterIgnition_noticed (h : r.noticed s) : r.noticed s.enterIgnition := by
  simp only [State.enterIgnition]
  repeat
    with_reducible
      first
      | exact h | apply State.withHeater_noticed | apply State.writeFan_noticed
      | apply State.writePump_noticed | apply State.heaterGo_noticed

theorem State.enterProving_noticed (h : r.noticed s) : r.noticed s.enterProving := by
  simp only [State.enterProving]
  repeat
    with_reducible
      first
      | exact h | apply State.withHeater_noticed | apply State.writeFan_noticed
      | apply State.heaterGo_noticed

theorem State.writeLevel_noticed (level : Nat) (h : r.noticed s) : r.noticed (s.writeLevel level) :=
  h.congr (by simp) (by simp)

theorem State.enterRun_noticed (h : r.noticed s) : r.noticed s.enterRun := by
  simp only [State.enterRun]
  repeat
    with_reducible
      first
      | exact h | apply State.withHeater_noticed | apply State.heaterGo_noticed
      | apply State.writeLevel_noticed

theorem State.enterCooldown_noticed (cause : CooldownCause) (h : r.noticed s) :
    r.noticed (s.enterCooldown cause) := by
  simp only [State.enterCooldown]
  repeat
    with_reducible
      first
      | exact h | apply State.haltTimer_noticed | apply State.withHeater_noticed
      | apply State.writeFan_noticed | apply State.heaterGo_noticed

theorem State.failedStart_noticed (h : r.noticed s) : r.noticed s.failedStart := by
  simp only [State.failedStart]
  repeat with_reducible first | exact h | apply State.withHeater_noticed | apply State.enterCooldown_noticed

theorem State.heaterPresented_noticed (h : r.noticed s) : r.noticed s.heaterPresented := by
  simp only [State.heaterPresented]
  repeat' split
  all_goals repeat with_reducible first | exact h | apply State.withHeater_noticed | apply State.enterPreheat_noticed

theorem State.heaterWithdrawn_noticed (h : r.noticed s) : r.noticed s.heaterWithdrawn := by
  simp only [State.heaterWithdrawn]
  split <;> repeat
    with_reducible
      first
      | exact h | apply State.withHeater_noticed | apply State.enterOff_noticed
      | apply State.enterCooldown_noticed

theorem State.presentHeater_noticed (p : Option Presented) (h : r.noticed s) : r.noticed (s.presentHeater p) := by
  simp only [State.presentHeater]
  repeat' split
  all_goals repeat
    with_reducible
      first
      | exact h | apply State.withHeater_noticed
      | apply State.heaterPresented_noticed | apply State.heaterWithdrawn_noticed

theorem State.ovhtActive_noticed (h : r.noticed s) : r.noticed s.ovhtActive := by
  simp only [State.ovhtActive]
  split <;> repeat
    with_reducible
      first
      | exact h | apply State.withHeater_noticed | apply State.enterOff_noticed
      | apply State.enterCooldown_noticed

theorem State.ovhtInactive_noticed (h : r.noticed s) : r.noticed s.ovhtInactive := by
  simp only [State.ovhtInactive]
  split <;> repeat with_reducible first | exact h | apply State.enterPreheat_noticed

theorem State.flamePresent_noticed (h : r.noticed s) : r.noticed s.flamePresent := by
  simp only [State.flamePresent]
  split <;> repeat with_reducible first | exact h | apply State.enterProving_noticed

theorem State.flameAbsent_noticed (h : r.noticed s) : r.noticed s.flameAbsent := by
  simp only [State.flameAbsent]
  split <;> repeat with_reducible first | exact h | apply State.failedStart_noticed

theorem State.stepLevel_noticed (h : r.noticed s) : r.noticed s.stepLevel :=
  h.congr (by simp) (by simp)

theorem State.workSatisfy_noticed (setpoint value : Int) (fault : Bool) (h : r.noticed s) :
    r.noticed (s.workSatisfy setpoint value fault) :=
  h.congr (by simp) (by simp)

theorem State.c2InRun_noticed (setpoint value : Int) (fault : Bool) (h : r.noticed s) :
    r.noticed (s.c2InRun setpoint value fault) :=
  h.congr (by simp) (by simp)

theorem State.c2InSatisfied_noticed (setpoint value : Int) (fault : Bool) (h : r.noticed s) :
    r.noticed (s.c2InSatisfied setpoint value fault) := by
  simp only [State.c2InSatisfied]
  split <;> repeat with_reducible first | exact h | apply State.enterPreheat_noticed

theorem State.heaterReading_noticed (value : Int) (fault : Bool) (h : r.noticed s) :
    r.noticed (s.heaterReading value fault) := by
  simp only [State.heaterReading]
  split <;> repeat
    with_reducible
      first
      | exact h | apply State.heaterAttention_noticed
      | apply State.c2InRun_noticed | apply State.c2InSatisfied_noticed

theorem State.heaterQuiet_noticed (h : r.noticed s) : r.noticed s.heaterQuiet :=
  h.congr (by simp) (by simp)

theorem State.runClearsCount_noticed (h : r.noticed s) : r.noticed s.runClearsCount :=
  h.congr (by simp) (by simp)

theorem State.satisfiedStop_noticed (h : r.noticed s) : r.noticed s.satisfiedStop := by
  simp only [State.satisfiedStop]
  split <;> repeat with_reducible first | exact h | apply State.enterCooldown_noticed

theorem State.withFridge_noticed (f : Fridge → Fridge) (h : r.noticed s) : r.noticed (s.withFridge f) :=
  h.congr (by simp) (by simp)

theorem State.fridgeGo_noticed (st : FridgeState) (h : r.noticed s) : r.noticed (s.fridgeGo st) := by
  simp only [State.fridgeGo]
  repeat with_reducible first | exact h | apply State.notice_noticed | apply State.withFridge_noticed

theorem State.fridgeAttention_noticed (h : r.noticed s) : r.noticed s.fridgeAttention := by
  simp only [State.fridgeAttention]
  repeat with_reducible first | exact h | apply State.noticeIf_noticed

theorem State.enterStart_noticed (h : r.noticed s) : r.noticed s.enterStart := by
  simp only [State.enterStart]
  repeat
    with_reducible
      first
      | exact h | apply State.writeTimer_noticed | apply State.withFridge_noticed
      | apply State.fridgeGo_noticed

theorem State.switchOff_noticed (h : r.noticed s) : r.noticed s.switchOff :=
  h.congr (by simp) (by simp)

theorem State.stopToRest_noticed (h : r.noticed s) : r.noticed s.stopToRest := by
  simp only [State.stopToRest]
  repeat with_reducible first | exact h | apply State.fridgeGo_noticed | apply State.switchOff_noticed

theorem State.startTest_noticed (h : r.noticed s) : r.noticed s.startTest := by
  simp only [State.startTest]
  repeat' split
  all_goals repeat with_reducible first | exact h | apply State.enterStart_noticed

theorem State.enterIdle_noticed (h : r.noticed s) : r.noticed s.enterIdle := by
  simp only [State.enterIdle]
  repeat with_reducible first | exact h | apply State.fridgeGo_noticed | apply State.startTest_noticed

theorem State.endRestPhase_noticed (h : r.noticed s) : r.noticed s.endRestPhase := by
  simp only [State.endRestPhase]
  split <;> repeat with_reducible first | exact h | apply State.fridgeGo_noticed | apply State.enterIdle_noticed

theorem State.endRestIfDue_noticed (h : r.noticed s) : r.noticed s.endRestIfDue := by
  simp only [State.endRestIfDue]
  split <;> repeat with_reducible first | exact h | apply State.endRestPhase_noticed

theorem State.fridgePresented_noticed (h : r.noticed s) : r.noticed s.fridgePresented := by
  simp only [State.fridgePresented]
  split <;> repeat with_reducible first | exact h | apply State.enterIdle_noticed

theorem State.fridgeWithdrawn_noticed (h : r.noticed s) : r.noticed s.fridgeWithdrawn := by
  simp only [State.fridgeWithdrawn]
  split <;> repeat with_reducible first | exact h | apply State.fridgeGo_noticed | apply State.stopToRest_noticed

theorem State.presentFridge_noticed (p : Option Presented) (h : r.noticed s) : r.noticed (s.presentFridge p) := by
  simp only [State.presentFridge]
  repeat' split
  all_goals repeat
    with_reducible
      first
      | exact h | apply State.withFridge_noticed
      | apply State.fridgePresented_noticed | apply State.fridgeWithdrawn_noticed

theorem State.workMonitor_noticed (os : List Order) (h : r.noticed s) : r.noticed (s.workMonitor os) :=
  h.congr (by simp) (by simp)

theorem State.setSpeed_noticed (v : Nat) (h : r.noticed s) : r.noticed (s.setSpeed v) :=
  h.congr (by simp) (by simp)

theorem State.c3InRun_noticed (setpoint value : Int) (h : r.noticed s) : r.noticed (s.c3InRun setpoint value) := by
  simp only [State.c3InRun]
  split <;> repeat with_reducible first | exact h | apply State.stopToRest_noticed | apply State.setSpeed_noticed

theorem State.fixedCycleOnEnd_noticed (h : r.noticed s) : r.noticed s.fixedCycleOnEnd := by
  simp only [State.fixedCycleOnEnd]
  split <;> repeat with_reducible first | exact h | apply State.stopToRest_noticed

theorem State.c3Faults_noticed (h : r.noticed s) : r.noticed s.c3Faults := by
  simp only [State.c3Faults]
  split <;> repeat
    with_reducible
      first
      | exact h | apply State.startTest_noticed | apply State.setSpeed_noticed
      | apply State.fixedCycleOnEnd_noticed

theorem State.workWarm_noticed (value : Int) (h : r.noticed s) : r.noticed (s.workWarm value) :=
  h.congr (by simp) (by simp)

theorem State.fridgeReading_noticed (value : Int) (fault faulted : Bool) (h : r.noticed s) :
    r.noticed (s.fridgeReading value fault faulted) := by
  simp only [State.fridgeReading]
  repeat' split
  all_goals repeat
    with_reducible
      first
      | exact h | apply State.withFridge_noticed
      | apply State.fridgeAttention_noticed | apply State.startTest_noticed | apply State.c3InRun_noticed
      | apply State.c3Faults_noticed | apply State.workWarm_noticed

theorem State.fridgeQuiet_noticed (h : r.noticed s) : r.noticed s.fridgeQuiet :=
  h.congr (by simp) (by simp)

theorem State.enterFridgeRun_noticed (h : r.noticed s) : r.noticed s.enterFridgeRun := by
  simp only [State.enterFridgeRun]
  repeat with_reducible first | exact h | apply State.withFridge_noticed | apply State.fridgeGo_noticed

theorem State.stall_noticed (h : r.noticed s) : r.noticed s.stall := by
  simp only [State.stall]
  split <;> repeat
    with_reducible
      first
      | exact h | apply State.withFridge_noticed | apply State.fridgeGo_noticed
      | apply State.switchOff_noticed

theorem State.tachReading_noticed (rate : Nat) (h : r.noticed s) : r.noticed (s.tachReading rate) := by
  simp only [State.tachReading]
  repeat' split
  all_goals repeat
    with_reducible
      first
      | exact h | apply State.withFridge_noticed
      | apply State.fridgeAttention_noticed | apply State.enterFridgeRun_noticed | apply State.stall_noticed

theorem State.minOffEnd_noticed (h : r.noticed s) : r.noticed s.minOffEnd := by
  simp only [State.minOffEnd]
  repeat' split
  all_goals repeat with_reducible first | exact h | apply State.startTest_noticed | apply State.endRestIfDue_noticed

theorem State.fixedCycleOffEnd_noticed (h : r.noticed s) : r.noticed s.fixedCycleOffEnd := by
  simp only [State.fixedCycleOffEnd]
  split <;> repeat with_reducible first | exact h | apply State.startTest_noticed

theorem State.runClearsStalls_noticed (h : r.noticed s) : r.noticed s.runClearsStalls :=
  h.congr (by simp) (by simp)

theorem State.warmRunComplete_noticed (h : r.noticed s) : r.noticed s.warmRunComplete := by
  simp only [State.warmRunComplete]
  split <;> repeat
    with_reducible
      first
      | exact h | apply State.fridgeAttention_noticed | apply State.raise_noticed | apply State.withFridge_noticed

theorem State.setChannel_noticed (i : LightId) (c : Channel) (h : r.noticed s) : r.noticed (s.setChannel i c) :=
  h.congr (by simp) (by simp)

theorem State.setDuty_noticed (i : LightId) (duty : Nat) (h : r.noticed s) : r.noticed (s.setDuty i duty) :=
  h.congr (by simp) (by simp)

theorem State.beginFade_noticed (i : LightId) (duty steps : Nat) (h : r.noticed s) :
    r.noticed (s.beginFade i duty steps) :=
  h.congr (by simp) (by simp)

theorem State.fadeStep_noticed (i : LightId) (h : r.noticed s) : r.noticed (s.fadeStep i) :=
  h.congr (by simp) (by simp)

theorem State.presentLight_noticed (i : LightId) (p : Option Presented) (h : r.noticed s) :
    r.noticed (s.presentLight i p) :=
  h.congr (by simp) (by simp)

theorem State.cabQuietSet_noticed (h : r.noticed s) : r.noticed s.cabQuietSet :=
  h.congr (by simp) (by simp)

theorem State.cabQuietClear_noticed (h : r.noticed s) : r.noticed s.cabQuietClear :=
  h.congr (by simp) (by simp)

theorem State.presentLights_noticed (os : List Order) (h : r.noticed s) : r.noticed (s.presentLights os) :=
  h.congr (by simp) (by simp)

theorem State.presentAll_noticed (os : List Order) (h : r.noticed s) : r.noticed (s.presentAll os) := by
  simp only [State.presentAll]
  repeat
    with_reducible
      first
      | exact h | apply State.presentHeater_noticed | apply State.presentFridge_noticed
      | apply State.workMonitor_noticed | apply State.presentLights_noticed

theorem State.pass_noticed (h : r.noticed s) : r.noticed s.pass := by
  simp only [State.pass]
  repeat' split
  all_goals repeat with_reducible first | exact h | apply State.noticeIf_noticed | apply State.presentAll_noticed
  all_goals exact h.congr rfl rfl

theorem State.passIf_noticed (b : Bool) (h : r.noticed s) : r.noticed (s.passIf b) := by
  simp only [State.passIf]
  split <;> repeat with_reducible first | exact h | apply State.pass_noticed

theorem State.placePart_noticed (o : Order) (h : r.noticed s) : r.noticed (s.placePart o) := by
  simp only [State.placePart]
  repeat' split
  all_goals repeat with_reducible first | exact h | apply State.notice_noticed
  all_goals exact h.congr rfl rfl

theorem State.updAccount_noticed (i : Slot) (f : Account → Account) (h : r.noticed s) :
    r.noticed (s.updAccount i f) :=
  h.congr (by simp) (by simp)

theorem State.testDriving_noticed (i : Slot) (h : r.noticed s) : r.noticed (s.testDriving i) := by
  simp only [State.testDriving]
  split <;> repeat with_reducible first | exact h | apply State.workCondition_noticed

theorem State.testBreak_noticed (i : Slot) (h : r.noticed s) : r.noticed (s.testBreak i) := by
  simp only [State.testBreak]
  repeat' split
  all_goals repeat with_reducible first | exact h | apply State.setAccount_noticed | apply State.testDriving_noticed

theorem State.applyStaged_noticed (i : Slot) (h : r.noticed s) : r.noticed (s.applyStaged i) := by
  simp only [State.applyStaged]
  repeat' split
  all_goals repeat
    with_reducible
      first
      | exact h | apply State.accountNotice_noticed
      | apply State.setAccount_noticed | apply State.testDriving_noticed | apply State.testBreak_noticed

theorem State.placeWake_noticed (side : Side) (level fade : Nat) (h : r.noticed s) :
    r.noticed (s.placeWake side level fade) := by
  simp only [State.placeWake]
  repeat' split
  all_goals repeat with_reducible first | exact h | apply State.placePart_noticed
  all_goals exact h.congr rfl rfl

theorem State.wakeFor_noticed (a : Account) (h : r.noticed s) : r.noticed (s.wakeFor a) := by
  simp only [State.wakeFor]
  repeat' split
  all_goals repeat with_reducible first | exact h | apply State.placeWake_noticed

theorem State.fireRestDone_noticed (i : Slot) (a : Account) (h : r.noticed s) : r.noticed (s.fireRestDone i a) := by
  simp only [State.fireRestDone]
  repeat
    with_reducible
      first
      | exact h | apply State.accountNotice_noticed | apply State.setAccount_noticed
      | apply State.raise_noticed | apply State.testDriving_noticed | apply State.wakeFor_noticed

theorem State.testRestDone_noticed (i : Slot) (h : r.noticed s) : r.noticed (s.testRestDone i) := by
  simp only [State.testRestDone]
  repeat' split
  all_goals repeat with_reducible first | exact h | apply State.fireRestDone_noticed

theorem State.takeRestDone_noticed (i : Slot) (h : r.noticed s) : r.noticed (s.takeRestDone i) := by
  simp only [State.takeRestDone]
  repeat' split
  all_goals repeat
    with_reducible
      first
      | exact h | apply State.settle_noticed | apply State.pass_noticed
      | apply State.fireRestDone_noticed

theorem State.startSegment_noticed (i : Slot) (h : r.noticed s) : r.noticed (s.startSegment i) := by
  simp only [State.startSegment]
  repeat
    with_reducible
      first
      | exact h | apply State.updAccount_noticed | apply State.applyStaged_noticed
      | apply State.testRestDone_noticed

theorem State.closeSegment_noticed (i : Slot) (h : r.noticed s) : r.noticed (s.closeSegment i) := by
  simp only [State.closeSegment]
  repeat' split
  all_goals repeat with_reducible first | exact h | apply State.setAccount_noticed | apply State.raise_noticed

theorem State.closeIfResting_noticed (i : Slot) (h : r.noticed s) : r.noticed (s.closeIfResting i) := by
  simp only [State.closeIfResting]
  repeat' split
  all_goals repeat with_reducible first | exact h | apply State.closeSegment_noticed

theorem State.workQuiet_noticed (h : r.noticed s) : r.noticed s.workQuiet := by
  simp only [State.workQuiet]
  repeat' split
  all_goals repeat
    with_reducible
      first
      | exact h | apply State.accountNotice_noticed
      | apply State.heaterAttention_noticed | apply State.heaterQuiet_noticed
      | apply State.fridgeAttention_noticed | apply State.fridgeQuiet_noticed | apply State.cabQuietSet_noticed
      | apply State.cabQuietClear_noticed
  all_goals exact h.congr rfl rfl

theorem State.accountGo_noticed (i : Slot) (st : AccountState) (h : r.noticed s) : r.noticed (s.accountGo i st) := by
  simp only [State.accountGo]
  repeat with_reducible first | exact h | apply State.accountNotice_noticed | apply State.updAccount_noticed

theorem State.declareRest_noticed (i : Slot) (h : r.noticed s) : r.noticed (s.declareRest i) := by
  simp only [State.declareRest]
  split <;> repeat
    with_reducible
      first
      | exact h | apply State.accountNotice_noticed
      | apply State.settle_noticed | apply State.updAccount_noticed | apply State.startSegment_noticed
      | apply State.workQuiet_noticed | apply State.accountGo_noticed

theorem State.finishRest_noticed (i : Slot) (h : r.noticed s) : r.noticed (s.finishRest i) := by
  simp only [State.finishRest]
  repeat with_reducible first | exact h | apply State.remove_noticed | apply State.applyStaged_noticed

theorem State.endRest_noticed (i : Slot) (h : r.noticed s) : r.noticed (s.endRest i) := by
  simp only [State.endRest]
  repeat
    with_reducible
      first
      | exact h | apply State.settle_noticed | apply State.pass_noticed
      | apply State.closeIfResting_noticed | apply State.workQuiet_noticed | apply State.accountGo_noticed
      | apply State.finishRest_noticed

theorem State.declareWheel_noticed (i : Slot) (a : Account) (h : r.noticed s) : r.noticed (s.declareWheel i a) := by
  simp only [State.declareWheel]
  split <;> repeat
    with_reducible
      first
      | exact h | apply State.settle_noticed | apply State.passIf_noticed
      | apply State.updAccount_noticed | apply State.closeIfResting_noticed | apply State.workQuiet_noticed
      | apply State.accountGo_noticed | apply State.finishRest_noticed

theorem State.longPress_noticed (side : Side) (h : r.noticed s) : r.noticed (s.longPress side) := by
  simp only [State.longPress]
  repeat' split
  all_goals repeat
    with_reducible
      first
      | exact h | apply State.passIf_noticed | apply State.declareRest_noticed
      | apply State.endRest_noticed

theorem State.moveAccount_noticed (i : Slot) (h : r.noticed s) : r.noticed (s.moveAccount i) := by
  simp only [State.moveAccount]
  repeat' split
  all_goals repeat
    with_reducible
      first
      | exact h | apply State.accountNotice_noticed
      | apply State.startSegment_noticed | apply State.closeSegment_noticed | apply State.accountGo_noticed

theorem State.moveAccounts_noticed (h : r.noticed s) : r.noticed s.moveAccounts := by
  simp only [State.moveAccounts]
  repeat with_reducible first | exact h | apply State.moveAccount_noticed

theorem State.workStandstill_noticed (h : r.noticed s) : r.noticed s.workStandstill := by
  simp only [State.workStandstill]
  split <;> repeat
    with_reducible
      first
      | exact h | apply State.settle_noticed | apply State.pass_noticed
      | apply State.moveAccounts_noticed

theorem State.motionChanged_noticed (h : r.noticed s) : r.noticed s.motionChanged := by
  simp only [State.motionChanged]
  repeat' split
  all_goals repeat with_reducible first | exact h | apply State.workStandstill_noticed
  all_goals exact h.congr rfl rfl

end Sys2Proof.Machine
end

