-- ==== Sys2Proof/Laws/Presented.lean ====
section
/-! SUPPORT. What the heater, the fridge and the lights do as stage 8 presents them an order or takes it away, and the cab
light as the quiet flag moves (R144, R145, R160, R167, R174, R175, R180 to R183). -/
namespace Sys2Proof.Machine

theorem Timer.write_given (t : Timer) (on per : Nat) : (t.write on per).given on per := by
  unfold Timer.write Timer.given
  split <;> simp_all

theorem State.writeFan_given (s : State) (d : Nat) : (s.writeFan d).timers.t5.given d 1000 := by
  have h := Timer.write_given s.timers.t5 d 1000
  simp only [State.writeFan, State.writeTimer]
  split <;> exact h

theorem State.writeT6_given (s : State) (on per : Nat) : (s.writeTimer .t6 on per).timers.t6.given on per := by
  have h := Timer.write_given s.timers.t6 on per
  simp only [State.writeTimer]
  split <;> exact h

theorem State.haltTimer_t4_running (s : State) : (s.haltTimer .t4).timers.t4.running = false := rfl

theorem State.haltTimer_t6_running (s : State) : (s.haltTimer .t6).timers.t6.running = false := rfl

/-! ### The heater -/

theorem State.heaterGo_heater (s : State) (st : HeaterState) :
    (s.heaterGo st).heater = { s.heater with state := st } := by
  simp [State.heaterGo]

theorem State.heaterGo_timers (s : State) (st : HeaterState) : (s.heaterGo st).timers = s.timers := by
  simp [State.heaterGo]

/-- R146: what entry to PREHEAT leaves of the heater and of its fan. -/
theorem State.enterPreheat_does (s : State) :
    s.enterPreheat.heater =
      { s.heater with state := .preheat, glow := true, phase := some s.preheatLength } ∧
    s.enterPreheat.timers.t5.given 200 1000 := by
  refine ⟨?_, ?_⟩
  · simp [State.enterPreheat, State.heaterGo_heater]
  · rw [State.enterPreheat, State.heaterGo_timers]
    exact State.writeFan_given _ _

/-- Table 29: what entry to OFF leaves of the heater and of its fan. -/
theorem State.enterOff_does (s : State) :
    s.enterOff.heater = { s.heater with state := .off, glow := false, phase := none } ∧
    s.enterOff.timers.t5.given 0 1000 := by
  refine ⟨?_, ?_⟩
  · simp [State.enterOff, State.heaterGo_heater]
  · rw [State.enterOff, State.heaterGo_timers]
    exact State.writeFan_given _ _

/-- R155: what entry to COOLDOWN leaves of the heater, of its pump and of its fan. -/
theorem State.enterCooldown_does (s : State) (c : CooldownCause) :
    (s.enterCooldown c).heater =
      { s.heater with
        state := .cooldown, glow := false, phase := some s.heater.params.cooldown, cause := some c, level := 0
        desired := 0, satisfy := none } ∧
    (s.enterCooldown c).timers.t4.running = false ∧ (s.enterCooldown c).timers.t5.given 1000 1000 := by
  refine ⟨?_, ?_, ?_⟩
  · simp [State.enterCooldown, State.heaterGo_heater]
  · rw [State.enterCooldown, State.heaterGo_timers]
    simp [State.haltTimer_t4_running]
  · rw [State.enterCooldown, State.heaterGo_timers]
    exact State.writeFan_given _ _

/-- What `heaterWorked` reads of the two states. -/
theorem State.heaterWorked_congr {s s' t t' : State} (h : s.heaterWorked t) (hh : s'.heater = s.heater)
    (hs : s'.sense = s.sense) (h4 : s'.timers.t4 = s.timers.t4) (h5 : s'.timers.t5 = s.timers.t5)
    (kh : t'.heater = t.heater) (k4 : t'.timers.t4 = t.timers.t4) (k5 : t'.timers.t5 = t.timers.t5)
    (kf : Notice.heater.inByte t'.port.flags = Notice.heater.inByte t.port.flags) :
    s'.heaterWorked t' := by
  simp only [State.heaterWorked, hh, hs, h4, h5, kh, k4, k5, kf] at h ⊢
  exact h

/-- R144: the heater as an order becomes presented while none was. -/
theorem State.heaterPresented_does (s : State) :
    (s.heater.state = .off → s.sense.ovht.level = false →
      s.heaterPresented.heater =
        { s.heater with state := .preheat, glow := true, phase := some s.preheatLength } ∧
      s.heaterPresented.timers.t5.given 200 1000) ∧
    (s.heater.state = .off → s.sense.ovht.level = true → s.heaterPresented.heater = s.heater) ∧
    (s.heater.state = .cooldown → s.heaterPresented.heater = { s.heater with restart := true }) ∧
    (s.heater.state ≠ .off → s.heater.state ≠ .cooldown → s.heaterPresented.heater = s.heater) := by
  refine ⟨fun h o => ?_, fun h o => ?_, fun h => ?_, fun h k => ?_⟩
  · simpa [State.heaterPresented, h, State.overheated, o] using s.enterPreheat_does
  · simp [State.heaterPresented, h, State.overheated, o]
  · simp [State.heaterPresented, h]
  · unfold State.heaterPresented
    split <;> simp_all

/-- R145: the heater as the presented order goes away. -/
theorem State.heaterWithdrawn_does (s : State) :
    (s.heater.state = .preheat ∨ s.heater.state = .satisfied →
      s.heaterWithdrawn.heater = { s.heater with state := .off, glow := false, phase := none } ∧
      s.heaterWithdrawn.timers.t5.given 0 1000) ∧
    (s.heater.state.burning = true →
      s.heaterWithdrawn.heater =
        { s.heater with
          state := .cooldown, glow := false, phase := some s.heater.params.cooldown, cause := some .stopped
          level := 0, desired := 0, satisfy := none } ∧
      s.heaterWithdrawn.timers.t4.running = false ∧ s.heaterWithdrawn.timers.t5.given 1000 1000) ∧
    (s.heater.state = .cooldown →
      s.heaterWithdrawn.heater =
        { s.heater with
          restart := false
          cause := if s.heater.cause = some .satisfied then some .stopped else s.heater.cause }) ∧
    (s.heater.state = .off ∨ s.heater.state = .lockout → s.heaterWithdrawn.heater = s.heater) := by
  refine ⟨fun h => ?_, fun h => ?_, fun h => ?_, fun h => ?_⟩
  · rcases h with h | h <;> simpa [State.heaterWithdrawn, h] using s.enterOff_does
  · cases hs : s.heater.state <;> simp [HeaterState.burning, hs] at h <;>
      simpa [State.heaterWithdrawn, hs] using s.enterCooldown_does .stopped
  · simp [State.heaterWithdrawn, h]
  · rcases h with h | h <;> simp [State.heaterWithdrawn, h]

theorem State.heaterGo_flag (s : State) (st : HeaterState) (h : s.rst.asserted = false) :
    Notice.heater.inByte (s.heaterGo st).port.flags = true := by
  simp [State.heaterGo, State.notice_inByte, h]

theorem State.heaterPresented_flag (s : State) (hr : s.rst.asserted = false)
    (h : s.heaterPresented.heater.state ≠ s.heater.state) :
    Notice.heater.inByte s.heaterPresented.port.flags = true := by
  revert h
  cases hs : s.heater.state <;> simp only [State.heaterPresented, hs]
  case off =>
    split
    · simp [hs]
    · exact fun _ => State.heaterGo_flag _ _ (by simp [hr])
  all_goals simp [hs]

theorem State.heaterWithdrawn_flag (s : State) (hr : s.rst.asserted = false)
    (h : s.heaterWithdrawn.heater.state ≠ s.heater.state) :
    Notice.heater.inByte s.heaterWithdrawn.port.flags = true := by
  revert h
  cases hs : s.heater.state <;> simp only [State.heaterWithdrawn, hs]
  case preheat => exact fun _ => State.heaterGo_flag _ _ (by simp [hr])
  case ignition => exact fun _ => State.heaterGo_flag _ _ (by simp [hr])
  case proving => exact fun _ => State.heaterGo_flag _ _ (by simp [hr])
  case run => exact fun _ => State.heaterGo_flag _ _ (by simp [hr])
  case satisfied => exact fun _ => State.heaterGo_flag _ _ (by simp [hr])
  all_goals simp [hs]

/-- R160: HEATER is set where stage 8 changes the heater's state. -/
theorem State.presentHeater_flag (s : State) (p : Option Presented) (hr : s.rst.asserted = false)
    (h : (s.presentHeater p).heater.state ≠ s.heater.state) :
    Notice.heater.inByte (s.presentHeater p).port.flags = true := by
  revert h
  simp only [State.presentHeater]
  split
  · exact fun h => State.heaterPresented_flag _ hr (by simpa using h)
  · split
    · exact fun h => State.heaterWithdrawn_flag _ hr (by simpa using h)
    · simp

/-- R144, R145: stage 8 presents the heater. -/
theorem State.presentHeater_worked (s : State) (p : Option Presented) (hr : s.rst.asserted = false) :
    s.heaterWorked (s.presentHeater p) := by
  refine ⟨s.presentHeater_flag p hr, ?_⟩
  intro h hh
  generalize hq : s.heater.presented = q at *
  cases q <;> cases p
  · simp [State.presentHeater, hq, hh, Heater.causeSettled]
  · have := State.heaterPresented_does (s.withHeater (fun h => { h with presented := some ‹_› }))
    simp [State.presentHeater, hq, hh]
    simpa [State.preheatLength] using this
  · have := State.heaterWithdrawn_does (s.withHeater (fun h => { h with presented := none }))
    simp only [State.withHeater_heater] at this
    simp only [State.presentHeater, hq, hh, Option.isNone_some, Option.isSome_some, Option.isNone_none, Option.isSome_none,
      Bool.and_self, if_true, if_false, Bool.false_eq_true]
    simp
    exact this
  · simp [State.presentHeater, hq, hh, Heater.causeSettled]

/-! ### The fridge -/

theorem State.fridgeGo_fridge (s : State) (st : FridgeState) :
    (s.fridgeGo st).fridge = { s.fridge with state := st } := by
  simp [State.fridgeGo]

theorem State.fridgeGo_timers (s : State) (st : FridgeState) : (s.fridgeGo st).timers = s.timers := by
  simp [State.fridgeGo]

/-- R166: what entry to START leaves of the fridge and of its timer. -/
theorem State.enterStart_does (s : State) :
    s.enterStart.fridge =
      { s.fridge with
        state := .start, compressor := true, speed := 1, onSeconds := some 0, startWindows := some 0 } ∧
    s.enterStart.timers.t6.given 400 1000 := by
  refine ⟨?_, ?_⟩
  · simp [State.enterStart, State.fridgeGo_fridge]
  · rw [State.enterStart, State.fridgeGo_timers]
    exact State.writeT6_given _ _ _

/-- R166: what switching the compressor off, into REST, leaves of the fridge and of its timer. -/
theorem State.stopToRest_does (s : State) :
    s.stopToRest.fridge =
      { s.fridge with
        state := .rest, compressor := false, speed := 0, offSeconds := 0, onSeconds := none, startWindows := none
        lowWindows := none, runSeconds := none } ∧
    s.stopToRest.timers.t6.running = false := by
  refine ⟨?_, ?_⟩
  · simp [State.stopToRest, State.switchOff, State.fridgeGo_fridge]
  · rw [State.stopToRest, State.fridgeGo_timers]
    rfl

/-- R168, R173: entry to IDLE, with its start test. -/
theorem State.enterIdle_does (s : State) :
    (s.fridgeStarts →
      s.enterIdle.fridge =
        { s.fridge with
          state := .start, compressor := true, speed := 1, onSeconds := some 0, startWindows := some 0 } ∧
      s.enterIdle.timers.t6.given 400 1000) ∧
    (¬s.fridgeStarts → s.enterIdle.fridge = { s.fridge with state := .idle }) := by
  have hs := (s.fridgeGo .idle).enterStart_does
  simp only [State.fridgeGo_fridge] at hs
  simp only [State.enterIdle, State.startTest, State.fridgeGo_fridge, State.fridgeStarts, ne_eq, not_true_eq_false,
    if_false, State.fridgeGo_keeps]
  cases s.sense.fridgeT.fault
  · simp only [Bool.false_eq_true, if_false, false_and, true_and, false_or]
    split
    · next h => exact ⟨fun _ => hs, fun k => absurd h k⟩
    · next h => exact ⟨fun k => absurd k h, fun _ => State.fridgeGo_fridge _ _⟩
  · simp only [if_true, true_and, Bool.true_eq_false, false_and, or_false]
    split
    · next h => exact ⟨fun _ => hs, fun k => absurd h k⟩
    · next h => exact ⟨fun k => absurd k h, fun _ => State.fridgeGo_fridge _ _⟩

/-- What `fridgeWorked` reads of the two states: of the fridge after, all but what the monitoring of R174 writes. -/
theorem State.fridgeWorked_congr {s s' t t' : State} (h : s.fridgeWorked t) (hf : s'.fridge = s.fridge)
    (hs : s'.sense = s.sense) (h6 : s'.timers.t6 = s.timers.t6)
    (kf : t'.fridge = { t.fridge with monitored := t'.fridge.monitored, warmRun := t'.fridge.warmRun })
    (k6 : t'.timers.t6 = t.timers.t6)
    (kn : Notice.fridge.inByte t'.port.flags = Notice.fridge.inByte t.port.flags) : s'.fridgeWorked t' := by
  have hp : t'.fridge.presented = t.fridge.presented := by rw [kf]
  refine ⟨fun k => ?_, fun f hf' => ?_⟩
  · rw [kn]
    refine h.1 fun e => k ?_
    rw [kf, hf]
    exact e
  have hd : s'.fridgeStarts = s.fridgeStarts := by simp only [State.fridgeStarts, hf, hs]
  obtain ⟨a, b, c⟩ := h.2 _ rfl
  rw [hf, hp] at hf'
  simp only [hf, h6, k6, hp, hd]
  refine ⟨fun e => ⟨?_, (a e).2⟩, fun e k => ⟨fun o d => ⟨?_, ((b e k).1 o d).2⟩, fun o d => ?_, fun o => ?_⟩,
    fun e k => ⟨fun o => ?_, fun o => ⟨?_, ((c e k).2.1 o).2⟩, fun o p => ?_⟩⟩
  · rw [kf, (a e).1, hf']
  · rw [kf, ((b e k).1 o d).1, hf']
  · rw [kf, (b e k).2.1 o d, hf']
  · rw [kf, (b e k).2.2 o, hf']
  · rw [kf, (c e k).1 o, hf']
  · rw [kf, ((c e k).2.1 o).1, hf']
  · rw [kf, (c e k).2.2 o p, hf']

theorem State.fridgeGo_flag (s : State) (st : FridgeState) (h : s.rst.asserted = false) :
    Notice.fridge.inByte (s.fridgeGo st).port.flags = true := by
  simp [State.fridgeGo, State.notice_inByte, h]

theorem State.startTest_flag (s : State) (hr : s.rst.asserted = false)
    (h : Notice.fridge.inByte s.port.flags = true) : Notice.fridge.inByte s.startTest.port.flags = true := by
  simp only [State.startTest]
  repeat' split
  all_goals first
    | exact h
    | exact State.fridgeGo_flag _ _ (by simp [hr])

/-- R175: FRIDGE is set where stage 8 changes the fridge's state. -/
theorem State.presentFridge_flag (s : State) (p : Option Presented) (hr : s.rst.asserted = false)
    (h : (s.presentFridge p).fridge.state ≠ s.fridge.state) :
    Notice.fridge.inByte (s.presentFridge p).port.flags = true := by
  revert h
  simp only [State.presentFridge, State.fridgePresented]
  split
  · split
    · exact fun _ => State.startTest_flag _ (by simp [hr]) (State.fridgeGo_flag _ _ (by simp [hr]))
    · simp
  · split
    · simp only [State.fridgeWithdrawn]
      split
      · exact fun _ => State.fridgeGo_flag _ _ (by simp [hr])
      · exact fun _ => State.fridgeGo_flag _ _ (by simp [hr])
      · exact fun _ => State.fridgeGo_flag _ _ (by simp [hr])
      · simp
    · simp

/-- R167: stage 8 presents the fridge. -/
theorem State.presentFridge_worked (s : State) (p : Option Presented) (hr : s.rst.asserted = false) :
    s.fridgeWorked (s.presentFridge p) := by
  refine ⟨s.presentFridge_flag p hr, ?_⟩
  intro f hf
  generalize hq : s.fridge.presented = q at *
  cases q <;> cases p
  · simp [State.presentFridge, hq, hf]
  · have hd := State.enterIdle_does (s.withFridge (fun f => { f with presented := some ‹_› }))
    simp only [State.withFridge_fridge, State.fridgeStarts, State.withFridge_keeps] at hd
    cases hs : s.fridge.state <;>
      simp_all [State.presentFridge, State.fridgePresented, State.fridgeStarts]
  · have hd := State.stopToRest_does (s.withFridge (fun f => { f with presented := none }))
    simp only [State.withFridge_fridge] at hd
    cases hs : s.fridge.state <;>
      simp_all [State.presentFridge, State.fridgeWithdrawn, State.fridgeGo_fridge, FridgeState.turning]
  · simp [State.presentFridge, hq, hf]

/-- R167: a presentation leaves what the monitoring of R174 writes. -/
theorem State.presentFridge_monitor (s : State) (p : Option Presented) :
    (s.presentFridge p).fridge.monitored = s.fridge.monitored ∧
    (s.presentFridge p).fridge.warmRun = s.fridge.warmRun := by
  have h1 := State.enterIdle_does (s.withFridge (fun f => { f with presented := p }))
  have h2 := State.stopToRest_does (s.withFridge (fun f => { f with presented := p }))
  simp only [State.presentFridge, State.fridgePresented, State.fridgeWithdrawn]
  repeat' split
  · by_cases h : (s.withFridge (fun f => { f with presented := p })).fridgeStarts
    · simp [(h1.1 h).1]
    · simp [h1.2 h]
  all_goals simp [State.fridgeGo_fridge, h2.1]

/-! ### The lights -/

@[simp] theorem Lights.get_set (l : Lights) (i j : LightId) (c : Channel) :
    (l.set i c).get j = if i = j then c else l.get j := by
  cases i <;> cases j <;> rfl

@[simp] theorem State.channel_setChannel (s : State) (i j : LightId) (c : Channel) :
    (s.setChannel i c).channel j = if i = j then c else s.channel j := Lights.get_set _ _ _ _

theorem State.channel_congr {s t : State} (h : t.lights = s.lights) (j) : t.channel j = s.channel j := by
  simp [State.channel, h]

@[simp] theorem State.channel_writeTimer (s : State) (i : TimerId) (a b) (j) :
    (s.writeTimer i a b).channel j = s.channel j :=
  State.channel_congr (by simp) j

@[simp] theorem State.writeTimer_get (s : State) (i j : TimerId) (a b) (h : i ≠ j) :
   ((s.writeTimer i a b).timers.get j) = s.timers.get j := by
  simp only [State.writeTimer]
  split <;> cases i <;> cases j <;> first | rfl | exact absurd rfl h

/-- R181: a duty written to a channel, whose timer is written where the duty is a new one. -/
theorem State.setDuty_does (s : State) (i : LightId) (d : Nat) :
    (s.setDuty i d).channel i = { s.channel i with duty := d } ∧ s.lampDriven (s.setDuty i d) i := by
  unfold State.lampDriven State.setDuty
  split
  · next h => subst h; simp
  · next h =>
    refine ⟨by simp, fun k => absurd k.symm (by simpa using h), fun _ => ?_⟩
    simp only [State.channel_writeTimer, State.channel_setChannel, if_true]
    have hw := Timer.write_given ((s.setChannel i { s.channel i with duty := d }).timers.get i.timer) d 1000
    simp only [State.writeTimer]
    split <;> cases i <;> exact hw

/-- An operation on one channel leaves the other channels and their timers. -/
theorem State.setDuty_others (s : State) (i j : LightId) (d : Nat) (h : i ≠ j) :
    (s.setDuty i d).channel j = s.channel j ∧ (s.setDuty i d).timers.get j.timer = s.timers.get j.timer := by
  unfold State.setDuty
  split
  · simp
  · have ht : i.timer ≠ j.timer := by cases i <;> cases j <;> first | decide | exact absurd rfl h
    simp [h, State.writeTimer_get _ _ _ _ _ ht]

/-- R181, R182: a fade begun in a channel. -/
theorem State.beginFade_does (s : State) (i : LightId) (d n : Nat) :
    (s.beginFade i d n).channel i =
      (if n = 0 then { s.channel i with duty := d, fade := none }
       else
        { s.channel i with fade := some { from_ := (s.channel i).duty, to_ := d, taken := 0, steps := n } }) ∧
    s.lampDriven (s.beginFade i d n) i := by
  unfold State.beginFade
  split
  · have h := State.setDuty_does (s.setChannel i { s.channel i with fade := none }) i d
    refine ⟨by rw [h.1]; simp, ?_⟩
    have hl := h.2
    simp only [State.lampDriven, h.1, State.channel_setChannel, if_true, State.setChannel_keeps] at hl ⊢
    exact hl
  · simp [State.lampDriven]

theorem State.beginFade_others (s : State) (i j : LightId) (d n : Nat) (h : i ≠ j) :
    (s.beginFade i d n).channel j = s.channel j ∧
    (s.beginFade i d n).timers.get j.timer = s.timers.get j.timer := by
  unfold State.beginFade
  split
  · have := State.setDuty_others (s.setChannel i { s.channel i with fade := none }) i j d h
    simpa [h] using this
  · simp [h]

/-- R180, R181: a channel that is given an effective target pursues it. -/
theorem State.pursue_does (s : State) (i : LightId) (c : Channel) (e n : Nat) (hd : c.duty = (s.channel i).duty) :
    ∀ u, u = s.setChannel i { c with effective := e } →
      (if e = c.pursued then u else u.beginFade i e n).channel i = c.pursue e n ∧
      s.lampDriven (if e = c.pursued then u else u.beginFade i e n) i := by
  rintro u rfl
  unfold Channel.pursue
  split
  · simp [State.lampDriven, hd]
  · obtain ⟨hc, hl⟩ := State.beginFade_does (s.setChannel i { c with effective := e }) i e n
    refine ⟨?_, ?_⟩
    · rw [hc]
      split <;> simp
    · simpa [State.lampDriven, hd] using hl

/-- R180: a channel reads its presentation and pursues the effective target. -/
theorem State.presentLight_does (s : State) (i : LightId) (p : Option Presented) :
    (s.presentLight i p).channel i =
      { s.channel i with presented := p, target := (targetOf p).1, fadeTime := (targetOf p).2 }.pursue
        (s.effectiveOf i (targetOf p).1) ((targetOf p).2 * 100) ∧
    s.lampDriven (s.presentLight i p) i :=
  State.pursue_does s i
    { s.channel i with presented := p, target := (targetOf p).1, fadeTime := (targetOf p).2 } _ _ rfl _ rfl

theorem State.presentLight_channel_ne (s : State) (i j : LightId) (p : Option Presented) (h : i ≠ j) :
    (s.presentLight i p).channel j = s.channel j := by
  simp only [State.presentLight]
  split
  · simp [h]
  · simp [State.beginFade_others _ _ _ _ _ h, h]

theorem State.presentLight_timer_ne (s : State) (i j : LightId) (p : Option Presented) (h : i ≠ j) :
    (s.presentLight i p).timers.get j.timer = s.timers.get j.timer := by
  simp only [State.presentLight]
  split
  · simp
  · simp [State.beginFade_others _ _ _ _ _ h]

/-- What `presentLight_does` reads of the states before and after. -/
theorem State.presentLight_within {s u t : State} (i : LightId) (p : Option Presented)
    (hc : u.channel i = s.channel i) (ht : u.timers.get i.timer = s.timers.get i.timer)
    (he : u.effectiveOf i = s.effectiveOf i) (kc : t.channel i = (u.presentLight i p).channel i)
    (kt : t.timers.get i.timer = (u.presentLight i p).timers.get i.timer) :
    t.channel i =
      { s.channel i with presented := p, target := (targetOf p).1, fadeTime := (targetOf p).2 }.pursue
        (s.effectiveOf i (targetOf p).1) ((targetOf p).2 * 100) ∧
    s.lampDriven t i := by
  obtain ⟨h, k⟩ := u.presentLight_does i p
  simp only [State.lampDriven, hc, ht, he, ← kc, ← kt] at h k ⊢
  exact ⟨h, k⟩

/-- R180 to R182: what stage 8 leaves of a light. -/
theorem State.presentLights_does (s : State) (os : List Order) (i : LightId) :
    (s.presentLights os).channel i =
      { s.channel i with
        presented := presentedFor i.load os, target := (targetOf (presentedFor i.load os)).1
        fadeTime := (targetOf (presentedFor i.load os)).2 }.pursue
        (s.effectiveOf i (targetOf (presentedFor i.load os)).1) ((targetOf (presentedFor i.load os)).2 * 100) ∧
    s.lampDriven (s.presentLights os) i := by
  unfold State.presentLights
  generalize hu : s.presentLight .readA (presentedFor .readA os) = u
  generalize hv : u.presentLight .readB (presentedFor .readB os) = v
  generalize hw : v.presentLight .cabLight (presentedFor .cabLight os) = w
  cases i
  case' readA => refine State.presentLight_within (u := s) .readA _ rfl rfl rfl ?_ ?_
  case' readB => refine State.presentLight_within (u := u) .readB _ ?_ ?_ ?_ ?_ ?_
  case' cabLight => refine State.presentLight_within (u := v) .cabLight _ ?_ ?_ ?_ ?_ ?_
  case' nightLight => refine State.presentLight_within (u := w) .nightLight _ ?_ ?_ ?_ ?_ ?_
  all_goals subst hu hv hw
  all_goals try simp (disch := decide) only [State.presentLight_channel_ne, State.presentLight_timer_ne]
  all_goals first | rfl | (funext x; simp [State.effectiveOf])

/-- A duty written twice, where the second write does not bring the first duty back. -/
theorem State.lampDriven.trans {s v t : State} {i : LightId} (h : s.lampDriven v i) (k : v.lampDriven t i)
    (hb : (t.channel i).duty = (s.channel i).duty → (v.channel i).duty = (s.channel i).duty) : s.lampDriven t i := by
  unfold State.lampDriven at *
  by_cases e : (t.channel i).duty = (v.channel i).duty
  · rw [k.1 e, e]
    exact h
  · exact ⟨fun f => absurd (f.trans (hb f).symm) e, fun _ => k.2 e⟩

@[simp] theorem Channel.pursue_presented (c : Channel) (e n : Nat) : (c.pursue e n).presented = c.presented := by
  unfold Channel.pursue
  repeat' split
  all_goals rfl

/-- What `lightsWorked` reads of the state before. -/
theorem State.lightsWorked_congr {s s' t : State} (h : s.lightsWorked t) (hl : s'.lights = s.lights)
    (ht : s'.timers = s.timers) (hq : s'.quiet = s.quiet) : s'.lightsWorked t := by
  simp only [State.lightsWorked, State.lampDriven, State.channel_congr hl, hl, ht, hq] at h ⊢
  exact h

/-- R183: the cab light is held to its cap. -/
theorem State.cabQuietSet_does (s : State) :
    s.cabQuietSet.channel .cabLight = (s.channel .cabLight).heldTo s.lights.quietCap ∧
    s.lampDriven s.cabQuietSet .cabLight := by
  generalize hc : s.channel .cabLight = c
  generalize hk : s.lights.quietCap = cap
  have h1 := State.setDuty_does (s.setChannel .cabLight { c with effective := min c.target cap }) .cabLight cap
  generalize hu : (s.setChannel .cabLight { c with effective := min c.target cap }) = u at h1
  have huc : u.channel .cabLight = { c with effective := min c.target cap } := by rw [← hu]; simp
  have hut : u.timers = s.timers := by rw [← hu]; simp
  generalize hv : (if cap < c.duty then u.setDuty .cabLight cap else u) = v
  have hvc : v.channel .cabLight = { c with effective := min c.target cap, duty := min c.duty cap } := by
    rw [← hv]
    split
    · next h => rw [h1.1, huc]; simp [Nat.min_eq_right (Nat.le_of_lt h)]
    · next h => rw [huc, Nat.min_eq_left (Nat.le_of_not_lt h)]
  have hvl : s.lampDriven v .cabLight := by
    have h := h1.2
    simp only [State.lampDriven, hc, hvc, huc, hut, h1.1] at h ⊢
    rw [← hv]
    split
    · next k =>
      rw [Nat.min_eq_right (Nat.le_of_lt k)]
      exact h
    · next k => simp [Nat.min_eq_left (Nat.le_of_not_lt k), hut]
  have htr : ∀ t : State, v.lampDriven t .cabLight → (t.channel .cabLight).duty ≤ cap → s.lampDriven t .cabLight := by
    intro t ht hd
    refine hvl.trans ht fun h => ?_
    rw [hc] at h ⊢
    rw [hvc]
    exact Nat.min_eq_left (h ▸ hd)
  have hset : s.cabQuietSet =
      (match c.fade with
       | some f => v.beginFade .cabLight (min c.target cap) (f.steps - f.taken)
       | none =>
         if (v.channel .cabLight).duty = min c.target cap then v
         else v.beginFade .cabLight (min c.target cap) (c.fadeTime * 100)) := by
    subst hv hu hc hk
    rfl
  rw [hset]
  unfold Channel.heldTo Channel.pursue Channel.pursued
  cases hf : c.fade with
  | some f =>
    obtain ⟨hb, hl⟩ := v.beginFade_does .cabLight (min c.target cap) (f.steps - f.taken)
    simp only [hvc] at hb
    refine ⟨?_, htr _ hl ?_⟩
    · rw [hb]
      by_cases h : f.taken < f.steps
      · simp [h, Nat.sub_eq_zero_iff_le, Nat.not_le.2 h]
      · simp [h, Nat.not_lt.1 h]
    · rw [hb]; split <;> simp
  | none =>
    obtain ⟨hb, hl⟩ := v.beginFade_does .cabLight (min c.target cap) (c.fadeTime * 100)
    simp only [hvc] at hb ⊢
    by_cases h : min c.duty cap = min c.target cap
    · simp only [h, if_true]
      exact ⟨by simp [hvc, h, hf], hvl⟩
    · simp only [h, Ne.symm h, if_false]
      refine ⟨hb.trans ?_, htr _ hl ?_⟩
      · split <;> rfl
      · rw [hb]; split <;> simp

/-- R183: the cab light pursues its own target again. -/
theorem State.cabQuietClear_does (s : State) :
    s.cabQuietClear.channel .cabLight =
      (s.channel .cabLight).pursue (s.channel .cabLight).target ((s.channel .cabLight).fadeTime * 100) ∧
    s.lampDriven s.cabQuietClear .cabLight :=
  State.pursue_does s .cabLight (s.channel .cabLight) _ _ rfl _ rfl

/-! ### The monitoring -/

/-- A pass keeps the key order of the table. -/
theorem Reading.run_keys_pairwise (r : Reading) (os : List Order) (h : os.Pairwise (fun a b => a.key < b.key)) :
    (r.run os).orders.Pairwise (fun a b => a.key < b.key) := by
  simp only [Reading.run, Reading.resolved, List.map_map]
  rw [List.pairwise_map]
  exact (h.filter _).imp (fun h => h)

theorem hasPair_erasePair (a : Source) (t : WarnType) (es : List Entry) : hasPair a t (erasePair a t es) = false := by
  simp [hasPair, erasePair]

/-- R174: where the setpoint that is monitored comes from. -/
theorem monitoredSetpoint_some {os : List Order} {x : Int} (h : monitoredSetpoint os = some x) :
    ∃ o ∈ os, o.load = .fridge ∧ (∀ y, o.target = .setpoint y → x = y) ∧
      (o.state = .active ∨ o.state = .waiting ∨
        (o.state = .blocked ∧ (∀ p ∈ os, p.load = .fridge → p.state ≠ .active ∧ p.state ≠ .waiting) ∧
          (os.Pairwise (fun a b => a.key < b.key) →
            ∀ p ∈ os, p.load = .fridge → p.state = .blocked → o.key ≤ p.key))) := by
  simp only [monitoredSetpoint] at h
  split at h
  · next o ho =>
    have hp := List.find?_some ho
    simp only [Bool.and_eq_true, Bool.or_eq_true, decide_eq_true_eq] at hp
    refine ⟨o, List.mem_of_find?_eq_some ho, hp.1, fun y hy => ?_, hp.2.imp_right Or.inl⟩
    simp only [hy, Option.some.injEq] at h
    exact h.symm
  · next hn =>
    obtain ⟨o, ho, hx⟩ := Option.map_eq_some_iff.1 h
    obtain ⟨hp, as, bs, rfl, hno⟩ := List.find?_eq_some_iff_append.1 ho
    simp only [Bool.and_eq_true, decide_eq_true_eq] at hp
    refine ⟨o, by simp, hp.1, fun y hy => ?_, .inr (.inr ⟨hp.2, fun p hm hl => ?_, fun hw p hm hl hb => ?_⟩)⟩
    · rw [← hx, hy]
    · have := List.find?_eq_none.1 hn p hm
      simpa [hl] using this
    · rcases List.mem_append.1 hm with hm | hm
      · have := hno p hm
        simp [hl, hb] at this
      · rcases List.mem_cons.1 hm with rfl | hm
        · exact Nat.le_refl _
        · exact Nat.le_of_lt ((List.pairwise_cons.1 (List.pairwise_append.1 hw).2.1).1 p hm)

/-- R174: the monitoring ceases where no FRIDGE order is a candidate or BLOCKED. -/
theorem monitoredSetpoint_none {os : List Order} (h : monitoredSetpoint os = none) :
    ∀ o ∈ os, o.load = .fridge → o.state ≠ .active ∧ o.state ≠ .waiting ∧ o.state ≠ .blocked := by
  simp only [monitoredSetpoint] at h
  split at h
  · cases h
  · next hn =>
    intro o ho hl
    have h1 := List.find?_eq_none.1 hn o ho
    have h2 := List.find?_eq_none.1 (Option.map_eq_none_iff.1 h) o ho
    simp only [hl, decide_true, Bool.true_and, Bool.or_eq_true, decide_eq_true_eq, not_or] at h1 h2
    exact ⟨h1.1, h1.2, h2⟩

theorem State.hasPair_dropEntry (s : State) (a : Source) (t : WarnType) :
    hasPair a t (s.dropEntry a t).warn.entries = false := by
  simp only [State.dropEntry]
  split
  · simp [Warn.workLamp, hasPair_erasePair]
  · next h => simpa using h

/-- R174: the monitoring after a pass that leaves these orders. -/
theorem State.workMonitor_worked (s r : State) (os : List Order) (hf : r.fridge.warmRun = s.fridge.warmRun)
    (hw : r.warn = s.warn) (hr : r.rst = s.rst) (ha : s.rst.asserted = false)
    (hk : s.orders.Pairwise (fun a b => a.key < b.key) → os.Pairwise (fun a b => a.key < b.key))
    (ho : r.orders = os) : s.monitorWorked (r.workMonitor os) := by
  unfold State.monitorWorked
  simp only [State.workMonitor_keeps, ho]
  cases hm : monitoredSetpoint os with
  | some x =>
    simp only [State.workMonitor, hm, State.withFridge_fridge, State.withFridge_keeps, hf, hw, Option.some.injEq]
    refine ⟨fun y hy => ⟨trivial, fun _ => trivial, ?_⟩, fun h => by cases h⟩
    subst hy
    obtain ⟨o, h1, h2, h3, h4⟩ := monitoredSetpoint_some hm
    exact ⟨o, h1, h2, h3, h4.imp_right (fun k => k.imp_right (fun k => ⟨k.1, k.2.1, fun w => k.2.2 (hk w)⟩))⟩
  | none =>
    have hn := monitoredSetpoint_none hm
    simp only [State.workMonitor, hm]
    split
    · refine ⟨fun y hy => by simp at hy, fun _ => ⟨by simp, fun _ => ?_, hn⟩⟩
      simp [State.remove, hr, ha, State.hasPair_dropEntry]
    · next hl =>
      refine ⟨fun y hy => by simp at hy, fun _ => ⟨by simp, fun hh => ?_, hn⟩⟩
      simpa [State.listed, hr, (hh ha).1, handedPresence] using hl

end Sys2Proof.Machine
end

