-- ==== Sys2Proof/Laws/Passes.lean ====
section
/-! SUPPORT. The allocation pass said once: what stage 8 presents, and what a whole pass leaves of a state. -/
namespace Sys2Proof.Machine


@[simp] theorem State.heaterGo_orderFlag (s : State) (st : HeaterState) :
    Notice.order.inByte (s.heaterGo st).port.flags = Notice.order.inByte s.port.flags := by
  simp [State.heaterGo, State.notice_inByte]

@[simp] theorem State.enterPreheat_orderFlag (s : State) :
    Notice.order.inByte s.enterPreheat.port.flags = Notice.order.inByte s.port.flags := by
  simp [State.enterPreheat]

@[simp] theorem State.enterOff_orderFlag (s : State) :
    Notice.order.inByte s.enterOff.port.flags = Notice.order.inByte s.port.flags := by
  simp [State.enterOff]

@[simp] theorem State.enterCooldown_orderFlag (s : State) (c : CooldownCause) :
    Notice.order.inByte (s.enterCooldown c).port.flags = Notice.order.inByte s.port.flags := by
  simp [State.enterCooldown]

@[simp] theorem State.heaterPresented_orderFlag (s : State) :
    Notice.order.inByte s.heaterPresented.port.flags = Notice.order.inByte s.port.flags := by
  simp only [State.heaterPresented]
  repeat' split
  all_goals simp

@[simp] theorem State.heaterWithdrawn_orderFlag (s : State) :
    Notice.order.inByte s.heaterWithdrawn.port.flags = Notice.order.inByte s.port.flags := by
  simp only [State.heaterWithdrawn]
  split <;> simp

@[simp] theorem State.presentHeater_orderFlag (s : State) (p : Option Presented) :
    Notice.order.inByte (s.presentHeater p).port.flags = Notice.order.inByte s.port.flags := by
  simp only [State.presentHeater]
  repeat' split
  all_goals simp

/-- The fridge's own work sets no notice but FRIDGE. -/
@[simp] theorem State.fridgeGo_otherFlag (s : State) (st : FridgeState) (n : Notice) (h : n ≠ .fridge) :
    n.inByte (s.fridgeGo st).port.flags = n.inByte s.port.flags := by
  simp [State.fridgeGo, State.notice_inByte, Ne.symm h]

@[simp] theorem State.enterStart_otherFlag (s : State) (n : Notice) (h : n ≠ .fridge) :
    n.inByte s.enterStart.port.flags = n.inByte s.port.flags := by
  simp [State.enterStart, h]

@[simp] theorem State.stopToRest_otherFlag (s : State) (n : Notice) (h : n ≠ .fridge) :
    n.inByte s.stopToRest.port.flags = n.inByte s.port.flags := by
  simp [State.stopToRest, h]

@[simp] theorem State.startTest_otherFlag (s : State) (n : Notice) (h : n ≠ .fridge) :
    n.inByte s.startTest.port.flags = n.inByte s.port.flags := by
  simp only [State.startTest]
  repeat' split
  all_goals simp [h]

@[simp] theorem State.enterIdle_otherFlag (s : State) (n : Notice) (h : n ≠ .fridge) :
    n.inByte s.enterIdle.port.flags = n.inByte s.port.flags := by
  simp [State.enterIdle, h]

@[simp] theorem State.fridgePresented_otherFlag (s : State) (n : Notice) (h : n ≠ .fridge) :
    n.inByte s.fridgePresented.port.flags = n.inByte s.port.flags := by
  simp only [State.fridgePresented]
  split <;> simp [h]

@[simp] theorem State.fridgeWithdrawn_otherFlag (s : State) (n : Notice) (h : n ≠ .fridge) :
    n.inByte s.fridgeWithdrawn.port.flags = n.inByte s.port.flags := by
  simp only [State.fridgeWithdrawn]
  split <;> simp [h]

@[simp] theorem State.presentFridge_otherFlag (s : State) (p : Option Presented) (n : Notice) (h : n ≠ .fridge) :
    n.inByte (s.presentFridge p).port.flags = n.inByte s.port.flags := by
  simp only [State.presentFridge]
  repeat' split
  all_goals simp [h]

theorem State.remove_released (s : State) (a : Source) (t : WarnType) (h : s.rst.asserted = false) :
    s.remove a t = s.dropEntry a t := by
  simp [State.remove, h]

theorem State.workMonitor_rst (s : State) (os) (h : s.rst.asserted = false) : (s.workMonitor os).rst = s.rst := by
  simp only [State.workMonitor]
  repeat' split
  all_goals simp [State.remove_released, h]

theorem State.mem_dropEntry (s : State) (a : Source) (t : WarnType) (e : Entry) (h : e.isPair a t = false) :
    e ∈ (s.dropEntry a t).warn.entries ↔ e ∈ s.warn.entries := by
  simp only [State.dropEntry]
  split <;> simp [Warn.workLamp, erasePair, h]

theorem State.mem_workMonitor (s : State) (os) (e : Entry) (h : e.isPair .part .fridgeWarm = false) :
    e ∈ (s.workMonitor os).warn.entries ↔ e ∈ s.warn.entries := by
  simp only [State.workMonitor]
  repeat' split
  · simp
  · simp only [State.remove]
    split
    · simp
    · rw [State.mem_dropEntry _ _ _ _ h]; simp
  · simp

theorem State.setDuty_fixed (s : State) (i j d) :
    ((s.setDuty i d).channel j).polarity = (s.channel j).polarity ∧
    ((s.setDuty i d).channel j).fullDraw = (s.channel j).fullDraw ∧
    ((s.setDuty i d).channel j).presented = (s.channel j).presented := by
  simp only [State.setDuty]
  split
  · simp
  · simp only [State.channel_writeTimer, State.channel_setChannel]
    split <;> simp_all

theorem State.beginFade_fixed (s : State) (i j d n) :
    ((s.beginFade i d n).channel j).polarity = (s.channel j).polarity ∧
    ((s.beginFade i d n).channel j).fullDraw = (s.channel j).fullDraw ∧
    ((s.beginFade i d n).channel j).presented = (s.channel j).presented := by
  simp only [State.beginFade]
  split
  · simp only [State.setDuty_fixed, State.channel_setChannel]
    split <;> simp_all
  · simp only [State.channel_setChannel]
    split <;> simp_all

theorem State.presentLight_fixed (s : State) (i j p) :
    ((s.presentLight i p).channel j).polarity = (s.channel j).polarity ∧
    ((s.presentLight i p).channel j).fullDraw = (s.channel j).fullDraw ∧
    ((s.presentLight i p).channel j).presented = (if i = j then p else (s.channel j).presented) := by
  simp only [State.presentLight]
  split
  · simp only [State.channel_setChannel]
    split <;> simp_all
  · simp only [State.beginFade_fixed, State.channel_setChannel]
    split <;> simp_all

theorem State.noticed.flagsKept {s t : State} (h : s.noticed t) : s.port.settingsKept t.port := by
  obtain ⟨-, ns, h2, -⟩ := h
  rw [h2]
  generalize s.port = p
  clear h2
  induction ns generalizing p with
  | nil => simp [Port.settingsKept]
  | cons n ns ih =>
    have := ih (p.setFlag n)
    simp only [List.foldl_cons, Port.settingsKept] at this ⊢
    obtain ⟨a, b, c, d, e, f, g, hh⟩ := this
    refine ⟨a.trans ?_, b.trans ?_, c.trans ?_, d.trans ?_, e.trans ?_, f.trans ?_, g.trans ?_, ?_⟩
    all_goals try (simp only [Port.setFlag, Port.workAttn, Port.startWake]; split <;> rfl)
    exact Port.flagsKept.trans (Port.setFlag_flagsKept p n) hh

/-! ### What a pass does -/

theorem State.heaterPresented_presented (s : State) : s.heaterPresented.heater.presented = s.heater.presented := by
  simp only [State.heaterPresented]
  repeat' split
  all_goals simp

theorem State.heaterWithdrawn_presented (s : State) : s.heaterWithdrawn.heater.presented = s.heater.presented := by
  simp only [State.heaterWithdrawn]
  split <;> simp

theorem State.presentHeater_presented (s : State) (p : Option Presented) :
    (s.presentHeater p).heater.presented = p := by
  simp only [State.presentHeater]
  repeat' split
  all_goals simp

theorem State.presentFridge_presented (s : State) (p : Option Presented) :
    (s.presentFridge p).fridge.presented = p := by
  simp only [State.presentFridge]
  repeat' split
  all_goals simp

theorem State.presentLights_fixed (s : State) (os : List Order) (j : LightId) :
    ((s.presentLights os).channel j).polarity = (s.channel j).polarity ∧
    ((s.presentLights os).channel j).fullDraw = (s.channel j).fullDraw ∧
    ((s.presentLights os).channel j).presented = presentedFor j.load os := by
  simp only [State.presentLights, State.presentLight_fixed, true_and]
  cases j <;> simp [LightId.load]

theorem State.presentAll_orderFlag (s : State) (os : List Order) :
    Notice.order.inByte (s.presentAll os).port.flags = Notice.order.inByte s.port.flags := by
  simp [State.presentAll]

theorem State.presentAll_presented (s : State) (os : List Order) (load : Load) :
    (s.presentAll os).presented load = presentedFor load os := by
  have h := fun j => (State.presentLights_fixed ((s.presentHeater (presentedFor .heater os)).presentFridge
    (presentedFor .fridge os)) os j).2.2
  simp only [State.channel] at h
  cases load <;>
    simp only [State.presented, State.presentAll, State.workMonitor_keeps, State.presentLights_keeps,
      State.presentFridge_keeps, State.presentHeater_presented, State.presentFridge_presented]
  · exact h .readA
  · exact h .readB
  · exact h .cabLight
  · exact h .nightLight

/-- R144, R145, R160, R167, R175: the heater and the fridge as stage 8 presents every load block with its order. -/
theorem State.presentAll_worked (s : State) (os : List Order) (hr : s.rst.asserted = false) :
    s.heaterWorked (s.presentAll os) ∧ s.fridgeWorked (s.presentAll os) := by
  refine ⟨State.heaterWorked_congr (s.presentHeater_worked (presentedFor .heater os) hr) rfl rfl rfl rfl ?_ ?_ ?_ ?_,
    State.fridgeWorked_congr ((s.presentHeater (presentedFor .heater os)).presentFridge_worked
      (presentedFor .fridge os) (by simp [hr])) (by simp) (by simp) (by simp) ?_ (by simp [State.presentAll])
      (by simp [State.presentAll])⟩
  · simp [State.presentAll]
  · simp [State.presentAll]
  · simp [State.presentAll]
  · simp [State.presentAll]
  · simp only [State.presentAll, State.workMonitor]
    repeat' split
    all_goals simp

/-- R180 to R182: the lights as stage 8 presents every load block with its order. -/
theorem State.presentAll_lights (s : State) (os : List Order) : s.lightsWorked (s.presentAll os) := by
  intro i
  have hk : (s.presentAll os).lights = (((s.presentHeater (presentedFor .heater os)).presentFridge
      (presentedFor .fridge os)).presentLights os).lights := by simp [State.presentAll]
  have ht : (s.presentAll os).timers = (((s.presentHeater (presentedFor .heater os)).presentFridge
      (presentedFor .fridge os)).presentLights os).timers := by
    simp only [State.presentAll, State.workMonitor]
    repeat' split
    all_goals simp
  have h0 : ((s.presentHeater (presentedFor .heater os)).presentFridge (presentedFor .fridge os)).lights = s.lights := by
    simp
  generalize hu : (s.presentHeater (presentedFor .heater os)).presentFridge (presentedFor .fridge os) = u at hk ht h0
  have hq : u.quiet = s.quiet := by simp [← hu]
  have hc := fun j => State.channel_congr h0 j
  have htu : u.timers.get i.timer = s.timers.get i.timer := by
    cases i <;> simp [← hu, LightId.timer, Timers.get]
  obtain ⟨h, k⟩ := u.presentLights_does os i
  simp only [State.lampDriven, State.channel_congr hk, ht, hc, htu, State.effectiveOf, hq, h0] at h k ⊢
  refine ⟨k, fun level fade hp => ?_⟩
  have hl : targetOf (presentedFor i.load os) = (level, fade) := by
    rw [h] at hp
    simp only [Channel.pursue_presented] at hp
    rcases hp with ⟨hp, rfl, rfl⟩ | ⟨p, hp, hp'⟩
    · rw [hp]; rfl
    · rw [hp]; simp [targetOf, Presented.light, hp']
  rw [h]
  simp [hl]

/-- R105, R174: the presenter as stage 8 leaves it: FRIDGE_WARM removed where the monitoring ceases, and nothing else. -/
theorem State.presentAll_warn {s v : State} {os : List Order} (hr : v.rst.asserted = false) (hv : v.warn = s.warn) :
    s.warn.fridgeWarmGone (v.presentAll os).warn := by
  simp only [State.presentAll]
  generalize hu : (((v.presentHeater _).presentFridge _).presentLights os) = u
  have hw : u.warn = s.warn := by simp [← hu, hv]
  have ha : u.rst.asserted = false := by simp [← hu, hr]
  have hself : s.warn.fridgeWarmGone s.warn := ⟨fun _ => rfl, fun h => absurd rfl h⟩
  simp only [State.workMonitor]
  split
  · simpa [hw] using hself
  · split
    · rw [State.remove_released _ _ _ (by simpa using ha)]
      simp only [State.dropEntry, State.withFridge_keeps, hw]
      split
      · next hp =>
        refine ⟨fun h => ?_, fun _ => ⟨rfl, ?_, rfl, ?_, ?_, ?_⟩⟩
        · have := hasPair_erasePair .part .fridgeWarm s.warn.entries
          simp only [Warn.workLamp] at h
          rw [this, hp] at h
          cases h
        · cases s.warn.chime <;> rfl
        all_goals simp only [Warn.workLamp]; intro h; simp only [h]
        by_cases k : s.warn.lamp = .flashing <;> simp [k]
      · simpa [hw] using hself
    · simpa [hw] using hself

/-- `presentAll_worked` from a state that differs in nothing the two controllers read. -/
theorem State.presentAll_loads {s u : State} {os : List Order} (hr : u.rst.asserted = false)
    (hh : s.heater = u.heater) (hf : s.fridge = u.fridge) (hs : s.sense = u.sense) (ht : s.timers = u.timers) :
    s.heaterWorked (u.presentAll os) ∧ s.fridgeWorked (u.presentAll os) :=
  ⟨State.heaterWorked_congr (State.presentAll_worked u os hr).1 hh hs (by rw [ht]) (by rw [ht]) rfl rfl rfl rfl,
    State.fridgeWorked_congr (State.presentAll_worked u os hr).2 hf hs (by rw [ht]) rfl rfl rfl⟩

/-- The allocation pass, whole: out of reset every pass does what `State.afterPass` says. -/
theorem State.pass_spec (s : State) (h : s.rst.asserted = false) : s.afterPass s.pass := by
  have hn : s.noticed s.pass := State.pass_noticed (State.noticed.refl s)
  refine ⟨?_, ?_, ?_, ?_, ?_, ?_, ?_, ?_, ?_, ?_, ?_, ?_, hn.flagsKept, ?_⟩
  all_goals simp only [State.pass, h, Bool.false_eq_true, if_false]
  · simp [State.presentAll]
  · simp only [State.presentAll]; simp; exact ⟨rfl, rfl⟩
  · rw [State.presentAll_orderFlag, State.noticeIf_inByte]
    simp [h, Bool.or_assoc]
  · intro load
    rw [State.presentAll_presented]
    simp [State.presentAll]
  · intro e he
    simp only [State.presentAll]
    rw [State.mem_workMonitor _ _ _ he]
    simp
  · refine State.presentAll_warn ?_ ?_ <;> simp [h]
  · refine (State.presentAll_loads ?_ ?_ ?_ ?_ ?_).1 <;> simp [h]
  · refine (State.presentAll_loads ?_ ?_ ?_ ?_ ?_).2 <;> simp [h]
  · exact State.lightsWorked_congr (State.presentAll_lights _ _) (by simp) (by simp) (by simp)
  · rw [State.presentAll]
    refine State.workMonitor_worked s _ _ ?_ ?_ ?_ h (Reading.run_keys_pairwise _ _) ?_
    all_goals simp [State.presentFridge_monitor]
  · refine ⟨?_, ?_, ?_, ?_, ?_, ?_, ?_⟩ <;> simp [State.presentAll, State.workMonitor_rst, h]
  · refine ⟨?_, ?_, ?_, ?_, ?_, ?_, ?_, fun i => ?_⟩
    all_goals simp only [State.presentAll]
    all_goals try simp
    have := State.presentLights_fixed
    simp only [State.channel] at this
    simp [State.channel, this]
  · simp [State.presentAll]

end Sys2Proof.Machine
end

