-- ==== Sys2Proof/Laws/Requests.lean ====
section
/-! SUPPORT. The frame that takes a request, said once: where it ignores, where it answers BUSY, and what it serves. -/
namespace Sys2Proof.Machine

@[simp] theorem Port.openFrame_keeps (p : Port) :
    p.openFrame.mode = p.mode ∧ p.openFrame.reply = p.reply ∧ p.openFrame.miso = p.reply ∧
    p.openFrame.inFrame = true ∧ p.openFrame.asleepAtStart = p.asleep ∧ p.openFrame.asleep = false ∧
    p.openFrame.flags = p.flags ∧ p.openFrame.enables = p.enables ∧ p.openFrame.mask = p.mask ∧
    p.openFrame.wake = p.wake ∧ p.openFrame.spacing = p.spacing ∧ p.openFrame.unanswered = p.unanswered ∧
    p.openFrame.selfTest = p.selfTest ∧ p.openFrame.cause = p.cause ∧ p.openFrame.initMode = p.initMode ∧
    p.openFrame.wait = (if p.asleep then false else p.wait) ∧
    p.openFrame.attn = decide (p.flags &&& p.enables ≠ 0#8) := by
  simp [Port.openFrame, Port.workAttn]

/-- The frame leaves every record but the port as it was. -/
theorem State.inFrame_eq (s : State) : s.inFrame = { s with port := s.inFrame.port } := by
  simp only [State.inFrame]
  split <;> rfl

/-- What the port becomes when the frame's falling of CS has been taken (R191, R202). -/
theorem State.inFrame_port (s : State) :
    s.inFrame.port = if s.port.inFrame then s.port else s.port.openFrame := by
  simp only [State.inFrame]
  split <;> rfl

@[simp] theorem State.inFrame_mode (s : State) : s.inFrame.port.mode = s.port.mode := by
  rw [State.inFrame_port]; split <;> simp

@[simp] theorem State.inFrame_records (s : State) :
    s.inFrame.clock = s.clock ∧ s.inFrame.orders = s.orders ∧ s.inFrame.alloc = s.alloc ∧
    s.inFrame.charge = s.charge ∧ s.inFrame.accounts = s.accounts ∧ s.inFrame.transport = s.transport ∧
    s.inFrame.quiet = s.quiet ∧ s.inFrame.warn = s.warn ∧ s.inFrame.sense = s.sense ∧
    s.inFrame.timers = s.timers ∧ s.inFrame.heater = s.heater ∧ s.inFrame.fridge = s.fridge ∧
    s.inFrame.lights = s.lights ∧ s.inFrame.rst = s.rst ∧ s.inFrame.pending = s.pending := by
  rw [State.inFrame_eq]; simp

@[simp] theorem State.inFrame_account (s : State) (i : Slot) : s.inFrame.account i = s.account i := by
  simp [State.account]

@[simp] theorem State.closeFrame_records (s : State) (r : Reply) :
    (s.closeFrame r).clock = s.clock ∧ (s.closeFrame r).orders = s.orders ∧ (s.closeFrame r).alloc = s.alloc ∧
    (s.closeFrame r).charge = s.charge ∧ (s.closeFrame r).accounts = s.accounts ∧
    (s.closeFrame r).transport = s.transport ∧ (s.closeFrame r).quiet = s.quiet ∧ (s.closeFrame r).warn = s.warn ∧
    (s.closeFrame r).sense = s.sense ∧ (s.closeFrame r).timers = s.timers ∧ (s.closeFrame r).heater = s.heater ∧
    (s.closeFrame r).fridge = s.fridge ∧ (s.closeFrame r).lights = s.lights ∧ (s.closeFrame r).rst = s.rst ∧
    (s.closeFrame r).pending = s.pending := by
  simp [State.closeFrame]

/-- A frame always ends with its reply pending (R191). -/
theorem State.closeFrame_answers (s : State) (r : Reply) : (s.closeFrame r).answers r := ⟨rfl, rfl⟩

/-- R204: while RESET is asserted a frame changes nothing. -/
theorem State.takeFrame_asserted (s : State) (f : State → State × Reply) (h : s.rst.asserted = true) :
    s.takeFrame f = s := by
  simp [State.takeFrame, h]

/-- R192, check 1: in SELFTEST a frame answers BUSY. -/
theorem State.takeFrame_selfTest (s : State) (f : State → State × Reply) (h : s.rst.asserted = false)
    (m : s.port.mode = .selfTest) : s.takeFrame f = s.inFrame.closeFrame (refusal .busy) := by
  simp [State.takeFrame, h, m]

/-- R191: a frame that is served runs its request on the state in which the frame has begun. -/
theorem State.takeFrame_served (s : State) (f : State → State × Reply) (h : s.serves) :
    s.takeFrame f = (f s.inFrame).1.closeFrame (f s.inFrame).2 := by
  obtain ⟨ha, hm⟩ := h
  simp [State.takeFrame, ha, hm]

/-- A frame whose request changes nothing changes nothing but the frame's part of the port (R193). -/
theorem State.inFrame_closeFrame (s : State) (r : Reply) : s.frameOnly (s.inFrame.closeFrame r) := by
  refine ⟨?_, ?_⟩
  · rw [State.inFrame_eq]; rfl
  · simp only [State.closeFrame, State.inFrame_port, Port.frameOnly]
    split <;> simp_all

end Sys2Proof.Machine
end

