-- ==== Sys2Proof/Tests/Slice0.lean ====
section
/-! SUPPORT. The model's own tests: the check of WellFormed on ill-formed terms, single steps taken from the worked
sequences and tables of the reference (each comment names its section), and, for every statement with hypotheses, a
witness that its hypotheses can be met, clause by clause. -/
namespace Sys2Proof.Tests

open Sys2Proof Sys2Proof.Machine

/-! ### Helpers -/

/-- The state a command leads to. -/
def after (c : Instr) (s : State) : State :=
  match exec c s with
  | .next t => t
  | .fault _ => s
  | .refused _ => s

/-- NORMAL and awake with no flag set, and everything else as a cold start leaves it. -/
def home : State := { State.reset with port := { State.reset.port with mode := .normal, flags := 0x00#8, attn := false } }

/-- `home` with this many mAh in a synchronised account and its reserve. -/
def charged (count reserve : Nat) : State :=
  { home with charge := { home.charge with count := count, reserve := reserve, synced := true } }

/-- An order of the host as OPLACE enters it. -/
def hostOrder (key : Nat) (load : Load) (cls : OrderClass) (target : Target) (start : Start) (finish : Finish)
    (placed : Nat) : Order :=
  newOrder key .host load cls target start finish placed

/-- An account with the default settings and nothing counted. -/
def driver (tag : Nat) (bunk : Bunk) (state : AccountState) : Account :=
  { tag := tag, bunk := bunk, state := state, settings := .default, staged := none, segSeconds := 0
    lastSegment := none, accumulated := 0, rested := false, contSeconds := 0, breakSeconds := 0, dailySeconds := 0
    restStart := none, restEnd := none }

/-- `s` with an account in slot 0. -/
def withDriver (s : State) (a : Account) : State := { s with accounts := { s.accounts with s0 := some a } }

/-- `s` at a standstill by the transport override. -/
def halted (s : State) : State := { s with transport := true }

/-- The cold evening of section 2.6 at the end of minute 40,999. -/
def coldEvening : State :=
  { home with
    clock := { minute := 40999, prescaler := 59, isSet := true }
    charge := { home.charge with count := 142350, reserve := 120000, synced := true }
    alloc := { home.alloc with heaterDraw := 2200, heaterStart := 900 }
    lights := { home.lights with readA := { home.lights.readA with fullDraw := 1200 } }
    sense :=
      { home.sense with outside := { value := -275, fault := false, count := 1225, validRun := 3 } }
    orders :=
      [hostOrder 10 .heater .essential (.setpoint 180) (.absolute 41000) (.absolute 41300) 40000,
       { hostOrder 20 .fridge .comfort (.setpoint 40) .immediate .unending 40100 with
           state := .active, resolvedStart := some 40100, forecast := 11200, admittedAt := some 40100 },
       hostOrder 30 .readA .convenience (.light 300 5) (.absolute 41000) (.absolute 41045) 40000] }

/-- The heater presented with the order of section 7.10, in a state of its sequence. -/
def heaterIn (state : HeaterState) (phase : Option Nat) : State :=
  { charged 200000 80000 with
    orders :=
      [{ hostOrder 10 .heater .essential (.setpoint 180) .immediate .unending 0 with
           state := .active, resolvedStart := some 0, admittedAt := some 0 }]
    heater :=
      { home.heater with
        state := state, phase := phase, glow := state.glows
        level := if state = .run then 2 else 0, desired := if state = .run then 2 else 0
        presented := some { key := 10, target := .setpoint 180, cls := .essential } }
    timers := { home.timers with t4 := if state.burning then Timer.cold.write 30 666 else Timer.cold }
    sense := { home.sense with outside := { value := -275, fault := false, count := 1225, validRun := 3 } } }

/-- The fridge presented with the order of section 8.9, in a state of its own. -/
def fridgeIn (state : FridgeState) (speed off : Nat) : State :=
  { charged 200000 80000 with
    orders :=
      [{ hostOrder 20 .fridge .comfort (.setpoint 40) .immediate .unending 0 with
           state := .active, resolvedStart := some 0, admittedAt := some 0 }]
    fridge :=
      { home.fridge with
        state := state, speed := speed, offSeconds := off, compressor := state.turning, call := true
        onSeconds := if state.turning then some 20 else none
        startWindows := if state = .start then some 9 else none
        lowWindows := if state = .run then some 4 else none
        runSeconds := if state = .run then some 414 else none
        monitored := some 40
        presented := some { key := 20, target := .setpoint 40, cls := .comfort } }
    timers := { home.timers with t6 := if state.turning then Timer.cold.write 400 1000 else Timer.cold }
    sense := { home.sense with fridgeT := { value := 62, fault := false, count := 1562, validRun := 3 } } }

/-! ### WellFormed and the decoder -/

/-- R192: a frame that passes every frame check of Table 38 is no UNKNOWN_REQUEST (a NOP, and an NFETCH with a byte of
fill after its body). -/
theorem test_wf_refuses_good_frames :
    (Instr.unknownRequest (.frame [0x00#8, 0x00#8])).wf = false ∧
    (Instr.unknownRequest (.frame [0x02#8, 0x01#8, 0xFF#8, 0x00#8])).wf = false := by decide

/-- Table 38: too few bytes, a length byte above 124, an unknown code, and a wrong body length each fail. -/
theorem test_wf_takes_failed_frames :
    (Instr.unknownRequest (.frame [0x00#8])).wf = true ∧
    (Instr.unknownRequest (.frame [0x10#8, 0x7D#8])).wf = true ∧
    (Instr.unknownRequest (.frame [0x07#8, 0x00#8])).wf = true ∧
    (Instr.unknownRequest (.frame [0x00#8, 0x01#8, 0x05#8])).wf = true ∧
    (Instr.unknownRequest (.undeclared 0)).wf = true := by decide

/-- R191, R64: a TSET frame and a CSYNC frame carry a 32-bit number, the least significant byte first. -/
theorem test_word_frames :
    frameRequest [0x20#8, 0x04#8, 0x74#8, 0x4F#8, 0x00#8, 0x00#8] = some (.tset 20340#32) ∧
    frameRequest [0x41#8, 0x04#8, 0x90#8, 0xD0#8, 0x03#8, 0x00#8] = some (.csync 250000#32) := by decide

/-- R191, Table 41: an NFETCH that answers 0Dh and 08h is clocked out as its outcome, the length 2 and the two flags; with
no reply pending the three bytes of the empty reply stand. -/
theorem test_reply_bytes :
    replyBytes (some (done (.fetched 0x0D#8 0x08#8))) = [0x01#8, 0x02#8, 0x00#8, 0x0D#8, 0x08#8] ∧
    replyBytes none = [0x00#8, 0x00#8, 0x00#8] := by decide

/-- No row of the table gives bits. -/
theorem test_no_word_spells_a_command : decodeTableWord 16 0 = none := rfl

/-! ### The queue -/

theorem test_step_takes_the_front :
    (match step { home with pending := [.nop, .clook] } with
     | .next t => decide (t.pending = [.clook])
     | _ => false) = true := by decide

/-! ### Frames and the port (chapter 10) -/

/-- R191: what an earlier request answered is clocked out by the next frame. -/
theorem test_frame_start_clocks_the_reply_out :
    (after .frameStart (after .tlook home)).port.miso = some (done (.time 0 0 false)) := by decide

/-- Section 10.5: the frame that follows SLEEP wakes the port, and ATTN rises for ORDER and HEATER at once. -/
theorem test_frame_start_wakes :
    (after .frameStart { home with port := { home.port with asleep := true, flags := 0x0D#8 } }).port.attn = true := by
  decide

theorem test_nop : (after .nop home).port.reply = some (done .empty) := by decide

/-- Table 43 and section 10.5: the STAT bytes of that night. -/
theorem test_stat_bytes :
    ((match (after .stat
          { home with
            port :=
              { home.port with asleep := true, flags := 0x0D#8, mask := 0x0C#8, unanswered := true } }).port.reply with
      | some { body := .status b, .. } => b.bytes
      | _ => []) : List Byte) = [2, 1, 0, 0, 2, 0x0D, 0xFF, 0x0C] := by decide

/-- R199, R200: HEATER is set again at once while the heater is in LOCKOUT. -/
theorem test_nfetch_relatches :
    (after (.nfetch 0x0D#8)
      { home with
        port := { home.port with flags := 0x0D#8 }
        heater := { home.heater with state := .lockout } }).port.flags = 0x08#8 := by decide

theorem test_nmask :
    (after (.nmask 0x01#8) { home with port := { home.port with flags := 0x02#8, attn := true } }).port.attn = false := by
  decide

theorem test_sleep : (after (.sleep 0x0C#8) home).port.asleep = true := by decide

theorem test_init_enters_the_mode : (after (.init (some .workshop) (some false)) State.reset).port.mode = .workshop := by
  decide

theorem test_init_outside_uninit :
    (after (.init (some .normal) (some false)) home).port.reply = some (refusal .wrongState) := by decide

theorem test_selftest_end_keeps_the_first_failure :
    (after (.selftestEnd [3, 1]) { home with port := { home.port with mode := .selfTest } }).port.selfTest =
      .failed 1 := by decide

theorem test_shut_empties_the_table : (after .shut coldEvening).orders = [] := by decide

/-- R193, R192: an unknown code. -/
theorem test_unknown_request :
    (after (.unknownRequest (.frame [0x0F#8, 0x00#8])) home).port.reply = some (refusal .unknown) := by decide

/-- Section 3.4: the CSYNC above the capacity, as the frame that carries it. -/
theorem test_passing_frame_is_its_request :
    (after (.unknownRequest (.frame [0x41#8, 0x04#8, 0x90#8, 0xD0#8, 0x03#8, 0x00#8])) home).port.reply =
      some (doneIf true (.synced 200000)) := by decide

/-- Section 10.5: a named flag wakes; the pulse, the wait and the spacing end. -/
theorem test_wake_pulse :
    ((({ home with port := { home.port with asleep := true, mask := 0x0C#8 } }).notice .warning).port.wake,
     (after .wakePulseEnd { home with port := { home.port with wake := true } }).port.wake,
     (after .wakeWaitExpiry { home with port := { home.port with wait := true } }).port.unanswered,
     (after .wakeSpacingExpiry { home with port := { home.port with spacing := true } }).port.spacing) =
      (true, false, true, false) := by decide

/-! ### Orders and passes (chapters 1 and 2) -/

/-- Section 2.6, minute 41,000: the states and the forecasts of the three orders. -/
theorem test_cold_evening_orders :
    (after .minuteExpiry coldEvening).orders.map (fun o => (o.key, o.state, o.forecast)) =
      [(10, .active, 16300), (20, .waiting, 11200), (30, .active, 270)] := by decide

/-- Section 2.6, minute 41,000: what the pass records, and the heater in PREHEAT for 90 s (section 7.10). -/
theorem test_cold_evening_record :
    ((after .minuteExpiry coldEvening).alloc.committed, (after .minuteExpiry coldEvening).alloc.usable,
     (after .minuteExpiry coldEvening).alloc.passMinute, (after .minuteExpiry coldEvening).heater.phase) =
      (16570, 22350, 41000, some 90) := by decide

/-- Section 2.7, minute 30,000: an ESSENTIAL heater order is admitted with nothing usable. -/
theorem test_oplace_essential :
    (after
      (.oplace
        { key := 4, load := some .heater, cls := some .essential, target := { value := 200, fade := 0 }
          start := .immediate, finish := .unending })
      { home with
        sense := { home.sense with outside := { value := -120, fault := false, count := 1380, validRun := 3 } } }).orders.map
      (fun o => (o.state, o.forecast)) = [(.active, 17504)] := by decide

/-- R18: a key of 0 is refused. -/
theorem test_oplace_key_zero :
    (after
      (.oplace
        { key := 0, load := some .heater, cls := some .essential, target := { value := 200, fade := 0 }
          start := .immediate, finish := .unending }) home).port.reply = some (refusal .badField) := by decide

/-- R20: only the field marked to change is rewritten. -/
theorem test_oamend_class :
    (after
      (.oamend
        { key := 20, load := some .fridge, cls := some (some .essential), target := none, start := none
          finish := none }) coldEvening).orders.map (fun o => (o.key, o.cls, o.placedAt)) =
      [(10, .essential, 40000), (20, .essential, 40100), (30, .convenience, 40000)] := by decide

theorem test_olook : (after (.olook 21) coldEvening).port.reply = some (refusal .noSuchKey) := by decide

theorem test_oretire : (after (.oretire 20) coldEvening).port.reply = some (done (.retired 20 .active)) := by decide

theorem test_olist :
    (after .olist coldEvening).port.reply =
      some (done (.orders [(10, .heater, .pending), (20, .fridge, .active), (30, .readA, .pending)])) := by decide

/-- Section 1.8: the table of the clock step. -/
def clockStep : State :=
  { charged 200000 80000 with
    clock := { minute := 20100, prescaler := 37, isSet := false }
    orders :=
      [{ hostOrder 3 .nightLight .comfort (.light 100 1) (.absolute 20000) (.absolute 20300) 19950 with
           state := .active, admittedAt := some 20000 },
       { hostOrder 7 .readA .comfort (.light 100 1) .immediate (.duration 30) 20090 with
           state := .active, admittedAt := some 20090 }] }

/-- Section 1.8, TSET to 20,340: key 3 expires, and key 7 moves by +240. -/
theorem test_tset_forward :
    (after (.tset 20340#32) clockStep).orders.map (fun o => (o.key, o.resolvedStart, o.resolvedEnd, o.admittedAt)) =
      [(7, some 20330, some 20360, some 20330)] := by decide

/-- Section 1.8, TSET to 19,900: key 3 is PENDING with its admitted at shifted. -/
theorem test_tset_backward :
    (after (.tset 19900#32) clockStep).orders.map (fun o => (o.key, o.state, o.admittedAt)) =
      [(3, .pending, some 19800), (7, .active, some 19890)] := by decide

theorem test_tlook : (after .tlook clockStep).port.reply = some (done (.time 20100 37 false)) := by decide

theorem test_bset_clamps : (after (.bset 29 20001) home).port.reply = some (doneIf true (.budget 30 20000)) := by decide

theorem test_blook : ((after .blook home).port.reply.map Reply.outcome) = some .done := by decide

theorem test_plan_clamps_the_duty :
    ((after
      (.plan
        { heaterDraw := 2200, heaterStart := 900, fridgeDraw := 3500, fridgeDuty := 101, readA := 1200, readB := 600
          cabLight := 2000, nightLight := 300 }) home).alloc.fridgeDuty,
     (after
      (.plan
        { heaterDraw := 2200, heaterStart := 900, fridgeDraw := 3500, fridgeDuty := 101, readA := 1200, readB := 600
          cabLight := 2000, nightLight := 300 }) home).lights.readA.fullDraw) = (100, 1200) := by decide

/-! ### The charge account (chapter 3) -/

/-- Section 3.4, single pulses at the default weight and a heavy pulse. -/
def counting (weight : Nat) : State :=
  { charged 142350 120000 with
    charge := { (charged 142350 120000).charge with residue := 3400, weight := weight } }

theorem test_qchg_pulse :
    ((after .qchgPulse (counting 360)).charge.count, (after .qchgPulse (counting 360)).charge.residue,
     (after .qchgPulse (counting 5000)).charge.count, (after .qchgPulse (counting 5000)).charge.residue) =
      (142351, 160, 142352, 1200) := by decide

theorem test_qdis_pulse :
    ((after .qdisPulse (counting 360)).charge.count, (after .qdisPulse (counting 360)).charge.residue,
     (after .qdisPulse (counting 5000)).charge.count, (after .qdisPulse (counting 5000)).charge.residue) =
      (142350, 3040, 142349, 2000) := by decide

/-- Section 3.4: crossing the reserve raises CHARGE_RESERVE and sets CHARGE. -/
theorem test_qdis_crosses_the_reserve :
    (hasPair .part .chargeReserve (after .qdisPulse (charged 120001 120001)).warn.entries,
     Notice.charge.inByte (after .qdisPulse (charged 120001 120001)).port.flags) = (true, true) := by decide

/-- Section 3.4: a smaller battery configured, and a reserve at the capacity refused. -/
theorem test_cset :
    ((after (.cset 140000 100000 360) (charged 142350 120000)).port.reply,
     (after (.cset 140000 140000 360) (charged 142350 120000)).port.reply) =
      (some (done (.chargeSet 140000 100000 360 140000 0)), some (refusal .badField)) := by decide

/-- Section 3.4: synchronising above capacity. -/
theorem test_csync_clamps : (after (.csync 250000#32) home).port.reply = some (doneIf true (.synced 200000)) := by decide

theorem test_clook :
    (after .clook (charged 142350 120000)).port.reply =
      some (done (.charge 142350 0 200000 120000 360 22350 true 0)) := by decide

/-- R58: 300 QCHG and 900 QDIS pulses of the weight 360 make a net charge of -60. -/
theorem test_minute_expiry_net :
    (after .minuteExpiry { home with charge := { home.charge with tally := -216000 } }).charge.netLast = -60 := by decide

/-! ### Rest accounts (chapter 4) -/

theorem test_aopen : (after (.aopen 0 4100#32 (some .bunkA)) home).port.reply = some (done (.opened .s0 4100)) := by
  decide

theorem test_aopen_tag_in_use :
    (after (.aopen 1 4100#32 (some .bunkB)) (withDriver home (driver 4100 .bunkA .idle))).port.reply =
      some (refusal .tagInUse) := by decide

/-- Section 4.11, minute 50,050: a set carried while the rest is declared is staged. -/
theorem test_aset_stages :
    ((after
      (.aset 0 (some .bunkB)
        { rest := 600, segment := 180, drive := 270, lead := 15, pause := 45, daily := 540, wake := some true
          wakeLevel := 400, wakeRamp := 10 })
      (withDriver (halted home) (driver 7230 .bunkB .resting))).account .s0).map
      (fun a => (a.settings.rest, a.staged.map Settings.rest)) = some (660, some 600) := by decide

theorem test_alook_empty_slot : (after (.alook 3) home).port.reply = some (refusal .noSuchAccount) := by decide

/-- Section 4.11, minute 50,013: REST_END is EXPECTED at the start plus 660. -/
theorem test_adecl_rest_at_a_standstill :
    ((after (.adeclRest 0)
      (withDriver { halted home with clock := { minute := 50013, prescaler := 0, isSet := true } }
        (driver 7230 .bunkB .idle))).account .s0).map (fun a => (a.state, a.restStart, a.restEnd)) =
      some (.resting, some 50013, some (.expected 50673)) := by decide

theorem test_adecl_rest_moving :
    ((after (.adeclRest 0) (withDriver home (driver 7230 .bunkB .idle))).account .s0).map Account.state =
      some .restWait := by decide

/-- Section 4.11, minute 50,100:40: 5,260 s are 87 segment minutes, below M: nothing is credited, REST_SHORT is raised. -/
theorem test_adecl_end_short :
    (((after (.adeclEnd 0)
        (withDriver (halted home) { driver 7230 .bunkB .resting with segSeconds := 5260 })).account .s0).map
      (fun a => (a.state, a.lastSegment, a.accumulated)),
     hasPair (.slot .s0) .restShort
       (after (.adeclEnd 0)
         (withDriver (halted home) { driver 7230 .bunkB .resting with segSeconds := 5260 })).warn.entries) =
      (some (.idle, some 87, 0), true) := by decide

/-- Section 4.11, minute 50,690:20: a rested account begins a new duty period at the wheel. -/
theorem test_adecl_wheel_begins_a_period :
    ((after (.adeclWheel 0)
      (withDriver (halted home)
        { driver 4100 .bunkA .resting with
          segSeconds := 40500, rested := true, restEnd := some (.fixed 50675) })).account .s0).map
      (fun a => (a.state, a.lastSegment, a.accumulated, a.rested)) = some (.driving, some 675, 0, false) := by decide

theorem test_adecl_release :
    ((after (.adeclRelease 0) (withDriver home (driver 1 .bunkA .driving))).account .s0).map Account.state =
      some .idle := by decide

theorem test_aretire :
    ((after (.aretire 0) (withDriver home (driver 1 .bunkA .idle))).account .s0) = none := by decide

theorem test_xmode_starts_the_segment :
    ((after (.xmode (some true)) (withDriver home (driver 1 .bunkA .restWait))).account .s0).map Account.state =
      some .resting := by decide

/-- Section 4.11, minute 50,675:20: REST_DONE fires at a credited rest of 660 and places the wake order 243. -/
theorem test_rest_done :
    ((after (.restDone .s0)
      (withDriver (halted (charged 200000 80000))
        { driver 4100 .bunkA .resting with segSeconds := 39600, contSeconds := 15720 })).orders.map Order.key,
     ((after (.restDone .s0)
      (withDriver (halted (charged 200000 80000))
        { driver 4100 .bunkA .resting with segSeconds := 39600, contSeconds := 15720 })).account .s0).map
      (fun a => (a.rested, a.contSeconds, a.restEnd))) = ([243], some (true, 0, some (.fixed 0))) := by decide

/-- R87: a break of 45 minutes at a halt. -/
theorem test_break_complete :
    ((after (.breakComplete .s0)
      (withDriver home { driver 1 .bunkA .driving with breakSeconds := 2700, contSeconds := 16200 })).account .s0).map
      Account.contSeconds = some 0 := by decide

/-- Section 4.11, minute 50,005:00: DRIVE_NEAR at a continuous drive of 15,300 s. -/
theorem test_second_raises_drive_near :
    hasPair (.slot .s0) .driveNear
      (after (.timebaseSecond false)
        (withDriver { home with sense := { home.sense with motion := .moving } }
          { driver 1 .bunkA .driving with contSeconds := 15299 })).warn.entries = true := by decide

/-- R26: a whole second at a prescaler of 59 is a minute expiry too. -/
theorem test_whole_second_ends_the_minute :
    ((after (.timebaseSecond true) coldEvening).clock.minute,
     (after (.timebaseSecond true) coldEvening).alloc.committed) = (41000, 16570) := by decide

/-- Section 4.11, minute 50,015:20: a long press declares the rest of the account bound to the bunk. -/
theorem test_long_press :
    ((after (.longPress .a)
      (withDriver { home with sense := { home.sense with pressA := { state := some .pressed, hold := 0 } } }
        (driver 4100 .bunkA .driving))).account .s0).map Account.state = some .restWait := by decide

/-! ### Warnings (chapter 5) -/

/-- Section 5.7, minute 60,015: DRIVE_OVER sounding and HEATER_LOCKOUT waiting. -/
def twoWarnings (chime : Chime) : State :=
  { withDriver home (driver 1 .bunkA .driving) with
    warn :=
      { entries :=
          [{ source := .slot .s0, type := .driveOver, raisedAt := 60015, state := .presenting, bursts := 0
             due := some 10, falling := false },
           { source := .part, type := .heaterLockout, raisedAt := 60015, state := .queued, bursts := 0, due := some 0
             falling := false }]
        chime := chime, lamp := .flashing, lampOn := true } }

/-- Section 5.7, 60,015:00.9: the burst is counted, and HEATER_LOCKOUT is selected with 3 tones and its interval 30. -/
theorem test_end_of_burst :
    ((after .endOfBurst (twoWarnings (.sounding (.slot .s0) .driveOver 1 false true))).warn.entries.map
      (fun e => (e.type, e.state, e.bursts, e.due))) =
      [(.driveOver, .queued, 1, some 10), (.heaterLockout, .presenting, 0, some 30)] := by decide

theorem test_tone_end :
    (after .toneEnd (twoWarnings (.sounding (.slot .s0) .driveOver 3 true true))).warn.chime =
      .sounding (.slot .s0) .driveOver 3 false true := by decide

theorem test_countdown_zero :
    (after .countdownZero (twoWarnings .idle)).warn.chime = .sounding .part .heaterLockout 3 true true := by decide

theorem test_wlamp_flash_phase : (after .wlampFlashPhase (twoWarnings .idle)).warn.lampOn = false := by decide

/-- Section 5.7, 60,015:15: WACK silences a condition entry. -/
theorem test_wack_silences :
    (after (.wack (some (.slot .s0)) (some .driveOver)) (twoWarnings .idle)).port.reply =
      some (done (.acknowledged (.slot .s0) .driveOver .silenced)) := by decide

theorem test_wlist_ranks :
    (match (after .wlist (twoWarnings .idle)).port.reply with
     | some { body := .warnings es _ _, .. } => es.map (fun e => (e.type, e.severity))
     | _ => []) = [(.driveOver, 5), (.heaterLockout, 4)] := by decide

/-- R113: the DRIVE_OVER that a second raises sounds before the entry whose countdown reached 0 in the same second. -/
theorem test_second_raises_before_its_countdowns :
    (after (.timebaseSecond false)
      { withDriver { home with sense := { home.sense with motion := .moving } }
          { driver 1 .bunkA .driving with contSeconds := 16199 } with
        warn :=
          { entries :=
              [{ source := .part, type := .heaterLockout, raisedAt := 0, state := .queued, bursts := 1, due := some 1
                 falling := false }]
            chime := .idle, lamp := .flashing, lampOn := true } }).warn.chime =
      .sounding (.slot .s0) .driveOver 3 true true := by decide

/-! ### Sensing and timers (chapter 6) -/

/-- Section 6.6, windows 2 and 9. -/
theorem test_temp_window_fault :
    ((after (.tempWindowEnd .c4 0)
      { home with sense := { home.sense with outside := { value := -274, fault := false, count := 1226, validRun := 3 } } }).sense.outside) =
      { value := -274, fault := true, count := 0, validRun := 0 } := by decide

theorem test_temp_window_recovery :
    ((after (.tempWindowEnd .c4 1234)
      { home with sense := { home.sense with outside := { value := -274, fault := true, count := 1233, validRun := 2 } } }).sense.outside) =
      { value := -266, fault := false, count := 1234, validRun := 3 } := by decide

/-- R126: one edge is motion, and the settle time makes a STOPPING detector STATIONARY. -/
theorem test_vspd_window :
    ((after (.vspdWindowEnd 1) home).sense.motion,
     (after (.vspdWindowEnd 0) { home with sense := { home.sense with settleCount := 599 } }).sense.motion) =
      (.moving, .stationary) := by decide

theorem test_slook : ((after .slook home).port.reply.map Reply.outcome) = some .done := by decide

theorem test_sset_clamps : (after (.sset 9) home).port.reply = some (doneIf true (.settle 10 .stopping)) := by decide

/-- Section 6.7: the debounce of a press, and a release after 892 ms (section 9.4) that toggles the manual order. -/
theorem test_pin_change_starts_the_timer : (after (.pinChange .btnA true) home).sense.btnA.timer = true := by decide

theorem test_short_press_toggles :
    (after (.debounceExpiry .btnA 892)
      { charged 200000 80000 with
        sense :=
          { home.sense with
            btnA := { pin := false, level := true, timer := true, fromReset := false }
            pressA := { state := some .pressed, hold := 0 } } }).orders.map Order.key = [241] := by decide

theorem test_press_wait_end : (after .pressClassifierWaitEnd home).sense.pressA.state = some .released := by decide

/-- R135, R137: the pending pair takes effect, and T4's period begins with a pump pulse. -/
theorem test_end_of_period :
    ((after (.endOfPeriod .t4) (heaterIn .ignition (some 120))).heater.fuel,
     (after (.endOfPeriod .t4)
       { heaterIn .run none with
         timers :=
           { home.timers with t4 := (Timer.cold.write 30 666).write 30 545 } }).timers.t4.perCmp) = (1, 545) := by decide

/-! ### The heater (chapter 7) -/

/-- Section 7.10, 41,001:30: IGNITION for 120 s, T4 with 30 ms in 666 ms, the fan at 300. -/
theorem test_preheat_expiry :
    ((after .preheatExpiry (heaterIn .preheat (some 0))).heater.state,
     (after .preheatExpiry (heaterIn .preheat (some 0))).heater.phase,
     (after .preheatExpiry (heaterIn .preheat (some 0))).timers.t4.perCmp,
     (after .preheatExpiry (heaterIn .preheat (some 0))).timers.t5.onCmp) = (.ignition, some 120, 666, 300) := by decide

/-- Section 7.10, 41,003:30. -/
theorem test_ignition_limit :
    ((after .ignitionLimitExpiry (heaterIn .ignition (some 0))).heater.state,
     (after .ignitionLimitExpiry (heaterIn .ignition (some 0))).heater.cause,
     (after .ignitionLimitExpiry (heaterIn .ignition (some 0))).heater.failed,
     (after .ignitionLimitExpiry (heaterIn .ignition (some 0))).heater.restart) =
      (.cooldown, some .failedStart, 1, true) := by decide

/-- Section 7.10, 41,008:25: FLAME takes IGNITION to PROVING for 20 s. -/
theorem test_flame_proves :
    ((after (.debounceExpiry .flame 0)
      { heaterIn .ignition (some 95) with
        sense :=
          { home.sense with flame := { pin := true, level := false, timer := true, fromReset := false } } }).heater.phase) =
      some 20 := by decide

/-- Section 7.10, 41,008:45: RUN at level 2, the rate 110/min. -/
theorem test_proving_expiry :
    ((after .provingExpiry (heaterIn .proving (some 0))).heater.state,
     (after .provingExpiry (heaterIn .proving (some 0))).heater.level,
     (after .provingExpiry (heaterIn .proving (some 0))).timers.t4.shadowPer) = (.run, 2, 545) := by decide

/-- Section 7.10, 41,006:30, and section 7.11, 41,203:10: Table 31, lines 4 and 1. -/
theorem test_cooldown_expiry :
    ((after .cooldownExpiry
        { heaterIn .cooldown (some 0) with
          heater := { (heaterIn .cooldown (some 0)).heater with cause := some .failedStart, failed := 1, restart := true } }).heater.state,
     (after .cooldownExpiry
        { heaterIn .cooldown (some 0) with
          heater := { (heaterIn .cooldown (some 0)).heater with cause := some .overheat } }).heater.state) =
      (.preheat, .lockout) := by decide

/-- Section 7.10, 41,009:45: e = 240 asks for level 4, and the level steps from 2 to 3. -/
theorem test_c2_reading_steps_the_level :
    ((after (.tempWindowEnd .c2 1440)
      { heaterIn .run none with
        sense := { home.sense with cab := { value := -60, fault := false, count := 1440, validRun := 3 } } }).heater.level,
     (after (.tempWindowEnd .c2 1440)
      { heaterIn .run none with
        sense := { home.sense with cab := { value := -60, fault := false, count := 1440, validRun := 3 } } }).timers.t5.shadowOn) =
      (3, 700) := by decide

theorem test_heater_run_clears_count :
    (after .heaterRunClearsCount
      { heaterIn .run none with
        heater := { (heaterIn .run none).heater with failed := 1, runSeconds := 600 } }).heater.failed = 0 := by decide

theorem test_satisfied_stop :
    (after .satisfiedStop
      { heaterIn .run none with
        heater := { (heaterIn .run none).heater with level := 1, desired := 1, satisfy := some 300 } }).heater.cause =
      some .satisfied := by decide

/-- Table 30: values outside their ranges are clamped. -/
theorem test_hset_clamps :
    ((after
      (.hset
        { preheat := 0, ignition := 200, cooldown := 180, startRate := 90, rate1 := 60, rate2 := 110, rate3 := 160
          rate4 := 220, pulseWidth := 51, fan1 := 350, fan2 := 500, fan3 := 700, fan4 := 1001 }) home).port.reply.map
      Reply.outcome,
     (after
      (.hset
        { preheat := 0, ignition := 200, cooldown := 180, startRate := 90, rate1 := 60, rate2 := 110, rate3 := 160
          rate4 := 220, pulseWidth := 51, fan1 := 350, fan2 := 500, fan3 := 700, fan4 := 1001 }) home).heater.params.pulseWidth) =
      (some .doneClamped, 50) := by decide

theorem test_hlook : ((after .hlook home).port.reply.map Reply.outcome) = some .done := by decide

/-- Section 7.11, 41,208:00: HCLEAR lets the order start the heater again. -/
theorem test_hclear :
    (after (.hclear (some false))
      { heaterIn .lockout none with
        heater := { (heaterIn .lockout none).heater with presented := none }
        orders :=
          [{ hostOrder 10 .heater .essential (.setpoint 180) .immediate .unending 0 with
               state := .blocked, resolvedStart := some 0 }] }).port.reply =
      some (done (.heaterCleared .preheat 0)) := by decide

/-! ### The refrigerator (chapter 8) -/

/-- Section 8.9, 41,100:00: T = 62 sets the call and starts the compressor at 400. -/
theorem test_c3_reading_starts :
    ((after (.tempWindowEnd .c3 1562) (fridgeIn .idle 0 600)).fridge.state,
     (after (.tempWindowEnd .c3 1562) (fridgeIn .idle 0 600)).timers.t6.onCmp) = (.start, 400) := by decide

/-- Section 8.9: the tenth start window stalls; 25 Hz enters RUN. -/
theorem test_tach_window :
    ((after (.tachWindowEnd 0) (fridgeIn .start 1 180)).fridge.state,
     (after (.tachWindowEnd 0) (fridgeIn .start 1 180)).fridge.stalls,
     (after (.tachWindowEnd 25) (fridgeIn .start 1 180)).fridge.state) = (.rest, 1, .run) := by decide

/-- Section 8.9, 41,103:10: off seconds reach 180 in REST with the call set. -/
theorem test_min_off_end : (after .minOffEnd (fridgeIn .rest 0 180)).fridge.state = .start := by decide

/-- R175: the attention of FAULT sets FRIDGE again at a second. -/
theorem test_second_in_fault_sets_fridge :
    Notice.fridge.inByte (after (.timebaseSecond false) (fridgeIn .fault 0 5)).port.flags = true := by decide

/-- R173: the fixed cycle of 600 s on and 1,200 s off while C3 is faulted. -/
theorem test_fixed_cycle_on :
    (after .fixedCycleOnEnd
      { fridgeIn .run 1 180 with
        fridge := { (fridgeIn .run 1 180).fridge with onSeconds := some 600 }
        sense := home.sense }).fridge.state = .rest := by decide

theorem test_fixed_cycle_off :
    (after .fixedCycleOffEnd { fridgeIn .idle 0 1200 with sense := home.sense }).fridge.state = .start := by decide

theorem test_fridge_run_clears_stalls :
    (after .fridgeRunClearsStalls
      { fridgeIn .run 1 180 with
        fridge := { (fridgeIn .run 1 180).fridge with stalls := 2, runSeconds := some 1800 } }).fridge.stalls = 0 := by
  decide

/-- Section 8.9, 41,160:00. -/
theorem test_warm_run_complete :
    hasPair .part .fridgeWarm
      (after .warmRunComplete
        { home with fridge := { home.fridge with warmRun := some 1200 } }).warn.entries = true := by decide

theorem test_fset_clamps : (after (.fset 60) home).port.reply = some (doneIf true (.minOff 120 .rest)) := by decide

theorem test_flook : ((after .flook home).port.reply.map Reply.outcome) = some .done := by decide

/-- Section 8.9, 41,165:00: FCLEAR goes through REST and IDLE to START within the request. -/
theorem test_fclear :
    (after .fclear
      { fridgeIn .fault 0 3105 with
        fridge := { (fridgeIn .fault 0 3105).fridge with stalls := 3, presented := none }
        orders :=
          [{ hostOrder 20 .fridge .comfort (.setpoint 40) .immediate .unending 0 with
               state := .blocked, resolvedStart := some 0 }] }).port.reply =
      some (done (.fridgeState .start)) := by decide

/-! ### The lights (chapter 9) -/

/-- Section 9.7: step 19,000 of the wake fade is at 126, and step 50 of the press's fade at 373. -/
theorem test_fade_step :
    ((after (.fadeStep .readA)
      { home with
        lights :=
          { home.lights with
            readA :=
              { home.lights.readA with duty := 126, fade := some { from_ := 0, to_ := 400, taken := 18999, steps := 60000 } } } }).lights.readA.duty,
     (after (.fadeStep .readA)
      { home with
        lights :=
          { home.lights with
            readA :=
              { home.lights.readA with duty := 368, fade := some { from_ := 146, to_ := 600, taken := 49, steps := 100 } } } }).lights.readA.duty) =
      (126, 373) := by decide

/-- Section 9.7: the wake order's fade begins at 0 over 60,000 steps, and the press's at 146 over 100. -/
theorem test_fades_begin :
    ((after (.restDone .s0)
      (withDriver (halted (charged 200000 80000))
        { driver 4100 .bunkA .resting with segSeconds := 39600 })).channel .readA).fade =
      some { from_ := 0, to_ := 400, taken := 0, steps := 60000 } ∧
    ((after (.debounceExpiry .btnA 892)
      { charged 200000 80000 with
        lights :=
          { home.lights with
            readA :=
              { home.lights.readA with
                effective := 400, duty := 146, fade := some { from_ := 0, to_ := 400, taken := 22000, steps := 60000 } } }
        sense :=
          { home.sense with
            btnA := { pin := false, level := true, timer := true, fromReset := false }
            pressA := { state := some .pressed, hold := 0 } } }).channel .readA).fade =
      some { from_ := 146, to_ := 600, taken := 0, steps := 100 } := by decide

theorem test_lset_clamps_the_cap :
    ((after
      (.lset
        { polA := some .activeLow, polB := some .activeHigh, polCab := some .activeHigh, polNight := some .activeHigh
          drawA := 600, drawB := 600, drawCab := 2000, drawNight := 300, quietCap := 301 }) home).lights.quietCap,
     (after
      (.lset
        { polA := some .activeLow, polB := some .activeHigh, polCab := some .activeHigh, polNight := some .activeHigh
          drawA := 600, drawB := 600, drawCab := 2000, drawNight := 300, quietCap := 301 }) home).timers.t0.polarity) =
      (300, .activeLow) := by decide

theorem test_llook : ((after .llook home).port.reply.map Reply.outcome) = some .done := by decide

/-! ### Resets (chapter 10) -/

theorem test_reset_is_cold : exec .coldStart State.reset = .next State.reset := rfl

theorem test_cold_start : (after .coldStart coldEvening).orders = [] := by decide

theorem test_reset_assert_stops_the_burner :
    ((after .resetAssert (heaterIn .run none)).heater.state, (after .resetAssert (heaterIn .run none)).timers.t5.onCmp) =
      (.cooldown, 1000) := by decide

/-- R166, R179: the compressor goes off with RESET and its off seconds begin at 0. -/
theorem test_reset_assert_begins_the_rest :
    ((after .resetAssert (fridgeIn .run 1 400)).fridge.state, (after .resetAssert (fridgeIn .run 1 400)).fridge.offSeconds) =
      (.rest, 0) := by decide

theorem test_reset_end_sets_part :
    ((after .resetEnd (after .resetAssert home)).port.flags, (after .resetEnd (after .resetAssert home)).port.cause) =
      (0xA0#8, .warm) := by decide

/-! ### Witnesses: the hypotheses of each statement can be met, clause by clause -/

/-- `home` while RESET is asserted. -/
def inReset : State := { home with rst := { home.rst with asserted := true } }

/-- `home` in SELFTEST. -/
def testing : State := { home with port := { home.port with mode := .selfTest } }

theorem home_serves : home.serves := ⟨rfl, by decide⟩
theorem reset_serves : State.reset.serves := ⟨rfl, by decide⟩
theorem home_held : HeldLaw home := fun _ => ⟨rfl, rfl, rfl, rfl, rfl⟩

theorem witness_StepTakesFrontCommand : home.pending = [] := rfl

theorem witness_CommandsRunAndKeepTheQueue :
    frameRequest [0x00#8, 0x00#8] = some .nop ∧ frameRequest [0x12#8, 0x01#8, 0x14#8] = some (.olook 20#8) ∧
    exec .nop home = .next (after .nop home) ∧
    step { home with pending := [.nop] } = .next (after .nop home) :=
  ⟨by decide, by decide, rfl, rfl⟩

/-- The last two clauses: a refused request, and an event that goes on while RESET is asserted. -/
theorem witness_RequestsActOnlyInService :
    Instr.clook.isRequest = true ∧ inReset.rst.asserted = true ∧
    (testing.rst.asserted = false ∧ testing.port.mode = .selfTest) ∧
    (exec (.alook 3) home = .next (after (.alook 3) home) ∧
      (after (.alook 3) home).port.reply = some (refusal .noSuchAccount)) ∧
    exec .qchgPulse inReset = .next (after .qchgPulse inReset) ∧ (after .qchgPulse inReset).charge ≠ inReset.charge :=
  ⟨rfl, rfl, ⟨rfl, rfl⟩, ⟨rfl, by decide⟩, rfl, by decide⟩

theorem witness_FramesOpenAndFail :
    home.serves ∧ ([0x00#8] : List Byte).length < 2 ∧ 124 < (0x7D#8 : Byte).toNat ∧
    ([0x05#8] : List Byte).length < (0x02#8 : Byte).toNat ∧
    ((0x7C#8 : Byte).toNat ≤ 124 ∧ (0x7C#8 : Byte).toNat ≤ (List.replicate 124 (0x00#8 : Byte)).length ∧
      (0x07#8 : Byte).toNat ∉ requestCodes) ∧
    ((0x01#8 : Byte).toNat ≤ 124 ∧ (0x01#8 : Byte).toNat ≤ ([0x05#8] : List Byte).length ∧
      statedBodyLength 0x00#8 = some 0 ∧ 0 ≠ (0x01#8 : Byte).toNat) ∧
    (2 < (replyBytes none).length ∧ 2 < 3) ∧
    (home.rst.asserted = false ∧ home.port.inFrame = false) ∧ inReset.rst.asserted = true :=
  ⟨home_serves, by decide, by decide, by decide, ⟨by decide, by simp, by decide⟩, by decide, by decide, ⟨rfl, rfl⟩, rfl⟩

/-- In the wait of R131 no press state stands; after it both do. -/
theorem witness_NopStatAndSlookAnswer :
    home.serves ∧ home.sense.pressA.state = none ∧
    (after .pressClassifierWaitEnd home).sense.pressB.state = some .released :=
  ⟨home_serves, rfl, by decide⟩

theorem witness_TlookReportsTheClock : home.serves ∧ (0x01#8 : Byte) ≠ 0#8 := ⟨home_serves, by decide⟩

theorem witness_LookUpsReportAndChangeNothing :
    (withDriver home (driver 1 .bunkA .idle)).serves ∧ slotOf 4 = none ∧ slotOf 3 = some .s3 ∧
    home.account .s3 = none ∧ slotOf 0 = some .s0 ∧
    (withDriver home (driver 1 .bunkA .idle)).account .s0 = some (driver 1 .bunkA .idle) :=
  ⟨⟨rfl, by decide⟩, rfl, rfl, rfl, rfl, rfl⟩

theorem witness_FlagsAreFetchedEnabledAndMasked : home.serves := home_serves

/-- REST_DONE waiting in slot 0 with this countdown, out of reset. -/
def waiting (due : Nat) : State :=
  { home with
    warn :=
      { entries :=
          [{ source := .slot .s0, type := .restDone, raisedAt := 0, state := .queued, bursts := 0, due := some due
             falling := false }]
        chime := .idle, lamp := .steady, lampOn := true } }

theorem witness_ModeCommandsAct :
    home.serves ∧ State.reset.serves ∧ home.port.mode ≠ .uninit ∧ State.reset.port.mode = .uninit ∧
    (home.rst.asserted = false ∧ home.port.mode ≠ .selfTest) ∧
    (testing.rst.asserted = false ∧ testing.port.mode = .selfTest) ∧
    ((1 : Fin 5) ∈ [(3 : Fin 5), 1] ∧ ∀ k ∈ [(3 : Fin 5), 1], (1 : Fin 5) ≤ k) ∧
    ((waiting 5).serves ∧ (waiting 5).dueSettled ∧ (∃ e ∈ (waiting 5).warn.entries, e.isPair .part .fridgeWarm = false) ∧
      ∀ n snd owned, (waiting 5).warn.chime ≠ .sounding .part .fridgeWarm n snd owned) :=
  ⟨home_serves, reset_serves, by decide, rfl, ⟨rfl, by decide⟩, ⟨rfl, rfl⟩, by decide,
    ⟨⟨rfl, by decide⟩, by unfold State.dueSettled; decide, by decide, fun _ _ _ h => by cases h⟩⟩

/-- Asleep in NORMAL with WARNING named and the spacing clear, and with the spacing set. -/
def sleeping (spacing : Bool) : State :=
  { home with port := { home.port with asleep := true, mask := 0x04#8, spacing := spacing, wait := true } }

theorem witness_NoticesSetFlagsAndWake :
    inReset.rst.asserted = true ∧ home.rst.asserted = false ∧
    (Notice.warning.inByte (sleeping false).port.flags = false ∧ (sleeping false).port.asleep = true ∧
      (sleeping false).port.mode = .normal ∧ Notice.warning.inByte (sleeping false).port.mask = true ∧
      (sleeping false).port.spacing = false) ∧
    (sleeping true).port.spacing = true ∧ ((sleeping false).rst.asserted = false ∧ (sleeping false).port.wait = true) :=
  ⟨rfl, rfl, by decide, rfl, rfl, rfl⟩

theorem witness_ModeChangesByItsTable :
    exec .shut home = .next (after .shut home) ∧ (after .shut home).port.mode ≠ home.port.mode ∧
    exec (.unknownRequest (.frame [0x06#8, 0x00#8])) home =
      .next (after (.unknownRequest (.frame [0x06#8, 0x00#8])) home) ∧
    (after (.unknownRequest (.frame [0x06#8, 0x00#8])) home).port.mode ≠ home.port.mode :=
  ⟨rfl, by decide, rfl, by decide⟩

/-! #### Orders and passes -/

/-- A full table of 24 orders. -/
def fullTable : State :=
  { home with
    orders := (List.range 24).map (fun k =>
      hostOrder (k + 1) .nightLight .comfort (.light 0 0) .immediate .unending 0) }

/-- An OPLACE body. -/
def placing (key : Byte) (start : StartArg) (finish : FinishArg) : PlaceArg :=
  { key := key, load := some .heater, cls := some .comfort, target := { value := 200, fade := 0 }, start := start
    finish := finish }

theorem witness_OplaceEntersTheOrder :
    home.serves ∧ State.reset.port.mode = .uninit ∧ home.port.mode ≠ .uninit ∧
    ((placing 0 .immediate .unending).key.toNat = 0 ∧ 240 < (placing 241 .immediate .unending).key.toNat ∧
      (placing 1 .bad .unending).start.store = none ∧ (placing 1 .immediate .bad).finish.store = none) ∧
    (1 ≤ (placing 240 .immediate .unending).key.toNat ∧ (placing 240 .immediate .unending).key.toNat ≤ 240) ∧
    ((placing 1 (.absolute 5#32) (.absolute 0#32)).finish.store = some (.absolute 0) ∧ 0 ≤ home.clock.minute) ∧
    ((placing 1 (.absolute 5#32) (.absolute 5#32)).start.store = some (.absolute 5) ∧
      (placing 1 (.absolute 5#32) (.absolute 5#32)).finish.store = some (.absolute 5)) ∧
    ((placing 1 (.absolute 5#32) (.absolute 6#32)).start.store = some (.absolute 5) ∧
      (placing 1 (.absolute 5#32) (.absolute 6#32)).finish.store = some (.absolute 6) ∧ home.clock.minute < 6) ∧
    ((placing 1 (.anchored 3 (some .restEnd) 0) .unending).start.store = some (.anchored .s3 .restEnd 0) ∧
      home.account .s3 = none) ∧
    ((∃ o ∈ fullTable.orders, o.key = (24#8 : Byte).toNat) ∧ (∀ o ∈ fullTable.orders, o.key ≠ (25#8 : Byte).toNat) ∧
      24 ≤ fullTable.orders.length) ∧
    ((∀ o ∈ home.orders, o.key ≠ (240#8 : Byte).toNat) ∧ home.orders.length < 24) := by
  refine ⟨home_serves, rfl, ?_⟩
  decide

/-- An OAMEND body for key 20 of the cold evening. -/
def amending (load : Option Load) (start : Option StartArg) (finish : Option FinishArg) : AmendArg :=
  { key := 20, load := load, cls := none, target := none, start := start, finish := finish }

/-- Key 20 of the cold evening. -/
def keyTwenty : Order :=
  { hostOrder 20 .fridge .comfort (.setpoint 40) .immediate .unending 40100 with
    state := .active, resolvedStart := some 40100, forecast := 11200, admittedAt := some 40100 }

theorem witness_OamendRewritesTheOrder :
    coldEvening.serves ∧ coldEvening.port.mode ≠ .uninit ∧ State.reset.port.mode = .uninit ∧
    (244 < (245#8 : Byte).toNat ∧ (244#8 : Byte).toNat ≤ 244 ∧ findOrder (244#8 : Byte).toNat coldEvening.orders = none) ∧
    findOrder (amending none none none).key.toNat coldEvening.orders = some keyTwenty ∧
    ((amending (some .heater) none none).load ≠ some keyTwenty.load ∧
      (amending (some .fridge) none none).load = some keyTwenty.load) ∧
    ((amending none none (some (.absolute 40999#32))).finish.map FinishArg.store = some (some (.absolute 40999)) ∧
      40999 ≤ coldEvening.clock.minute) ∧
    ((amending none none (some (.absolute 41000#32))).finish.map FinishArg.store = some (some (.absolute 41000)) ∧
      coldEvening.clock.minute < 41000) ∧
    ((amending none (some (.anchored 0 (some .restEnd) 0)) none).start.map StartArg.store =
        some (some (.anchored .s0 .restEnd 0)) ∧ coldEvening.account .s0 = none) ∧
    (((amending none none none).start.map StartArg.store).getD (some keyTwenty.start) = some .immediate) := by
  refine ⟨⟨rfl, by decide⟩, ?_⟩
  decide

theorem witness_OlookAndOlistReport :
    coldEvening.serves ∧ State.reset.port.mode = .uninit ∧ coldEvening.port.mode ≠ .uninit ∧
    ((0#8 : Byte).toNat = 0 ∧ 244 < (245#8 : Byte).toNat) ∧
    (1 ≤ (1#8 : Byte).toNat ∧ (244#8 : Byte).toNat ≤ 244 ∧ ∀ o ∈ coldEvening.orders, o.key ≠ (244#8 : Byte).toNat) ∧
    findOrder (20#8 : Byte).toNat coldEvening.orders = some keyTwenty := by
  refine ⟨⟨rfl, by decide⟩, ?_⟩
  decide

theorem witness_OretireRemovesTheOrder :
    coldEvening.serves ∧ State.reset.port.mode = .uninit ∧ coldEvening.port.mode ≠ .uninit ∧
    244 < (245#8 : Byte).toNat ∧ (∀ o ∈ coldEvening.orders, o.key ≠ (244#8 : Byte).toNat) ∧
    findOrder (20#8 : Byte).toNat coldEvening.orders = some keyTwenty ∧
    coldEvening.orders.Pairwise (fun a b => a.key < b.key) ∧
    (∀ p ∈ coldEvening.orders, p.key ≠ (hostOrder 5 .fridge .comfort (.setpoint 40) .immediate .unending 0).key) := by
  refine ⟨⟨rfl, by decide⟩, ?_⟩
  decide

/-- The reading of the cold evening at minute 41,000, and at 41,300, where key 10 has expired. -/
def readingAt (minute : Nat) : Reading := { coldEvening.reading with now := minute }

theorem witness_PassResolvesAndStatesOrders :
    (coldEvening.orders.map Order.key).Nodup ∧
    ((readingAt 41000).run coldEvening.orders).orders.map Order.state = [.active, .waiting, .active] ∧
    (((readingAt 41300).run coldEvening.orders).removed = true ∧
      ∀ o ∈ ((readingAt 41300).run coldEvening.orders).orders, o.key ≠ 10) := by decide

theorem witness_CandidateIsFirst :
    (coldEvening.orders.map Order.key).Nodup ∧
    ((readingAt 41000).candidate ((readingAt 41000).resolved coldEvening.orders) .heater).map Order.key = some 10 ∧
    (readingAt 41000).candidate ((readingAt 41000).resolved coldEvening.orders) .cabLight = none := by decide

theorem witness_WalkFollowsTable15 :
    (coldEvening.orders.map Order.key).Nodup ∧
    ((readingAt 41000).candidates ((readingAt 41000).resolved coldEvening.orders)).map Order.key = [10, 20, 30] ∧
    coldEvening.orders = [] ++ (coldEvening.orders.head?.getD keyTwenty) :: coldEvening.orders.tail ∧
    (coldEvening.orders.map Order.load = [.heater, .fridge, .readA]) ∧
    (hostOrder 30 .readA .convenience (.light 300 5) .immediate .unending 0).target = .light 300 5 := by decide

/-! #### The cab clock, the budget and the charge account -/

theorem witness_TsetStepsTheClock : clockStep.serves := ⟨rfl, by decide⟩

theorem witness_BsetAndPlanSetTheBudget : home.serves := home_serves

theorem witness_CabClockMovesOnlyByItsEvents :
    exec (.tset 5#32) home = .next (after (.tset 5#32) home) ∧
    (after (.tset 5#32) home).clock.minute ≠ home.clock.minute ∧
    (after (.tset 5#32) home).clock.isSet ≠ home.clock.isSet ∧
    exec (.unknownRequest (.frame [0x20#8, 0x04#8, 0x05#8, 0x00#8, 0x00#8, 0x00#8])) home =
      .next (after (.unknownRequest (.frame [0x20#8, 0x04#8, 0x05#8, 0x00#8, 0x00#8, 0x00#8])) home) ∧
    (after (.unknownRequest (.frame [0x20#8, 0x04#8, 0x05#8, 0x00#8, 0x00#8, 0x00#8])) home).clock.minute = 5 :=
  ⟨rfl, by decide, by decide, rfl, by decide⟩

/-- One mAh short of the capacity and above an empty account, and the same while RESET is asserted. -/
theorem witness_PulsesMoveTheCharge :
    (ChargeLaw (charged 199999 80000) ∧ HeldLaw (charged 199999 80000)) ∧
    (ChargeLaw (charged 0 80000) ∧ HeldLaw (charged 0 80000)) ∧ (ChargeLaw inReset ∧ HeldLaw inReset) ∧
    (charged 0 80000).rst.asserted = false ∧ inReset.rst.asserted = true ∧
    ((charged 120001 120001).warn.entries.Pairwise (fun a b => ¬(a.source = b.source ∧ a.type = b.type)) ∧
      (after .qdisPulse (charged 120001 120001)).warn.entries =
        [(Entry.atRaise .part .chargeReserve home.clock.minute).taken]) := by
  refine ⟨⟨by unfold ChargeLaw; decide, fun _ => ⟨rfl, rfl, rfl, rfl, rfl⟩⟩,
    ⟨by unfold ChargeLaw; decide, fun _ => ⟨rfl, rfl, rfl, rfl, rfl⟩⟩,
    ⟨by unfold ChargeLaw; decide, fun h => absurd h (by decide)⟩, rfl, rfl, by decide, by decide⟩

theorem witness_CsetAndCsyncSetTheAccount :
    home.serves ∧ HeldLaw home ∧ (9999 < 10000 ∧ 1000000 < 1000001 ∧ 0 < 1 ∧ 36000 < 36001 ∧ 10000 ≤ 10000) ∧
    (10000 ≤ 10000 ∧ 10000 ≤ 1000000 ∧ 1 ≤ 1 ∧ 1 ≤ 36000 ∧ 9999 < 10000) ∧
    (10000 ≤ 1000000 ∧ 1000000 ≤ 1000000 ∧ 1 ≤ 36000 ∧ 36000 ≤ 36000 ∧ 999999 < 1000000) :=
  ⟨home_serves, home_held, by decide, by decide, by decide⟩

/-! #### The rest accounts -/

/-- Slot 0 holds this account and no other slot holds one. -/
theorem withDriver_only (a : Account) (i : Slot) (b : Account) (h : (withDriver home a).account i = some b) :
    i = .s0 ∧ b = a := by
  cases i
  · exact ⟨rfl, (Option.some.inj h).symm⟩
  all_goals exact absurd h (by simp [withDriver, home, State.reset, State.account, PerSlot.get])

theorem witness_AopenOpensTheSlot :
    (withDriver home (driver 7 .bunkA .idle)).serves ∧ slotOf 4 = none ∧ slotOf 3 = some .s3 ∧
    (0#32).toNat = 0 ∧ (8#32).toNat ≠ 0 ∧ slotOf 0 = some .s0 ∧
    (withDriver home (driver 7 .bunkA .idle)).account .s0 ≠ none ∧
    (withDriver home (driver 7 .bunkA .idle)).account .s3 = none ∧
    (∃ j a, (withDriver home (driver 7 .bunkA .idle)).account j = some a ∧ a.tag = (7#32).toNat) ∧
    (∀ j a, (withDriver home (driver 7 .bunkA .idle)).account j = some a → a.tag ≠ (8#32).toNat) ∧
    (∃ j a, (withDriver home (driver 7 .bunkA .idle)).account j = some a ∧ a.bunk = .bunkA) ∧
    (∀ j a, (withDriver home (driver 7 .bunkA .idle)).account j = some a → a.bunk ≠ .bunkB) := by
  refine ⟨⟨rfl, by decide⟩, rfl, rfl, rfl, by decide, rfl, by decide, rfl, ⟨.s0, _, rfl, rfl⟩, ?_, ⟨.s0, _, rfl, rfl⟩, ?_⟩
  all_goals (intro j a h; obtain ⟨-, rfl⟩ := withDriver_only _ j a h; decide)

/-- A settings set at the defaults but for one figure below its range. -/
def settingsArg (wake : Option Bool) : SettingsArg :=
  { rest := 59, segment := 180, drive := 270, lead := 15, pause := 45, daily := 540, wake := wake, wakeLevel := 400
    wakeRamp := 10 }

theorem witness_AsetWritesTheSettings :
    (withDriver home (driver 7 .bunkA .idle)).serves ∧ HeldLaw (withDriver home (driver 7 .bunkA .idle)) ∧
    slotOf 4 = none ∧ (settingsArg none).wake = none ∧ slotOf 3 = some .s3 ∧
    (settingsArg (some true)).wake = some true ∧ home.account .s3 = none ∧ slotOf 0 = some .s0 ∧
    (withDriver home (driver 7 .bunkA .idle)).account .s0 = some (driver 7 .bunkA .idle) ∧
    ((driver 7 .bunkA .resting).declared = true ∧ Bunk.bunkB ≠ (driver 7 .bunkA .resting).bunk) ∧
    ((driver 7 .bunkA .idle).declared = false ∧ Bunk.bunkB ≠ (driver 7 .bunkA .idle).bunk ∧
      ∃ j c, ({ withDriver home (driver 7 .bunkA .idle) with
                accounts :=
                  { home.accounts with s0 := some (driver 7 .bunkA .idle), s1 := some (driver 8 .bunkB .idle) } } :
                State).account j = some c ∧ c.bunk = .bunkB) ∧
    (∀ j c, (withDriver home (driver 7 .bunkA .idle)).account j = some c → c.bunk ≠ .bunkB) := by
  refine ⟨⟨rfl, by decide⟩, fun _ => ⟨rfl, rfl, rfl, rfl, rfl⟩, rfl, rfl, rfl, rfl, rfl, rfl, rfl,
    ⟨rfl, by decide⟩, ⟨rfl, by decide, .s1, _, rfl, rfl⟩, ?_⟩
  intro j a h
  obtain ⟨-, rfl⟩ := withDriver_only _ j a h
  decide

theorem witness_AdeclRestAndEndAct :
    (withDriver home (driver 7 .bunkA .driving)).serves ∧ slotOf 4 = none ∧ slotOf 3 = some .s3 ∧
    home.account .s3 = none ∧
    ((withDriver home (driver 7 .bunkA .driving)).account .s0 = some (driver 7 .bunkA .driving) ∧
      (driver 7 .bunkA .driving).declared = false) ∧
    ((withDriver home (driver 7 .bunkA .restWait)).account .s0 = some (driver 7 .bunkA .restWait) ∧
      (driver 7 .bunkA .restWait).declared = true) ∧
    (halted home).standstill = true ∧ home.standstill = false ∧
    ({ driver 7 .bunkA .idle with accumulated := 660 } : Account).firesAtStart = true ∧
    (driver 7 .bunkA .driving).firesAtStart = false ∧ HeldLaw (withDriver home (driver 7 .bunkA .restWait)) :=
  ⟨⟨rfl, by decide⟩, rfl, rfl, rfl, ⟨rfl, rfl⟩, ⟨rfl, rfl⟩, by decide, by decide, by decide, by decide,
    fun _ => ⟨rfl, rfl, rfl, rfl, rfl⟩⟩

/-- Slots 0 and 1 held, slot 1 at the wheel. -/
def twoDrivers : State :=
  { home with
    accounts :=
      { home.accounts with s0 := some (driver 7 .bunkA .resting), s1 := some (driver 8 .bunkB .driving) } }

theorem witness_AdeclWheelAndReleaseAct :
    twoDrivers.serves ∧ slotOf 4 = none ∧ slotOf 3 = some .s3 ∧ home.account .s3 = none ∧
    (twoDrivers.account .s1 = some (driver 8 .bunkB .driving) ∧ (driver 8 .bunkB .driving).state = .driving) ∧
    (twoDrivers.account .s0 = some (driver 7 .bunkA .resting) ∧ (driver 7 .bunkA .resting).state ≠ .driving ∧
      ∃ j b, twoDrivers.account j = some b ∧ b.state = .driving) ∧
    ((withDriver home (driver 7 .bunkA .resting)).account .s0 = some (driver 7 .bunkA .resting) ∧
      ∀ j b, (withDriver home (driver 7 .bunkA .resting)).account j = some b → b.state ≠ .driving) ∧
    (HeldLaw (withDriver home (driver 7 .bunkA .resting)) ∧ (driver 7 .bunkA .resting).declared = true ∧
      (driver 7 .bunkA .resting).closesShort = true ∧ (driver 7 .bunkA .idle).declared = false) := by
  refine ⟨⟨rfl, by decide⟩, rfl, rfl, rfl, ⟨rfl, rfl⟩, ⟨rfl, by decide, .s1, _, rfl, rfl⟩, ⟨rfl, ?_⟩,
    fun _ => ⟨rfl, rfl, rfl, rfl, rfl⟩, rfl, by decide, rfl⟩
  intro j a h
  obtain ⟨-, rfl⟩ := withDriver_only _ j a h
  decide

theorem witness_AretireEmptiesTheSlot :
    twoDrivers.serves ∧ slotOf 4 = none ∧ slotOf 3 = some .s3 ∧ twoDrivers.account .s3 = none ∧
    slotOf 0 = some .s0 ∧ twoDrivers.account .s0 = some (driver 7 .bunkA .resting) ∧
    (({ twoDrivers with quiet := true } : State).account .s0 = some (driver 7 .bunkA .resting) ∧
      (after (.aretire 0) { twoDrivers with quiet := true }).quiet = false) :=
  ⟨⟨rfl, by decide⟩, rfl, rfl, rfl, rfl, rfl, rfl, by decide⟩

/-- A credited rest of exactly R, and a break of exactly B times 60. -/
def rested : Account := { driver 7 .bunkA .resting with segSeconds := 39600 }
def paused : Account := { driver 7 .bunkA .driving with breakSeconds := 2700 }

/-- The same rest while RESET is asserted, and in UNINIT, where its wake order finds no place. -/
def restedInReset : State := withDriver inReset rested
def restedUninit : State := withDriver { home with port := { home.port with mode := .uninit } } rested

theorem witness_RestAndBreakComplete :
    (restedInReset.rst.asserted = true ∧ restedInReset.account .s0 = some rested ∧ Side.a.bunk = rested.bunk) ∧
    (restedUninit.rst.asserted = false ∧ HeldLaw restedUninit ∧ restedUninit.account .s0 = some rested ∧
      Side.a.bunk = rested.bunk ∧ (∀ o ∈ restedUninit.orders, o.key ≠ wakeKey .a) ∧
      ¬((restedUninit.port.mode = .normal ∨ restedUninit.port.mode = .workshop) ∧ restedUninit.orders.length < 24)) ∧
    ({ rested with bunk := .noBunk } : Account).bunk = .noBunk ∧
    (∀ a, (withDriver home (driver 7 .bunkA .idle)).account .s0 = some a →
      ¬(a.state = .resting ∧ a.rested = false ∧ a.settings.rest ≤ a.credited)) ∧
    ((withDriver home rested).account .s0 = some rested ∧ rested.state = .resting ∧ rested.rested = false ∧
      rested.settings.rest ≤ rested.credited ∧ (withDriver home rested).rst.asserted = false ∧
      HeldLaw (withDriver home rested)) ∧
    ((rested.bunk = .bunkA ∧ Side.a = .a) ∧ rested.settings.wake = true ∧ home.port.mode = .normal ∧
      (withDriver home rested).orders.length < 24) ∧
    (∀ a, (withDriver home (driver 7 .bunkA .idle)).account .s0 = some a →
      ¬(a.state = .driving ∧ home.sense.motion ≠ .moving ∧ a.settings.pause * 60 ≤ a.breakSeconds)) ∧
    ((withDriver home paused).account .s0 = some paused ∧ paused.state = .driving ∧ home.sense.motion ≠ .moving ∧
      paused.settings.pause * 60 ≤ paused.breakSeconds) ∧
    ((withDriver inReset paused).rst.asserted = true ∧ HeldLaw (withDriver home paused)) := by
  refine ⟨⟨rfl, rfl, rfl⟩, ⟨rfl, fun _ => ⟨rfl, rfl, rfl, rfl, rfl⟩, rfl, rfl, by decide, by decide⟩, rfl, ?_,
    ⟨rfl, rfl, rfl, by decide, rfl, fun _ => ⟨rfl, rfl, rfl, rfl, rfl⟩⟩, ⟨⟨rfl, rfl⟩, rfl, rfl, by decide⟩, ?_,
    ⟨rfl, rfl, by decide, by decide⟩, rfl, fun _ => ⟨rfl, rfl, rfl, rfl, rfl⟩⟩
  all_goals (intro a h; obtain ⟨-, rfl⟩ := withDriver_only _ _ a h; decide)

/-- BTN_A held down with this account in slot 0. -/
def holding (a : Account) : State :=
  { withDriver home a with sense := { home.sense with pressA := { state := some .pressed, hold := 0 } } }

theorem witness_LongPressDeclaresOrEnds :
    inReset.rst.asserted = true ∧ (home.sense.press .a).state ≠ some .pressed ∧
    ((holding rested).rst.asserted = false ∧ ((holding rested).sense.press .a).state = some .pressed) ∧
    (∀ i a, (holding (driver 7 .bunkB .idle)).account i = some a → a.bunk ≠ Side.a.bunk) ∧
    ((holding rested).account .s0 = some rested ∧ rested.bunk = Side.a.bunk ∧ rested.declared = true ∧
      ∀ j b, (holding rested).account j = some b → b.bunk = Side.a.bunk → j = .s0) ∧
    (driver 7 .bunkA .idle).declared = false := by
  refine ⟨rfl, by decide, ⟨rfl, rfl⟩, ?_, ⟨rfl, rfl, rfl, ?_⟩, rfl⟩
  · intro i a h
    obtain ⟨-, rfl⟩ := withDriver_only _ i a h
    decide
  · intro j b h _
    exact (withDriver_only _ j b h).1

theorem waiting_lawful (due : Nat) (hd : due ≤ 600) : WarnLaw (waiting due) := by
  refine ⟨by simp [waiting], ?_, fun h hh => absurd hh (by simp [waiting, home, State.reset]), ⟨?_, ?_⟩, fun _ => rfl, rfl⟩
  · intro e h
    obtain rfl := List.mem_singleton.mp h
    exact ⟨rfl, Nat.zero_le _, fun n h => by (have : n = due := (Option.some.inj h).symm); omega, by simp, by simp, by simp,
      by simp, fun _ => rfl, by simp⟩
  · intro e h
    obtain rfl := List.mem_singleton.mp h
    simp
  · intro a t n snd h
    exact absurd h (by simp [waiting])

/-- Two condition entries, one of them SILENCED, and an event entry, with the chime IDLE. -/
def threeWarnings : State :=
  { home with
    warn :=
      { entries :=
          [{ source := .slot .s0, type := .driveOver, raisedAt := 1, state := .silenced, bursts := 1, due := none
             falling := false },
           { source := .slot .s0, type := .restDone, raisedAt := 2, state := .queued, bursts := 0, due := some 0
             falling := false },
           { source := .part, type := .heaterLockout, raisedAt := 3, state := .queued, bursts := 0, due := some 0
             falling := true }]
        chime := .idle, lamp := .flashing, lampOn := true } }

theorem witness_SecondsAndMinutesAdvance :
    (home.rst.asserted = false ∧ HeldLaw home ∧
      (withDriver home (driver 7 .bunkA .driving)).account .s0 = some (driver 7 .bunkA .driving)) ∧
    inReset.rst.asserted = true ∧
    ((withDriver inReset (driver 7 .bunkA .driving)).account .s0 = some (driver 7 .bunkA .driving)) ∧
    (fridgeIn .fault 0 5).fridge.state = .fault ∧
    (∀ i a, (withDriver home (driver 7 .bunkA .idle)).account i = some a → a.state ≠ .driving) ∧
    (WarnLaw (waiting 1) ∧ WarnLaw (waiting 0) ∧ (∃ e ∈ (waiting 1).warn.entries, e.ready = false) ∧
      ∃ e ∈ (waiting 0).warn.entries, e.ready = true) ∧
    home.charge.synced = false ∧ 59 ≤ coldEvening.clock.prescaler ∧ home.clock.prescaler < 59 ∧
    (threeWarnings.warn.entries.map Entry.counted).Pairwise
      (fun a b => ¬(a.source = b.source ∧ a.type = b.type)) := by
  refine ⟨⟨rfl, home_held, rfl⟩, rfl, rfl, rfl, ?_, ⟨waiting_lawful 1 (by decide), waiting_lawful 0 (by decide), by decide,
    by decide⟩, rfl, by decide, by decide, by decide⟩
  intro i a h
  obtain ⟨-, rfl⟩ := withDriver_only _ i a h
  decide

/-! #### The warning presenter -/

theorem witness_WackAcknowledges :
    threeWarnings.serves ∧ (Source.part = .part ↔ WarnType.driveOver.ofAccount = true) ∧
    ¬(Source.part = .part ↔ WarnType.heaterLockout.ofAccount = true) ∧
    (∀ e ∈ threeWarnings.warn.entries, ¬(e.source = .part ∧ e.type = .chargeReserve)) ∧
    ((findPair (.slot .s0) .restDone threeWarnings.warn.entries).map Entry.state = some .queued ∧
      WarnType.restDone.isEvent = true) ∧
    ((findPair (.slot .s0) .driveOver threeWarnings.warn.entries).map Entry.state = some .silenced ∧
      WarnType.driveOver.isEvent = false) ∧
    (findPair .part .heaterLockout threeWarnings.warn.entries).map Entry.state = some .queued := by
  refine ⟨⟨rfl, by decide⟩, ?_⟩
  decide

/-- Every due entry of `threeWarnings` may sound; with the quiet flag set and no bunk resting REST_DONE may not. -/
theorem witness_CountdownZeroSelectsByRank :
    inReset.rst.asserted = true ∧ threeWarnings.rst.asserted = false ∧
    (threeWarnings.warn.chime = .idle ∧ threeWarnings.port.mode ≠ .selfTest ∧
      ∃ e ∈ threeWarnings.warn.entries.map (fun e => { e with falling := false }),
        e.ready = true ∧ threeWarnings.suppressed e = false) ∧
    (∃ e ∈ threeWarnings.warn.entries, e.falling = true ∧ e.ready = false) ∧
    ((twoWarnings (.sounding (.slot .s0) .driveOver 1 false true)).warn.chime ≠ .idle) ∧
    (∃ e ∈ threeWarnings.warn.entries, ({ threeWarnings with quiet := true } : State).suppressed e = true) := by decide

theorem witness_BurstRunsItsTones :
    home.rst.asserted = false ∧ (2 ≤ 2 ∧ 1 ≤ 1) ∧ home.warn.chime = .idle ∧ home.warn.lamp ≠ .flashing ∧
    threeWarnings.warn.lamp = .flashing ∧
    ((twoWarnings (.sounding (.slot .s0) .driveOver 1 false true)).warn.chime =
        .sounding (.slot .s0) .driveOver 1 false true ∧
      ∃ e ∈ (twoWarnings (.sounding (.slot .s0) .driveOver 1 false true)).warn.entries, e.ready = true ∧
        (twoWarnings (.sounding (.slot .s0) .driveOver 1 false true)).suppressed e = false) := by decide

/-! #### The heater -/

theorem witness_HsetAndHclearAct :
    home.serves ∧ ((heaterIn .run none).heater.state ≠ .off ∧ (heaterIn .run none).heater.state ≠ .lockout) ∧
    home.heater.state = .off ∧
    ((heaterIn .lockout none).heater.state = .lockout ∧ (heaterIn .lockout none).sense.ovht.level = false ∧
      HeldLaw (heaterIn .lockout none)) ∧
    ({ heaterIn .lockout none with sense := { home.sense with ovht := { Input.cold with level := true } } } :
      State).sense.ovht.level = true :=
  ⟨home_serves, by decide, rfl, ⟨rfl, rfl, fun _ => ⟨rfl, rfl, rfl, rfl, rfl⟩⟩, rfl⟩

/-- RUN with its two counts at the values at which they take effect. -/
def ripe : State :=
  { heaterIn .run none with
    heater := { (heaterIn .run none).heater with level := 1, runSeconds := 600, satisfy := some 300 } }

/-- FLAME found present in PREHEAT. -/
def flameInPreheat : State :=
  { heaterIn .preheat (some 0) with sense := { home.sense with flame := { Input.cold with level := true } } }

theorem witness_HeaterPhasesEnd :
    home.rst.asserted = false ∧
    ((heaterIn .preheat (some 0)).heater.state = .preheat ∧ (heaterIn .preheat (some 0)).sense.flame.level = false) ∧
    (flameInPreheat.heater.state = .preheat ∧ flameInPreheat.sense.flame.level = true) ∧
    (heaterIn .ignition (some 0)).heater.state = .ignition ∧ (heaterIn .proving (some 0)).heater.state = .proving ∧
    (ripe.heater.state = .run ∧ ripe.heater.runSeconds = 600 ∧ ripe.heater.satisfy = some 300) ∧
    (home.heater.state ≠ .preheat ∧ home.heater.state ≠ .ignition ∧ home.heater.state ≠ .proving ∧
      home.heater.state ≠ .run) := by decide

/-- The heater in COOLDOWN with a cause, a count and restart-pending. -/
def cooling (cause : CooldownCause) (failed : Nat) (restart : Bool) : State :=
  { heaterIn .cooldown (some 0) with
    heater :=
      { (heaterIn .cooldown (some 0)).heater with cause := some cause, failed := failed, restart := restart } }

theorem witness_CooldownEndsByTable31 :
    home.rst.asserted = false ∧ home.heater.state ≠ .cooldown ∧
    ((cooling .overheat 0 false).heater.state = .cooldown ∧ (cooling .overheat 0 false).heater.cause = some .overheat) ∧
    ((cooling .failedStart 3 false).heater.cause = some .failedStart ∧ (cooling .failedStart 3 false).heater.failed = 3 ∧
      HeldLaw (cooling .failedStart 3 false)) ∧
    (cooling .satisfied 0 false).heater.cause = some .satisfied ∧
    ((cooling .failedStart 2 true).heater.cause ≠ some .satisfied ∧
      ¬((cooling .failedStart 2 true).heater.cause = some .failedStart ∧ (cooling .failedStart 2 true).heater.failed = 3) ∧
      (cooling .failedStart 2 true).heater.restart = true ∧ (cooling .failedStart 2 true).sense.ovht.level = false) ∧
    (cooling .stopped 0 false).heater.restart = false :=
  ⟨rfl, by decide, ⟨rfl, rfl⟩, ⟨rfl, rfl, fun _ => ⟨rfl, rfl, rfl, rfl, rfl⟩⟩, rfl, by decide, rfl⟩

/-- FLAME about to be found present. -/
def flameDue : State :=
  { heaterIn .ignition (some 95) with
    sense := { home.sense with flame := { pin := true, level := false, timer := true, fromReset := false } } }

theorem witness_BurnerKeepsItsOrder :
    (exec .provingExpiry (heaterIn .proving (some 0)) = .next (after .provingExpiry (heaterIn .proving (some 0))) ∧
      (after .provingExpiry (heaterIn .proving (some 0))).heater.state = .run) ∧
    (exec .preheatExpiry (heaterIn .preheat (some 0)) = .next (after .preheatExpiry (heaterIn .preheat (some 0))) ∧
      (after .preheatExpiry (heaterIn .preheat (some 0))).heater.state = .ignition) ∧
    (exec (.debounceExpiry .flame 0) flameDue = .next (after (.debounceExpiry .flame 0) flameDue) ∧
      (after (.debounceExpiry .flame 0) flameDue).heater.state = .proving) ∧
    (exec .cooldownExpiry (cooling .overheat 0 false) = .next (after .cooldownExpiry (cooling .overheat 0 false)) ∧
      (after .cooldownExpiry (cooling .overheat 0 false)).heater.state = .lockout) ∧
    (exec (.hclear (some true)) (heaterIn .lockout none) = .next (after (.hclear (some true)) (heaterIn .lockout none)) ∧
      (after (.hclear (some true)) (heaterIn .lockout none)).heater.state ≠ .lockout) ∧
    HeaterState.run.burning = true :=
  ⟨⟨rfl, by decide⟩, ⟨rfl, by decide⟩, ⟨rfl, by decide⟩, ⟨rfl, by decide⟩, ⟨rfl, by decide⟩, rfl⟩

/-! #### The refrigerator, the lights and sensing -/

theorem witness_FsetAndFclearAct :
    (fridgeIn .rest 0 120).serves ∧ clampNat 120 600 0 = 120 ∧ clampNat 120 600 601 = 600 ∧
    ((fridgeIn .rest 0 120).fridge.state = .rest ∧ 120 ≤ (fridgeIn .rest 0 120).fridge.offSeconds) ∧
    ¬((fridgeIn .rest 0 119).fridge.state = .rest ∧ 120 ≤ (fridgeIn .rest 0 119).fridge.offSeconds) ∧
    (fridgeIn .idle 0 120).fridge.state ≠ .fault ∧ (fridgeIn .fault 0 120).fridge.state = .fault ∧
    ((fridgeIn .fault 0 180).fridge.minOff ≤ (fridgeIn .fault 0 180).fridge.offSeconds ∧
      (fridgeIn .fault 0 179).fridge.offSeconds < (fridgeIn .fault 0 179).fridge.minOff) :=
  ⟨⟨rfl, by decide⟩, by decide, by decide, ⟨rfl, by decide⟩, by decide, by decide, rfl, by decide⟩

/-- C3 faulted with the fridge as it is. -/
def c3Lost (s : State) : State := { s with sense := { s.sense with fridgeT := TempChannel.cold } }

/-- RUN with its counters at the values at which they fall due. -/
def fridgeRipe : State :=
  { fridgeIn .run 1 0 with
    fridge :=
      { (fridgeIn .run 1 0).fridge with onSeconds := some 600, runSeconds := some 1800, warmRun := some 1200 } }

theorem witness_FridgeCountersFallDue :
    (fridgeIn .rest 0 180).rst.asserted = false ∧
    ((fridgeIn .rest 0 180).fridge.state = .rest ∧ (fridgeIn .rest 0 180).fridge.minOff ≤ 180) ∧
    ((fridgeIn .idle 0 180).fridge.state = .idle ∧ (fridgeIn .idle 0 180).sense.fridgeT.fault = false ∧
      (fridgeIn .idle 0 180).fridgeStarts) ∧
    ¬((fridgeIn .rest 0 179).fridge.state = .rest ∧
      (fridgeIn .rest 0 179).fridge.minOff ≤ (fridgeIn .rest 0 179).fridge.offSeconds) ∧
    ((c3Lost fridgeRipe).fridge.state.turning = true ∧ (c3Lost fridgeRipe).sense.fridgeT.fault = true ∧
      600 ≤ (c3Lost fridgeRipe).fridge.onSeconds.getD 0) ∧
    ((c3Lost (fridgeIn .idle 0 1200)).fridge.state = .idle ∧
      (c3Lost (fridgeIn .idle 0 1200)).sense.fridgeT.fault = true ∧
      1200 ≤ (c3Lost (fridgeIn .idle 0 1200)).fridge.offSeconds) ∧
    (fridgeRipe.fridge.state = .run ∧ fridgeRipe.fridge.runSeconds = some 1800 ∧ fridgeRipe.fridge.warmRun = some 1200) ∧
    (home.fridge.state ≠ .run ∧ home.fridge.warmRun ≠ some 1200) ∧
    (({ fridgeIn .fault 0 0 with fridge := { (fridgeIn .fault 0 0).fridge with warmRun := some 1200 } } :
        State).fridge.warmRun = some 1200 ∧ (fridgeIn .fault 0 0).fridge.state = .fault) := by
  unfold State.fridgeStarts
  decide

/-- The stall count as it was before a stall. -/
def stalled (s : State) (n : Nat) : State := { s with fridge := { s.fridge with stalls := n } }

theorem witness_TachWindowFindsStalls :
    home.rst.asserted = false ∧ (fridgeIn .start 1 180).fridge.state = .start ∧ (20 ≤ 20 ∧ 19 < 20) ∧
    ({ fridgeIn .start 1 180 with
       fridge := { (fridgeIn .start 1 180).fridge with startWindows := some 8 } } : State).fridge.startWindows.getD 0 < 9 ∧
    9 ≤ (fridgeIn .start 1 180).fridge.startWindows.getD 0 ∧
    ((fridgeIn .run 1 0).fridge.state = .run ∧ 15 ≤ 15 ∧ 14 < 15 ∧ 4 ≤ (fridgeIn .run 1 0).fridge.lowWindows.getD 0) ∧
    ({ fridgeIn .run 1 0 with
       fridge := { (fridgeIn .run 1 0).fridge with lowWindows := some 3 } } : State).fridge.lowWindows.getD 0 < 4 ∧
    ((stalled (fridgeIn .run 1 0) 1).fridge.stalls < 2 ∧ (stalled (fridgeIn .run 1 0) 2).fridge.stalls = 2) ∧
    (fridgeIn .fault 0 0).fridge.state.turning = false := by decide

/-- The fridge's law holds in START, so that the statements that assume it say something. -/
theorem fridgeIn_start_lawful : FridgeLaw (fridgeIn .start 1 180) := by
  unfold FridgeLaw
  refine ⟨rfl, rfl, rfl, rfl, rfl, rfl, ?_, ?_, ?_⟩
  · intro n h
    have : n = 9 := (Option.some.inj h).symm
    omega
  · intro n h
    cases h
  · decide

theorem fridgeIn_idle_lawful : FridgeLaw (fridgeIn .idle 0 600) := by
  unfold FridgeLaw
  refine ⟨rfl, rfl, rfl, rfl, rfl, rfl, ?_, ?_, ?_⟩
  · intro n h
    cases h
  · intro n h
    cases h
  · decide

theorem witness_CompressorKeepsItsRest :
    (FridgeLaw (fridgeIn .idle 0 600) ∧ (fridgeIn .idle 0 600).fridge.state.turning = false ∧
      exec .minOffEnd (fridgeIn .idle 0 600) = .next (after .minOffEnd (fridgeIn .idle 0 600)) ∧
      (after .minOffEnd (fridgeIn .idle 0 600)).fridge.state.turning = true) ∧
    (FridgeLaw (fridgeIn .start 1 180) ∧ (fridgeIn .start 1 180).fridge.state.turning = true ∧
      exec (.tachWindowEnd 0) (fridgeIn .start 1 180) = .next (after (.tachWindowEnd 0) (fridgeIn .start 1 180)) ∧
      (after (.tachWindowEnd 0) (fridgeIn .start 1 180)).fridge.state.turning = false) ∧
    (exec .resetAssert (fridgeIn .start 1 180) = .next (after .resetAssert (fridgeIn .start 1 180)) ∧
      (after .resetAssert (fridgeIn .start 1 180)).fridge.state.turning = false) :=
  ⟨⟨fridgeIn_idle_lawful, rfl, rfl, by decide⟩, ⟨fridgeIn_start_lawful, rfl, rfl, by decide⟩, rfl, by decide⟩

/-- An LSET body with this polarity for READ_A and this quiet cap. -/
def lightArg (polA : Option Polarity) (cap : Nat) : LightArg :=
  { polA := polA, polB := some .activeHigh, polCab := some .activeHigh, polNight := some .activeHigh, drawA := 600
    drawB := 600, drawCab := 2000, drawNight := 300, quietCap := cap }

/-- CAB_LIGHT at the quiet cap while the quiet flag is set, and READ_A with one step of a fade left. -/
def dimmed : State :=
  { home with
    quiet := true
    lights :=
      { home.lights with
        cabLight :=
          { home.lights.cabLight with
            target := 500, effective := 100, duty := 100
            presented := some { key := 1, target := .light 500 1, cls := .comfort } }
        readA :=
          { home.lights.readA with
            target := 400, fadeTime := 1, effective := 400, duty := 396
            presented := some { key := 2, target := .light 400 1, cls := .comfort }
            fade := some { from_ := 0, to_ := 400, taken := 99, steps := 100 } } }
    timers := { home.timers with t0 := Timer.cold.write 396 1000, t2 := Timer.cold.write 100 1000 } }

theorem dimmed_lawful : LightLaw dimmed := by
  refine ⟨?_, ?_⟩
  · intro i
    cases i <;>
      refine ⟨?_, by decide, by decide, by decide, ?_, by decide⟩
    all_goals
      first
        | (intro f h; cases h; decide)
        | (intro p h level fade ht; cases h; cases ht; exact ⟨rfl, rfl⟩)
        | (intro p h; cases h)
  · intro _
    refine ⟨by decide, ?_⟩
    intro f h
    cases h

theorem witness_LsetAndFadeStepAct :
    dimmed.serves ∧ (lightArg none 100).polA = none ∧ (lightArg (some .activeLow) 301).polA = some .activeLow ∧
    (LightLaw dimmed ∧ dimmed.quiet = true) ∧
    ((home.timers.get .t0).running = false ∧ (dimmed.timers.get .t0).running = true) ∧ home.quiet = false ∧
    (home.rst.asserted = false ∧ (home.channel .readA).fade = none) ∧
    ((dimmed.channel .readA).fade = some { from_ := 0, to_ := 400, taken := 99, steps := 100 } ∧ 99 < 100) ∧
    ((lightArg (some .activeLow) 50).quietCap ≠ dimmed.lights.quietCap ∧
      ((after (.lset (lightArg (some .activeLow) 50)) dimmed).channel .cabLight).duty ≠
        (dimmed.channel .cabLight).duty) ∧
    ((lightArg (some .activeLow) 200).quietCap ≠ dimmed.lights.quietCap ∧
      ((after (.lset (lightArg (some .activeLow) 200)) dimmed).channel .cabLight).duty =
        (dimmed.channel .cabLight).duty) :=
  ⟨⟨rfl, by decide⟩, rfl, rfl, ⟨dimmed_lawful, rfl⟩, ⟨rfl, rfl⟩, rfl, ⟨rfl, rfl⟩, ⟨rfl, by decide⟩, by decide,
    by decide⟩

/-- STOPPING with this settle count. -/
def settling (count : Nat) : State := { home with sense := { home.sense with settleCount := count } }

theorem witness_StandstillIsWorkedAfresh :
    home.serves ∧ (clampNat 10 600 9 = 10 ∧ clampNat 10 600 601 = 600) ∧
    ((settling 100).sense.motion = .stopping ∧ 10 * 10 ≤ (settling 100).sense.settleCount) ∧
    (settling 99).sense.settleCount < 10 * 10 ∧
    (home.rst.asserted = false ∧ Motion.moving ≠ home.sense.motion) ∧
    (after (.xmode (some true)) (withDriver home (driver 7 .bunkA .restWait))).accounts ≠
      (withDriver home (driver 7 .bunkA .restWait)).accounts ∧
    (after (.xmode (some true)) (withDriver home (driver 7 .bunkA .idle))).accounts =
      (withDriver home (driver 7 .bunkA .idle)).accounts ∧
    (HeldLaw (withDriver home (driver 7 .bunkA .restWait)) ∧
      (withDriver home (driver 7 .bunkA .restWait)).account .s3 = none ∧
      (withDriver home (driver 7 .bunkA .restWait)).account .s0 = some (driver 7 .bunkA .restWait)) :=
  ⟨home_serves, by decide, ⟨rfl, by decide⟩, by decide, ⟨rfl, by decide⟩, by decide, by decide,
    fun _ => ⟨rfl, rfl, rfl, rfl, rfl⟩, rfl, rfl⟩

theorem witness_TempWindowMovesItsChannel :
    home.rst.asserted = false ∧ TempId.c4 ≠ .c2 ∧ TempId.c4 ≠ .c3 := by decide

theorem witness_CabReadingDrivesTheHeater :
    (home.rst.asserted = false ∧ exec (.tempWindowEnd .c2 1440) home = .next (after (.tempWindowEnd .c2 1440) home) ∧
      home.heater.state ≠ .run ∧ home.heater.state ≠ .satisfied ∧ home.heater.presented = none) ∧
    ((heaterIn .run none).heater.presented = some { key := 10, target := .setpoint 180, cls := .essential } ∧
      (heaterIn .run none).heater.state = .run ∧
      exec (.tempWindowEnd .c2 1440) (heaterIn .run none) =
        .next (after (.tempWindowEnd .c2 1440) (heaterIn .run none))) ∧
    ((heaterIn .satisfied none).heater.state = .satisfied ∧
      (after (.tempWindowEnd .c2 1440) (heaterIn .satisfied none)).sense.cab.fault = true ∧
      (heaterIn .satisfied none).sense.ovht.level = false) ∧
    ((heaterIn .lockout none).rst.asserted = false ∧ (heaterIn .lockout none).heater.state = .lockout) :=
  ⟨⟨rfl, rfl, by decide, by decide, rfl⟩, ⟨rfl, rfl, rfl⟩, ⟨rfl, by decide, rfl⟩, rfl, rfl⟩

theorem witness_FridgeReadingDrivesTheFridge :
    ((fridgeIn .run 1 0).rst.asserted = false ∧ HeldLaw (fridgeIn .run 1 0) ∧
      exec (.tempWindowEnd .c3 1562) (fridgeIn .run 1 0) =
        .next (after (.tempWindowEnd .c3 1562) (fridgeIn .run 1 0)) ∧
      (fridgeIn .run 1 0).fridge.state = .run ∧
      (after (.tempWindowEnd .c3 1562) (fridgeIn .run 1 0)).sense.fridgeT.fault = false) ∧
    (home.fridge.state = .rest ∧ (fridgeIn .idle 0 180).fridge.state = .idle ∧
      (fridgeIn .start 1 180).fridge.state = .start) ∧
    ((fridgeIn .run 1 0).fridge.state.turning = true ∧
      (after (.tempWindowEnd .c3 0) (fridgeIn .run 1 0)).sense.fridgeT.fault = true ∧
      (fridgeIn .run 1 0).sense.fridgeT.fault = false ∧ (fridgeIn .run 1 0).fridge.onSeconds.getD 0 < 600 ∧
      600 ≤ fridgeRipe.fridge.onSeconds.getD 0) ∧
    ((c3Lost (fridgeIn .run 1 0)).sense.fridgeT.fault = true ∧
      (after (.tempWindowEnd .c3 0) (c3Lost (fridgeIn .run 1 0))).sense.fridgeT.fault = true) ∧
    (({ fridgeIn .run 1 0 with fridge := { (fridgeIn .run 1 0).fridge with presented := none } } :
        State).fridge.presented.map Presented.setpoint = none) ∧
    (HeldLaw (fridgeIn .fault 0 0) ∧ (fridgeIn .fault 0 0).fridge.state = .fault ∧
      (fridgeIn .fault 0 0).rst.asserted = false) :=
  ⟨⟨rfl, fun _ => ⟨rfl, rfl, rfl, rfl, rfl⟩, rfl, rfl, by decide⟩, ⟨rfl, rfl, rfl⟩, ⟨rfl, by decide, rfl, by decide,
    by decide⟩, ⟨rfl, by decide⟩, rfl, fun _ => ⟨rfl, rfl, rfl, rfl, rfl⟩, rfl, rfl⟩

/-- An input whose debounce timer runs with the pin at this level. -/
def bouncing (level : Bool) : Input := { pin := level, level := !level, timer := true, fromReset := false }

theorem witness_DebounceHandsTheLevelOn :
    (inReset.rst.asserted = true ∧ (home.sense.input .flame).timer = false) ∧
    (flameDue.rst.asserted = false ∧ (flameDue.sense.input .flame).timer = true ∧
      (flameDue.sense.input .flame).pin = true ∧ flameDue.heater.state = .ignition) ∧
    (({ heaterIn .run none with sense := { home.sense with flame := bouncing false } } : State).sense.input .flame).pin =
      false ∧
    (({ heaterIn .run none with sense := { home.sense with ovht := bouncing true } } : State).sense.input .ovht).timer =
      true ∧
    (heaterIn .run none).heater.state.burning = true ∧ (heaterIn .preheat (some 0)).heater.state = .preheat ∧
    (heaterIn .cooldown (some 0)).heater.state = .cooldown ∧ home.heater.state = .off := by decide

/-- BTN_A released 50 ms ago, with its classifier in a state, an account in slot 0 and these entries. -/
def releasing (press : PressState) (es : List Entry) : State :=
  { withDriver home (driver 7 .bunkA .idle) with
    sense := { home.sense with btnA := bouncing false, pressA := { state := some press, hold := 0 } }
    warn := { home.warn with entries := es } }

/-- A QUEUED and a SILENCED entry of slot 0. -/
def queuedEntry : Entry :=
  { source := .slot .s0, type := .restDone, raisedAt := 0, state := .queued, bursts := 0, due := some 0
    falling := false }
def silencedEntry : Entry :=
  { source := .slot .s0, type := .driveOver, raisedAt := 0, state := .silenced, bursts := 0, due := none
    falling := false }

theorem witness_ButtonsClassifyTheirPresses :
    (({ home with sense := { home.sense with btnA := bouncing true, pressA := { state := some .released, hold := 0 } } } :
        State).sense.input (buttonOf .a)).pin = true ∧
    ((releasing .longHeld []).sense.press .a).state = some .longHeld ∧
    (((releasing .pressed []).sense.input (buttonOf .a)).pin = false ∧
      ((releasing .pressed []).sense.input (buttonOf .a)).timer = true ∧
      ((releasing .pressed []).sense.press .a).state = some .pressed ∧ 1000 ≤ 1000 ∧ 999 < 1000) ∧
    ((releasing .pressed [silencedEntry]).boundSlot Side.a.bunk = some .s0 ∧
      (∃ e ∈ (releasing .pressed [silencedEntry]).warn.entries, e.source = .slot .s0) ∧
      (∀ e ∈ (releasing .pressed [silencedEntry]).warn.entries, e.source = .slot .s0 → e.type.ofAccount = true) ∧
      (∀ e ∈ (releasing .pressed [silencedEntry]).warn.entries, e.source = .slot .s0 → e.state = .silenced)) ∧
    (∃ e ∈ (releasing .pressed [silencedEntry, queuedEntry]).warn.entries, e.source = .slot .s0 ∧ e.state ≠ .silenced) ∧
    (∀ e ∈ (releasing .pressed []).warn.entries, e.source ≠ .slot .s0) ∧
    (∃ o ∈ [manualOrder .a 0], o.key = manualKey .a) ∧
    ((∀ o ∈ (releasing .pressed []).orders, o.key ≠ manualKey .a) ∧ (releasing .pressed []).port.mode = .normal ∧
      (releasing .pressed []).orders.length < 24 ∧ 24 ≤ fullTable.orders.length) := by decide

theorem witness_PinsAndPeriods :
    (home.rst.asserted = false ∧ false = (home.sense.input .flame).pin ∧ true ≠ (home.sense.input .flame).pin) ∧
    inReset.rst.asserted = true ∧
    ((home.sense.press .a).state = none ∧ ((releasing .pressed []).sense.press .a).state ≠ none) ∧
    ((home.timers.get .t4).running = false ∧ ((heaterIn .ignition none).timers.get .t4).running = true) ∧
    ((Timer.cold.write 30 666).write 30 545).pending = true ∧ (Timer.cold.write 30 666).pending = false := by decide

/-! #### Resets and laws -/

theorem witness_ResetAssertStopsTheBlocks :
    inReset.rst.asserted = true ∧ (heaterIn .run none).rst.asserted = false ∧
    (heaterIn .run none).heater.state.burning = true ∧ (heaterIn .cooldown (some 5)).heater.state = .cooldown ∧
    (fridgeIn .run 1 0).fridge.state.turning = true ∧
    (∃ e ∈ (twoWarnings (.sounding (.slot .s0) .driveOver 1 false true)).warn.entries,
      e.source = .slot .s0 ∧ e.type = .driveOver ∧ e.state = .presenting) := by
  decide

/-- While RESET is asserted: a SILENCED CHARGE_RESERVE, a raise and a removal held, and an account in slot 0. -/
def holdingOn (a : Account) : State :=
  { withDriver inReset a with
    warn :=
      { entries :=
          [{ source := .part, type := .chargeReserve, raisedAt := 3, state := .silenced, bursts := 1, due := none
             falling := false }]
        chime := .idle, lamp := .off, lampOn := false }
    rst :=
      { inReset.rst with
        heldWarnings := [.raise .part .heaterLockout, .remove .part .heaterLockout]
        heldWakes := [{ side := .b, level := 400, fade := 600 }] } }

theorem holdingOn_lawful : WarnLaw (holdingOn (driver 7 .bunkA .restWait)) := by
  refine ⟨by simp [holdingOn], ?_, ?_, ⟨?_, ?_⟩, fun _ => rfl, rfl⟩
  · intro e h
    obtain rfl := List.mem_singleton.mp h
    exact ⟨rfl, by decide, by simp, by simp, by simp, by simp [WarnType.isEvent], by simp, by simp, by simp⟩
  · intro h hh
    simp only [holdingOn, List.mem_cons, List.not_mem_nil, or_false] at hh
    obtain rfl | rfl := hh <;> exact rfl
  · intro e h
    obtain rfl := List.mem_singleton.mp h
    simp
  · intro a t n snd h
    exact absurd h (by simp [holdingOn])

theorem witness_ResetEndReleasesTheBlocks :
    home.rst.asserted = false ∧ inReset.rst.asserted = true ∧
    ((after .resetAssert (heaterIn .run none)).heater.state = .cooldown ∧
      (after .resetAssert (heaterIn .lockout none)).heater.state = .lockout ∧ inReset.heater.state = .off) ∧
    (after .resetAssert (heaterIn .run none)).rst.asserted = true ∧
    (WarnLaw (holdingOn (driver 7 .bunkA .restWait)) ∧
      (holdingOn (driver 7 .bunkA .restWait)).account .s0 = some (driver 7 .bunkA .restWait) ∧
      ∃ e ∈ (holdingOn (driver 7 .bunkA .restWait)).warn.entries,
        (∀ h ∈ (holdingOn (driver 7 .bunkA .restWait)).rst.heldWarnings, h ≠ .remove e.source e.type) ∧
        e.type ≠ .driveNear ∧ e.type ≠ .driveOver ∧ e.type ≠ .dailyOver ∧ e.type ≠ .fridgeWarm ∧
        e.state = .silenced) ∧
    (after .resetEnd (holdingOn (driver 7 .bunkA .restWait))).orders.map Order.key = [244] ∧
    (∀ o ∈ (after .resetAssert (heaterIn .run none)).orders, o.key ≤ 240) ∧
    (holdingOn (driver 7 .bunkA .restWait)).warn.entries.Pairwise
      (fun a b => ¬(a.source = b.source ∧ a.type = b.type)) :=
  ⟨rfl, rfl, by decide, rfl, ⟨holdingOn_lawful, rfl, by decide⟩, by decide, by decide, by decide⟩

/-- A state with a command in front. -/
def facing (c : Instr) (s : State) : State := { s with pending := [c] }

theorem witness_StepKeepsThePortAndCounterLaws :
    step (facing .qchgPulse (charged 199999 80000)) = .next (after .qchgPulse (charged 199999 80000)) ∧
    (AttnLaw (facing .qchgPulse (charged 199999 80000)) ∧ WakeLaw (facing .qchgPulse (charged 199999 80000)) ∧
      HeldLaw (facing .qchgPulse (charged 199999 80000))) ∧
    (ChargeLaw (facing .qchgPulse (charged 199999 80000)) ∧ SenseLaw (facing .qchgPulse (charged 199999 80000)) ∧
      TimerLaw (facing .qchgPulse (charged 199999 80000))) := by
  refine ⟨rfl, ⟨by unfold AttnLaw; decide, by unfold WakeLaw; decide, fun _ => ⟨rfl, rfl, rfl, rfl, rfl⟩⟩,
    by unfold ChargeLaw; decide, by unfold SenseLaw TempChannel.legal; decide, ?_⟩
  intro i
  cases i <;> decide

theorem witness_StepKeepsTheOrderLaws :
    step (facing .minuteExpiry (heaterIn .run none)) = .next (after .minuteExpiry (heaterIn .run none)) ∧
    AccountLaw (facing .minuteExpiry (heaterIn .run none)) ∧ OrderLaw (facing .minuteExpiry (heaterIn .run none)) ∧
    ActiveLaw (facing .minuteExpiry (heaterIn .run none)) ∧
    CommittedLaw (facing .minuteExpiry (heaterIn .run none)) := by
  refine ⟨rfl, ⟨?_, ?_, ?_, by decide⟩, ⟨by decide, by decide, ?_, by decide, by decide⟩,
    ⟨?_, by decide, by decide⟩, fun _ => by decide⟩
  · intro i a h
    cases i <;> cases h
  · intro i j a b h
    cases i <;> cases h
  · intro i a h
    cases i <;> cases h
  · intro o h
    obtain rfl := List.mem_singleton.mp h
    exact ⟨Or.inl ⟨by decide, by decide, rfl⟩, ⟨by decide, by decide⟩, trivial⟩
  · decide

theorem witness_StepKeepsPresentationsAndLights :
    step (facing .minuteExpiry (heaterIn .run none)) = .next (after .minuteExpiry (heaterIn .run none)) ∧
    PresentationLaw (facing .minuteExpiry (heaterIn .run none)) ∧
    step (facing (.fadeStep .readA) dimmed) = .next (after (.fadeStep .readA) dimmed) ∧
    LightLaw (facing (.fadeStep .readA) dimmed) := by
  refine ⟨rfl, ?_, rfl, dimmed_lawful⟩
  intro load
  cases load <;> decide

theorem witness_StepKeepsTheAccountLaw :
    step (facing (.adeclWheel 0) (withDriver home (driver 7 .bunkA .idle))) =
      .next (after (.adeclWheel 0) (withDriver home (driver 7 .bunkA .idle))) ∧
    AccountLaw (facing (.adeclWheel 0) (withDriver home (driver 7 .bunkA .idle))) := by
  refine ⟨rfl, ?_, ?_, ?_, by decide⟩
  · intro i a h
    obtain ⟨-, rfl⟩ := withDriver_only _ i a h
    exact ⟨by decide, by unfold Settings.inRange; decide, fun t h => absurd h (by simp [driver]), by decide, by decide,
      by decide, fun m h => absurd h (by simp [driver]), by decide, by decide, by decide, by decide, by decide⟩
  · intro i j a b hi hj hij
    exact absurd ((withDriver_only _ i a hi).1.trans (withDriver_only _ j b hj).1.symm) hij
  · intro i a h
    obtain ⟨-, rfl⟩ := withDriver_only _ i a h
    decide

theorem witness_StepKeepsTheWarningLaw :
    step (facing .countdownZero (waiting 0)) = .next (after .countdownZero (waiting 0)) ∧
    WarnLaw (facing .countdownZero (waiting 0)) :=
  ⟨rfl, waiting_lawful 0 (by decide)⟩

theorem witness_StepKeepsTheHeaterLaw :
    step (facing .provingExpiry (heaterIn .proving (some 0))) = .next (after .provingExpiry (heaterIn .proving (some 0))) ∧
    HeaterLaw (facing .provingExpiry (heaterIn .proving (some 0))) := by
  refine ⟨rfl, ?_⟩
  unfold HeaterLaw
  repeat' apply And.intro
  all_goals decide

theorem witness_StepKeepsTheFridgeLaw :
    step (facing (.tachWindowEnd 0) (fridgeIn .start 1 180)) = .next (after (.tachWindowEnd 0) (fridgeIn .start 1 180)) ∧
    FridgeLaw (facing (.tachWindowEnd 0) (fridgeIn .start 1 180)) :=
  ⟨rfl, fridgeIn_start_lawful⟩

end Sys2Proof.Tests
end

section
/-! PROOF. The allocation pass: the ranking of its candidates (R44), the walk (R45, R46, Table 15), the states and the
forecasts it settles (R37 to R42, R47), and the two requests that set what it works from (R49, R50). -/
namespace Sys2Proof.Machine

/-! ### The ranking of R44 -/

/-- The model's comparison of rankings is the lexicographic order of the library. -/
theorem lexLe_iff_le (as bs : List Nat) : lexLe as bs = true ↔ as ≤ bs := by
  rw [← not_lt]
  induction as generalizing bs with
  | nil => simp [lexLe]
  | cons a as ih =>
    cases bs with
    | nil => simp [lexLe]
    | cons b bs =>
      simp only [lexLe, List.cons_lt_cons_iff]
      grind

@[simp] theorem lexLe_cons_cons (a b : Nat) (as bs : List Nat) :
    lexLe (a :: as) (b :: bs) = true ↔ a < b ∨ a = b ∧ lexLe as bs = true := by
  rw [lexLe]
  grind

@[simp] theorem lexLe_nil (bs : List Nat) : lexLe [] bs = true := rfl

/-- The first order stands no later than the second by the tests of R44. -/
abbrev walksBefore (a b : Order) : Prop := lexLe (walkKey a) (walkKey b) = true

theorem insertWalk_eq_orderedInsert (o : Order) (os : List Order) :
    insertWalk o os = os.orderedInsert walksBefore o := by
  induction os with
  | nil => rfl
  | cons p ps ih => rw [insertWalk, List.orderedInsert_cons, ih]

/-- The walk order is the library's insertion sort by the ranking of R44. -/
theorem walkOrder_eq_insertionSort (os : List Order) :
    walkOrder os = os.insertionSort walksBefore := by
  induction os with
  | nil => rfl
  | cons o os ih => rw [walkOrder, ih, insertWalk_eq_orderedInsert, List.insertionSort_cons]

theorem walkOrder_perm (os : List Order) : (walkOrder os).Perm os :=
  walkOrder_eq_insertionSort os ▸ List.perm_insertionSort _ os

theorem walkOrder_pairwise (os : List Order) : (walkOrder os).Pairwise walksBefore := by
  have : Std.Total walksBefore := ⟨fun a b => by simpa only [lexLe_iff_le] using le_total (walkKey a) (walkKey b)⟩
  have : IsTrans Order walksBefore := ⟨fun a b c => by simpa only [lexLe_iff_le] using le_trans⟩
  exact walkOrder_eq_insertionSort os ▸ List.pairwise_insertionSort _ os

/-- The tests of R44, spelt out for two orders: the class, then the incumbent, then the earlier resolved start, then the
lower key. -/
def Order.ranksBefore (a b : Order) : Prop :=
  a.cls.rank ≤ b.cls.rank ∧
  (a.cls = b.cls →
    (b.state = .active → a.state = .active) ∧
    ((a.state = .active ↔ b.state = .active) →
      a.resolvedStart.getD 0 ≤ b.resolvedStart.getD 0 ∧
      (a.resolvedStart.getD 0 = b.resolvedStart.getD 0 → a.key < b.key)))

theorem walksBefore.ranksBefore {a b : Order} (h : walksBefore a b) (hk : a.key ≠ b.key) : a.ranksBefore b := by
  simp only [walksBefore, walkKey, lexLe_cons_cons, lexLe_nil, and_true] at h
  refine ⟨by omega, fun hc => ?_⟩
  simp only [hc, Nat.lt_irrefl, false_or, true_and] at h
  by_cases ha : a.state = .active <;> by_cases hb : b.state = .active <;>
    simp [Order.incumbent, ha, hb] at h ⊢ <;> omega

/-! ### The walk of R45 -/

theorem Reading.usable_eq (r : Reading) : r.usable = r.count - r.reserve := by
  unfold Reading.usable
  split <;> omega

/-- Table 15 as one condition: WORKSHOP admits; a synced count of 0 admits no other; ESSENTIAL is admitted; and the rest
only where the count is synced and the forecast fits, an incumbent with the keep margin (R46). -/
theorem Reading.admits_iff (r : Reading) (sum : Nat) (o : Order) :
    r.admits sum o = true ↔
      r.mode = .workshop ∨
      (¬(r.synced = true ∧ r.count = 0) ∧
        (o.cls = .essential ∨
          (r.synced = true ∧
            sum + r.forecast o ≤ (r.count - r.reserve) + (if o.state = .active then r.keepMargin else 0)))) := by
  rw [← r.usable_eq, Reading.admits]
  by_cases hw : r.mode = .workshop
  · simp [hw]
  by_cases hz : r.synced = true ∧ r.count = 0
  · simp [hw, hz]
  by_cases he : o.cls = .essential
  · simp [hw, hz, he]
  cases hs : r.synced with
  | false => simp [hw, he]
  | true =>
    have hq : r.count ≠ 0 := fun h => hz ⟨hs, h⟩
    by_cases ha : o.state = .active <;> simp [hw, he, hq, ha, Order.incumbent]

/-- The sum of the forecasts of those of a list whose keys have been admitted. -/
def Reading.admittedSum (r : Reading) (admitted : List Nat) (os : List Order) : Nat :=
  ((os.filter (fun o => decide (o.key ∈ admitted))).map r.forecast).sum

/-- Only the keys of the list matter to its admitted sum. -/
theorem Reading.admittedSum_congr (r : Reading) {ks ls : List Nat} {os : List Order}
    (h : ∀ o ∈ os, o.key ∈ ks ↔ o.key ∈ ls) : r.admittedSum ks os = r.admittedSum ls os := by
  unfold Reading.admittedSum
  rw [List.filter_congr fun o ho => decide_eq_decide.mpr (h o ho)]

/-- The walk admits none but its candidates. -/
theorem Reading.walk_admitted_subset (r : Reading) (sum : Nat) (os : List Order) :
    ∀ k ∈ (r.walk sum os).2, k ∈ os.map Order.key := by
  induction os generalizing sum with
  | nil => simp [Reading.walk]
  | cons o os ih =>
    rw [Reading.walk]
    split
    · simp only [List.mem_cons, List.map_cons]
      exact fun k hk => hk.imp_right (ih _ k)
    · exact fun k hk => List.mem_cons_of_mem _ (ih _ k hk)

/-- The walk goes on through a second list from the sum that the first has left. -/
theorem Reading.walk_append (r : Reading) (sum : Nat) (xs ys : List Order) :
    r.walk sum (xs ++ ys) =
      ((r.walk (r.walk sum xs).1 ys).1, (r.walk sum xs).2 ++ (r.walk (r.walk sum xs).1 ys).2) := by
  induction xs generalizing sum with
  | nil => rfl
  | cons x xs ih =>
    simp only [List.cons_append, Reading.walk]
    split <;> simp [ih]

/-- R45: the walk adds up the forecasts of what it admits. -/
theorem Reading.walk_sum (r : Reading) (sum : Nat) (os : List Order) (hn : (os.map Order.key).Nodup) :
    (r.walk sum os).1 = sum + r.admittedSum (r.walk sum os).2 os := by
  induction os generalizing sum with
  | nil => rfl
  | cons o os ih =>
    obtain ⟨ho, hos⟩ := List.nodup_cons.mp hn
    rw [Reading.walk]
    split
    · have hc : r.admittedSum (o.key :: (r.walk (sum + r.forecast o) os).2) os =
          r.admittedSum (r.walk (sum + r.forecast o) os).2 os := by
        refine r.admittedSum_congr fun p hp => ?_
        have hne : p.key ≠ o.key := fun h => ho (h ▸ List.mem_map_of_mem hp)
        simp [hne]
      rw [ih _ hos, ← hc]
      simp [Reading.admittedSum, Nat.add_assoc]
    · have hno : o.key ∉ (r.walk sum os).2 := fun h => ho (r.walk_admitted_subset _ _ _ h)
      rw [ih _ hos]
      simp [Reading.admittedSum, hno]

/-- R45: a candidate is admitted by Table 15 against the sum of the forecasts admitted before it. -/
theorem Reading.walk_admits (r : Reading) (before : List Order) (c : Order) (after : List Order)
    (hn : ((before ++ c :: after).map Order.key).Nodup) :
    c.key ∈ (r.walk 0 (before ++ c :: after)).2 ↔
      r.admits (r.admittedSum (r.walk 0 (before ++ c :: after)).2 before) c = true := by
  rw [List.map_append, List.nodup_append'] at hn
  obtain ⟨hb, htail, hd⟩ := hn
  obtain ⟨hc, -⟩ := List.nodup_cons.mp htail
  have hcb : c.key ∉ (r.walk 0 before).2 := fun h =>
    hd (r.walk_admitted_subset _ _ _ h) (List.mem_cons_self ..)
  have hsum : r.admittedSum (r.walk 0 (before ++ c :: after)).2 before = (r.walk 0 before).1 := by
    rw [r.walk_sum 0 before hb, Nat.zero_add]
    refine r.admittedSum_congr fun o ho => ?_
    have hlater : o.key ∉ (r.walk (r.walk 0 before).1 (c :: after)).2 := fun h =>
      hd (List.mem_map_of_mem ho) (r.walk_admitted_subset _ _ _ h)
    simp [r.walk_append, hlater]
  have hlast : ∀ sum, c.key ∉ (r.walk sum after).2 := fun sum h => hc (r.walk_admitted_subset _ _ _ h)
  rw [hsum, r.walk_append]
  simp only [List.mem_append, hcb, false_or, Reading.walk]
  split <;> simp_all

/-! ### The candidates of a pass -/

theorem firstBy_mem {key : Order → List Nat} {os : List Order} {o : Order} (h : firstBy key os = some o) :
    o ∈ os := by
  induction os generalizing o with
  | nil => cases h
  | cons p ps ih =>
    rw [firstBy] at h
    split at h
    · simp_all
    · next q hq =>
      split at h <;> cases h
      · exact List.mem_cons_self ..
      · exact List.mem_cons_of_mem _ (ih hq)

/-- R34, R35: a candidate is an eligible order of its load, which is available. -/
theorem Reading.candidate_spec {r : Reading} {os : List Order} {load : Load} {c : Order}
    (h : r.candidate os load = some c) :
    c ∈ os ∧ c.load = load ∧ eligible r.now c = true ∧ r.unavailable c.load = false := by
  rw [Reading.candidate] at h
  split at h
  · cases h
  · next hu =>
    obtain ⟨hm, hp⟩ := List.mem_filter.mp (firstBy_mem h)
    obtain ⟨hl, he⟩ := Bool.and_eq_true_iff.mp hp
    have hl := of_decide_eq_true hl
    exact ⟨hm, hl, he, by simpa [hl] using hu⟩

theorem mem_allLoads (load : Load) : load ∈ allLoads := by
  cases load <;> decide

theorem Reading.mem_candidates (r : Reading) (os : List Order) (c : Order) :
    c ∈ r.candidates os ↔ ∃ load, r.candidate os load = some c := by
  rw [Reading.candidates, (walkOrder_perm _).mem_iff, List.mem_filterMap]
  simp [mem_allLoads]

theorem Reading.candidates_length (r : Reading) (os : List Order) : (r.candidates os).length ≤ 6 :=
  (walkOrder_perm _).length_eq.trans_le (List.length_filterMap_le _ allLoads)

/-- Candidates of different loads are different orders, so in a table without a key twice they have different keys. -/
theorem Reading.candidates_keys (r : Reading) (os : List Order) (hn : (os.map Order.key).Nodup) :
    ((r.candidates os).map Order.key).Nodup := by
  have hperm := walkOrder_perm (allLoads.filterMap (r.candidate os))
  have hcs : (r.candidates os).Nodup := by
    refine hperm.nodup_iff.mpr (List.Nodup.filterMap (fun a b c ha hb => ?_) (by decide))
    exact (Reading.candidate_spec ha).2.1.symm.trans (Reading.candidate_spec hb).2.1
  refine List.Nodup.map_on (fun a ha b hb => ?_) hcs
  obtain ⟨_, ha⟩ := (r.mem_candidates os a).mp ha
  obtain ⟨_, hb⟩ := (r.mem_candidates os b).mp hb
  exact List.inj_on_of_nodup_map hn (Reading.candidate_spec ha).1 (Reading.candidate_spec hb).1

/-- R44: the candidates stand in the order of its four tests. -/
theorem Reading.candidates_ranked (r : Reading) (os : List Order) (hn : (os.map Order.key).Nodup) :
    (r.candidates os).Pairwise Order.ranksBefore :=
  (walkOrder_pairwise _).imp₂ (fun _ _ => walksBefore.ranksBefore) (List.pairwise_map.mp (r.candidates_keys os hn))

/-- Stages 1 and 2 keep the keys apart. -/
theorem Reading.resolved_keys (r : Reading) {os : List Order} (hn : (os.map Order.key).Nodup) :
    ((r.resolved os).map Order.key).Nodup := by
  have hk : (r.resolved os).map Order.key = (os.filter (fun o => !r.expired o)).map Order.key := by
    rw [Reading.resolved, List.map_map]
    rfl
  exact hk ▸ hn.sublist (List.filter_sublist.map _)

/-! ### What a pass settles (R42, R47, Table 9) -/

theorem Reading.settleState_active (r : Reading) (cs ks : List Nat) (o : Order) :
    r.settleState cs ks o = .active ↔
      (eligible r.now o = true ∧ r.unavailable o.load = false) ∧ o.key ∈ cs ∧ o.key ∈ ks := by
  unfold Reading.settleState
  grind

theorem Reading.settleState_waiting (r : Reading) (cs ks : List Nat) (o : Order) :
    r.settleState cs ks o = .waiting ↔
      (eligible r.now o = true ∧ r.unavailable o.load = false) ∧ o.key ∈ cs ∧ o.key ∉ ks := by
  unfold Reading.settleState
  grind

/-- An order with the key of a candidate is that candidate. -/
theorem Reading.eq_of_candidate_key (r : Reading) {os : List Order} (hn : (os.map Order.key).Nodup) {o c : Order}
    (ho : o ∈ os) (hc : c ∈ r.candidates os) (hk : c.key = o.key) : c = o := by
  obtain ⟨load, hc⟩ := (r.mem_candidates os c).mp hc
  exact List.inj_on_of_nodup_map hn (Reading.candidate_spec hc).1 ho hk

theorem Reading.eligible_of_candidate_key (r : Reading) {os : List Order} (hn : (os.map Order.key).Nodup) {o : Order}
    (ho : o ∈ os) (hk : o.key ∈ (r.candidates os).map Order.key) :
    eligible r.now o = true ∧ r.unavailable o.load = false := by
  obtain ⟨c, hc, hk⟩ := List.mem_map.mp hk
  obtain rfl := r.eq_of_candidate_key hn ho hc hk
  obtain ⟨load, hc⟩ := (r.mem_candidates os c).mp hc
  exact (Reading.candidate_spec hc).2.2

/-- R42, R47: what a pass makes of one order of its resolved table, from its candidates and the keys its walk admits. -/
theorem Reading.settleOrder_spec (r : Reading) (os : List Order) (hn : (os.map Order.key).Nodup) (cs : List Order)
    (hcs : cs = r.candidates os) (p : Order) (hp : p ∈ os) :
    ∀ o, o = r.settleOrder (cs.map Order.key) (r.walk 0 cs).2 p →
      (o.state = .active ↔ o.key ∈ (r.walk 0 cs).2) ∧
      (o.state = .waiting ↔ (∃ c ∈ cs, c.key = o.key) ∧ o.key ∉ (r.walk 0 cs).2) ∧
      (∀ c ∈ cs, c.key = o.key → o.forecast = r.forecast c) ∧
      ((∀ c ∈ cs, c.key ≠ o.key) → o.forecast = 0) := by
  rintro _ rfl
  subst hcs
  have hsub := r.walk_admitted_subset 0 (r.candidates os) p.key
  have helig := r.eligible_of_candidate_key hn hp
  refine ⟨(r.settleState_active _ _ p).trans ⟨fun h => h.2.2, fun h => ⟨helig (hsub h), hsub h, h⟩⟩,
    (r.settleState_waiting _ _ p).trans ⟨fun h => ⟨List.mem_map.mp h.2.1, h.2.2⟩, fun h => ?_⟩,
    fun c hc hk => ?_, fun hno => ?_⟩
  · have hk := List.mem_map.mpr h.1
    exact ⟨helig hk, hk, h.2⟩
  · obtain rfl := r.eq_of_candidate_key hn hp hc hk
    exact if_pos (List.mem_map_of_mem hc)
  · exact if_neg fun h => (List.mem_map.mp h).elim fun c hc => hno c hc.1 hc.2

/-- The orders a pass leaves are those of the resolved table, settled. -/
theorem Reading.mem_run_orders {r : Reading} {os : List Order} {o : Order} (h : o ∈ (r.run os).orders) :
    ∃ p ∈ r.resolved os,
      o = r.settleOrder ((r.candidates (r.resolved os)).map Order.key)
        (r.walk 0 (r.candidates (r.resolved os))).2 p := by
  obtain ⟨p, hp, rfl⟩ := List.mem_map.mp h
  exact ⟨p, hp, rfl⟩

/-! ### The forecasts (R37, R39 to R41) -/

theorem Reading.uplift_eq (r : Reading) :
    r.uplift = if r.outsideFault then 10 else if r.outside < 0 then min ((-r.outside).toNat / 50) 10 else 0 := by
  unfold Reading.uplift
  grind

theorem Reading.forecast_heater (r : Reading) (o : Order) (h : o.load = .heater) :
    r.forecast o =
      (r.draws.heaterDraw * (100 + 8 * r.uplift) / 100 * r.remaining o + 59) / 60 + r.startCharge := by
  rw [Reading.forecast, h]
  rfl

theorem Reading.forecast_fridge (r : Reading) (o : Order) (h : o.load = .fridge) :
    r.forecast o = (r.draws.fridgeDraw * r.draws.fridgeDuty / 100 * r.remaining o + 59) / 60 := by
  rw [Reading.forecast, h]
  rfl

/-- R41: the forecast of a light order, from the full draw of its channel and its level. -/
theorem Reading.forecast_light (r : Reading) (o : Order) (i : LightId) (h : o.load = i.load) {level fade : Nat}
    (ht : o.target = .light level fade) :
    r.forecast o = (r.draws.full i.load * level / 1000 * r.remaining o + 59) / 60 := by
  rw [Reading.forecast, h, Order.level, ht]
  cases i <;> rfl

/-- Settles O18: the walk by induction over its candidates, and each order of the pass by its key among theirs. -/
theorem walkFollowsTable15 : Obligations.WalkFollowsTable15 := by
  unfold Obligations.WalkFollowsTable15
  refine ⟨fun r cs hn => ⟨?_, ?_⟩, fun r os hn => ?_, ?_⟩
  · rintro before c after rfl
    exact (r.walk_admits before c after hn).trans (r.admits_iff _ c)
  · exact (r.walk_sum 0 cs hn).trans (Nat.zero_add _)
  · have hl := r.resolved_keys hn
    refine ⟨_, rfl, r.candidates_length _, r.candidates_keys _ hl, r.mem_candidates _, r.candidates_ranked _ hl, rfl,
      fun o ho => ?_⟩
    obtain ⟨p, hp, ho⟩ := Reading.mem_run_orders ho
    exact r.settleOrder_spec _ hl _ rfl p hp o ho
  · intro r o m hm
    have hm : m = r.remaining o := hm
    subst hm
    refine ⟨fun h k hk => ?_, r.forecast_fridge o,
      fun level fade ht => ⟨fun h => ?_, fun h => ?_, fun h => ?_, fun h => ?_⟩⟩
    · rw [r.forecast_heater o h, r.uplift_eq, ← hk]
      rfl
    · exact r.forecast_light o .readA h ht
    · exact r.forecast_light o .readB h ht
    · exact r.forecast_light o .cabLight h ht
    · exact r.forecast_light o .nightLight h ht

/-! ### Requests that end in a pass -/

/-- A frame keeps the port's settings and its flags. -/
theorem State.inFrame_portKept (s : State) :
    s.port.settingsKept s.inFrame.port ∧ s.inFrame.port.flags = s.port.flags := by
  rw [State.inFrame_port]
  split <;> simp [Port.settingsKept]

/-- The pass that a request starts does to the state before the frame what any pass does: the frame's own part of the
port is nothing that a pass reads. -/
theorem State.pass_in_frame (s : State) (r : Reply) (h : s.rst.asserted = false) :
    s.afterPass (s.inFrame.pass.closeFrame r) := by
  obtain ⟨hport, hflags⟩ := s.inFrame_portKept
  have hpass := State.pass_spec s.inFrame (by simp [h])
  have hread : s.inFrame.reading = s.reading := by simp [State.reading, State.draws]
  rw [State.afterPass, hread] at hpass
  generalize s.inFrame.pass = t at hpass ⊢
  rw [State.inFrame_eq] at hpass
  generalize s.inFrame.port = p at *
  obtain ⟨ho, ha, hn, hp, he, hw, hh, hf, hl, hm, hr, hs, hk, h7⟩ := hpass
  refine ⟨ho, ha, hflags ▸ hn, hp, he, hw, hh, hf, hl, hm, hr, hs, ?_, h7⟩
  obtain ⟨k1, k2, k3, k4, k5, k6, k7, k8⟩ := hk
  obtain ⟨q1, q2, q3, q4, q5, q6, q7, -⟩ := hport
  exact ⟨k1.trans q1, k2.trans q2, k3.trans q3, k4.trans q4, k5.trans q5, k6.trans q6, k7.trans q7, hflags ▸ k8⟩

/-- A request that is served, writes what makes `work` of the state, and starts a pass: its reply and what it leaves. -/
theorem State.takeFrame_pass {s work : State} {f : State → State × Reply} {r : Reply} (h : s.serves)
    (hw : work.rst.asserted = false) (hf : f s.inFrame = (work.inFrame.pass, r)) :
    (s.takeFrame f).answers r ∧ work.afterPass (s.takeFrame f) := by
  rw [State.takeFrame_served s f h, hf]
  exact ⟨State.closeFrame_answers _ r, work.pass_in_frame r hw⟩

/-- H and Mk written (R49). -/
def State.setBudget (s : State) (horizon keepMargin : Nat) : State :=
  { s with alloc := { s.alloc with horizon := horizon, keepMargin := keepMargin } }

theorem State.inFrame_setBudget (s : State) (horizon keepMargin : Nat) :
    s.inFrame.setBudget horizon keepMargin = (s.setBudget horizon keepMargin).inFrame := by
  unfold State.inFrame State.setBudget
  split <;> rfl

theorem State.inFrame_setDraws (s : State) (d : Draws) : s.inFrame.setDraws d = (s.setDraws d).inFrame := by
  unfold State.inFrame State.setDraws
  split <;> rfl

/-! ### BSET and PLAN -/

theorem clampNat_zero (hi x : Nat) : clampNat 0 hi x = min x hi := by
  simp only [clampNat, Nat.not_lt_zero, if_false]
  split <;> omega

theorem reqBset_eq (horizon keepMargin : Nat) (s : State) :
    reqBset horizon keepMargin s =
      ((s.setBudget (clampNat 30 1440 horizon) (clampNat 0 20000 keepMargin)).pass,
        doneIf (decide (clampNat 30 1440 horizon ≠ horizon) || decide (clampNat 0 20000 keepMargin ≠ keepMargin))
          (.budget (clampNat 30 1440 horizon) (clampNat 0 20000 keepMargin))) := rfl

/-- R49: BSET, taken in a frame, with H and Mk as clamped. -/
theorem reqBset_inFrame (horizon keepMargin : Nat) (s : State) (h k : Nat) (hh : h = clampNat 30 1440 horizon)
    (hk : k = clampNat 0 20000 keepMargin) :
    reqBset horizon keepMargin s.inFrame =
      ((s.setBudget h k).inFrame.pass, doneIf (decide (h ≠ horizon ∨ k ≠ keepMargin)) (.budget h k)) := by
  rw [reqBset_eq, State.inFrame_setBudget, ← hh, ← hk, Bool.decide_or]

/-- R50: the planning duty as PLAN stores it. -/
theorem planArg_store_fridgeDuty (a : PlanArg) : (PlanArg.store a).fridgeDuty = min a.fridgeDuty 100 :=
  clampNat_zero 100 a.fridgeDuty

/-- R50: PLAN, taken in a frame. -/
theorem reqPlan_inFrame (a : PlanArg) (s : State) :
    reqPlan a s.inFrame =
      ((s.setDraws (PlanArg.store a)).inFrame.pass,
        doneIf (decide (100 < a.fridgeDuty)) (.draws (PlanArg.store a))) := by
  have hclamped : ((PlanArg.store a).fridgeDuty ≠ a.fridgeDuty) ↔ 100 < a.fridgeDuty := by
    rw [(planArg_store_fridgeDuty a)]
    omega
  rw [reqPlan, State.inFrame_setDraws, decide_eq_decide.mpr hclamped]

/-- Settles O20: each request writes its clamped figures within its frame and starts the pass. -/
theorem bsetAndPlanSetTheBudget : Obligations.BsetAndPlanSetTheBudget := by
  unfold Obligations.BsetAndPlanSetTheBudget
  refine ⟨fun horizon keepMargin s hs h hh k hk => ⟨_, rfl, ?_⟩, fun a s hs p hp => ⟨_, rfl, ?_⟩⟩
  · exact State.takeFrame_pass (work := s.setBudget h k) hs hs.1 (reqBset_inFrame horizon keepMargin s h k hh hk)
  · have hplan := State.takeFrame_pass (work := s.setDraws (PlanArg.store a)) hs hs.1 (reqPlan_inFrame a s)
    obtain rfl := hp.trans (planArg_store_fridgeDuty a).symm
    exact hplan

end Sys2Proof.Machine
end

section
/-! PROOF. What a command is: a request, which works within its frame, or an event. The queue, the refusals and the
requests that only report. -/
namespace Sys2Proof.Machine

/-! ### Requests and events -/

/-- What each request does to the state within its frame, and its reply. -/
def requestWork : Instr → State → State × Reply
  | .nop => reqNop
  | .stat => reqStat
  | .nfetch ack => reqNfetch ack
  | .nmask enables => reqNmask enables
  | .sleep mask => reqSleep mask
  | .init mode selfTest => reqInit mode selfTest
  | .shut => reqShut
  | .oplace arg => reqOplace arg
  | .oamend arg => reqOamend arg
  | .olook key => reqOlook key
  | .oretire key => reqOretire key
  | .olist => reqOlist
  | .tset minute => reqTset minute
  | .tlook => reqTlook
  | .bset horizon keepMargin => reqBset horizon keepMargin
  | .blook => reqBlook
  | .plan arg => reqPlan arg
  | .cset capacity reserve weight => reqCset capacity reserve weight
  | .csync charge => reqCsync charge
  | .clook => reqClook
  | .aopen slot tag bunk => reqAopen slot tag bunk
  | .aset slot bunk arg => reqAset slot bunk arg
  | .alook slot => reqAlook slot
  | .adeclRest slot => reqAdeclRest slot
  | .adeclEnd slot => reqAdeclEnd slot
  | .adeclWheel slot => reqAdeclWheel slot
  | .adeclRelease slot => reqAdeclRelease slot
  | .aretire slot => reqAretire slot
  | .xmode on => reqXmode on
  | .wlist => reqWlist
  | .wack source type => reqWack source type
  | .hset arg => reqHset arg
  | .hlook => reqHlook
  | .hclear clearFuel => reqHclear clearFuel
  | .fset seconds => reqFset seconds
  | .flook => reqFlook
  | .fclear => reqFclear
  | .lset arg => reqLset arg
  | .llook => reqLlook
  | .slook => reqSlook
  | .sset seconds => reqSset seconds
  | .unknownRequest (.frame bytes) => reqFrame bytes
  | _ => fun s => s.refuse .badField

/-- R191: every request is taken in a frame. -/
theorem exec_request {c : Instr} (s : State) (h : c.isRequest = true) :
    exec c s = .next (s.takeFrame (requestWork c)) := by
  cases c with
  | unknownRequest arg => cases arg <;> rfl
  | _ => first | rfl | cases h

/-- What an event that RESET stops does out of reset. -/
def guardedEvent : Instr → Option (State → State)
  | .frameStart => some State.inFrame
  | .resetAssert => some State.assertReset
  | .toneEnd => some State.toneEnd
  | .endOfBurst => some State.endOfBurst
  | .wlampFlashPhase => some (fun s =>
      if s.warn.lamp = .flashing then { s with warn := { s.warn with lampOn := !s.warn.lampOn } } else s)
  | .selftestEnd failed => some (fun s => s.selftestEnd failed)
  | .wakeWaitExpiry => some (fun s =>
      s.withPort (fun p => if p.wait then { p with wait := false, unanswered := true } else p))
  | .preheatExpiry => some State.preheatExpiry
  | .ignitionLimitExpiry => some State.ignitionExpiry
  | .provingExpiry => some State.provingExpiry
  | .cooldownExpiry => some State.cooldownExpiry
  | .heaterRunClearsCount => some State.runClearsCount
  | .satisfiedStop => some State.satisfiedStop
  | .minOffEnd => some State.minOffEnd
  | .fixedCycleOnEnd => some State.fixedCycleOnEnd
  | .fixedCycleOffEnd => some State.fixedCycleOffEnd
  | .fridgeRunClearsStalls => some State.runClearsStalls
  | .warmRunComplete => some State.warmRunComplete
  | .fadeStep i => some (fun s => s.fadeStep i)
  | .vspdWindowEnd edges => some (fun s => s.vspdWindow (heldCount edges))
  | .tempWindowEnd i edges => some (fun s => s.tempWindow i (heldCount edges))
  | .tachWindowEnd edges => some (fun s => s.tachWindow (heldCount edges))
  | .debounceExpiry i held => some (fun s => s.debounced i held)
  | .longPress side => some (fun s =>
      if (s.sense.press side).state = some .pressed then
        ({ s with sense := s.sense.setPress side { state := some .longHeld, hold := 2000 } }).longPress side
      else s)
  | .pressClassifierWaitEnd => some (fun s => { s with sense := (s.sense.endWait .a).endWait .b })
  | _ => none

/-- R204: an event that RESET stops does nothing while RESET is asserted. -/
theorem exec_guarded {c : Instr} {event : State → State} (s : State) (h : guardedEvent c = some event) :
    exec c s = .next (s.outOfReset event) := by
  cases c with
  | unknownRequest arg => cases arg <;> cases h
  | _ => first | (cases h; rfl) | cases h

theorem State.outOfReset_asserted {s : State} (event : State → State) (h : s.rst.asserted = true) :
    s.outOfReset event = s := by
  simp [State.outOfReset, h]

theorem State.outOfReset_released {s : State} (event : State → State) (h : s.rst.asserted = false) :
    s.outOfReset event = event s := by
  simp [State.outOfReset, h]

theorem exec_released {c : Instr} {event : State → State} {s : State} (h : guardedEvent c = some event)
    (hr : s.rst.asserted = false) : exec c s = .next (event s) := by
  rw [exec_guarded s h, State.outOfReset_released event hr]

/-- The events that go on while RESET is asserted. -/
def freeEvent : Instr → Option (State → State)
  | .coldStart => some (fun s => { State.reset with sense := s.sense.powerUp, pending := s.pending })
  | .resetEnd => some (fun s => if s.rst.asserted then s.endReset else s)
  | .timebaseSecond whole => some (fun s =>
      if whole then (s.secondHeldOut.outOfReset State.secondLoads).takeDue (decide (59 ≤ s.clock.prescaler))
      else (s.secondHeldOut.outOfReset State.secondLoads).testDrivers)
  | .minuteExpiry => some State.minuteExpiry
  | .restDone i => some (fun s => s.takeRestDone i)
  | .breakComplete i => some (fun s => s.testBreak i)
  | .countdownZero => some State.countdownZero
  | .wakePulseEnd => some (fun s => s.withPort (fun p => { p with wake := false }))
  | .wakeSpacingExpiry => some (fun s => s.withPort (fun p => { p with spacing := false }))
  | .endOfPeriod i => some (fun s => s.periodEnd i)
  | .qchgPulse => some (fun s =>
      ({ s with sense := { s.sense with chgTotal := s.sense.chgTotal + 1 } }).takePulse
        (s.charge.charge.addTally s.charge.weight))
  | .qdisPulse => some (fun s =>
      ({ s with sense := { s.sense with disTotal := s.sense.disTotal + 1 } }).takePulse
        (s.charge.discharge.addTally (-(s.charge.weight : Int))))
  | .pinChange i level => some (fun s =>
      if s.rst.asserted then { s with sense := s.sense.setInput i { s.sense.input i with pin := level } }
      else { s with sense := s.sense.setInput i ((s.sense.input i).move level) })
  | _ => none

theorem exec_free {c : Instr} {event : State → State} (s : State) (h : freeEvent c = some event) :
    exec c s = .next (event s) := by
  cases c with
  | unknownRequest arg => cases arg <;> cases h
  | _ => first | (cases h; rfl) | cases h

/-- A command is a request, an event that RESET stops, or one that goes on. -/
theorem command_kinds (c : Instr) :
    c.isRequest = true ∨ (∃ event, guardedEvent c = some event) ∨ ∃ event, freeEvent c = some event := by
  cases c with
  | unknownRequest arg => exact .inl rfl
  | _ => first | exact .inl rfl | exact .inr (.inl ⟨_, rfl⟩) | exact .inr (.inr ⟨_, rfl⟩)

/-- What a command can do: work within a frame, or an event. -/
theorem exec_cases {c : Instr} {s t : State} (h : exec c s = .next t) :
    (c.isRequest = true ∧ t = s.takeFrame (requestWork c)) ∨
    (∃ event, guardedEvent c = some event ∧ t = s.outOfReset event) ∨
    ∃ event, freeEvent c = some event ∧ t = event s := by
  obtain hc | ⟨event, he⟩ | ⟨event, he⟩ := command_kinds c
  · rw [exec_request s hc] at h
    exact .inl ⟨hc, (Host.Outcome.next.inj h).symm⟩
  · rw [exec_guarded s he] at h
    exact .inr (.inl ⟨event, he, (Host.Outcome.next.inj h).symm⟩)
  · rw [exec_free s he] at h
    exact .inr (.inr ⟨event, he, (Host.Outcome.next.inj h).symm⟩)

/-- R193: every command answers a next state. -/
theorem exec_next (c : Instr) (s : State) : ∃ t, exec c s = .next t := by
  obtain hc | ⟨event, he⟩ | ⟨event, he⟩ := command_kinds c
  · exact ⟨_, exec_request s hc⟩
  · exact ⟨_, exec_guarded s he⟩
  · exact ⟨_, exec_free s he⟩

/-- Settles O1: `step` is defined so. -/
theorem stepTakesFrontCommand : Obligations.StepTakesFrontCommand :=
  ⟨fun _ _ _ => rfl, fun s hs => by simp only [step, hs]⟩

/-! ### Refusals -/

/-- A request that answers neither DONE nor DONE_CLAMPED leaves the state as it is. -/
def refusesWhole (s : State) (p : State × Reply) : Prop :=
  p.2.outcome = .done ∨ p.2.outcome = .doneClamped ∨ p.1 = s

@[simp] theorem refusesWhole_refuse (s : State) (o : OutcomeCode) : refusesWhole s (s.refuse o) := .inr (.inr rfl)

@[simp] theorem refusesWhole_done (s t : State) (b : ReplyBody) : refusesWhole s (t, done b) := .inl rfl

@[simp] theorem refusesWhole_doneIf (s t : State) (x : Bool) (b : ReplyBody) : refusesWhole s (t, doneIf x b) := by
  cases x
  · exact .inl rfl
  · exact .inr (.inl rfl)

theorem refusesWhole_withAccount {s : State} {n : Nat} {f : Slot → Account → State × Reply}
    (h : ∀ i a, refusesWhole s (f i a)) : refusesWhole s (s.withAccount n f) := by
  unfold State.withAccount
  split
  · exact refusesWhole_refuse s _
  · split
    · exact refusesWhole_refuse s _
    · exact h _ _

theorem refusesWhole_withOrder {s : State} {k : Nat} {f : Order → State × Reply}
    (h : ∀ o, refusesWhole s (f o)) : refusesWhole s (s.withOrder k f) := by
  unfold State.withOrder
  repeat' split
  all_goals first | exact refusesWhole_refuse s _ | exact h _

/-- The work of a frame that spells a request is that request's. -/
theorem reqFrame_spelled {bytes : List Byte} {i : Instr} (h : frameRequest bytes = some i) :
    reqFrame bytes = spelledRequest i := by
  simp [reqFrame, h]

/-- The outcome of a frame that fails a check of R192. -/
def failureOutcome : FrameFailure → OutcomeCode
  | .badLength => .badLength
  | .unknown => .unknown

theorem reqFrame_failed {bytes : List Byte} (h : frameRequest bytes = none) :
    reqFrame bytes = fun s => s.refuse (failureOutcome (frameFailure bytes)) := by
  simp only [reqFrame, h]
  cases frameFailure bytes <;> rfl

theorem spelledRequest_eq (i : Instr) :
    (spelledRequest i = requestWork i ∧ ∀ bytes, i ≠ .unknownRequest (.frame bytes)) ∨
    spelledRequest i = fun s => s.refuse .badLength := by
  cases i with
  | _ => first | exact .inl ⟨rfl, nofun⟩ | exact .inr rfl

theorem reqInit_refusesWhole (a : Option InitMode) (b : Option Bool) (s : State) : refusesWhole s (reqInit a b s) := by
  simp only [reqInit]
  repeat' split
  all_goals simp

theorem reqShut_refusesWhole  (s : State) : refusesWhole s (reqShut s) := by
  simp only [reqShut]
  repeat' split
  all_goals simp

theorem reqOplace_refusesWhole (a : PlaceArg) (s : State) : refusesWhole s (reqOplace a s) := by
  simp only [reqOplace]
  repeat' split
  all_goals simp

theorem reqOamend_refusesWhole (a : AmendArg) (s : State) : refusesWhole s (reqOamend a s) := by
  simp only [reqOamend]
  repeat' split
  all_goals simp

theorem reqOlist_refusesWhole  (s : State) : refusesWhole s (reqOlist s) := by
  simp only [reqOlist]
  repeat' split
  all_goals simp

theorem reqCset_refusesWhole (a b d : Nat) (s : State) : refusesWhole s (reqCset a b d s) := by
  simp only [reqCset]
  repeat' split
  all_goals simp

theorem reqAopen_refusesWhole (a : Nat) (b : Word32) (d : Option Bunk) (s : State) : refusesWhole s (reqAopen a b d s) := by
  simp only [reqAopen]
  repeat' split
  all_goals simp

theorem reqAset_refusesWhole (a : Nat) (b : Option Bunk) (d : SettingsArg) (s : State) : refusesWhole s (reqAset a b d s) := by
  simp only [reqAset]
  repeat' split
  all_goals simp

theorem reqXmode_refusesWhole (a : Option Bool) (s : State) : refusesWhole s (reqXmode a s) := by
  simp only [reqXmode]
  repeat' split
  all_goals simp

theorem reqWack_refusesWhole (a : Option Source) (b : Option WarnType) (s : State) : refusesWhole s (reqWack a b s) := by
  simp only [reqWack]
  repeat' split
  all_goals simp

theorem reqHset_refusesWhole (a : HeaterArg) (s : State) : refusesWhole s (reqHset a s) := by
  simp only [reqHset]
  repeat' split
  all_goals simp

theorem reqHclear_refusesWhole (a : Option Bool) (s : State) : refusesWhole s (reqHclear a s) := by
  simp only [reqHclear]
  repeat' split
  all_goals simp [State.clearedReply]

theorem reqFclear_refusesWhole  (s : State) : refusesWhole s (reqFclear s) := by
  simp only [reqFclear]
  repeat' split
  all_goals simp

theorem reqLset_refusesWhole (a : LightArg) (s : State) : refusesWhole s (reqLset a s) := by
  simp only [reqLset]
  repeat' split
  all_goals simp

/-- R193: every request of its own that is refused changes nothing. -/
theorem requestWork_refusesWhole_of_ne (c : Instr) (s : State) (h : ∀ bytes, c ≠ .unknownRequest (.frame bytes)) :
    refusesWhole s (requestWork c s) := by
  cases c with
  | init a b => exact reqInit_refusesWhole a b s
  | shut => exact reqShut_refusesWhole  s
  | oplace a => exact reqOplace_refusesWhole a s
  | oamend a => exact reqOamend_refusesWhole a s
  | olist => exact reqOlist_refusesWhole  s
  | cset a b d => exact reqCset_refusesWhole a b d s
  | aopen a b d => exact reqAopen_refusesWhole a b d s
  | aset a b d => exact reqAset_refusesWhole a b d s
  | xmode a => exact reqXmode_refusesWhole a s
  | wack a b => exact reqWack_refusesWhole a b s
  | hset a => exact reqHset_refusesWhole a s
  | hclear a => exact reqHclear_refusesWhole a s
  | fclear => exact reqFclear_refusesWhole  s
  | lset a => exact reqLset_refusesWhole a s
  | unknownRequest arg =>
    cases arg with
    | frame bytes => exact absurd rfl (h bytes)
    | undeclared n => exact refusesWhole_refuse s _
  | olook key => exact refusesWhole_withOrder (fun o => refusesWhole_done s _ _)
  | oretire key => exact refusesWhole_withOrder (fun o => refusesWhole_done s _ _)
  | alook n => exact refusesWhole_withAccount (fun i a => refusesWhole_done s _ _)
  | aretire n => exact refusesWhole_withAccount (fun i a => refusesWhole_done s _ _)
  | adeclRest n =>
    refine refusesWhole_withAccount (fun i a => ?_)
    split
    · exact refusesWhole_refuse s _
    · exact refusesWhole_done s _ _
  | adeclEnd n =>
    refine refusesWhole_withAccount (fun i a => ?_)
    split
    · exact refusesWhole_done s _ _
    · exact refusesWhole_refuse s _
  | adeclRelease n =>
    refine refusesWhole_withAccount (fun i a => ?_)
    split
    · exact refusesWhole_done s _ _
    · exact refusesWhole_refuse s _
  | adeclWheel n =>
    refine refusesWhole_withAccount (fun i a => ?_)
    repeat' split
    · exact refusesWhole_done s _ _
    · exact refusesWhole_refuse s _
    · exact refusesWhole_done s _ _
  | bset a b => exact refusesWhole_doneIf s _ _ _
  | plan a => exact refusesWhole_doneIf s _ _ _
  | csync a => exact refusesWhole_doneIf s _ _ _
  | fset a => exact refusesWhole_doneIf s _ _ _
  | sset a => exact refusesWhole_doneIf s _ _ _
  | nop | stat | nfetch | nmask | sleep | tset | tlook | blook | clook | wlist | hlook | flook | llook | slook =>
    exact refusesWhole_done s _ _
  | _ => exact refusesWhole_refuse s _

theorem requestWork_refusesWhole (c : Instr) (s : State) : refusesWhole s (requestWork c s) := by
  by_cases h : ∃ bytes, c = .unknownRequest (.frame bytes)
  · obtain ⟨bytes, rfl⟩ := h
    cases hb : frameRequest bytes with
    | none =>
      have hf : requestWork (.unknownRequest (.frame bytes)) = _ := reqFrame_failed hb
      rw [hf]
      exact refusesWhole_refuse s _
    | some i =>
      have hf : requestWork (.unknownRequest (.frame bytes)) = _ := reqFrame_spelled hb
      rw [hf]
      obtain ⟨hi, hne⟩ | hi := spelledRequest_eq i
      · rw [hi]
        exact requestWork_refusesWhole_of_ne i s hne
      · rw [hi]
        exact refusesWhole_refuse s _
  · exact requestWork_refusesWhole_of_ne c s (fun bytes hb => h ⟨bytes, hb⟩)

/-- Settles O3: the frame's checks, the bodies of the requests, and the guard of each event. -/
theorem requestsActOnlyInService : Obligations.RequestsActOnlyInService := by
  unfold Obligations.RequestsActOnlyInService
  refine ⟨fun c s hc => ⟨fun ha => ?_, fun ha hm => ?_⟩, fun c s t hc ha he => ?_, fun c s t ha he => ?_⟩
  · rw [exec_request s hc, State.takeFrame_asserted s _ ha]
  · refine ⟨_, exec_request s hc, ?_⟩
    rw [State.takeFrame_selfTest s _ ha hm]
    exact ⟨State.closeFrame_answers _ _, s.inFrame_closeFrame _⟩
  · rw [exec_request s hc] at he
    obtain rfl := Host.Outcome.next.inj he
    by_cases hm : s.port.mode = .selfTest
    · rw [State.takeFrame_selfTest s _ ha hm]
      exact ⟨_, State.closeFrame_answers _ _, fun _ _ => s.inFrame_closeFrame _⟩
    · rw [State.takeFrame_served s _ ⟨ha, hm⟩]
      refine ⟨_, State.closeFrame_answers _ _, fun h1 h2 => ?_⟩
      obtain h | h | h := requestWork_refusesWhole c s.inFrame
      · exact absurd h h1
      · exact absurd h h2
      · rw [h]
        exact s.inFrame_closeFrame _
  · obtain ⟨hc, rfl⟩ | ⟨event, -, rfl⟩ | ⟨event, hf, rfl⟩ := exec_cases he
    · exact .inl (State.takeFrame_asserted s _ ha)
    · exact .inl (State.outOfReset_asserted event ha)
    · by_cases hz : c = .countdownZero
      · subst hz
        cases hf
        exact .inl (by simp [State.countdownZero, ha])
      · cases c with
        | unknownRequest arg => cases hf
        | _ => first | (cases hf; done) | exact absurd rfl hz | simp

end Sys2Proof.Machine
end

section
/-! PROOF. The frames of the port: what they spell, how they fail, and the requests that only report or write the port. -/
namespace Sys2Proof.Machine

/-! ### A request that is served -/

/-- A served request that writes `work` out of the state, and no part of the port. -/
theorem State.takeFrame_within {s work : State} {f : State → State × Reply} {r : Reply} (h : s.serves)
    (hf : f s.inFrame = (work.inFrame, r)) : (s.takeFrame f).answers r ∧ work.frameOnly (s.takeFrame f) := by
  rw [State.takeFrame_served s f h, hf]
  exact ⟨State.closeFrame_answers _ r, work.inFrame_closeFrame r⟩

/-- A request that reports and changes nothing. -/
theorem reports_of {s : State} {c : Instr} {f : State → State × Reply} {r : Reply} (h : s.serves)
    (hc : exec c s = .next (s.takeFrame f)) (hf : f s.inFrame = (s.inFrame, r)) :
    ∃ t, exec c s = .next t ∧ t.answers r ∧ s.frameOnly t :=
  ⟨_, hc, State.takeFrame_within h hf⟩

/-- A request that is refused. -/
theorem refuses_of {s : State} {c : Instr} {f : State → State × Reply} {o : OutcomeCode} (h : s.serves)
    (hc : exec c s = .next (s.takeFrame f)) (hf : f s.inFrame = s.inFrame.refuse o) : s.refuses c o :=
  reports_of h hc hf

/-- A request that writes `work` and nothing of the port. -/
theorem writes_of {s work : State} {c : Instr} {f : State → State × Reply} {r : Reply} (h : s.serves)
    (hc : exec c s = .next (s.takeFrame f)) (hf : f s.inFrame = (work.inFrame, r)) :
    ∃ t, exec c s = .next t ∧ t.answers r ∧ work.frameOnly t :=
  ⟨_, hc, State.takeFrame_within h hf⟩

/-- The frame's beginning leaves what a request writes elsewhere. -/
theorem State.inFrame_of_port {s t : State} (h : t.port = s.port) : t.inFrame = { t with port := s.inFrame.port } := by
  rw [State.inFrame_eq, State.inFrame_port, State.inFrame_port, h]

@[ext] theorem State.ext {s t : State} (clock : s.clock = t.clock) (orders : s.orders = t.orders)
    (alloc : s.alloc = t.alloc) (charge : s.charge = t.charge) (accounts : s.accounts = t.accounts)
    (transport : s.transport = t.transport) (quiet : s.quiet = t.quiet) (warn : s.warn = t.warn)
    (sense : s.sense = t.sense) (timers : s.timers = t.timers) (heater : s.heater = t.heater)
    (fridge : s.fridge = t.fridge) (lights : s.lights = t.lights) (port : s.port = t.port) (rst : s.rst = t.rst)
    (pending : s.pending = t.pending) : s = t := by
  cases s
  cases t
  simp_all

theorem State.serves.frame {s : State} (h : s.serves) : s.inFrame.serves := by
  simpa [State.serves] using h

/-! ### The bytes of a frame -/

theorem requestOf_code {code : Byte} {body : List Byte} {i : Instr} (h : requestOf code body = some i) :
    i.code = some code ∧ i.isRequest = true ∧ spelledRequest i = requestWork i := by
  have hcode : ∀ n : Byte, code.toNat = n.toNat → some n = some code :=
    fun n hn => congrArg some (BitVec.eq_of_toNat_eq hn.symm)
  obtain ⟨-, hi⟩ | ⟨b, f, -, hf, rfl⟩ | ⟨b0, b1, b2, b3, f, -, hf, rfl⟩ := requestOf_cases h
  · simp only [emptyBodies, List.mem_cons, Prod.mk.injEq, List.not_mem_nil, or_false] at hi
    obtain ⟨hn, rfl⟩ | ⟨hn, rfl⟩ | ⟨hn, rfl⟩ | ⟨hn, rfl⟩ | ⟨hn, rfl⟩ | ⟨hn, rfl⟩ | ⟨hn, rfl⟩ | ⟨hn, rfl⟩ | ⟨hn, rfl⟩ |
      ⟨hn, rfl⟩ | ⟨hn, rfl⟩ | ⟨hn, rfl⟩ | ⟨hn, rfl⟩ := hi
    all_goals exact ⟨hcode _ hn, rfl, rfl⟩
  · simp only [byteBodies, List.mem_cons, Prod.mk.injEq, List.not_mem_nil, or_false] at hf
    obtain ⟨hn, rfl⟩ | ⟨hn, rfl⟩ | ⟨hn, rfl⟩ | ⟨hn, rfl⟩ | ⟨hn, rfl⟩ := hf
    all_goals exact ⟨hcode _ hn, rfl, rfl⟩
  · simp only [wordBodies, List.mem_cons, Prod.mk.injEq, List.not_mem_nil, or_false] at hf
    obtain ⟨hn, rfl⟩ | ⟨hn, rfl⟩ := hf
    all_goals exact ⟨hcode _ hn, rfl, rfl⟩

/-- R192, Table 39: a frame that spells a request carries its code and acts as it. -/
theorem frameRequest_spec {bytes : List Byte} {i : Instr} (h : frameRequest bytes = some i) :
    i.code = bytes.head? ∧ i.isRequest = true ∧ spelledRequest i = requestWork i := by
  unfold frameRequest at h
  split at h
  · split at h
    · exact requestOf_code h
    · cases h
  · cases h

theorem exec_frame {bytes : List Byte} {i : Instr} (h : frameRequest bytes = some i) (s : State) :
    exec (.unknownRequest (.frame bytes)) s = exec i s := by
  obtain ⟨-, hi, hw⟩ := frameRequest_spec h
  have hf : requestWork (.unknownRequest (.frame bytes)) = reqFrame bytes := rfl
  rw [exec_request s (c := .unknownRequest (.frame bytes)) rfl, exec_request s hi, hf, reqFrame_spelled h, hw]

/-- A frame that spells no request is refused with the outcome of the check it fails. -/
theorem refuses_frame {s : State} {bytes : List Byte} (h : s.serves) (hb : frameRequest bytes = none) :
    s.refuses (.unknownRequest (.frame bytes)) (failureOutcome (frameFailure bytes)) :=
  refuses_of h rfl (congrFun (reqFrame_failed hb) s.inFrame)

theorem frameHoldsBody_iff (length : Byte) (rest : List Byte) :
    frameHoldsBody length rest = true ↔ length.toNat ≤ 124 ∧ length.toNat ≤ rest.length := by
  simp [frameHoldsBody]

theorem frame_short {bytes : List Byte} (h : bytes.length < 2) :
    frameRequest bytes = none ∧ frameFailure bytes = .badLength := by
  match bytes, h with
  | [], _ => exact ⟨rfl, rfl⟩
  | [_], _ => exact ⟨rfl, rfl⟩

theorem frame_overlong {code length : Byte} {rest : List Byte} (h : frameHoldsBody length rest = false) :
    frameRequest (code :: length :: rest) = none ∧ frameFailure (code :: length :: rest) = .badLength := by
  simp [frameRequest, frameFailure, h]

theorem lookCode_isSome {α : Type} {code : Byte} {l : List (Nat × α)} (h : (lookCode code l).isSome = true) :
    code.toNat ∈ l.map Prod.fst := by
  obtain ⟨a, ha⟩ := Option.isSome_iff_exists.mp h
  exact List.mem_map_of_mem (lookCode_mem ha)

/-- Table 39: each code stands in one of the three lists of bodies at most. -/
theorem codes_apart (n : Nat) :
    (n ∈ emptyBodies.map Prod.fst → n ∉ byteBodies.map Prod.fst ∧ n ∉ wordBodies.map Prod.fst) ∧
    (n ∈ byteBodies.map Prod.fst → n ∉ wordBodies.map Prod.fst) := by
  simp only [emptyBodies, byteBodies, wordBodies, List.map_cons, List.map_nil, List.mem_cons, List.not_mem_nil, or_false]
  omega

/-- R192, check 4: the body of a frame that spells a request has the length stated for its code. -/
theorem requestOf_length {code : Byte} {body : List Byte} {i : Instr} (h : requestOf code body = some i) (n : Nat)
    (hn : statedBodyLength code = some n) : body.length = n := by
  have hmem : ∀ {α : Type} {l : List (Nat × α)} {a : α}, (code.toNat, a) ∈ l → code.toNat ∈ l.map Prod.fst :=
    fun ha => List.mem_map_of_mem ha
  obtain ⟨hempty, hbyte⟩ := codes_apart code.toNat
  unfold statedBodyLength at hn
  obtain ⟨rfl, hi⟩ | ⟨b, f, rfl, hf, rfl⟩ | ⟨b0, b1, b2, b3, f, rfl, hf, rfl⟩ := requestOf_cases h
  · obtain ⟨h1, h2⟩ := hempty (hmem hi)
    repeat' split at hn
    · exact Option.some.inj hn
    · exact absurd (lookCode_isSome ‹_›) h1
    · exact absurd (lookCode_isSome ‹_›) h2
    · cases hn
  · repeat' split at hn
    · exact absurd (hmem hf) (hempty (lookCode_isSome ‹_›)).1
    · exact Option.some.inj hn
    · exact absurd (lookCode_isSome ‹_›) (hbyte (hmem hf))
    · cases hn
  · repeat' split at hn
    · exact absurd (hmem hf) (hempty (lookCode_isSome ‹_›)).2
    · exact absurd (hmem hf) (hbyte (lookCode_isSome ‹_›))
    · exact Option.some.inj hn
    · cases hn

/-- Every code with a stated body stands in Table 39. -/
theorem mem_requestCodes {m : Nat}
    (h : m ∈ emptyBodies.map Prod.fst ∨ m ∈ byteBodies.map Prod.fst ∨ m ∈ wordBodies.map Prod.fst) :
    m ∈ requestCodes := by
  simp only [emptyBodies, byteBodies, wordBodies, requestCodes, List.map_cons, List.map_nil, List.mem_cons,
    List.not_mem_nil, or_false, List.mem_append] at h ⊢
  omega

theorem requestCodes_of_stated {code : Byte} {n : Nat} (h : statedBodyLength code = some n) :
    code.toNat ∈ requestCodes := by
  unfold statedBodyLength at h
  refine mem_requestCodes ?_
  repeat' split at h
  · exact .inl (lookCode_isSome ‹_›)
  · exact .inr (.inl (lookCode_isSome ‹_›))
  · exact .inr (.inr (lookCode_isSome ‹_›))
  · cases h

theorem requestOf_known {code : Byte} {body : List Byte} {i : Instr} (h : requestOf code body = some i) :
    code.toNat ∈ requestCodes := by
  refine mem_requestCodes ?_
  obtain ⟨-, hi⟩ | ⟨b, f, -, hf, -⟩ | ⟨b0, b1, b2, b3, f, -, hf, -⟩ := requestOf_cases h
  · exact .inl (List.mem_map_of_mem hi)
  · exact .inr (.inl (List.mem_map_of_mem hf))
  · exact .inr (.inr (List.mem_map_of_mem hf))

/-- A frame whose body is whole. -/
theorem frame_whole {code length : Byte} {rest : List Byte} (h : length.toNat ≤ 124) (hr : length.toNat ≤ rest.length) :
    frameRequest (code :: length :: rest) = requestOf code (rest.take length.toNat) ∧
    frameFailure (code :: length :: rest) = (if code.toNat ∉ requestCodes then .unknown else .badLength) := by
  have hb := (frameHoldsBody_iff length rest).mpr ⟨h, hr⟩
  simp only [frameRequest, frameFailure, hb]
  exact ⟨rfl, rfl⟩

theorem frame_unknown {code length : Byte} {rest : List Byte} (h : length.toNat ≤ 124)
    (hr : length.toNat ≤ rest.length) (hc : code.toNat ∉ requestCodes) :
    frameRequest (code :: length :: rest) = none ∧ frameFailure (code :: length :: rest) = .unknown := by
  obtain ⟨hreq, hfail⟩ := frame_whole (code := code) h hr
  rw [hreq, hfail, if_pos hc]
  refine ⟨?_, rfl⟩
  cases hi : requestOf code (rest.take length.toNat) with
  | none => rfl
  | some i => exact absurd (requestOf_known hi) hc

theorem frame_wrongLength {code length : Byte} {rest : List Byte} {n : Nat} (hs : statedBodyLength code = some n)
    (hn : n ≠ length.toNat) :
    frameRequest (code :: length :: rest) = none ∧ frameFailure (code :: length :: rest) = .badLength := by
  cases hb : frameHoldsBody length rest with
  | false => exact frame_overlong hb
  | true =>
    obtain ⟨h, hr⟩ := (frameHoldsBody_iff length rest).mp hb
    obtain ⟨hreq, hfail⟩ := frame_whole (code := code) h hr
    rw [hreq, hfail, if_neg (not_not.mpr (requestCodes_of_stated hs))]
    refine ⟨?_, rfl⟩
    cases hi : requestOf code (rest.take length.toNat) with
    | none => rfl
    | some i =>
      have hlen := requestOf_length hi n hs
      rw [List.length_take, Nat.min_eq_left hr] at hlen
      exact absurd hlen.symm hn

theorem refuses_wrongLength {s : State} {code length : Byte} {rest : List Byte} {n : Nat} (h : s.serves)
    (hs : statedBodyLength code = some n) (hn : n ≠ length.toNat) :
    s.refuses (.unknownRequest (.frame (code :: length :: rest))) .badLength := by
  obtain ⟨hreq, hfail⟩ := frame_wrongLength (rest := rest) hs hn
  have href := refuses_frame h hreq
  rwa [hfail] at href

/-! ### What a frame reads (R191) -/

theorem twoBytes_value {n : Nat} (h : n < 65536) :
    (BitVec.ofNat 8 n).toNat + 256 * (BitVec.ofNat 8 (n / 256)).toNat = n := by
  simp only [BitVec.toNat_ofNat]
  omega

theorem replyBytes_some (r : Reply) :
    ∃ low high : Byte, replyBytes (some r) = [r.outcome.byte, low, high] ++ r.body.bytes ∧
      low.toNat + 256 * high.toNat = r.body.bytes.length :=
  ⟨_, _, rfl, twoBytes_value (by have := r.body.bytes_le; omega)⟩

theorem misoBytes_reads (r : Option Reply) (fill : Nat → Byte) (clocked k : Nat) (hk : k < clocked)
    (h : k < (replyBytes r).length) : (misoBytes r fill clocked)[k]? = (replyBytes r)[k]? := by
  rw [List.getElem?_eq_getElem (by simpa using hk), List.getElem?_eq_getElem h, misoBytes_getElem r fill clocked k hk h]

/-- Settles O4: the checks of R192 over the frame's bytes, the bytes of a reply, and the falling of CS. -/
theorem framesOpenAndFail : Obligations.FramesOpenAndFail := by
  unfold Obligations.FramesOpenAndFail
  refine ⟨fun s hs => ⟨fun bytes hb => ?_, fun code length rest hl => ?_, fun code length rest hl hr => ⟨fun hc => ?_,
    fun n hn hne => ?_⟩, fun slot => ?_⟩, ⟨rfl, fun r => ⟨r.body.bytes_le, replyBytes_some r⟩,
    fun r fill clocked => ⟨misoBytes_length r fill clocked, misoBytes_reads r fill clocked⟩⟩, fun s => ⟨fun ha hf => ?_,
    fun h => ?_⟩⟩
  · obtain ⟨hreq, hfail⟩ := frame_short hb
    have href := refuses_frame hs hreq
    rwa [hfail] at href
  · have hholds : frameHoldsBody length rest = false := by
      rw [Bool.eq_false_iff, Ne, frameHoldsBody_iff]
      omega
    obtain ⟨hreq, hfail⟩ := frame_overlong (code := code) hholds
    have href := refuses_frame hs hreq
    rwa [hfail] at href
  · obtain ⟨hreq, hfail⟩ := frame_unknown hl hr hc
    have href := refuses_frame hs hreq
    rwa [hfail] at href
  · exact refuses_wrongLength hs hn hne
  · exact refuses_of hs rfl rfl
  · rw [exec_released (c := .frameStart) rfl ha, State.inFrame, if_neg (by simp [hf])]
    cases hasleep : s.port.asleep <;> simp [Port.openFrame, Port.workAttn, hasleep]
  · rw [exec_guarded (c := .frameStart) s rfl]
    obtain ha | hf := h
    · rw [State.outOfReset_asserted _ ha]
    · simp [State.outOfReset, State.inFrame, hf]

/-! ### The requests that report -/

theorem State.inFrame_statBody (s : State) :
    s.inFrame.statBody =
      { mode := s.port.mode, asleep := if s.port.inFrame then s.port.asleepAtStart else s.port.asleep
        selfTest := s.port.selfTest, cause := s.port.cause, clockSet := s.clock.isSet
        unanswered := s.port.unanswered, flags := s.port.flags, enables := s.port.enables, mask := s.port.mask } := by
  simp only [State.statBody, State.inFrame_records, State.inFrame_port]
  cases s.port.inFrame <;> simp

/-- R198: STAT reports the port as the frame found it, then clears wake unanswered. -/
theorem exec_stat {s : State} (h : s.serves) :
    ∃ t, exec .stat s = .next t ∧ t.answers (done (.status s.inFrame.statBody)) ∧
      State.frameOnly { s with port := { s.port with unanswered := false } } t := by
  refine ⟨s.takeFrame reqStat, rfl, ?_⟩
  have hwork : reqStat s.inFrame =
      (s.inFrame.withPort (fun p => { p with unanswered := false }), done (.status s.inFrame.statBody)) := rfl
  rw [State.takeFrame_served s _ h, hwork]
  refine ⟨State.closeFrame_answers _ _, ?_, ?_⟩
  · ext <;> simp [State.closeFrame, State.withPort]
  · simp only [State.withPort, State.closeFrame, State.inFrame_port, Port.frameOnly]
    cases s.port.inFrame <;> simp

theorem Sense.drawnOn_eq (x : Sense) : x.drawnOn = { x with drawn := x.drawnOn.drawn } := by
  unfold Sense.drawnOn
  split <;> rfl

/-- Settles O5: each body as its request writes it. -/
theorem nopStatAndSlookAnswer : Obligations.NopStatAndSlookAnswer := by
  unfold Obligations.NopStatAndSlookAnswer
  refine ⟨fun s hs => ⟨reports_of hs rfl rfl, ?_⟩, fun s hs => ?_⟩
  · rw [← State.inFrame_statBody]
    exact exec_stat hs
  · have hwork : reqSlook s.inFrame =
        (({ s with sense := s.sense.drawnOn } : State).inFrame, done (.sensing s.inFrame.sense.body)) := by
      rw [State.inFrame_of_port (s := s) (t := { s with sense := s.sense.drawnOn }) rfl]
      simp [reqSlook]
    obtain ⟨t, ht, hr, hf⟩ := writes_of (c := .slook) hs rfl hwork
    refine ⟨t, ht, s.sense.shownPress .a, s.sense.shownPress .b, by simpa [Sense.body] using hr, ?_, ?_, ?_⟩
    · intro p hp
      simp [Sense.shownPress, Sense.press, hp]
    · intro p hp
      simp [Sense.shownPress, Sense.press, hp]
    · have hsense : t.sense = s.sense.drawnOn := by rw [hf.1]
      rw [hsense, ← Sense.drawnOn_eq]
      exact hf

/-- Settles O6. -/
theorem tlookReportsTheClock : Obligations.TlookReportsTheClock := by
  unfold Obligations.TlookReportsTheClock
  intro s hs
  refine ⟨reports_of hs rfl (by simp [reqTlook]), fun length rest hl => ?_, ?_⟩
  · exact refuses_wrongLength hs (n := 0) (by decide) (fun h => hl (BitVec.eq_of_toNat_eq h.symm))
  · obtain ⟨t, ht, hr, -⟩ := exec_stat hs
    exact ⟨t, ht, s.inFrame.statBody, hr, by simp [State.statBody]⟩

end Sys2Proof.Machine
end

section
/-! PROOF. The requests that report a record or write the port, the notices, and AOPEN. -/
namespace Sys2Proof.Machine

/-! ### The ranking of R106 -/

theorem Entry.rankLe_iff (a b : Entry) : a.rankLe b = true ↔ a.ranksFirst b := by
  unfold Entry.rankLe Entry.ranksFirst
  split
  · simp; omega
  · split
    · simp; omega
    · simp; omega

theorem Entry.ranksFirst_total (a b : Entry) : a.ranksFirst b ∨ b.ranksFirst a := by
  unfold Entry.ranksFirst
  omega

theorem Entry.ranksFirst_trans {a b c : Entry} (h : a.ranksFirst b) (k : b.ranksFirst c) : a.ranksFirst c := by
  unfold Entry.ranksFirst at *
  omega

theorem insertRanked_perm (e : Entry) (es : List Entry) : (insertRanked e es).Perm (e :: es) := by
  induction es with
  | nil => exact .refl _
  | cons x xs ih =>
    unfold insertRanked
    split
    · exact .refl _
    · exact (ih.cons x).trans (.swap e x xs)

theorem rankOrder_perm (es : List Entry) : (rankOrder es).Perm es := by
  induction es with
  | nil => exact .refl _
  | cons e es ih => exact (insertRanked_perm e _).trans (ih.cons e)

theorem insertRanked_pairwise {e : Entry} {es : List Entry} (h : es.Pairwise Entry.ranksFirst) :
    (insertRanked e es).Pairwise Entry.ranksFirst := by
  induction es with
  | nil => simp [insertRanked]
  | cons x xs ih =>
    obtain ⟨hx, hxs⟩ := List.pairwise_cons.mp h
    unfold insertRanked
    split
    · next hle =>
      have hex := (Entry.rankLe_iff e x).mp hle
      refine List.pairwise_cons.mpr ⟨fun y hy => ?_, h⟩
      obtain rfl | hy := List.mem_cons.mp hy
      · exact hex
      · exact Entry.ranksFirst_trans hex (hx y hy)
    · next hle =>
      refine List.pairwise_cons.mpr ⟨fun y hy => ?_, ih hxs⟩
      obtain rfl | hy := List.mem_cons.mp ((insertRanked_perm e xs).mem_iff.mp hy)
      · exact (Entry.ranksFirst_total x y).resolve_right (fun h' => hle ((Entry.rankLe_iff y x).mpr h'))
      · exact hx y hy

theorem rankOrder_pairwise (es : List Entry) : (rankOrder es).Pairwise Entry.ranksFirst := by
  induction es with
  | nil => exact .nil
  | cons e es ih => exact insertRanked_pairwise ih

/-! ### Account slots -/

theorem mem_allSlots (i : Slot) : i ∈ allSlots := by cases i <;> decide

theorem State.mem_slotsWhere {s : State} {p : Account → Bool} {i : Slot} :
    i ∈ s.slotsWhere p ↔ ∃ a, s.account i = some a ∧ p a = true := by
  simp only [State.slotsWhere, List.mem_filter, mem_allSlots, true_and]
  cases s.account i <;> simp

theorem State.slotsWhere_isEmpty {s : State} {p : Account → Bool} :
    (s.slotsWhere p).isEmpty = true ↔ ∀ i a, s.account i = some a → p a = false := by
  rw [List.isEmpty_iff, List.eq_nil_iff_forall_not_mem]
  simp only [State.mem_slotsWhere, not_exists, not_and, Bool.not_eq_true]

theorem State.slotsWhere_congr {s t : State} (h : t.accounts = s.accounts) (p : Account → Bool) :
    t.slotsWhere p = s.slotsWhere p := by
  simp [State.slotsWhere, State.account, h]

@[simp] theorem State.inFrame_slotsWhere (s : State) (p : Account → Bool) : s.inFrame.slotsWhere p = s.slotsWhere p :=
  State.slotsWhere_congr (by simp) p

theorem State.boundSlot_some {s : State} {b : Bunk} {i : Slot} (h : s.boundSlot b = some i) :
    ∃ a, s.account i = some a ∧ a.bunk = b := by
  obtain ⟨a, ha, hb⟩ := State.mem_slotsWhere.mp (List.mem_of_head? h)
  exact ⟨a, ha, by simpa using hb⟩

theorem State.boundSlot_none {s : State} {b : Bunk} :
    s.boundSlot b = none ↔ ∀ i a, s.account i = some a → a.bunk ≠ b := by
  rw [State.boundSlot, List.head?_eq_none_iff, ← List.isEmpty_iff, State.slotsWhere_isEmpty]
  simp

theorem State.tagHeld_iff (s : State) (tag : Nat) :
    s.tagHeld tag = true ↔ ∃ i a, s.account i = some a ∧ a.tag = tag := by
  rw [State.tagHeld, Bool.not_eq_true', Bool.eq_false_iff, Ne, State.slotsWhere_isEmpty]
  push Not
  simp

theorem State.bunkHeld_iff (s : State) (b : Bunk) :
    s.bunkHeld b = true ↔ b ≠ .noBunk ∧ ∃ i a, s.account i = some a ∧ a.bunk = b := by
  have hbound : (s.boundSlot b).isSome = true ↔ ∃ i a, s.account i = some a ∧ a.bunk = b := by
    rw [Option.isSome_iff_ne_none, Ne, State.boundSlot_none]
    push Not
    rfl
  simp [State.bunkHeld, hbound]

@[simp] theorem State.inFrame_tagHeld (s : State) (tag : Nat) : s.inFrame.tagHeld tag = s.tagHeld tag := by
  simp [State.tagHeld]

@[simp] theorem State.inFrame_bunkHeld (s : State) (b : Bunk) : s.inFrame.bunkHeld b = s.bunkHeld b := by
  simp [State.bunkHeld, State.boundSlot]

theorem State.roleHeld_iff (s : State) :
    s.roleHeld = true ↔ ∃ i a, s.account i = some a ∧ a.state = .driving := by
  rw [State.roleHeld, Bool.not_eq_true', Bool.eq_false_iff, Ne, State.slotsWhere_isEmpty]
  push Not
  simp

@[simp] theorem PerSlot.get_set {α : Type} (p : PerSlot α) (i j : Slot) (v : α) :
    (p.set i v).get j = if j = i then v else p.get j := by
  cases i <;> cases j <;> rfl

theorem State.withAccount_eq {s : State} {n : Nat} {i : Slot} {a : Account} (f : Slot → Account → State × Reply)
    (hi : slotOf n = some i) (ha : s.account i = some a) : s.inFrame.withAccount n f = f i a := by
  simp [State.withAccount, hi, ha]

theorem State.withAccount_noSlot {s : State} {n : Nat} (f : Slot → Account → State × Reply) (h : slotOf n = none) :
    s.inFrame.withAccount n f = s.inFrame.refuse .badField := by
  simp [State.withAccount, h]

theorem State.withAccount_noAccount {s : State} {n : Nat} {i : Slot} (f : Slot → Account → State × Reply)
    (hi : slotOf n = some i) (ha : s.account i = none) : s.inFrame.withAccount n f = s.inFrame.refuse .noSuchAccount := by
  simp [State.withAccount, hi, ha]

/-! ### The look-ups -/

theorem Charge.usable_eq (c : Charge) : c.usable = c.count - c.reserve := by
  unfold Charge.usable
  split <;> omega

theorem FridgeState.turning_iff (f : FridgeState) : f.turning = true ↔ f = .start ∨ f = .run := by
  simp [FridgeState.turning]

theorem Account.credited_eq (a : Account) :
    a.credited = a.accumulated +
      (if a.state = .resting ∧ a.settings.segment ≤ a.segSeconds / 60 then a.segSeconds / 60 else 0) := by
  unfold Account.credited Account.segMinutes
  split <;> rfl

/-- Settles O7: each look-up answers its record and leaves the state to the frame. -/
theorem lookUpsReportAndChangeNothing : Obligations.LookUpsReportAndChangeNothing := by
  unfold Obligations.LookUpsReportAndChangeNothing
  refine ⟨fun s hs => ⟨?_, ?_, ?_, ?_, ?_⟩, fun s hs => ⟨?_, fun length rest hl => ?_⟩, fun n s hs => ⟨fun hn => ?_,
    fun i hi => ⟨fun ha => ?_, fun a ha => ?_⟩⟩⟩
  · exact reports_of (c := .clook) hs rfl (by simp [reqClook, Charge.usable_eq])
  · obtain ⟨t, ht, hr, hf⟩ := reports_of (c := .wlist) hs rfl (r := (reqWlist s).2) (by simp [reqWlist])
    exact ⟨t, ht, rankOrder s.warn.entries, rankOrder_perm _, rankOrder_pairwise _, hr, hf⟩
  · exact reports_of (c := .hlook) hs rfl (by simp [reqHlook, Heater.body])
  · exact reports_of (c := .flook) hs rfl (by simp [reqFlook, Fridge.body, FridgeState.turning_iff])
  · obtain ⟨t, ht, hr, hf⟩ := reports_of (c := .llook) hs rfl (r := (reqLlook s).2) (by simp [reqLlook])
    refine ⟨t, ht, _, hr, hf, rfl, rfl, fun i x hx => ?_⟩
    simp only [List.mem_cons, Prod.mk.injEq, List.not_mem_nil, or_false] at hx
    obtain ⟨rfl, rfl⟩ | ⟨rfl, rfl⟩ | ⟨rfl, rfl⟩ | ⟨rfl, rfl⟩ := hx <;> rfl
  · exact reports_of (c := .blook) hs rfl (by simp [reqBlook, State.draws])
  · exact refuses_wrongLength hs (n := 0) (by decide) (fun h => hl (BitVec.eq_of_toNat_eq h.symm))
  · exact refuses_of hs rfl (State.withAccount_noSlot _ hn)
  · exact refuses_of hs rfl (State.withAccount_noAccount _ hi ha)
  · refine reports_of (c := .alook n) hs rfl ?_
    rw [reqAlook, State.withAccount_eq _ hi ha]
    simp [State.accountBody, Account.credited_eq]

/-! ### The flags (sections 10.3 and 10.4) -/

/-- The place of a notice in the bytes of flags. -/
def Notice.place : Notice → Nat
  | .order => 0
  | .account => 1
  | .warning => 2
  | .heater => 3
  | .fridge => 4
  | .charge => 5
  | .sensor => 6
  | .part => 7

theorem Notice.bit_getLsbD (n : Notice) (k : Nat) (hk : k < 8) : n.bit.getLsbD k = decide (k = n.place) := by
  cases n <;> interval_cases k <;> rfl

theorem Notice.inByte_eq (n : Notice) (b : Byte) : n.inByte b = b.getLsbD n.place := by
  have hplace : n.place < 8 := by cases n <;> decide
  unfold Notice.inByte
  rw [Bool.eq_iff_iff, decide_eq_true_iff]
  constructor
  · intro h
    by_contra hb
    refine h (BitVec.eq_of_getLsbD_eq fun k hk => ?_)
    rw [BitVec.getLsbD_and, n.bit_getLsbD k hk]
    by_cases hkn : k = n.place
    · subst hkn
      simp [Bool.eq_false_iff.mpr hb]
    · simp [hkn]
  · intro h hz
    have := congrArg (fun x => x.getLsbD n.place) hz
    simp [h, n.bit_getLsbD _ hplace] at this

theorem Notice.inByte_bitIf (m n : Notice) (p : Prop) [Decidable p] :
    m.inByte (if p then n.bit else 0#8) = true ↔ p ∧ m = n := by
  by_cases hp : p
  · simp only [hp, if_true, true_and]
    cases m <;> cases n <;> decide
  · simp [hp, Notice.inByte_eq]

theorem Notice.inByte_orByte (m : Notice) (a b : Byte) : m.inByte (a ||| b) = (m.inByte a || m.inByte b) := by
  simp [Notice.inByte_eq]

theorem State.attentions_iff (s : State) (n : Notice) :
    n.inByte s.attentions = true ↔
      (n = .charge ∧ (s.charge.synced = false ∨ s.charge.count ≤ s.charge.reserve)) ∨
      (n = .heater ∧ s.heater.state = .lockout) ∨ (n = .fridge ∧ s.fridge.state = .fault) ∨
      (n = .sensor ∧ (s.sense.cab.fault = true ∨ s.sense.fridgeT.fault = true ∨ s.sense.outside.fault = true)) := by
  simp only [State.attentions, Notice.inByte_orByte, Bool.or_eq_true, Notice.inByte_bitIf, Charge.attention,
    Charge.usable_eq, Sense.attention, Bool.not_eq_true', decide_eq_true_iff, Nat.sub_eq_zero_iff_le]
  tauto

theorem fetchedFlags_iff (n : Notice) (flags ack attentions : Byte) :
    n.inByte (fetchedFlags flags ack attentions) = true ↔
      n.inByte flags = true ∧ (n.inByte ack = true → n.inByte attentions = true) := by
  have hplace : n.place < 8 := by cases n <;> decide
  simp only [Notice.inByte_eq, fetchedFlags, BitVec.getLsbD_or, BitVec.getLsbD_and, BitVec.getLsbD_not, hplace]
  cases flags.getLsbD n.place <;> cases ack.getLsbD n.place <;> simp

/-- What a request that writes the flags or the enables in its frame leaves. -/
def Port.flagged (p : Port) (flags enables : Byte) : Port := { p with flags := flags, enables := enables }

theorem State.portWork_within {s : State} (h : s.serves) (flags enables : Byte) (r : Reply) :
    AttnLaw ((s.inFrame.withPort (fun p => (p.flagged flags enables).workAttn)).closeFrame r) ∧
    State.frameOnly { s with port := s.port.flagged flags enables }
      ((s.inFrame.withPort (fun p => (p.flagged flags enables).workAttn)).closeFrame r) := by
  obtain ⟨ha, -⟩ := h
  refine ⟨?_, ?_, ?_⟩
  · simp [AttnLaw, State.closeFrame, State.withPort, Port.workAttn, ha]
  · ext <;> simp [State.closeFrame, State.withPort]
  · simp only [Port.frameOnly, State.closeFrame, State.withPort, Port.workAttn, State.inFrame_port, Port.flagged]
    by_cases hframe : s.port.inFrame = true <;> simp [hframe]

theorem State.inFrame_flags (s : State) : s.inFrame.port.flags = s.port.flags ∧ s.inFrame.port.enables = s.port.enables := by
  obtain ⟨⟨-, henables, -⟩, hflags⟩ := s.inFrame_portKept
  exact ⟨hflags, henables⟩

theorem State.inFrame_attentions (s : State) : s.inFrame.attentions = s.attentions := by
  simp [State.attentions]

theorem reqNfetch_inFrame (s : State) (ack : Byte) :
    reqNfetch ack s.inFrame =
      (s.inFrame.withPort (fun p => (p.flagged (fetchedFlags s.port.flags ack s.attentions) s.port.enables).workAttn),
        done (.fetched s.port.flags (fetchedFlags s.port.flags ack s.attentions))) := by
  obtain ⟨hflags, henables⟩ := s.inFrame_flags
  simp [reqNfetch, State.withPort, Port.flagged, hflags, ← henables, s.inFrame_attentions]

theorem reqNmask_inFrame (s : State) (enables : Byte) :
    reqNmask enables s.inFrame =
      (s.inFrame.withPort (fun p => (p.flagged s.port.flags enables).workAttn), done (.enables enables)) := by
  obtain ⟨hflags, -⟩ := s.inFrame_flags
  simp [reqNmask, State.withPort, Port.flagged, ← hflags]

/-- Settles O8: the flags bit by bit, and the port that each request leaves. -/
theorem flagsAreFetchedEnabledAndMasked : Obligations.FlagsAreFetchedEnabledAndMasked := by
  unfold Obligations.FlagsAreFetchedEnabledAndMasked
  refine ⟨fun ack s hs => ⟨_, rfl, ?_⟩, fun enables s hs => ⟨_, rfl, ?_⟩, fun mask s hs => ?_⟩
  · rw [State.takeFrame_served s _ hs, reqNfetch_inFrame]
    obtain ⟨hattn, hframe⟩ := State.portWork_within hs (fetchedFlags s.port.flags ack s.attentions) s.port.enables
      (done (.fetched s.port.flags (fetchedFlags s.port.flags ack s.attentions)))
    exact ⟨_, State.closeFrame_answers _ _, fun n => (fetchedFlags_iff n _ _ _).trans (by rw [s.attentions_iff n]), hattn,
      hframe⟩
  · rw [State.takeFrame_served s _ hs, reqNmask_inFrame]
    obtain ⟨hattn, hframe⟩ := State.portWork_within hs s.port.flags enables (done (.enables enables))
    exact ⟨State.closeFrame_answers _ _, rfl, hattn, hframe⟩
  · have hexec : exec (.sleep mask) s = .next (s.takeFrame (reqSleep mask)) := rfl
    rw [hexec, State.takeFrame_served s _ hs]
    congr 1
    ext
    all_goals simp only [reqSleep, State.withPort, State.closeFrame, Port.workAttn, State.inFrame_records,
      State.inFrame_port]
    by_cases hframe : s.port.inFrame = true
    · simp [hframe]
    · by_cases hasleep : s.port.asleep = true <;> simp [hframe, hasleep, Port.openFrame, Port.workAttn]

/-- R199, R203: the port as a notice leaves it. -/
theorem Port.setFlag_spec (p : Port) (n : Notice) :
    p.setFlag n =
      { p with
        flags := p.flags ||| n.bit, attn := !p.asleep && decide ((p.flags ||| n.bit) &&& p.enables ≠ 0#8)
        wake := p.wakeDue n || p.wake, spacing := p.wakeDue n || p.spacing, wait := p.wakeDue n || p.wait } := by
  unfold Port.setFlag
  cases p.wakeDue n <;> simp [Port.startWake, Port.workAttn]

theorem Port.wakeDue_iff (p : Port) (n : Notice) :
    p.wakeDue n = true ↔
      n.inByte p.flags = false ∧ p.asleep = true ∧ (p.mode = .normal ∨ p.mode = .workshop) ∧ n.inByte p.mask = true ∧
        p.spacing = false := by
  simp only [Port.wakeDue, Bool.and_eq_true, Bool.or_eq_true, decide_eq_true_iff, Bool.not_eq_true']
  tauto

theorem State.notice_released {s : State} (n : Notice) (h : s.rst.asserted = false) :
    s.notice n = { s with port := s.port.setFlag n } := by
  simp [State.notice, h]

/-- Settles O10: a notice as `Port.setFlag` works it, and the three wake timers by their ends. -/
theorem noticesSetFlagsAndWake : Obligations.NoticesSetFlagsAndWake := by
  unfold Obligations.NoticesSetFlagsAndWake
  refine ⟨fun n s => ⟨fun ha => by simp [State.notice, ha], fun ha => ?_⟩, fun s => ⟨rfl, rfl, fun ha hw => ?_, fun h => ?_⟩⟩
  · have hflags : ∀ m : Notice, m.inByte (s.notice n).port.flags = true ↔ m.inByte s.port.flags = true ∨ m = n := by
      intro m
      rw [State.notice_inByte, ha]
      simp only [Bool.not_false, Bool.true_and, Bool.or_eq_true, decide_eq_true_iff]
      exact or_congr_right eq_comm
    refine ⟨by rw [State.notice_released n ha], ?_, hflags, ?_, by simp, by simp, fun hdue => ?_, fun hdue => ?_⟩
    · rw [State.notice_released n ha]
      simp [AttnLaw, Port.setFlag_spec, ha]
    · refine ⟨by simp, by simp, by simp, by simp, by simp, by simp, by simp, ?_⟩
      exact State.notice_flagsKept s n
    · rw [← Port.wakeDue_iff] at hdue
      simp [State.notice_released n ha, Port.setFlag_spec, hdue]
    · rw [← Port.wakeDue_iff, Bool.not_eq_true] at hdue
      simp [State.notice_released n ha, Port.setFlag_spec, hdue]
  · rw [exec_released (c := .wakeWaitExpiry) rfl ha]
    simp [State.withPort, hw]
  · rw [exec_guarded (c := .wakeWaitExpiry) s rfl]
    obtain ha | hw := h
    · rw [State.outOfReset_asserted _ ha]
    · simp [State.outOfReset, State.withPort, hw]

/-! ### AOPEN -/

/-- Settles O24: the checks of R94 in their order, then the account that `openedAccount` is. -/
theorem aopenOpensTheSlot : Obligations.AopenOpensTheSlot := by
  unfold Obligations.AopenOpensTheSlot
  intro n tag s hs
  refine ⟨fun b hb => refuses_of hs rfl ?_, fun i hi b htag => ⟨fun ha => refuses_of hs rfl ?_, fun ha => ⟨fun htaken =>
    refuses_of hs rfl ?_, fun hfree => ⟨fun hbunk => refuses_of hs rfl ?_, fun hbunk => ?_⟩⟩⟩⟩
  · unfold reqAopen
    split
    · next i b hi hb' => simp_all
    · rfl
  · simp [reqAopen, hi, htag, Option.isSome_iff_ne_none.mpr ha]
  · have hheld := (s.tagHeld_iff tag.toNat).mpr htaken
    simp [reqAopen, hi, htag, ha, hheld]
  · have hheld : s.tagHeld tag.toNat = false := by
      rw [Bool.eq_false_iff, Ne, State.tagHeld_iff]
      exact fun ⟨j, a, hj, ht⟩ => hfree j a hj ht
    simp [reqAopen, hi, htag, ha, hheld, (s.bunkHeld_iff b).mpr hbunk]
  · have hheld : s.tagHeld tag.toNat = false := by
      rw [Bool.eq_false_iff, Ne, State.tagHeld_iff]
      exact fun ⟨j, a, hj, ht⟩ => hfree j a hj ht
    have hbunkfree : s.bunkHeld b = false := by
      rw [Bool.eq_false_iff, Ne, State.bunkHeld_iff]
      rintro ⟨hb, j, a, hj, ht⟩
      exact hbunk.elim hb (fun h => h j a hj ht)
    refine writes_of hs rfl ?_
    have hwork : s.inFrame.setAccount i (openedAccount tag.toNat b) =
        (s.setAccount i (openedAccount tag.toNat b)).inFrame := by
      unfold State.inFrame State.setAccount
      split <;> rfl
    simp only [reqAopen, hi, htag, State.inFrame_account, ha, State.inFrame_tagHeld, hheld, State.inFrame_bunkHeld,
      hbunkfree, hwork]
    rfl

end Sys2Proof.Machine
end

section
/-! PROOF. The order table: its operations, the requests that read and write it, and what a pass makes of it. -/
namespace Sys2Proof.Machine

/-! ### The table's operations -/

theorem findOrder_some {k : Nat} {os : List Order} {o : Order} (h : findOrder k os = some o) : o ∈ os ∧ o.key = k :=
  ⟨List.mem_of_find?_eq_some h, by simpa using List.find?_some h⟩

theorem findOrder_none {k : Nat} {os : List Order} : findOrder k os = none ↔ ∀ o ∈ os, o.key ≠ k := by
  simp [findOrder]

theorem findOrder_isSome {k : Nat} {os : List Order} : (findOrder k os).isSome = true ↔ ∃ o ∈ os, o.key = k := by
  simp [findOrder]

theorem mem_eraseOrder {k : Nat} {os : List Order} {p : Order} : p ∈ eraseOrder k os ↔ p ∈ os ∧ p.key ≠ k := by
  simp [eraseOrder]

theorem eraseOrder_pairwise {os : List Order} (k : Nat) (h : os.Pairwise (fun a b => a.key < b.key)) :
    (eraseOrder k os).Pairwise (fun a b => a.key < b.key) :=
  h.sublist List.filter_sublist

theorem mem_insertOrder {o : Order} {os : List Order} (h : os.Pairwise (fun a b => a.key < b.key)) (p : Order) :
    p ∈ insertOrder o os ↔ p = o ∨ (p ∈ os ∧ p.key ≠ o.key) := by
  induction os with
  | nil => simp [insertOrder]
  | cons q os ih =>
    obtain ⟨hq, hos⟩ := List.pairwise_cons.mp h
    unfold insertOrder
    split
    next hlt =>
      have hne : ∀ r ∈ q :: os, r.key ≠ o.key := by
        intro r hr
        obtain rfl | hr := List.mem_cons.mp hr
        · omega
        · have := hq r hr
          omega
      rw [List.mem_cons]
      exact or_congr_right ⟨fun hp => ⟨hp, hne p hp⟩, And.left⟩
    next hge =>
      split
      next heq =>
        have hne : ∀ r ∈ os, r.key ≠ o.key := fun r hr => by
          have := hq r hr
          omega
        simp only [List.mem_cons]
        refine or_congr_right ⟨fun hp => ⟨.inr hp, hne p hp⟩, ?_⟩
        rintro ⟨rfl | hp, hk⟩
        · exact absurd heq.symm hk
        · exact hp
      next hne =>
        simp only [List.mem_cons, ih hos]
        constructor
        · rintro (rfl | rfl | ⟨hp, hk⟩)
          · exact .inr ⟨.inl rfl, fun hk => hne hk.symm⟩
          · exact .inl rfl
          · exact .inr ⟨.inr hp, hk⟩
        · rintro (rfl | ⟨rfl | hp, hk⟩)
          · exact .inr (.inl rfl)
          · exact .inl rfl
          · exact .inr (.inr ⟨hp, hk⟩)

theorem insertOrder_pairwise {o : Order} {os : List Order} (h : os.Pairwise (fun a b => a.key < b.key)) :
    (insertOrder o os).Pairwise (fun a b => a.key < b.key) := by
  induction os with
  | nil => simp [insertOrder]
  | cons q os ih =>
    obtain ⟨hq, hos⟩ := List.pairwise_cons.mp h
    unfold insertOrder
    split
    next hlt =>
      refine List.pairwise_cons.mpr ⟨fun r hr => ?_, h⟩
      obtain rfl | hr := List.mem_cons.mp hr
      · exact hlt
      · exact hlt.trans (hq r hr)
    next hge =>
      split
      next heq => exact List.pairwise_cons.mpr ⟨fun r hr => heq ▸ hq r hr, hos⟩
      next hne =>
        refine List.pairwise_cons.mpr ⟨fun r hr => ?_, ih hos⟩
        obtain rfl | ⟨hr, -⟩ := (mem_insertOrder hos r).mp hr
        · omega
        · exact hq r hr

theorem insertOrder_length {o : Order} {os : List Order} (h : ∀ p ∈ os, p.key ≠ o.key) :
    (insertOrder o os).length = os.length + 1 := by
  induction os with
  | nil => rfl
  | cons q os ih =>
    obtain ⟨hq, hos⟩ := List.forall_mem_cons.mp h
    have hq : o.key ≠ q.key := hq.symm
    unfold insertOrder
    by_cases hlt : o.key < q.key
    · simp [hlt]
    · simp [hlt, hq, ih hos]

/-! ### Requests on the table -/

theorem State.serves.servesOrders_iff {s : State} (h : s.serves) : s.servesOrders = true ↔ s.port.mode ≠ .uninit := by
  have hm := h.2
  unfold State.servesOrders
  revert hm
  cases s.port.mode <;> simp

@[simp] theorem State.inFrame_servesOrders (s : State) : s.inFrame.servesOrders = s.servesOrders := by
  simp [State.servesOrders]

@[simp] theorem State.inFrame_anchorOpen (s : State) (b : Start) : s.inFrame.anchorOpen b = s.anchorOpen b := by
  cases b <;> simp [State.anchorOpen]

/-- The table written whole. -/
def State.setOrders (s : State) (os : List Order) : State := { s with orders := os }

theorem State.inFrame_setOrders (s : State) (os : List Order) : s.inFrame.setOrders os = (s.setOrders os).inFrame := by
  rw [State.inFrame_of_port (s := s) (t := s.setOrders os) rfl, State.inFrame_eq s]
  rfl

theorem hostKey_iff (k : Nat) : hostKey k = true ↔ 1 ≤ k ∧ k ≤ 240 := by simp [hostKey]

theorem anyKey_iff (k : Nat) : anyKey k = true ↔ 1 ≤ k ∧ k ≤ 244 := by simp [anyKey]

theorem State.anchorOpen_false {s : State} {b : Start} :
    s.anchorOpen b = false ↔ ∃ i n off, b = .anchored i n off ∧ s.account i = none := by
  cases b <;> simp [State.anchorOpen]

theorem State.anchorOpen_true {s : State} {b : Start} :
    s.anchorOpen b = true ↔ ∀ i n off, b = .anchored i n off → s.account i ≠ none := by
  cases b <;> simp [State.anchorOpen, Option.isSome_iff_ne_none]

section
variable {s : State} {k : Nat} {f : Order → State × Reply}

theorem State.withOrder_unserved (h : s.servesOrders = false) : s.withOrder k f = s.refuse .wrongState := by
  simp [State.withOrder, h]

theorem State.withOrder_badKey (h : s.servesOrders = true) (hk : anyKey k = false) :
    s.withOrder k f = s.refuse .badField := by
  simp [State.withOrder, h, hk]

theorem State.withOrder_noKey (h : s.servesOrders = true) (hk : anyKey k = true) (hn : findOrder k s.orders = none) :
    s.withOrder k f = s.refuse .noSuchKey := by
  simp [State.withOrder, h, hk, hn]

theorem State.withOrder_eq {o : Order} (h : s.servesOrders = true) (hk : anyKey k = true)
    (ho : findOrder k s.orders = some o) : s.withOrder k f = f o := by
  simp [State.withOrder, h, hk, ho]

end

/-- Table 11: how the requests that look an order up by its key are refused. -/
theorem refuses_withOrder {s : State} {c : Instr} {k : Nat} {f : State → Order → State × Reply} (h : s.serves)
    (hc : exec c s = .next (s.takeFrame (fun s => s.withOrder k (f s)))) :
    (s.port.mode = .uninit → s.refuses c .wrongState) ∧
    (s.port.mode ≠ .uninit → k = 0 ∨ 244 < k → s.refuses c .badField) ∧
    (s.port.mode ≠ .uninit → 1 ≤ k → k ≤ 244 → (∀ o ∈ s.orders, o.key ≠ k) → s.refuses c .noSuchKey) := by
  refine ⟨fun hm => refuses_of h hc ?_, fun hm hk => refuses_of h hc ?_, fun hm h1 h2 hn => refuses_of h hc ?_⟩
  · refine State.withOrder_unserved ?_
    rw [State.inFrame_servesOrders, ← Bool.not_eq_true, h.servesOrders_iff, not_not]
    exact hm
  · refine State.withOrder_badKey (by simpa using h.servesOrders_iff.mpr hm) ?_
    rw [← Bool.not_eq_true, anyKey_iff]
    omega
  · exact State.withOrder_noKey (by simpa using h.servesOrders_iff.mpr hm) ((anyKey_iff k).mpr ⟨h1, h2⟩)
      (by simpa using findOrder_none.mpr hn)

/-- A request on the order of a key that is there. -/
theorem withOrder_inFrame {s : State} {k : Nat} {o : Order} {f : State → Order → State × Reply} (h : s.serves)
    (ho : findOrder k s.orders = some o) (hm : s.port.mode ≠ .uninit) (h1 : 1 ≤ k) (h2 : k ≤ 244) :
    s.inFrame.withOrder k (f s.inFrame) = f s.inFrame o :=
  State.withOrder_eq (by simpa using h.servesOrders_iff.mpr hm) ((anyKey_iff k).mpr ⟨h1, h2⟩) (by simpa using ho)

/-- Settles O14. -/
theorem olookAndOlistReport : Obligations.OlookAndOlistReport := by
  unfold Obligations.OlookAndOlistReport
  intro s h
  have holook : ∀ key : Byte, exec (.olook key) s =
      .next (s.takeFrame (fun s => s.withOrder key.toNat (fun o => (s, done (.order o))))) := fun _ => rfl
  refine ⟨fun hm => ⟨fun key => (refuses_withOrder h (holook key)).1 hm, refuses_of h rfl ?_⟩, fun hm => ⟨?_, ?_, ?_, ?_⟩⟩
  · simp [reqOlist, State.servesOrders, hm]
  · exact fun key hk => (refuses_withOrder h (holook key)).2.1 hm hk
  · exact fun key h1 h2 hn => (refuses_withOrder h (holook key)).2.2 hm h1 h2 hn
  · intro key o ho h1 h2
    obtain ⟨hmem, hkey⟩ := findOrder_some ho
    exact ⟨hmem, hkey, reports_of h (holook key)
      (withOrder_inFrame (f := fun s o => (s, done (.order o))) h ho hm h1 h2)⟩
  · have hs : s.servesOrders = true := h.servesOrders_iff.mpr hm
    have hf : reqOlist s.inFrame = (s.inFrame, done (.orders (s.orders.map (fun o => (o.key, o.load, o.state))))) := by
      simp [reqOlist, hs]
    obtain ⟨ha, hfr⟩ := State.takeFrame_within h hf
    refine ⟨_, rfl, _, ha, hfr, fun hlaw => ⟨by simpa using hlaw.2.1, ?_⟩, by simp, fun row => ?_⟩
    · rw [List.pairwise_map]
      exact hlaw.1
    · simp [eq_comm]

/-- Settles O15. -/
theorem oretireRemovesTheOrder : Obligations.OretireRemovesTheOrder := by
  unfold Obligations.OretireRemovesTheOrder
  refine ⟨fun key s h => ?_, fun o os hos => ⟨insertOrder_pairwise hos, mem_insertOrder hos, insertOrder_length,
    eraseOrder_pairwise _ hos, fun p => mem_eraseOrder⟩⟩
  have hexec : exec (.oretire key) s = .next (s.takeFrame (reqOretire key)) := rfl
  obtain ⟨hmode, hkey, hnone⟩ := refuses_withOrder h hexec
  refine ⟨hmode, hkey, fun hm h1 h2 => ⟨hnone hm h1 h2, fun o ho => ?_⟩⟩
  have hf : reqOretire key s.inFrame =
      ((s.setOrders (eraseOrder key.toNat s.orders)).inFrame.pass, done (.retired key.toNat o.state)) := by
    rw [← State.inFrame_setOrders]
    refine (withOrder_inFrame (f := fun s o => ((s.setOrders (eraseOrder key.toNat s.orders)).pass,
      done (.retired o.key o.state))) h ho hm h1 h2).trans ?_
    rw [(findOrder_some ho).2, s.inFrame_records.2.1]
  obtain ⟨ha, hp⟩ := State.takeFrame_pass (work := { s with orders := eraseOrder key.toNat s.orders }) h h.1 hf
  refine ⟨_, hexec, ha, ?_, hp⟩
  rw [hp.1]
  intro p hp
  obtain ⟨q, hq, rfl⟩ := Reading.mem_run_orders hp
  obtain ⟨r, hr, rfl⟩ := List.mem_map.mp hq
  exact (mem_eraseOrder.mp (List.mem_filter.mp hr).1).2

/-! ### What an order's arguments store -/

theorem clampInt_eq {lo hi : Int} (h : lo ≤ hi) (x : Int) : clampInt lo hi x = max lo (min hi x) := by
  unfold clampInt
  split
  · omega
  · split <;> omega

theorem clampInt_ne {lo hi : Int} (h : lo ≤ hi) (x : Int) : clampInt lo hi x ≠ x ↔ x < lo ∨ hi < x := by
  rw [clampInt_eq h]
  omega

theorem clampNat_ne {lo hi : Nat} (h : lo ≤ hi) (x : Nat) : clampNat lo hi x ≠ x ↔ x < lo ∨ hi < x := by
  unfold clampNat
  split
  · omega
  · split <;> omega

/-- R5: how a target is stored, and when it was clamped. -/
theorem targetArg_stored (x : TargetArg) :
    x.store .heater = .setpoint (max 50 (min 300 x.value)) ∧
    (x.clamped .heater = true ↔ x.value < 50 ∨ 300 < x.value) ∧
    x.store .fridge = .setpoint (max (-200) (min 100 x.value)) ∧
    (x.clamped .fridge = true ↔ x.value < -200 ∨ 100 < x.value) ∧
    ∀ load, load ≠ .heater → load ≠ .fridge →
      x.store load = .light (max 0 (min 1000 x.value)).toNat (min 1800 x.fade) ∧
      (x.clamped load = true ↔ x.value < 0 ∨ 1000 < x.value ∨ 1800 < x.fade) := by
  have hlevel := clampInt_ne (lo := 0) (hi := 1000) (by omega) x.value
  have hfade := clampNat_ne (lo := 0) (hi := 1800) (by omega) x.fade
  refine ⟨?_, ?_, ?_, ?_, fun load hh hf => ?_⟩
  · simp only [TargetArg.store, clampInt_eq (show (50 : Int) ≤ 300 by omega)]
  · simp only [TargetArg.clamped, decide_eq_true_iff, clampInt_ne (show (50 : Int) ≤ 300 by omega)]
  · simp only [TargetArg.store, clampInt_eq (show (-200 : Int) ≤ 100 by omega)]
  · simp only [TargetArg.clamped, decide_eq_true_iff, clampInt_ne (show (-200 : Int) ≤ 100 by omega)]
  · have hstore : x.store load = .light (clampInt 0 1000 x.value).toNat (clampNat 0 1800 x.fade) := by
      cases load <;> simp_all [TargetArg.store]
    have hclamped : x.clamped load = true ↔ clampInt 0 1000 x.value ≠ x.value ∨ clampNat 0 1800 x.fade ≠ x.fade := by
      cases load <;> simp_all [TargetArg.clamped]
    refine ⟨?_, ?_⟩
    · rw [hstore, clampInt_eq (by omega), clampNat_zero, min_comm x.fade]
    · rw [hclamped, hlevel, hfade]
      omega

/-- R6: how a start is stored, and when its offset was clamped. -/
theorem startArg_anchored (n : Nat) (anchor : Option AnchorName) (offset : Int) :
    (slotOf n = none ∨ anchor = none → (StartArg.anchored n anchor offset).store = none) ∧
    (∀ i, slotOf n = some i → ∀ name, anchor = some name →
      (StartArg.anchored n anchor offset).store = some (.anchored i name (max (-720) (min 720 offset)))) ∧
    ((StartArg.anchored n anchor offset).clamped = true ↔ offset < -720 ∨ 720 < offset) := by
  refine ⟨?_, fun i hi name ha => ?_, ?_⟩
  · rintro (h | h) <;> simp [StartArg.store, h]
  · simp only [StartArg.store, hi, ha, clampInt_eq (show (-720 : Int) ≤ 720 by omega)]
  · simp only [StartArg.clamped, decide_eq_true_iff, clampInt_ne (show (-720 : Int) ≤ 720 by omega)]

theorem finishArg_duration (n : Nat) :
    (1 ≤ n → n ≤ 1440 → (FinishArg.duration n).store = some (.duration n)) ∧
    (n < 1 ∨ 1440 < n → (FinishArg.duration n).store = none) := by
  refine ⟨fun h1 h2 => if_pos ⟨h1, h2⟩, fun h => if_neg fun hn => ?_⟩
  obtain ⟨h1, h2⟩ := hn
  exact h.elim h1.not_gt h2.not_gt

theorem finishAfterNow_iff (now : Nat) (finish : Finish) :
    finishAfterNow now finish = true ↔ ∀ e, finish = .absolute e → now < e := by
  cases finish <;> simp [finishAfterNow]

theorem finishAfterStart_iff (start : Start) (finish : Finish) :
    finishAfterStart start finish = true ↔ ∀ b e, start = .absolute b → finish = .absolute e → b < e := by
  cases start <;> cases finish <;> simp [finishAfterStart]

/-! ### OPLACE and OAMEND -/

/-- R18, R20: the pass that follows a change of the table, and the reply with the order's state after it. -/
def State.placed (s : State) (clamped : Bool) (key : Nat) : State × Reply :=
  (s.pass, doneIf clamped (.placed key (s.pass.orderState key)))

theorem State.takeFrame_placed {s : State} {os : List Order} {f : State → State × Reply} {clamped : Bool} {key : Nat}
    (h : s.serves) (hf : f s.inFrame = (s.inFrame.setOrders os).placed clamped key) :
    (s.takeFrame f).answers
      (doneIf clamped (.placed key ((findOrder key (s.takeFrame f).orders).map Order.state))) ∧
    (s.setOrders os).afterPass (s.takeFrame f) := by
  rw [State.inFrame_setOrders] at hf
  obtain ⟨ha, hp⟩ := State.takeFrame_pass (work := s.setOrders os) (f := f) h h.1 hf
  refine ⟨?_, hp⟩
  rw [State.takeFrame_served s f h, hf] at ha ⊢
  exact ha

/-- Table 11: what is left to check of an OPLACE whose fields are within their values. -/
theorem reqOplace_fields {a : PlaceArg} {s : State} {load : Load} {cls : OrderClass} {start : Start} {finish : Finish}
    (hs : s.servesOrders = true) (hk : hostKey a.key.toNat = true) (hl : a.load = some load) (hc : a.cls = some cls)
    (hb : a.start.store = some start) (he : a.finish.store = some finish) :
    reqOplace a s =
      if !(finishAfterNow s.clock.minute finish && finishAfterStart start finish) then s.refuse .badField
      else if !s.anchorOpen start then s.refuse .noSuchAccount
      else if (findOrder a.key.toNat s.orders).isSome then s.refuse .keyInUse
      else if orderLimit ≤ s.orders.length then s.refuse .tableFull
      else
        (s.setOrders (insertOrder
            (newOrder a.key.toNat .host load cls (a.target.store load) start finish s.clock.minute) s.orders)).placed
          (PlaceArg.clamped a load) a.key.toNat := by
  simp [reqOplace, State.placed, State.setOrders, hs, hk, hl, hc, hb, he]

/-- Settles O12. -/
theorem oplaceEntersTheOrder : Obligations.OplaceEntersTheOrder := by
  unfold Obligations.OplaceEntersTheOrder
  refine ⟨⟨targetArg_stored, ⟨rfl, rfl, rfl, fun m => ⟨rfl, rfl⟩, startArg_anchored⟩, rfl, rfl, fun m => rfl,
    finishArg_duration⟩, fun a s h => ⟨fun hm => ?_, fun hm hbad => ?_, ?_⟩⟩
  · refine refuses_of h (f := reqOplace a) rfl ?_
    simp [reqOplace, State.servesOrders, hm]
  · refine refuses_of h (f := reqOplace a) rfl ?_
    have hs : s.inFrame.servesOrders = true := by simpa using h.servesOrders_iff.mpr hm
    have hkey : hostKey a.key.toNat = true → ¬(a.key.toNat = 0 ∨ 240 < a.key.toNat) := by
      rw [hostKey_iff]
      omega
    unfold reqOplace
    simp only [hs, Bool.not_true, Bool.false_eq_true, if_false]
    split
    · rfl
    next hk =>
      have hk := hkey (by simpa using hk)
      split
      · simp_all
      · rfl
  · intro hm h1 h2 load hl cls hc start hb finish he
    have hs : s.inFrame.servesOrders = true := by simpa using h.servesOrders_iff.mpr hm
    have hfields := reqOplace_fields hs ((hostKey_iff _).mpr ⟨h1, h2⟩) hl hc hb he
    rw [State.inFrame_anchorOpen, s.inFrame_records.2.1, s.inFrame_records.1] at hfields
    have horder : (finishAfterNow s.clock.minute finish && finishAfterStart start finish) = true ↔
        ∀ e, finish = .absolute e → s.clock.minute < e ∧ ∀ b, start = .absolute b → b < e := by
      rw [Bool.and_eq_true, finishAfterNow_iff, finishAfterStart_iff]
      exact ⟨fun ⟨hn, hb⟩ e he => ⟨hn e he, fun b hs => hb b e hs he⟩,
        fun ho => ⟨fun e he => (ho e he).1, fun b e hs he => (ho e he).2 b hs⟩⟩
    refine ⟨?_, fun hok => ?_⟩
    · rintro ⟨e, rfl, hlate⟩
      refine refuses_of h (f := reqOplace a) rfl (hfields.trans (if_pos ?_))
      rw [Bool.not_eq_true', ← Bool.not_eq_true, horder]
      intro ho
      obtain ⟨hnow, hstart⟩ := ho e rfl
      obtain hle | ⟨b, hb, hle⟩ := hlate
      · omega
      · exact absurd (hstart b hb) (by omega)
    · have hfields := hfields.trans (if_neg (by simp [horder.mpr hok]))
      refine ⟨fun hshut => ?_, fun hopen => ?_⟩
      · exact refuses_of h (f := reqOplace a) rfl (hfields.trans (if_pos (by simp [State.anchorOpen_false.mpr hshut])))
      · have hfields := hfields.trans (if_neg (by simp [State.anchorOpen_true.mpr hopen]))
        refine ⟨fun hused => ?_, fun hfree hfull => ?_, fun hfree hroom => ?_⟩
        · exact refuses_of h (f := reqOplace a) rfl (hfields.trans (if_pos (findOrder_isSome.mpr hused)))
        · have hnone : ¬(findOrder a.key.toNat s.orders).isSome = true := by
            simpa [findOrder_isSome] using hfree
          exact refuses_of h (f := reqOplace a) rfl (hfields.trans ((if_neg hnone).trans (if_pos hfull)))
        · have hnone : ¬(findOrder a.key.toNat s.orders).isSome = true := by
            simpa [findOrder_isSome] using hfree
          have hfields := hfields.trans ((if_neg hnone).trans (if_neg (Nat.not_le.mpr hroom)))
          exact ⟨_, rfl, State.takeFrame_placed h hfields⟩

theorem amended_eq {α β : Type} (arg : Option α) (kept : β) (store : α → Option β) :
    amended arg kept store = (arg.map store).getD (some kept) := by
  cases arg <;> rfl

theorem amended_cls (arg : Option (Option OrderClass)) (kept : OrderClass) :
    amended arg kept id = arg.getD (some kept) := by
  cases arg <;> rfl

theorem amendOrdered_iff (now : Nat) (carried : Bool) (start : Start) (finish : Finish) :
    amendOrdered now carried start finish = true ↔
      (carried = true → ∀ e, finish = .absolute e → now < e) ∧
      ∀ b e, start = .absolute b → finish = .absolute e → b < e := by
  rw [amendOrdered, Bool.and_eq_true, finishAfterStart_iff, ← finishAfterNow_iff]
  cases carried <;> simp

theorem State.amendAnchor_iff (s : State) (carried : Bool) (start : Start) :
    s.amendAnchor carried start = true ↔
      (carried = true → ∀ i n off, start = .anchored i n off → s.account i ≠ none) := by
  rw [State.amendAnchor, ← State.anchorOpen_true]
  cases carried <;> simp

/-- R20: what is left to check of an OAMEND whose order is there and whose fields are within their values. -/
theorem reqOamend_fields {a : AmendArg} {s : State} {o : Order} {cls : OrderClass} {start : Start} {finish : Finish}
    (hs : s.servesOrders = true) (hk : anyKey a.key.toNat = true) (ho : findOrder a.key.toNat s.orders = some o)
    (hl : a.load = some o.load) (hc : a.cls.getD (some o.cls) = some cls)
    (hb : (a.start.map StartArg.store).getD (some o.start) = some start)
    (he : (a.finish.map FinishArg.store).getD (some o.finish) = some finish) :
    reqOamend a s =
      if !amendOrdered s.clock.minute a.finish.isSome start finish then s.refuse .badField
      else if !s.amendAnchor a.start.isSome start then s.refuse .noSuchAccount
      else
        (s.setOrders (insertOrder (amendOrder a o cls start finish s.clock.minute) s.orders)).placed
          (AmendArg.clamped a o.load) a.key.toNat := by
  rw [← amended_cls] at hc
  rw [← amended_eq] at hb he
  simp [reqOamend, State.placed, State.setOrders, hs, hk, ho, hl, hc, hb, he]

/-- Settles O13. -/
theorem oamendRewritesTheOrder : Obligations.OamendRewritesTheOrder := by
  unfold Obligations.OamendRewritesTheOrder
  intro a s h
  have hserves : s.port.mode ≠ .uninit → s.inFrame.servesOrders = true := fun hm => by
    simpa using h.servesOrders_iff.mpr hm
  have hanchor : ∀ c b, s.inFrame.amendAnchor c b = s.amendAnchor c b := fun c b => by simp [State.amendAnchor]
  refine ⟨fun hm => ?_, fun hm hk => ?_, fun hm h1 h2 hn => ?_, fun o ho hm h1 h2 => ⟨fun hbad => ?_, ?_⟩⟩
  · refine refuses_of h (f := reqOamend a) rfl ?_
    simp [reqOamend, State.servesOrders, hm]
  · refine refuses_of h (f := reqOamend a) rfl ?_
    have hkey : anyKey a.key.toNat = false := by
      rw [← Bool.not_eq_true, anyKey_iff]
      omega
    simp [reqOamend, hserves hm, hkey]
  · refine refuses_of h (f := reqOamend a) rfl ?_
    simp [reqOamend, hserves hm, (anyKey_iff _).mpr ⟨h1, h2⟩, hn]
  · refine refuses_of h (f := reqOamend a) rfl ?_
    by_cases hl : a.load = some o.load
    · obtain hl' | hc | ⟨x, hb, hx⟩ | ⟨x, he, hx⟩ := hbad
      · exact absurd hl hl'
      · simp [reqOamend, hserves hm, (anyKey_iff _).mpr ⟨h1, h2⟩, ho, hl, hc, amended]
      · simp [reqOamend, hserves hm, (anyKey_iff _).mpr ⟨h1, h2⟩, ho, hl, hb, hx, amended]
      · simp [reqOamend, hserves hm, (anyKey_iff _).mpr ⟨h1, h2⟩, ho, hl, he, hx, amended]
    · simp [reqOamend, hserves hm, (anyKey_iff _).mpr ⟨h1, h2⟩, ho, hl]
  · intro hl cls hc start hb finish he
    have hfields := reqOamend_fields (hserves hm) ((anyKey_iff _).mpr ⟨h1, h2⟩) (by simpa using ho) hl hc hb he
    rw [hanchor, s.inFrame_records.2.1, s.inFrame_records.1] at hfields
    have horder := amendOrdered_iff s.clock.minute a.finish.isSome start finish
    have hopen := s.amendAnchor_iff a.start.isSome start
    rw [Option.isSome_iff_ne_none] at horder hopen
    refine ⟨fun hlate => ?_, fun hnow hstart => ⟨fun hshut => ?_, fun hopened => ?_⟩⟩
    · refine refuses_of h (f := reqOamend a) rfl (hfields.trans (if_pos ?_))
      rw [Bool.not_eq_true', ← Bool.not_eq_true, horder]
      rintro ⟨hn, hs⟩
      obtain ⟨hf, e, hfe, hle⟩ | ⟨b, e, hsb, hfe, hle⟩ := hlate
      · exact absurd (hn hf e hfe) (by omega)
      · exact absurd (hs b e hsb hfe) (by omega)
    · have hfields := hfields.trans (if_neg (by simp [horder.mpr ⟨hnow, hstart⟩]))
      refine refuses_of h (f := reqOamend a) rfl (hfields.trans (if_pos ?_))
      obtain ⟨hs, i, n, off, hi, hnone⟩ := hshut
      rw [Bool.not_eq_true', ← Bool.not_eq_true, hopen]
      exact fun ha => ha hs i n off hi hnone
    · have hfields := hfields.trans ((if_neg (by simp [horder.mpr ⟨hnow, hstart⟩])).trans
        (if_neg (by simp [hopen.mpr hopened])))
      obtain ⟨ha, hp⟩ := State.takeFrame_placed h hfields
      refine ⟨_, rfl, ?_, ?_⟩
      · convert ha using 2
        unfold AmendArg.clamped
        cases a.target <;> cases a.start <;> rfl
      · convert hp using 1
        unfold State.setOrders amendOrder
        cases a.target <;> rfl

end Sys2Proof.Machine
end

section
/-! PROOF. What a pass makes of the orders: the candidate of a load, the resolved ends, the states. -/
namespace Sys2Proof.Machine

/-! ### The candidate of a load -/

theorem firstBy_none {key : Order → List Nat} {os : List Order} : firstBy key os = none ↔ os = [] := by
  cases os with
  | nil => simp [firstBy]
  | cons o os =>
    simp only [firstBy, reduceCtorEq, iff_false]
    split
    · simp
    · split <;> simp

theorem firstBy_le {key : Order → List Nat} {os : List Order} {c : Order} (h : firstBy key os = some c) :
    ∀ o ∈ os, key c ≤ key o := by
  induction os generalizing c with
  | nil => simp
  | cons o os ih =>
    simp only [firstBy] at h
    split at h
    next hn =>
      cases h
      simp [firstBy_none.mp hn]
    next p hp =>
      have hle := ih hp
      rw [List.forall_mem_cons]
      split at h
      next hc =>
        cases h
        have hc := (lexLe_iff_le _ _).mp hc
        exact ⟨le_rfl, fun q hq => hc.trans (hle q hq)⟩
      next hc =>
        cases h
        rw [lexLe_iff_le] at hc
        exact ⟨(le_total _ _).resolve_left hc, hle⟩

theorem Reading.candidate_none {r : Reading} {os : List Order} {load : Load} :
    r.candidate os load = none ↔
      r.unavailable load = true ∨ ∀ o ∈ os, o.load = load → eligible r.now o = false := by
  unfold Reading.candidate
  cases hu : r.unavailable load
  · simp [firstBy_none]
  · simp

theorem Reading.candidate_le {r : Reading} {os : List Order} {load : Load} {c : Order}
    (h : r.candidate os load = some c) :
    ∀ o ∈ os, o.load = load → eligible r.now o = true → candidateKey c ≤ candidateKey o := by
  unfold Reading.candidate at h
  split at h
  · cases h
  · intro o ho hl he
    exact firstBy_le h o (by simp [ho, hl, he])

theorem OrderClass.rank_inj {a b : OrderClass} : a.rank = b.rank ↔ a = b := by
  cases a <;> cases b <;> simp [OrderClass.rank]

/-- R35: the five tests, as the lexicographic order of the candidate's key says them. -/
theorem candidateKey_le {c o : Order} (h : candidateKey c ≤ candidateKey o) :
    keyGroup c.key ≤ keyGroup o.key ∧
    (keyGroup c.key = keyGroup o.key →
      (keyGroup c.key = 2 → c.cls.rank ≤ o.cls.rank) ∧
      ((keyGroup c.key = 2 → c.cls = o.cls) →
        (o.state = .active → c.state = .active) ∧
        ((o.state = .active ↔ c.state = .active) →
          c.resolvedStart.getD 0 ≤ o.resolvedStart.getD 0 ∧
          (c.resolvedStart.getD 0 = o.resolvedStart.getD 0 → c.key ≤ o.key)))) := by
  rw [← lexLe_iff_le] at h
  simp only [candidateKey, lexLe_cons_cons, lexLe_nil, and_true, Order.incumbent, decide_eq_true_iff] at h
  refine ⟨by omega, fun hg => ?_⟩
  obtain hlt | ⟨-, h⟩ := h
  · omega
  rw [← hg] at h
  refine ⟨fun h2 => ?_, fun hc => ?_⟩
  · rw [if_pos h2, if_pos h2] at h
    omega
  · have hclass : (if keyGroup c.key = 2 then c.cls.rank else 0) = (if keyGroup c.key = 2 then o.cls.rank else 0) := by
      split
      next h2 => rw [hc h2]
      · rfl
    rw [hclass] at h
    obtain hlt | ⟨-, h⟩ := h
    · omega
    by_cases hca : c.state = .active <;> by_cases hoa : o.state = .active <;> simp [hca, hoa] at h ⊢
    all_goals omega

/-! ### The orders after a pass -/

/-- A pass keeps what it does not resolve, and neither eligibility nor load depend on the state it gives. -/
theorem Reading.settleOrder_eq (r : Reading) (cs ks : List Nat) (o : Order) :
    r.settleOrder cs ks o =
      { o with
        state := r.settleState cs ks o, forecast := (r.settleOrder cs ks o).forecast
        admittedAt := (r.settleOrder cs ks o).admittedAt } := rfl

@[simp] theorem Reading.eligible_settleOrder (r : Reading) (now : Nat) (cs ks : List Nat) (o : Order) :
    eligible now (r.settleOrder cs ks o) = eligible now o := rfl

@[simp] theorem Reading.settleOrder_load (r : Reading) (cs ks : List Nat) (o : Order) :
    (r.settleOrder cs ks o).load = o.load := rfl

@[simp] theorem Reading.settleOrder_key (r : Reading) (cs ks : List Nat) (o : Order) :
    (r.settleOrder cs ks o).key = o.key := rfl

@[simp] theorem Reading.settleOrder_state (r : Reading) (cs ks : List Nat) (o : Order) :
    (r.settleOrder cs ks o).state = r.settleState cs ks o := rfl

theorem Reading.settleState_pending (r : Reading) (cs ks : List Nat) (o : Order) :
    r.settleState cs ks o = .pending ↔ eligible r.now o = false := by
  unfold Reading.settleState
  repeat' split
  all_goals simp_all

theorem Reading.settleState_blocked (r : Reading) (cs ks : List Nat) (o : Order) :
    r.settleState cs ks o = .blocked ↔ eligible r.now o = true ∧ r.unavailable o.load = true := by
  unfold Reading.settleState
  repeat' split
  all_goals simp_all

theorem Reading.settleState_standby (r : Reading) (cs ks : List Nat) (o : Order) :
    r.settleState cs ks o = .standby ↔ (eligible r.now o = true ∧ r.unavailable o.load = false) ∧ o.key ∉ cs := by
  unfold Reading.settleState
  repeat' split
  all_goals simp_all

theorem Reading.unavailable_iff (r : Reading) (load : Load) :
    r.unavailable load = true ↔
      (load = .heater ∧ r.heater = .lockout) ∨ (load = .fridge ∧ r.fridge = .fault) := by
  cases load <;> simp [Reading.unavailable]

/-- An ACTIVE or WAITING order is the candidate of its load. -/
theorem Reading.candidate_of_admissible {r : Reading} {os : List Order} (hn : (os.map Order.key).Nodup) {p : Order}
    (hp : p ∈ os) {ks : List Nat}
    (h : r.settleState ((r.candidates os).map Order.key) ks p = .active ∨
      r.settleState ((r.candidates os).map Order.key) ks p = .waiting) :
    r.candidate os p.load = some p := by
  have hk : p.key ∈ (r.candidates os).map Order.key := by
    rw [Reading.settleState_active, Reading.settleState_waiting] at h
    obtain ⟨-, hk, -⟩ | ⟨-, hk, -⟩ := h <;> exact hk
  obtain ⟨c, hc, hck⟩ := List.mem_map.mp hk
  obtain ⟨load, hload⟩ := (r.mem_candidates os c).mp hc
  obtain rfl := r.eq_of_candidate_key hn hp hc hck
  obtain ⟨-, rfl, -⟩ := Reading.candidate_spec hload
  exact hload

theorem Reading.mem_resolved {r : Reading} {os : List Order} {o : Order} :
    o ∈ r.resolved os ↔ ∃ p ∈ os, r.expired p = false ∧ o = r.resolve p := by
  simp only [Reading.resolved, List.mem_map, List.mem_filter, Bool.not_eq_true']
  exact ⟨fun ⟨p, ⟨hp, he⟩, ho⟩ => ⟨p, hp, he, ho.symm⟩, fun ⟨p, hp, he, ho⟩ => ⟨p, ⟨hp, he⟩, ho.symm⟩⟩

theorem Reading.expired_iff (r : Reading) (o : Order) :
    r.expired o = true ↔ ∃ e, resolveEnd r.accounts o = some e ∧ e ≤ r.now := by
  unfold Reading.expired
  cases resolveEnd r.accounts o <;> simp

theorem holdMinute_eq (x : Int) : holdMinute x = (max 0 (min (maxMinute : Int) x)).toNat := by
  rw [holdMinute, clampInt_eq (by decide)]

theorem resolveStart_eq (accounts : PerSlot (Option Account)) (p : Order) :
    resolveStart accounts p =
      (match p.start with
       | .immediate => some p.placedAt
       | .absolute m => some m
       | .anchored i name offset =>
         (accounts.get i).bind (fun a =>
           (match name, a.restEnd with
            | .restStart, _ => a.restStart
            | .restEnd, some (.expected m) => some m
            | .restEnd, some (.fixed m) => some m
            | .restEnd, none => none).map (fun m => (max 0 (min (maxMinute : Int) (m + offset))).toNat))) := by
  unfold resolveStart
  generalize p.start = start
  cases start with
  | immediate => rfl
  | absolute m => rfl
  | anchored i name offset =>
    cases ha : accounts.get i with
    | none => simp [ha]
    | some a =>
      cases name with
      | restStart => simp [ha, Account.anchor, holdMinute_eq]
      | restEnd =>
        cases he : a.restEnd with
        | none => simp [ha, he, Account.anchor]
        | some e => cases e <;> simp [ha, he, Account.anchor, holdMinute_eq, RestEnd.minute]

/-- R8 to R13, R48: what a pass writes of an order it leaves. -/
theorem Reading.mem_run_resolved {r : Reading} {os : List Order} {o : Order} (h : o ∈ (r.run os).orders) :
    ∃ p ∈ os, r.expired p = false ∧
      o = { p with
            state := o.state, resolvedStart := o.resolvedStart, resolvedEnd := o.resolvedEnd
            forecast := o.forecast, admittedAt := o.admittedAt } ∧
      o.resolvedStart = resolveStart r.accounts p ∧ o.resolvedEnd = resolveEnd r.accounts p ∧
      o.admittedAt = (if o.state = .active ∧ p.admittedAt = none then some r.now else p.admittedAt) := by
  obtain ⟨q, hq, rfl⟩ := Reading.mem_run_orders h
  obtain ⟨p, hp, he, rfl⟩ := Reading.mem_resolved.mp hq
  exact ⟨p, hp, he, rfl, rfl, rfl, rfl⟩

/-- Settles O16. -/
theorem passResolvesAndStatesOrders : Obligations.PassResolvesAndStatesOrders := by
  unfold Obligations.PassResolvesAndStatesOrders
  refine ⟨fun r os => ⟨fun o ho => ?_, fun p hp hgone => ?_, ?_⟩, fun r os hn o ho => ?_⟩
  · obtain ⟨p, hp, he, heq, hs, hf, ha⟩ := Reading.mem_run_resolved ho
    refine ⟨p, hp, heq, hs.trans (resolveStart_eq _ _), ?_, ha, fun e hoe => ?_⟩
    · rw [hf, hs]
      unfold resolveEnd
      cases p.finish <;> rfl
    · rw [← Bool.not_eq_true, r.expired_iff] at he
      by_contra hle
      exact he ⟨e, hf ▸ hoe, by omega⟩
  · rw [← r.expired_iff]
    by_contra he
    have hmem : r.resolve p ∈ r.resolved os := Reading.mem_resolved.mpr ⟨p, hp, by simpa using he, rfl⟩
    exact hgone _ (List.mem_map_of_mem hmem) rfl
  · simp [Reading.run, r.expired_iff]
  · have hl := r.resolved_keys hn
    obtain ⟨p, hp, ho⟩ := Reading.mem_run_orders ho
    obtain ⟨hact, hwait, -, hzero⟩ := r.settleOrder_spec _ hl _ rfl p hp o ho
    refine ⟨?_, ?_, fun ha hw => ?_, fun q hq hso hsq hload => ?_, fun hs => ?_, fun ha => ?_⟩
    · rw [ho]
      exact r.settleState_pending _ _ p
    · rw [ho, ← r.unavailable_iff]
      exact r.settleState_blocked _ _ p
    · refine hzero fun c hc hk => ?_
      by_cases hin : o.key ∈ (r.walk 0 (r.candidates (r.resolved os))).2
      · exact ha (hact.mpr hin)
      · exact hw (hwait.mpr ⟨⟨c, hc, hk⟩, hin⟩)
    · obtain ⟨q, hqm, rfl⟩ := Reading.mem_run_orders hq
      have hp' := Reading.candidate_of_admissible hl hp (ho ▸ hso)
      have hq' := Reading.candidate_of_admissible hl hqm hsq
      have hload : q.load = p.load := by rw [ho] at hload; exact hload
      rw [hload, hp'] at hq'
      obtain rfl := Option.some.inj hq'
      rw [ho]
    · rw [ho] at hs
      obtain ⟨⟨he, hu⟩, hk⟩ := (r.settleState_standby _ _ p).mp hs
      obtain ⟨c, hc⟩ : ∃ c, r.candidate (r.resolved os) p.load = some c := by
        rw [← Option.ne_none_iff_exists']
        intro hnone
        obtain hun | hne := Reading.candidate_none.mp hnone
        · rw [hu] at hun
          cases hun
        · rw [hne p hp rfl] at he
          cases he
      obtain ⟨hcm, hcl, -⟩ := Reading.candidate_spec hc
      have hck : ∃ x ∈ r.candidates (r.resolved os), x.key = c.key := ⟨c, (r.mem_candidates _ c).mpr ⟨_, hc⟩, rfl⟩
      refine ⟨_, List.mem_map_of_mem hcm, by rw [ho]; exact hcl, ?_⟩
      obtain ⟨hact, hwait, -⟩ := r.settleOrder_spec _ hl _ rfl c hcm _ rfl
      by_cases hin : c.key ∈ (r.walk 0 (r.candidates (r.resolved os))).2
      · exact .inl (hact.mpr hin)
      · exact .inr (hwait.mpr ⟨hck, hin⟩)
    · rw [ho] at ha ⊢
      simp only [Reading.settleOrder_state] at ha
      simp only [Reading.settleOrder, ha, true_and]
      split
      · simp
      · assumption

/-- Settles O17. -/
theorem candidateIsFirst : Obligations.CandidateIsFirst := by
  unfold Obligations.CandidateIsFirst
  refine ⟨fun r os load => ⟨Reading.candidate_none, fun c hc => ?_⟩, fun r os hn o ho => ?_⟩
  · obtain ⟨hm, hl, he, -⟩ := Reading.candidate_spec hc
    exact ⟨hm, hl, he, fun o ho hload helig => candidateKey_le (Reading.candidate_le hc o ho hload helig)⟩
  · have hl := r.resolved_keys hn
    obtain ⟨p, hp, ho⟩ := Reading.mem_run_orders ho
    have hkey : o.key = p.key := by rw [ho]; rfl
    have hload : o.load = p.load := by rw [ho]; rfl
    have helig : eligible r.now o = eligible r.now p := by rw [ho]; rfl
    have hstate : o.state = _ := congrArg Order.state ho
    have hactive (ha : o.state = .active) := (r.settleState_active _ _ p).mp (hstate ▸ ha)
    have hunavailable (ha : o.state = .active) := mt (r.unavailable_iff p.load).mpr (by simp [(hactive ha).1.2])
    refine ⟨?_, fun ha => ⟨?_, ?_, ?_, fun q hq hqa hql => ?_⟩⟩
    · rw [hkey, hload, helig]
      rw [ho, Reading.settleOrder_state, r.settleState_standby]
      constructor
      · rintro ⟨⟨he, hu⟩, hk⟩
        cases hc : r.candidate (r.resolved os) p.load with
        | none =>
          obtain hun | hne := Reading.candidate_none.mp hc
          · rw [hu] at hun
            cases hun
          · rw [hne p hp rfl] at he
            cases he
        | some c =>
          refine ⟨c, rfl, fun hck => hk ?_, he⟩
          rw [← hck]
          exact List.mem_map_of_mem ((r.mem_candidates _ c).mpr ⟨_, hc⟩)
      · rintro ⟨c, hc, hck, he⟩
        obtain ⟨hcm, hcl, hce, hcu⟩ := Reading.candidate_spec hc
        refine ⟨⟨he, hcl ▸ hcu⟩, fun hk => hck ?_⟩
        obtain ⟨d, hd, hdk⟩ := List.mem_map.mp hk
        obtain rfl := r.eq_of_candidate_key hl hp hd hdk
        obtain ⟨load, hdl⟩ := (r.mem_candidates _ d).mp hd
        obtain ⟨-, rfl, -⟩ := Reading.candidate_spec hdl
        rw [hdl] at hc
        rw [Option.some.inj hc]
    · rw [hload]
      exact (hactive ha).1.2
    · rw [hload]
      exact fun h => (hunavailable ha) (.inl h)
    · rw [hload]
      exact fun h => (hunavailable ha) (.inr h)
    · obtain ⟨q, hqm, rfl⟩ := Reading.mem_run_orders hq
      have hp' := Reading.candidate_of_admissible hl hp (.inl (hstate ▸ ha))
      have hq' := Reading.candidate_of_admissible hl hqm (.inl hqa)
      rw [Reading.settleOrder_load] at hql
      rw [hql, hload, hp'] at hq'
      rw [Reading.settleOrder_key, ← Option.some.inj hq', hkey]

end Sys2Proof.Machine
end

section
/-! PROOF. The warning list: the test for suppression, the selection of a burst, its end, and the acknowledgement. -/
namespace Sys2Proof.Machine

/-! ### One entry -/

theorem Entry.isPair_iff (e : Entry) (a : Source) (w : WarnType) : e.isPair a w = true ↔ e.source = a ∧ e.type = w := by
  simp [Entry.isPair]

theorem Entry.ready_iff (e : Entry) : e.ready = true ↔ e.state = .queued ∧ e.due = some 0 ∧ e.falling = false := by
  simp [Entry.ready, and_assoc]

theorem interval_ne_zero (w : WarnType) : w.interval ≠ some 0 := by
  cases w <;> decide

/-- An entry without an interval counts one burst alone. -/
theorem limit_of_interval_none {w : WarnType} (h : w.interval = none) : w.limit = some 1 := by
  revert h
  cases w <;> decide

theorem Entry.atLimit_iff (e : Entry) : e.atLimit = true ↔ ∃ n, e.type.limit = some n ∧ n ≤ e.bursts := by
  unfold Entry.atLimit
  split
  next n hn => simp [hn]
  next hn => simp [hn]

theorem Entry.countSilent_eq (e : Entry) : e.countSilent = e.silent := by
  have hl := e.countBurst.atLimit_iff
  unfold Entry.silent
  split
  next n hn =>
    have hb : e.countBurst.atLimit = true ↔ n ≤ gain 65535 e.bursts := hl.trans (by simp [Entry.countBurst, hn])
    simp only [Entry.countSilent, hb]
    rfl
  next hn =>
    have hb : ¬e.countBurst.atLimit = true := hl.not.mpr (by simp [Entry.countBurst, hn])
    simp only [Entry.countSilent, hb]
    rfl

theorem Entry.silent_pair (e : Entry) : e.silent.source = e.source ∧ e.silent.type = e.type := by
  unfold Entry.silent
  split
  · split <;> exact ⟨rfl, rfl⟩
  · exact ⟨rfl, rfl⟩

@[simp] theorem Entry.silent_isPair (e : Entry) (a : Source) (w : WarnType) : e.silent.isPair a w = e.isPair a w := by
  simp [Entry.isPair, e.silent_pair]

@[simp] theorem Entry.taken_isPair (e : Entry) (a : Source) (w : WarnType) : e.taken.isPair a w = e.isPair a w := rfl

/-- R107: an entry that counted its burst in silence waits a whole interval, or no longer at all. -/
theorem Entry.silent_not_ready (e : Entry) : e.silent.ready = false := by
  have hi := interval_ne_zero e.type
  unfold Entry.silent
  split
  · split <;> simp [Entry.ready, hi]
  · simp [Entry.ready, hi]

theorem Entry.taken_not_ready (e : Entry) : e.taken.ready = false := by simp [Entry.taken, Entry.ready]

theorem Entry.ranksFirst_refl (e : Entry) : e.ranksFirst e := .inr ⟨rfl, .inr ⟨rfl, le_rfl⟩⟩

/-! ### Suppression -/

theorem State.suppressed_congr {s t : State} (hm : t.port.mode = s.port.mode) (hq : t.quiet = s.quiet)
    (ha : t.accounts = s.accounts) (e : Entry) : t.suppressed e = s.suppressed e := by
  have hs : t.restingSource e.source = s.restingSource e.source := by
    unfold State.restingSource State.account
    rw [ha]
  rw [State.suppressed, State.suppressed, hm, hq, hs]

/-- Suppression looks at an entry's pair alone. -/
theorem State.suppressed_pair (s : State) {e x : Entry} (ha : x.source = e.source) (hw : x.type = e.type) :
    s.suppressed x = s.suppressed e := by
  rw [State.suppressed, State.suppressed, ha, hw]

/-- R107: the list after the suppressed due entries have counted in silence. -/
def State.tested (s : State) : List Entry :=
  s.warn.entries.map (fun e => if e.ready = true ∧ s.suppressed e = true then e.silent else e)

theorem State.testSuppression_eq (s : State) :
    s.testSuppression = { s with warn := { s.warn with entries := s.tested } } := by
  unfold State.testSuppression State.tested
  simp only [Entry.countSilent_eq, Bool.and_eq_true]

theorem State.mem_tested {s : State} {x : Entry} :
    x ∈ s.tested ↔
      (x ∈ s.warn.entries ∧ ¬(x.ready = true ∧ s.suppressed x = true)) ∨
      ∃ e ∈ s.warn.entries, (e.ready = true ∧ s.suppressed e = true) ∧ x = e.silent := by
  simp only [State.tested, List.mem_map]
  constructor
  · rintro ⟨e, he, rfl⟩
    split
    next h => exact .inr ⟨e, he, h, rfl⟩
    next h => exact .inl ⟨he, h⟩
  · rintro (⟨hx, h⟩ | ⟨e, he, h, rfl⟩)
    · exact ⟨x, hx, if_neg h⟩
    · exact ⟨e, he, if_pos h⟩

/-- What is due after the test is what was due and not suppressed. -/
theorem State.ready_tested {s : State} {x : Entry} :
    (x ∈ s.tested ∧ x.ready = true) ↔ x ∈ s.warn.entries ∧ x.ready = true ∧ s.suppressed x = false := by
  rw [State.mem_tested, ← Bool.not_eq_true]
  constructor
  · rintro ⟨⟨hx, h⟩ | ⟨e, -, -, rfl⟩, hr⟩
    · exact ⟨hx, hr, fun hs => h ⟨hr, hs⟩⟩
    · rw [e.silent_not_ready] at hr
      cases hr
  · rintro ⟨hx, hr, hs⟩
    exact ⟨.inl ⟨hx, fun h => hs h.2⟩, hr⟩

/-! ### Selection -/

theorem find?_first {α : Type} {r : α → α → Prop} (hrefl : ∀ x, r x x) {p : α → Bool} {l : List α} {e : α}
    (hl : l.Pairwise r) (h : l.find? p = some e) : ∀ y ∈ l, p y = true → r e y := by
  induction l with
  | nil => simp
  | cons x l ih =>
    obtain ⟨hx, hl⟩ := List.pairwise_cons.mp hl
    rw [List.find?_cons] at h
    split at h
    next hp =>
      cases h
      exact List.forall_mem_cons.mpr ⟨fun _ => hrefl _, fun y hy _ => hx y hy⟩
    next hp => exact List.forall_mem_cons.mpr ⟨fun hpx => by simp [hpx] at hp, ih hl h⟩

/-- R106, R107: the entry the chime takes is the highest-ranked due one that is not suppressed. -/
theorem State.dueEntry_some {s : State} {e : Entry} (h : s.dueEntry = some e) :
    e ∈ s.warn.entries ∧ e.ready = true ∧ s.suppressed e = false ∧
      ∀ x ∈ s.warn.entries, x.ready = true → s.suppressed x = false → e.ranksFirst x := by
  have hp := List.find?_some h
  simp only [Bool.and_eq_true, Bool.not_eq_true'] at hp
  refine ⟨(rankOrder_perm _).mem_iff.mp (List.mem_of_find?_eq_some h), hp.1, hp.2, fun x hx hr hs => ?_⟩
  exact find?_first Entry.ranksFirst_refl (rankOrder_pairwise _) h x ((rankOrder_perm _).mem_iff.mpr hx) (by simp [hr, hs])

theorem State.dueEntry_none {s : State} :
    s.dueEntry = none ↔ ∀ e ∈ s.warn.entries, e.ready = true → s.suppressed e = true := by
  simp [State.dueEntry, (rankOrder_perm _).mem_iff]

/-- R108: the state in which the burst of an entry begins. -/
def State.bursting (s : State) (e : Entry) : State :=
  { s with
    warn :=
      { s.warn with
        entries := s.warn.entries.map (fun x => if x.source = e.source ∧ x.type = e.type then x.taken else x)
        chime := .sounding e.source e.type e.type.tones true true }
    timers := { s.timers with t7 := s.timers.t7.write 200 400 } }

theorem State.beginBurst_eq (s : State) (e : Entry) : s.beginBurst e = s.bursting e := by
  have hmap : mapPair e.source e.type Entry.present s.warn.entries =
      s.warn.entries.map (fun x => if x.source = e.source ∧ x.type = e.type then x.taken else x) := by
    unfold mapPair
    simp only [Entry.isPair_iff]
    rfl
  unfold State.beginBurst State.bursting
  rw [hmap]
  rfl

theorem State.select_kept {s : State}
    (h : s.warn.chime ≠ .idle ∨ s.port.mode = .selfTest ∨ s.rst.asserted = true ∨
      ∀ e ∈ s.warn.entries, e.ready = true → s.suppressed e = true) : s.select = s := by
  unfold State.select
  split
  · rfl
  next hn =>
    have hd : s.dueEntry = none := State.dueEntry_none.mpr (by tauto)
    rw [hd]

theorem State.select_bursts {s : State} (hr : s.rst.asserted = false) (hi : s.warn.chime = .idle)
    (hm : s.port.mode ≠ .selfTest) (h : ∃ e ∈ s.warn.entries, e.ready = true ∧ s.suppressed e = false) :
    ∃ e ∈ s.warn.entries, e.ready = true ∧ s.suppressed e = false ∧
      (∀ x ∈ s.warn.entries, x.ready = true → s.suppressed x = false → e.ranksFirst x) ∧ s.select = s.bursting e := by
  have hsel : s.select = match s.dueEntry with
      | some e => s.beginBurst e
      | none => s := if_neg (by simp [hi, hm, hr])
  cases hd : s.dueEntry with
  | none =>
    obtain ⟨e, he, hre, hse⟩ := h
    rw [State.dueEntry_none.mp hd e he hre] at hse
    cases hse
  | some e =>
    obtain ⟨he, hre, hse, hfirst⟩ := State.dueEntry_some hd
    exact ⟨e, he, hre, hse, hfirst, by rw [hsel, hd]; exact s.beginBurst_eq e⟩

/-- The list after the test. -/
def State.silenced (s : State) : State := { s with warn := { s.warn with entries := s.tested } }

@[simp] theorem State.silenced_suppressed (s : State) (e : Entry) : s.silenced.suppressed e = s.suppressed e :=
  State.suppressed_congr (s := s) (t := s.silenced) rfl rfl rfl e

theorem State.settle_released {s : State} (h : s.rst.asserted = false) : s.settle = s.silenced.select := by
  unfold State.settle
  rw [h, State.testSuppression_eq]
  rfl

/-- R107: no burst begins while the chime sounds, in SELFTEST, or with nothing due that may sound. -/
theorem State.settle_kept {s : State} (hr : s.rst.asserted = false)
    (h : s.warn.chime ≠ .idle ∨ s.port.mode = .selfTest ∨
      ∀ e ∈ s.warn.entries, e.ready = true → s.suppressed e = true) : s.settle = s.silenced := by
  rw [State.settle_released hr]
  refine State.select_kept ?_
  obtain hc | hm | hs := h
  · exact .inl hc
  · exact .inr (.inl hm)
  · refine .inr (.inr (.inr fun e he hre => ?_))
    obtain ⟨hm, hre, hsup⟩ := State.ready_tested.mp ⟨he, hre⟩
    rw [hs e hm hre] at hsup
    cases hsup

/-- R107: an idle chime takes the highest-ranked entry that is due and not suppressed. -/
theorem State.settle_bursts {s : State} (hr : s.rst.asserted = false) (hi : s.warn.chime = .idle)
    (hm : s.port.mode ≠ .selfTest) (h : ∃ e ∈ s.warn.entries, e.ready = true ∧ s.suppressed e = false) :
    ∃ e ∈ s.warn.entries, e.ready = true ∧ s.suppressed e = false ∧
      (∀ x ∈ s.warn.entries, x.ready = true → s.suppressed x = false → e.ranksFirst x) ∧
      s.settle = s.silenced.bursting e := by
  rw [State.settle_released hr]
  obtain ⟨e, he, hre, hse⟩ := h
  have hd : ∃ e ∈ s.silenced.warn.entries, e.ready = true ∧ s.silenced.suppressed e = false :=
    ⟨e, (State.ready_tested.mpr ⟨he, hre, hse⟩).1, hre, by simpa using hse⟩
  obtain ⟨x, hx, hrx, -, hfirst, hsel⟩ := State.select_bursts (s := s.silenced) hr hi hm hd
  obtain ⟨hxm, -, hxs⟩ := State.ready_tested.mp ⟨hx, hrx⟩
  refine ⟨x, hxm, hrx, hxs, fun y hy hry hsy => ?_, hsel⟩
  exact hfirst y (State.ready_tested.mpr ⟨hy, hry, hsy⟩).1 hry (by simpa using hsy)

/-- The two outcomes of the test and the selection, for a case split. -/
theorem State.settle_cases {s : State} (hr : s.rst.asserted = false) :
    ((s.warn.chime ≠ .idle ∨ s.port.mode = .selfTest ∨ ∀ e ∈ s.warn.entries, e.ready = true → s.suppressed e = true) ∧
      s.settle = s.silenced) ∨
    (s.warn.chime = .idle ∧ s.port.mode ≠ .selfTest ∧
      ∃ e ∈ s.warn.entries, e.ready = true ∧ s.suppressed e = false ∧
        (∀ x ∈ s.warn.entries, x.ready = true → s.suppressed x = false → e.ranksFirst x) ∧
        s.settle = s.silenced.bursting e) := by
  by_cases h : s.warn.chime ≠ .idle ∨ s.port.mode = .selfTest ∨
      ∀ e ∈ s.warn.entries, e.ready = true → s.suppressed e = true
  · exact .inl ⟨h, State.settle_kept hr h⟩
  · push Not at h
    obtain ⟨hi, hm, e, he, hre, hse⟩ := h
    exact .inr ⟨hi, hm, State.settle_bursts hr hi hm ⟨e, he, hre, by simpa using hse⟩⟩

theorem State.dueSettled_bursting {s : State} {e : Entry}
    (hs : ∀ x ∈ s.warn.entries, x.ready = true → s.suppressed x = false) : (s.bursting e).dueSettled := by
  intro x hx hrx
  have hne : (s.bursting e).warn.chime ≠ .idle := fun h => nomatch h
  refine ⟨?_, .inl hne⟩
  rw [State.suppressed_congr (s := s) (t := s.bursting e) rfl rfl rfl]
  obtain ⟨y, hy, rfl⟩ := List.mem_map.mp hx
  split at hrx
  · rw [y.taken_not_ready] at hrx
    cases hrx
  next h =>
    rw [if_neg h]
    exact hs y hy hrx

/-- R107: after the test and the selection no due entry is suppressed, nor left beside an idle chime. -/
theorem State.settle_dueSettled {s : State} (hr : s.rst.asserted = false) : s.settle.dueSettled := by
  have hsil : ∀ x ∈ s.silenced.warn.entries, x.ready = true → s.silenced.suppressed x = false := by
    intro x hx hrx
    rw [State.silenced_suppressed]
    exact (State.ready_tested.mp ⟨hx, hrx⟩).2.2
  obtain ⟨h, heq⟩ | ⟨-, -, e, -, -, -, -, heq⟩ := State.settle_cases hr
  · rw [heq]
    refine fun x hx hrx => ⟨hsil x hx hrx, ?_⟩
    obtain hc | hm | hs := h
    · exact .inl hc
    · exact .inr hm
    · obtain ⟨hxm, -, hxs⟩ := State.ready_tested.mp ⟨hx, hrx⟩
      rw [hs x hxm hrx] at hxs
      cases hxs
  · rw [heq]
    exact State.dueSettled_bursting hsil

/-! ### COUNTDOWN_ZERO -/

/-- Settles O33. -/
theorem countdownZeroSelectsByRank : Obligations.CountdownZeroSelectsByRank := by
  unfold Obligations.CountdownZeroSelectsByRank
  refine fun s => ⟨fun ha => ?_, fun ha es hes tested htested => ?_⟩
  · show Host.Outcome.next s.countdownZero = .next s
    simp [State.countdownZero, ha]
  · obtain ⟨u, hu⟩ : ∃ u : State, u = { s with warn := { s.warn with entries := s.warn.entries.map Entry.fall } } :=
      ⟨_, rfl⟩
    have hexec : exec .countdownZero s = .next u.settle := by
      show Host.Outcome.next s.countdownZero = _
      rw [hu, State.countdownZero, ha]
      rfl
    have hes' : u.warn.entries = es := by rw [hu, hes]; rfl
    have hsup : ∀ e, u.suppressed e = s.suppressed e := fun e =>
      State.suppressed_congr (by rw [hu]) (by rw [hu]) (by rw [hu]) e
    have htest : u.tested = tested := by
      rw [State.tested, hes', htested]
      simp only [hsup]
    have hur : u.rst.asserted = false := by rw [hu]; exact ha
    refine ⟨u.settle, hexec, ?_⟩
    have hchime : u.warn.chime = s.warn.chime := by rw [hu]
    have hmode : u.port.mode = s.port.mode := by rw [hu]
    refine ⟨?_, ?_, ?_, State.settle_dueSettled hur, fun h => ?_, fun hi hm hex => ?_⟩
    · obtain ⟨-, heq⟩ | ⟨-, -, e, -, -, -, -, heq⟩ := State.settle_cases hur <;> rw [heq, hu] <;> rfl
    · obtain ⟨-, heq⟩ | ⟨-, -, e, -, -, -, -, heq⟩ := State.settle_cases hur <;> rw [heq, hu] <;> rfl
    · obtain ⟨-, heq⟩ | ⟨-, -, e, -, -, -, -, heq⟩ := State.settle_cases hur <;> rw [heq, hu] <;> rfl
    · rw [← hchime, ← hmode, ← hes'] at h
      rw [State.settle_kept hur (by simpa only [hsup] using h)]
      exact ⟨hchime, by rw [hu]; rfl, htest⟩
    · rw [← hes'] at hex ⊢
      obtain ⟨e, he, hre, hse, hfirst, heq⟩ :=
        State.settle_bursts hur (hchime.trans hi) (by rw [hmode]; exact hm) (by simpa only [hsup] using hex)
      simp only [hsup] at hse hfirst
      refine ⟨e, he, hre, hse, hfirst, ?_, ?_, ?_⟩
      · rw [heq]; rfl
      · rw [heq, ← htest]; rfl
      · rw [heq]; exact Timer.write_given _ _ _

/-! ### A burst's tones and its end -/

theorem Entry.endBurst_eq (e : Entry) :
    e.endBurst =
      if e.state = .presenting then
        (match e.type.limit with
         | some m =>
           if m ≤ gain 65535 e.bursts then { e with bursts := gain 65535 e.bursts, state := .lampOnly, due := none }
           else { e with bursts := gain 65535 e.bursts, state := .queued }
         | none => { e with bursts := gain 65535 e.bursts, state := .queued })
      else { e with bursts := gain 65535 e.bursts } := by
  have hl := e.countBurst.atLimit_iff
  by_cases hp : e.state = .presenting
  · have hp' : e.countBurst.state = .presenting := hp
    rw [if_pos hp]
    split
    next n hn =>
      have hb : e.countBurst.atLimit = true ↔ n ≤ gain 65535 e.bursts := hl.trans (by simp [Entry.countBurst, hn])
      simp only [Entry.endBurst, hp', hb]
      rfl
    next hn =>
      have hb : ¬e.countBurst.atLimit = true := hl.not.mpr (by simp [Entry.countBurst, hn])
      simp only [Entry.endBurst, hp', hb]
      rfl
  · have hp' : e.countBurst.state ≠ .presenting := hp
    rw [if_neg hp]
    simp only [Entry.endBurst, hp', if_false]
    rfl

theorem State.writeT7_eq (s : State) (on per : Nat) :
    s.writeTimer .t7 on per = { s with timers := { s.timers with t7 := s.timers.t7.write on per } } := by
  simp [State.writeTimer, State.setTimer, Timers.set, Timers.get]

theorem State.endOfBurst_eq {s : State} {a : Source} {w : WarnType} {n : Nat} {owned : Bool}
    (h : s.warn.chime = .sounding a w n false owned) (hn : n ≤ 1) :
    s.endOfBurst =
      State.select { s with warn := { s.warn with
        chime := .idle
        entries := s.warn.entries.map (fun e =>
          if owned = true ∧ e.source = a ∧ e.type = w then e.endBurst else e) } } := by
  unfold State.endOfBurst
  rw [h]
  simp only [hn, if_true]
  cases owned
  · simp
  · simp [mapPair, Entry.isPair_iff]

/-- Settles O34. -/
theorem burstRunsItsTones : Obligations.BurstRunsItsTones := by
  unfold Obligations.BurstRunsItsTones
  intro s hr
  have htone : exec .toneEnd s = .next s.toneEnd := exec_released (c := .toneEnd) rfl hr
  have hend : exec .endOfBurst s = .next s.endOfBurst := exec_released (c := .endOfBurst) rfl hr
  refine ⟨fun a w n owned hc => ?_, fun a w n owned hc hn => ⟨?_, ?_⟩, fun a w n owned hc hn es hes => ⟨?_, ?_⟩,
    fun hc => ⟨?_, ?_⟩, fun hl => ?_, fun hl => ?_⟩
  · refine ⟨_, htone, ?_⟩
    simp only [State.toneEnd, hc, State.writeT7_eq]
    exact ⟨trivial, Timer.write_given _ _ _⟩
  · refine ⟨_, htone, ?_⟩
    simp only [State.toneEnd, hc, State.writeT7_eq, hn, if_true]
    exact ⟨trivial, Timer.write_given _ _ _⟩
  · rw [hend]
    simp [State.endOfBurst, hc, Nat.not_le.mpr (show 1 < n by omega)]
  · rw [htone]
    simp [State.toneEnd, hc, Nat.not_le.mpr (show n < 2 by omega)]
  · obtain ⟨u, hu⟩ : ∃ u : State, u = { s with warn := { s.warn with chime := .idle, entries := es } } := ⟨_, rfl⟩
    have heq : exec .endOfBurst s = .next u.select := by
      rw [hend, State.endOfBurst_eq hc hn, hu, hes]
      simp only [Entry.endBurst_eq] <;> rfl
    have hsup : ∀ e, u.suppressed e = s.suppressed e := fun e =>
      State.suppressed_congr (by rw [hu]) (by rw [hu]) (by rw [hu]) e
    have hues : u.warn.entries = es := by rw [hu]
    refine ⟨_, heq, ?_, fun hs => ?_, fun hm hex => ?_⟩
    · by_cases hkept : u.port.mode = .selfTest ∨ ∀ e ∈ u.warn.entries, e.ready = true → u.suppressed e = true
      · rw [State.select_kept (.inr (hkept.imp_right .inr)), hu]
      · push Not at hkept
        obtain ⟨hm, e, he, hre, hse⟩ := hkept
        obtain ⟨x, -, -, -, -, heq⟩ := State.select_bursts (s := u) (by rw [hu]; exact hr) (by rw [hu]) hm
          ⟨e, he, hre, by simpa using hse⟩
        rw [heq, hu]
        rfl
    · rw [State.select_kept (.inr (.inr (.inr (by rw [hues]; simpa only [hsup] using hs)))), hu]
      exact ⟨rfl, rfl⟩
    · obtain ⟨e, he, hre, hse, hfirst, heq⟩ := State.select_bursts (s := u) (by rw [hu]; exact hr) (by rw [hu])
        (by rw [hu]; exact hm) (by rw [hues]; simpa only [hsup] using hex)
      rw [hues] at he hfirst
      simp only [hsup] at hse hfirst
      refine ⟨e, he, hre, hse, hfirst, ?_, ?_⟩
      · rw [heq, hu]
        rfl
      · rw [heq]
        exact Timer.write_given _ _ _
  · rw [htone]
    simp [State.toneEnd, hc]
  · rw [hend]
    simp [State.endOfBurst, hc]
  · rw [exec_released (c := .wlampFlashPhase) rfl hr]
    simp [hl]
  · rw [exec_released (c := .wlampFlashPhase) rfl hr]
    simp [hl]

/-! ### The lamp and the acknowledgement -/

theorem Warn.workLamp_worked (w : Warn) (es : List Entry) (c : Chime) :
    w.lampWorked ({ w with entries := es, chime := c } : Warn).workLamp := by
  unfold Warn.lampWorked Warn.workLamp
  cases hl : lampOf es
  case flashing => by_cases hw : w.lamp = .flashing <;> simp [hl, hw]
  all_goals simp [hl]

theorem findPair_some {a : Source} {w : WarnType} {es : List Entry} {e : Entry} (h : findPair a w es = some e) :
    e ∈ es ∧ e.source = a ∧ e.type = w :=
  ⟨List.mem_of_find?_eq_some h, (Entry.isPair_iff e a w).mp (List.find?_some (p := fun e => Entry.isPair e a w) h)⟩

theorem findPair_none {a : Source} {w : WarnType} {es : List Entry} :
    findPair a w es = none ↔ ∀ e ∈ es, ¬(e.source = a ∧ e.type = w) := by
  simp only [findPair, List.find?_eq_none, Entry.isPair_iff]

theorem pairMatches_iff (a : Source) (w : WarnType) : pairMatches a w = true ↔ ¬(a = .part ↔ w.ofAccount = true) := by
  cases a <;> cases h : w.ofAccount <;> simp [pairMatches, h]

/-- R112: what is left to do of a WACK whose pair fits. -/
theorem reqWack_listed {a : Source} {w : WarnType} {s : State} {e : Entry} (hp : pairMatches a w = true)
    (he : findPair a w s.warn.entries = some e) :
    reqWack (some a) (some w) s = (s.acknowledge e, done (.acknowledged a w e.ackResult)) := by
  simp [reqWack, hp, he]

/-- The presenter written whole. -/
def State.setWarn (s : State) (w : Warn) : State := { s with warn := w }

theorem State.inFrame_setWarn (s : State) (w : Warn) : s.inFrame.setWarn w = (s.setWarn w).inFrame := by
  rw [State.inFrame_of_port (s := s) (t := s.setWarn w) rfl, State.inFrame_eq s]
  rfl

theorem hasPair_iff {a : Source} {w : WarnType} {es : List Entry} :
    hasPair a w es = true ↔ ∃ e ∈ es, e.source = a ∧ e.type = w := by
  simp [hasPair, Entry.isPair_iff]

/-- R108, R110: the presenter once a pair is gone. -/
def Warn.dropped (v : Warn) (a : Source) (w : WarnType) : Warn :=
  ({ v with
    entries := v.entries.filter (fun x => !(decide (x.source = a) && decide (x.type = w)))
    chime :=
      match v.chime with
      | .idle => .idle
      | .sounding b y n snd owned => .sounding b y n snd (owned && !(decide (b = a) && decide (y = w))) } : Warn).workLamp

theorem State.dropEntry_eq {s : State} {a : Source} {w : WarnType} (h : hasPair a w s.warn.entries = true) :
    s.dropEntry a w = s.setWarn (s.warn.dropped a w) := by
  unfold State.dropEntry
  rw [if_pos h]
  rfl

theorem State.dropEntry_absent {s : State} {a : Source} {w : WarnType} (h : hasPair a w s.warn.entries = false) :
    s.dropEntry a w = s := by
  unfold State.dropEntry
  rw [h]
  rfl

/-- R110, R111: the presenter once a condition entry is SILENCED. -/
def Warn.hushed (v : Warn) (a : Source) (w : WarnType) : Warn :=
  ({ v with
    entries := v.entries.map (fun x =>
      if x.source = a ∧ x.type = w then { x with state := .silenced, due := none, falling := false } else x) } : Warn).workLamp

theorem State.acknowledge_condition {s : State} {e : Entry} (hv : e.type.isEvent = false) (hs : e.state ≠ .silenced) :
    s.acknowledge e = s.setWarn (s.warn.hushed e.source e.type) := by
  have hmap : mapPair e.source e.type Entry.silence s.warn.entries =
      s.warn.entries.map (fun x => if x.source = e.source ∧ x.type = e.type then
        { x with state := .silenced, due := none, falling := false } else x) := by
    unfold mapPair
    simp only [Entry.isPair_iff]
    rfl
  unfold State.acknowledge Warn.hushed
  rw [hv, hmap]
  simp [hs, State.setWarn]

/-- Settles O32. -/
theorem wackAcknowledges : Obligations.WackAcknowledges := by
  unfold Obligations.WackAcknowledges
  refine fun s h => ⟨?_, fun a w => ⟨fun hp => ?_, fun hp => ⟨fun hn => ?_, fun e he => ⟨fun hv => ?_, ?_, ?_⟩⟩⟩⟩
  · rintro a w (rfl | rfl)
    · exact refuses_of h rfl rfl
    · cases a <;> exact refuses_of h rfl rfl
  · refine refuses_of h (f := reqWack (some a) (some w)) rfl ?_
    have hpair : pairMatches a w = false := by
      rw [← Bool.not_eq_true, pairMatches_iff, not_not]
      exact hp
    simp [reqWack, hpair]
  · refine refuses_of h (f := reqWack (some a) (some w)) rfl ?_
    simp [reqWack, (pairMatches_iff a w).mpr hp, findPair_none.mpr hn]
  · obtain ⟨hmem, rfl, rfl⟩ := findPair_some he
    have hw := reqWack_listed (s := s.inFrame) ((pairMatches_iff _ _).mpr hp) (by simpa using he)
    rw [State.acknowledge, if_pos hv, State.dropEntry_eq (by simpa using hasPair_iff.mpr ⟨e, hmem, rfl, rfl⟩),
      State.inFrame_setWarn, Entry.ackResult, if_pos hv] at hw
    rw [s.inFrame_records.2.2.2.2.2.2.2.1] at hw
    obtain ⟨ha, hf⟩ := State.takeFrame_within h hw
    have hwarn := congrArg State.warn hf.1
    refine ⟨_, rfl, ha, ?_, ?_⟩
    · rw [hwarn]
      exact hf
    · rw [hwarn]
      exact Warn.workLamp_worked _ _ _
  · intro hv hs
    obtain ⟨-, rfl, rfl⟩ := findPair_some he
    have hw := reqWack_listed (s := s.inFrame) ((pairMatches_iff _ _).mpr hp) (by simpa using he)
    rw [State.acknowledge, if_neg (by simp [hv]), if_pos hs, Entry.ackResult, if_neg (by simp [hv]), if_pos hs] at hw
    exact reports_of h rfl hw
  · intro hv hs
    obtain ⟨-, rfl, rfl⟩ := findPair_some he
    have hw := reqWack_listed (s := s.inFrame) ((pairMatches_iff _ _).mpr hp) (by simpa using he)
    rw [State.acknowledge_condition hv hs, State.inFrame_setWarn, Entry.ackResult, if_neg (by simp [hv]), if_neg hs,
      s.inFrame_records.2.2.2.2.2.2.2.1] at hw
    obtain ⟨ha, hf⟩ := State.takeFrame_within h hw
    have hwarn := congrArg State.warn hf.1
    refine ⟨_, rfl, ha, ?_, ?_⟩
    · rw [hwarn]
      exact hf
    · rw [hwarn]
      exact Warn.workLamp_worked _ _ _

end Sys2Proof.Machine
end

section
/-! PROOF. The heater: how each phase begins and ends, and what a C2 reading makes of it. -/
namespace Sys2Proof.Machine

@[ext] theorem Timers.ext {b c : Timers} (t0 : b.t0 = c.t0) (t1 : b.t1 = c.t1) (t2 : b.t2 = c.t2) (t3 : b.t3 = c.t3)
    (t4 : b.t4 = c.t4) (t5 : b.t5 = c.t5) (t6 : b.t6 = c.t6) (t7 : b.t7 = c.t7) : b = c := by
  cases b
  cases c
  simp_all

/-! ### What a change of the heater's state moves -/

/-- A state that differs in the heater, its two timers and the port alone. -/
theorem State.eq_of_heaterOnly {s t : State} (clock : t.clock = s.clock) (orders : t.orders = s.orders)
    (alloc : t.alloc = s.alloc) (charge : t.charge = s.charge) (accounts : t.accounts = s.accounts)
    (transport : t.transport = s.transport) (quiet : t.quiet = s.quiet) (warn : t.warn = s.warn)
    (sense : t.sense = s.sense) (fridge : t.fridge = s.fridge) (lights : t.lights = s.lights)
    (rst : t.rst = s.rst) (pending : t.pending = s.pending) (t0 : t.timers.t0 = s.timers.t0)
    (t1 : t.timers.t1 = s.timers.t1) (t2 : t.timers.t2 = s.timers.t2) (t3 : t.timers.t3 = s.timers.t3)
    (t6 : t.timers.t6 = s.timers.t6) (t7 : t.timers.t7 = s.timers.t7) :
    t =
      { s with
        heater := t.heater, timers := { s.timers with t4 := t.timers.t4, t5 := t.timers.t5 }, port := t.port } := by
  apply State.ext <;> simp only [*]
  apply Timers.ext <;> simp only [*]

section
variable {s : State} (h : s.rst.asserted = false)
include h

theorem State.enterPreheat_moves : s.heaterMoves s.enterPreheat := by
  refine ⟨?_, (State.enterPreheat_noticed (.refl s)).flagsKept, State.heaterGo_flag _ _ (by simpa using h)⟩
  apply State.eq_of_heaterOnly <;> simp

theorem State.enterOff_moves : s.heaterMoves s.enterOff := by
  refine ⟨?_, (State.enterOff_noticed (.refl s)).flagsKept, State.heaterGo_flag _ _ (by simpa using h)⟩
  apply State.eq_of_heaterOnly <;> simp

theorem State.enterIgnition_moves : s.heaterMoves s.enterIgnition := by
  refine ⟨?_, (State.enterIgnition_noticed (.refl s)).flagsKept, State.heaterGo_flag _ _ (by simpa using h)⟩
  apply State.eq_of_heaterOnly <;> simp

theorem State.enterProving_moves : s.heaterMoves s.enterProving := by
  refine ⟨?_, (State.enterProving_noticed (.refl s)).flagsKept, State.heaterGo_flag _ _ (by simpa using h)⟩
  apply State.eq_of_heaterOnly <;> simp

theorem State.enterRun_moves : s.heaterMoves s.enterRun := by
  refine ⟨?_, (State.enterRun_noticed (.refl s)).flagsKept, State.heaterGo_flag _ _ (by simpa using h)⟩
  apply State.eq_of_heaterOnly <;> simp

theorem State.enterCooldown_moves (c : CooldownCause) : s.heaterMoves (s.enterCooldown c) := by
  refine ⟨?_, (State.enterCooldown_noticed c (.refl s)).flagsKept, State.heaterGo_flag _ _ (by simpa using h)⟩
  apply State.eq_of_heaterOnly <;> simp

theorem State.enterCooldown_cooled (c : CooldownCause) : s.cooled c (s.enterCooldown c) :=
  ⟨(s.enterCooldown_does c).1, (s.enterCooldown_does c).2.1, (s.enterCooldown_does c).2.2, State.enterCooldown_moves h c⟩

theorem State.enterPreheat_preheated : s.preheated s.enterPreheat := by
  refine ⟨(s.enterPreheat_does).1, (s.enterPreheat_does).2, ?_, State.enterPreheat_moves h⟩
  simp [State.enterPreheat, State.writeFan]

theorem State.failedStart_startFailed : s.startFailed s.failedStart := by
  obtain ⟨u, hu⟩ : ∃ u : State, u = s.withHeater (fun h => { h with failed := gain 3 h.failed }) := ⟨_, rfl⟩
  have hdoes := u.enterCooldown_does .failedStart
  have heq : s.failedStart =
      (u.enterCooldown .failedStart).withHeater
        (fun h => { h with restart := h.presented.isSome && decide (h.failed < 3) }) := by rw [hu]; rfl
  have hheater : s.failedStart.heater =
      { (u.enterCooldown .failedStart).heater with
        restart := (u.enterCooldown .failedStart).heater.presented.isSome &&
          decide ((u.enterCooldown .failedStart).heater.failed < 3) } := by rw [heq]; rfl
  refine ⟨?_, ?_, ?_, ?_, (State.failedStart_noticed (.refl s)).flagsKept, ?_⟩
  · rw [hheater, hdoes.1, hu]
    have hgain : gain 3 s.heater.failed < 3 ↔ s.heater.failed + 1 < 3 := by
      unfold gain
      split <;> omega
    simp [hgain]
  · rw [heq]
    exact hdoes.2.1
  · rw [heq]
    exact hdoes.2.2
  · apply State.eq_of_heaterOnly <;> simp
  · rw [heq]
    exact State.heaterGo_flag _ _ (by simpa [hu] using h)

end

/-! ### The port that a notice wrote -/

theorem Port.settingsKept.refl (p : Port) : p.settingsKept p := (State.noticed.refl { State.reset with port := p }).flagsKept

theorem Port.settingsKept.trans {p q r : Port} (h : p.settingsKept q) (k : q.settingsKept r) : p.settingsKept r := by
  obtain ⟨h1, h2, h3, h4, h5, h6, h7, hf⟩ := h
  obtain ⟨k1, k2, k3, k4, k5, k6, k7, kf⟩ := k
  exact ⟨k1.trans h1, k2.trans h2, k3.trans h3, k4.trans h4, k5.trans h5, k6.trans h6, k7.trans h7,
    Port.flagsKept.trans hf kf⟩

section
variable {s t : State} {p : Port} (hp : s.port.settingsKept p)
include hp

theorem State.heaterMoves.of_port (h : State.heaterMoves { s with port := p } t) : s.heaterMoves t :=
  ⟨h.1, hp.trans h.2.1, h.2.2⟩

theorem State.preheated.of_port (h : State.preheated { s with port := p } t) : s.preheated t :=
  ⟨h.1, h.2.1, h.2.2.1, h.2.2.2.of_port hp⟩

theorem State.cooled.of_port {c : CooldownCause} (h : State.cooled { s with port := p } c t) : s.cooled c t :=
  ⟨h.1, h.2.1, h.2.2.1, h.2.2.2.of_port hp⟩

theorem State.startFailed.of_port (h : State.startFailed { s with port := p } t) : s.startFailed t :=
  ⟨h.1, h.2.1, h.2.2.1, h.2.2.2.of_port hp⟩

end

theorem State.noticeIf_eq (s : State) (b : Bool) (n : Notice) :
    s.noticeIf b n = { s with port := (s.noticeIf b n).port } := by
  apply State.ext <;> simp

/-! ### The timed phases -/

theorem State.writePump_given (s : State) (rate : Nat) :
    (s.writePump rate).timers.t4.given s.heater.params.pulseWidth (60000 / rate) := by
  simp only [State.writePump, State.writeTimer]
  split
  all_goals exact Timer.write_given _ _ _

/-- R151: the pump gives a pulse of fuel as it starts. -/
theorem State.writePump_heater (s : State) (rate : Nat) :
    (s.writePump rate).heater =
      { s.heater with
        fuel :=
          if s.timers.t4.running = false ∧ 0 < s.heater.params.pulseWidth then s.heater.fuel + 1 else s.heater.fuel } := by
  unfold State.writePump State.writeTimer
  by_cases hp : s.timers.t4.running = false ∧ 0 < s.heater.params.pulseWidth
  · rw [if_pos hp, if_pos ⟨rfl, hp⟩]
    rfl
  · rw [if_neg hp, if_neg (fun h => hp h.2)]
    rfl

theorem State.enterIgnition_does (s : State) :
    s.enterIgnition.heater =
      { s.heater with
        state := .ignition, phase := some s.heater.params.ignition
        fuel :=
          if s.timers.t4.running = false ∧ 0 < s.heater.params.pulseWidth then s.heater.fuel + 1 else s.heater.fuel } ∧
    s.enterIgnition.timers.t4.given s.heater.params.pulseWidth (60000 / s.heater.params.startRate) ∧
    s.enterIgnition.timers.t5.given 300 1000 := by
  obtain ⟨u, hu⟩ : ∃ u : State, u = s.withHeater (fun h => { h with phase := some h.params.ignition }) := ⟨_, rfl⟩
  have heq : s.enterIgnition = ((u.writePump s.heater.params.startRate).writeFan 300).heaterGo .ignition := by
    rw [hu]
    rfl
  have hpump := u.writePump_given s.heater.params.startRate
  rw [heq, State.heaterGo_heater, State.heaterGo_timers]
  refine ⟨?_, ?_, State.writeFan_given _ _⟩
  · simp only [State.writeFan, State.writeTimer_heater _ _ _ _ (show TimerId.t5 ≠ .t4 by decide), State.writePump_heater]
    rw [hu]
    rfl
  · simp only [State.writeFan, State.writeTimer_t4 _ _ _ _ (show TimerId.t5 ≠ .t4 by decide)]
    rw [hu] at hpump ⊢
    exact hpump

theorem State.writeLevel_does (s : State) (level : Nat) :
    (s.writeLevel level).heater = { s.heater with fuel := (s.writeLevel level).heater.fuel } ∧
    (s.writeLevel level).timers.t4.given s.heater.params.pulseWidth (60000 / s.heater.params.rate level) ∧
    (s.writeLevel level).timers.t5.given (s.heater.params.fan level) 1000 := by
  have hpump := s.writePump_given (s.heater.params.rate level)
  refine ⟨?_, ?_, State.writeFan_given _ _⟩
  · simp only [State.writeLevel, State.writeFan, State.writeTimer_heater _ _ _ _ (show TimerId.t5 ≠ .t4 by decide),
      State.writePump_heater]
  · simpa only [State.writeLevel, State.writeFan, State.writeTimer_t4 _ _ _ _ (show TimerId.t5 ≠ .t4 by decide)]

theorem State.enterRun_does (s : State) :
    s.enterRun.heater =
      { s.heater with
        state := .run, glow := false, phase := none, level := 2, desired := 2, stepTimer := 60, runSeconds := 0
        satisfy := none, fuel := s.enterRun.heater.fuel } ∧
    s.enterRun.timers.t4.given s.heater.params.pulseWidth (60000 / s.heater.params.rate2) ∧
    s.enterRun.timers.t5.given s.heater.params.fan2 1000 := by
  obtain ⟨u, hu⟩ : ∃ u : State, u = s.withHeater (fun h =>
      { h with
        glow := false, phase := none, level := 2, desired := 2, stepTimer := 60, runSeconds := 0, satisfy := none }) :=
    ⟨_, rfl⟩
  have heq : s.enterRun = (u.writeLevel 2).heaterGo .run := by
    rw [hu]
    rfl
  obtain ⟨hheater, h4, h5⟩ := u.writeLevel_does 2
  rw [heq, State.heaterGo_heater, State.heaterGo_timers]
  refine ⟨?_, ?_, ?_⟩
  · rw [hheater, hu]
    rfl
  · rw [hu] at h4 ⊢
    exact h4
  · rw [hu] at h5 ⊢
    exact h5

theorem State.enterProving_does (s : State) :
    s.enterProving.heater = { s.heater with state := .proving, phase := some 20 } ∧
    s.enterProving.timers.t5.given 400 1000 ∧ s.enterProving.timers.t4 = s.timers.t4 := by
  refine ⟨?_, ?_, ?_⟩
  · rw [State.enterProving, State.heaterGo_heater]
    simp [State.writeFan]
  · rw [State.enterProving, State.heaterGo_timers]
    exact State.writeFan_given _ _
  · simp [State.enterProving, State.writeFan]

/-- Settles O36. -/
theorem heaterPhasesEnd : Obligations.HeaterPhasesEnd := by
  unfold Obligations.HeaterPhasesEnd
  intro s hr
  have hpre : exec .preheatExpiry s = .next s.preheatExpiry := exec_released (c := .preheatExpiry) rfl hr
  have hign : exec .ignitionLimitExpiry s = .next s.ignitionExpiry := exec_released (c := .ignitionLimitExpiry) rfl hr
  have hpro : exec .provingExpiry s = .next s.provingExpiry := exec_released (c := .provingExpiry) rfl hr
  have hcnt : exec .heaterRunClearsCount s = .next s.runClearsCount :=
    exec_released (c := .heaterRunClearsCount) rfl hr
  have hsat : exec .satisfiedStop s = .next s.satisfiedStop := exec_released (c := .satisfiedStop) rfl hr
  refine ⟨fun hs hf => ?_, fun hs hf => ?_, fun hs => ?_, fun hs => ?_, fun hs => ?_, fun hs => ?_, fun hs => ?_,
    fun hs hc => ?_, fun hs => ?_, fun hs hc => ?_, fun hs => ?_⟩
  · obtain ⟨hheater, h4, h5⟩ := s.enterIgnition_does
    refine ⟨s.enterIgnition, ?_, State.enterIgnition_moves hr, ?_, ?_, h4, h5⟩
    · rw [hpre, State.preheatExpiry, if_pos hs, hf]
      rfl
    · rw [hheater]
    · rw [hheater]
  · refine ⟨s.failedStart, ?_, State.failedStart_startFailed hr⟩
    rw [hpre, State.preheatExpiry, if_pos hs, if_pos hf]
  · rw [hpre, State.preheatExpiry, if_neg hs]
  · refine ⟨s.failedStart, ?_, State.failedStart_startFailed hr⟩
    rw [hign, State.ignitionExpiry, if_pos hs]
  · rw [hign, State.ignitionExpiry, if_neg hs]
  · obtain ⟨hheater, h4, h5⟩ := s.enterRun_does
    exact ⟨s.enterRun, by rw [hpro, State.provingExpiry, if_pos hs], State.enterRun_moves hr, hheater, h4, h5⟩
  · rw [hpro, State.provingExpiry, if_neg hs]
  · rw [hcnt, State.runClearsCount, if_pos ⟨hs, hc⟩]
    rfl
  · rw [hcnt, State.runClearsCount, if_neg (by tauto)]
  · exact ⟨_, by rw [hsat, State.satisfiedStop, if_pos ⟨hs, hc⟩], State.enterCooldown_cooled hr _⟩
  · rw [hsat, State.satisfiedStop, if_neg (by tauto)]

/-! ### A C2 reading -/

theorem State.heaterReading_run {s : State} {p : Presented} (hs : s.heater.state = .run)
    (hp : s.heater.presented = some p) (value : Int) (fault : Bool) :
    s.heaterReading value fault = s.heaterAttention.c2InRun p.setpoint value fault := by
  simp [State.heaterReading, hs, hp]

theorem State.heaterReading_satisfied {s : State} {p : Presented} (hs : s.heater.state = .satisfied)
    (hp : s.heater.presented = some p) (value : Int) (fault : Bool) :
    s.heaterReading value fault = s.heaterAttention.c2InSatisfied p.setpoint value fault := by
  simp [State.heaterReading, hs, hp]

theorem State.heaterReading_other {s : State}
    (h : (s.heater.state ≠ .run ∧ s.heater.state ≠ .satisfied) ∨ s.heater.presented = none) (value : Int) (fault : Bool) :
    s.heaterReading value fault = s.heaterAttention := by
  obtain ⟨h1, h2⟩ | hn := h
  · simp only [State.heaterReading]
    split <;> simp_all
  · simp [State.heaterReading, hn]

theorem Presented.setpoint_eq {p : Presented} {x : Int} (h : p.target = .setpoint x) : p.setpoint = x := by
  simp [Presented.setpoint, h]

/-- R151: the level a reading asks for. -/
theorem desiredLevel_eq (set value : Int) (fault quiet : Bool) :
    desiredLevel set value fault quiet =
      if fault = true then 2 else if 30 ≤ set - value then (if quiet then 3 else 4)
      else if 15 ≤ set - value then 3 else if 5 ≤ set - value then 2 else 1 := by
  unfold desiredLevel
  grind

/-- R151, R152: the level after a reading, one step toward the desired one when the step timer has run out. -/
def steppedLevel (h : Heater) (want : Nat) : Nat :=
  if h.stepTimer ≠ 0 ∨ h.level = want then h.level else if h.level < want then h.level + 1 else h.level - 1

theorem steppedLevel_kept {h : Heater} {want : Nat} (hw : want ≤ h.level → h.level ≠ 0 ∨ h.level = want) :
    steppedLevel h want = h.level ↔ ¬(h.level ≠ want ∧ h.stepTimer = 0) := by
  unfold steppedLevel
  grind

theorem stepToward_eq {h : Heater} {want : Nat} (hstep : h.level ≠ want ∧ h.stepTimer = 0) :
    stepToward h.level want = steppedLevel h want := by
  unfold stepToward steppedLevel
  grind

theorem State.workSatisfy_eq (s : State) (set value : Int) (fault : Bool) :
    s.workSatisfy set value fault =
      { s with heater := { s.heater with
          satisfy :=
            if s.heater.level = 1 ∧ fault = false ∧ set + 10 ≤ value then some (s.heater.satisfy.getD 0) else none } } := by
  cases hs : s.heater.satisfy <;> simp [State.workSatisfy, State.withHeater, hs]

/-- R151 to R153: what a reading makes of a heater in RUN. -/
theorem State.c2InRun_does (s : State) (set value : Int) (fault : Bool) (want level : Nat)
    (hw : want = desiredLevel set value fault s.quiet) (hl : level = steppedLevel s.heater want) :
    (s.c2InRun set value fault).heater =
      { s.heater with
        desired := want, level := level
        stepTimer := if level = s.heater.level then s.heater.stepTimer else 60
        satisfy := if level = 1 ∧ fault = false ∧ set + 10 ≤ value then some (s.heater.satisfy.getD 0) else none
        fuel := (s.c2InRun set value fault).heater.fuel } ∧
    (level = s.heater.level → (s.c2InRun set value fault).timers = s.timers) ∧
    (level ≠ s.heater.level →
      (s.c2InRun set value fault).timers.t4.given s.heater.params.pulseWidth (60000 / s.heater.params.rate level) ∧
      (s.c2InRun set value fault).timers.t5.given (s.heater.params.fan level) 1000) := by
  have hwant : 1 ≤ want := by
    rw [hw, desiredLevel_eq]
    grind
  have hkept := steppedLevel_kept (h := s.heater) (want := want) (by omega)
  rw [← hl] at hkept
  unfold State.c2InRun
  rw [State.workSatisfy_eq, ← hw]
  by_cases hstep : s.heater.level ≠ want ∧ s.heater.stepTimer = 0
  · have hne : level ≠ s.heater.level := fun h => hkept.mp h hstep
    obtain ⟨v, hv⟩ : ∃ v : State, v = s.withHeater (fun h => { h with desired := want, level := level, stepTimer := 60 }) :=
      ⟨_, rfl⟩
    have hs : (s.withHeater (fun h => { h with desired := want })).stepLevel = v.writeLevel level := by
      refine (if_pos hstep).trans ?_
      rw [hv, hl, ← stepToward_eq hstep]
      rfl
    obtain ⟨hheater, h4, h5⟩ := v.writeLevel_does level
    rw [hs, if_neg hne]
    refine ⟨?_, fun h => absurd h hne, fun _ => ⟨?_, ?_⟩⟩
    · rw [hheater, hv]
      rfl
    · rw [hv] at h4 ⊢
      exact h4
    · rw [hv] at h5 ⊢
      exact h5
  · have heq : level = s.heater.level := hkept.mpr hstep
    have hs : (s.withHeater (fun h => { h with desired := want })).stepLevel =
        s.withHeater (fun h => { h with desired := want }) := if_neg hstep
    rw [hs, if_pos heq, heq]
    exact ⟨rfl, fun _ => rfl, fun h => absurd rfl h⟩

/-- The state a temperature window leaves before its reading reaches a load. -/
def State.windowed (s : State) (i : TempId) (count : Nat) : State :=
  ({ s with sense := s.sense.setTemp i ((s.sense.temp i).window count) }).noticeIf
    ((s.sense.temp i).fault || ((s.sense.temp i).window count).fault) .sensor

theorem exec_tempWindow {s : State} (hr : s.rst.asserted = false) (i : TempId) (edges : Nat) :
    exec (.tempWindowEnd i edges) s =
      .next ((s.windowed i (min edges 65535)).presentTemp i ((s.sense.temp i).window (min edges 65535)).value
        ((s.sense.temp i).window (min edges 65535)).fault
        (!(s.sense.temp i).fault && ((s.sense.temp i).window (min edges 65535)).fault)) :=
  exec_released (c := .tempWindowEnd i edges) rfl hr

theorem State.heaterAttention_lockout {s : State} (hr : s.rst.asserted = false) (h : s.heater.state = .lockout) :
    Notice.heater.inByte s.heaterAttention.port.flags = true := by
  simp [State.heaterAttention, State.noticeIf_inByte, h, hr]

/-- Settles O46. -/
theorem cabReadingDrivesTheHeater : Obligations.CabReadingDrivesTheHeater := by
  unfold Obligations.CabReadingDrivesTheHeater
  intro edges s hr t ht d hd
  rw [exec_tempWindow hr] at ht
  obtain ⟨x, hx⟩ : ∃ x, x = (s.sense.temp .c2).window (min edges 65535) := ⟨_, rfl⟩
  obtain ⟨u, hu⟩ : ∃ u, u = s.windowed .c2 (min edges 65535) := ⟨_, rfl⟩
  rw [← hx, ← hu] at ht
  have hheater : u.heater = s.heater := by simp [hu, State.windowed]
  have htimers : u.timers = s.timers := by simp [hu, State.windowed]
  have hrst : u.rst.asserted = false := by simpa [hu, State.windowed] using hr
  have ht : t = u.heaterReading x.value x.fault := (Host.Outcome.next.inj ht).symm
  have hsense : t.sense = s.sense.setTemp .c2 x := by simp [ht, hu, hx, State.windowed]
  have hdx : d = x := by rw [hd, hsense]; rfl
  have hother : (s.heater.state ≠ .run ∧ s.heater.state ≠ .satisfied) ∨ s.heater.presented = none →
      t.heater = s.heater ∧ t.timers = s.timers := by
    rw [← hheater]
    intro h
    rw [ht, State.heaterReading_other h]
    simp [hheater, htimers]
  refine ⟨fun h1 h2 => hother (.inl ⟨h1, h2⟩), fun hn => hother (.inr hn), fun hl => ?_, fun p hp set hset => ⟨?_, ?_⟩⟩
  · rw [ht, State.heaterReading_other (.inl (by simp [hheater, hl]))]
    exact State.heaterAttention_lockout hrst (by rw [hheater, hl])
  · intro hs want hwant level hlevel
    have heq : t = u.heaterAttention.c2InRun set d.value d.fault := by
      rw [ht, State.heaterReading_run (by rw [hheater, hs]) (by rw [hheater, hp]), Presented.setpoint_eq hset, hdx]
    have hquiet : u.heaterAttention.quiet = s.quiet := by simp [hu, State.windowed]
    have hh : u.heaterAttention.heater = s.heater := by simp [hheater]
    have htt : u.heaterAttention.timers = s.timers := by simp [htimers]
    have hdoes := u.heaterAttention.c2InRun_does set d.value d.fault want level
      (by rw [hwant, hquiet, desiredLevel_eq]) (by rw [hlevel, hh]; rfl)
    rw [← heq, hh, htt] at hdoes
    exact hdoes
  · intro hs
    have heq : t = u.heaterAttention.c2InSatisfied set d.value d.fault := by
      rw [ht, State.heaterReading_satisfied (by rw [hheater, hs]) (by rw [hheater, hp]), Presented.setpoint_eq hset, hdx]
    have hoh : u.heaterAttention.overheated = s.sense.ovht.level := by
      simp [hu, State.windowed, State.overheated, Sense.setTemp]
    refine ⟨fun ⟨hcool, hov⟩ => ?_, fun hnot => ?_⟩
    · have heq : t = u.heaterAttention.enterPreheat := by
        rw [heq, State.c2InSatisfied, if_pos ⟨hcool, by rw [hoh, hov]⟩]
      have hpre := State.enterPreheat_preheated (s := u.heaterAttention) (by simpa using hrst)
      have hv : u.heaterAttention = { s with sense := t.sense, port := u.heaterAttention.port } := by
        apply State.ext <;> simp [hheater, htimers]
        all_goals simp [hu, State.windowed, hsense, ← hx]
      rw [← heq, hv] at hpre
      refine State.preheated.of_port (s := { s with sense := t.sense }) ?_ hpre
      refine (State.noticed.flagsKept (s := { s with sense := t.sense }) ?_)
      refine State.heaterAttention_noticed ?_
      rw [hu]
      exact State.noticeIf_noticed _ _ ((State.noticed.refl _).congr rfl rfl)
    · have heq : t = u.heaterAttention := by
        rw [heq, State.c2InSatisfied, if_neg (by rw [hoh]; exact hnot)]
      rw [heq]
      exact ⟨by simp [hheater], by simp [htimers]⟩

end Sys2Proof.Machine
end

section
/-! PROOF. What an event makes of the warning list: one relation, `State.deals`, that the test, the selection, a raise and
a removal each keep, and from which `State.listKept` is read off. -/
namespace Sys2Proof.Machine

/-- No two entries of one pair. -/
def PairsDistinct (es : List Entry) : Prop := es.Pairwise (fun a b => ¬(a.source = b.source ∧ a.type = b.type))

theorem PairsDistinct.eq {es : List Entry} (h : PairsDistinct es) {x y : Entry} (hx : x ∈ es) (hy : y ∈ es)
    (ha : x.source = y.source) (hw : x.type = y.type) : x = y := by
  by_contra hne
  have : Std.Symm (fun a b : Entry => ¬(a.source = b.source ∧ a.type = b.type)) :=
    ⟨fun a b hab hba => hab ⟨hba.1.symm, hba.2.symm⟩⟩
  exact List.Pairwise.forall h hx hy hne ⟨ha, hw⟩

theorem PairsDistinct.map {es : List Entry} (h : PairsDistinct es) {f : Entry → Entry}
    (hf : ∀ e, (f e).source = e.source ∧ (f e).type = e.type) : PairsDistinct (es.map f) := by
  refine List.pairwise_map.mpr (h.imp fun {a b} hab => ?_)
  rw [(hf a).1, (hf a).2, (hf b).1, (hf b).2]
  exact hab

/-- What one event may do to the list: the tests for suppression it makes, the pairs it raises or removes, the pairs it
raises, and the pairs that a burst it begins ranks before. -/
structure Dealing where
  tests : (Entry → Bool) → Prop
  moved : Source × WarnType → Prop
  raised : Source × WarnType → Prop
  ranked : Source × WarnType → Prop

/-- An entry as an event's tests and its burst may have left it. -/
def Entry.handledBy (e : Entry) (d : Dealing) (c : Chime) (x : Entry) : Prop :=
  x = e ∨ (e.ready = true ∧ x = e.silent ∧ ∃ f, d.tests f ∧ f e = true) ∨
  (e.ready = true ∧ x = e.taken ∧ (∃ f, d.tests f ∧ f e = false) ∧
    c = .sounding e.source e.type e.type.tones true true)

/-- An entry that is still ready has not been handled. -/
theorem Entry.handledBy.eq_of_ready {e x : Entry} {d : Dealing} {c : Chime} (h : e.handledBy d c x)
    (hr : x.ready = true) : x = e := by
  obtain h | ⟨-, rfl, -⟩ | ⟨-, rfl, -⟩ := h
  · exact h
  · rw [e.silent_not_ready] at hr
    cases hr
  · rw [e.taken_not_ready] at hr
    cases hr

theorem Entry.handledBy.of_idle {e x : Entry} {d : Dealing} {c : Chime} (h : e.handledBy d .idle x) :
    e.handledBy d c x := by
  obtain h | h | ⟨-, -, -, hc⟩ := h
  · exact .inl h
  · exact .inr (.inl h)
  · cases hc

theorem Entry.handledBy.pair {e x : Entry} {d : Dealing} {c : Chime} (h : e.handledBy d c x) :
    x.source = e.source ∧ x.type = e.type := by
  obtain rfl | ⟨-, rfl, -⟩ | ⟨-, rfl, -⟩ := h
  · exact ⟨rfl, rfl⟩
  · exact e.silent_pair
  · exact ⟨rfl, rfl⟩

/-- Where each entry of a list without a doubled pair comes from, where each went, and what became of the chime. -/
structure State.entriesDealt (s : State) (d : Dealing) (t : State) : Prop where
  distinct : PairsDistinct t.warn.entries
  origin : ∀ x ∈ t.warn.entries,
    (∃ e ∈ s.warn.entries, e.handledBy d t.warn.chime x) ∨
    (d.raised (x.source, x.type) ∧ Notice.warning.inByte t.port.flags = true ∧
      (Entry.atRaise x.source x.type s.clock.minute).handledBy d t.warn.chime x)
  place : ∀ e ∈ s.warn.entries,
    ¬d.moved (e.source, e.type) ∨ (isDriving e.type = false ∧ hasPair e.source e.type t.warn.entries = true) →
    ∃ x ∈ t.warn.entries, e.handledBy d t.warn.chime x
  sounding : ∀ a w n snd owned, s.warn.chime = .sounding a w n snd owned →
    (t.warn.chime = s.warn.chime ∨ (t.warn.chime = .sounding a w n snd false ∧ d.moved (a, w))) ∧
    t.timers.t7 = s.timers.t7
  idle : s.warn.chime = .idle →
    (t.warn.chime = .idle ∧ t.timers.t7 = s.timers.t7) ∨
    (s.port.mode ≠ .selfTest ∧ t.timers.t7.given 200 400 ∧
      ∃ e, (e ∈ s.warn.entries ∨ (d.raised (e.source, e.type) ∧ e = .atRaise e.source e.type s.clock.minute)) ∧
        e.ready = true ∧ (∃ f, d.tests f ∧ f e = false) ∧
        ((t.warn.chime = .sounding e.source e.type e.type.tones true true ∧ e.taken ∈ t.warn.entries) ∨
         (t.warn.chime = .sounding e.source e.type e.type.tones true false ∧ d.moved (e.source, e.type))) ∧
        ∀ y ∈ t.warn.entries, y.ready = true → d.ranked (y.source, y.type) → e.ranksFirst y)

/-- What an event has done to the list so far. -/
structure State.deals (s : State) (d : Dealing) (t : State) : Prop where
  released : t.rst.asserted = false
  minute : t.clock.minute = s.clock.minute
  mode : t.port.mode = s.port.mode
  others : ∀ a w, ¬d.moved (a, w) → hasPair a w t.warn.entries = hasPair a w s.warn.entries
  dates : ∀ x ∈ t.warn.entries,
    (∃ e ∈ s.warn.entries, e.source = x.source ∧ e.type = x.type ∧ e.raisedAt = x.raisedAt) ∨
    (x.raisedAt = s.clock.minute ∧ Notice.warning.inByte t.port.flags = true)
  lamp : s.warn.lampWorked t.warn ∨
    (t.warn.lamp = s.warn.lamp ∧ t.warn.lampOn = s.warn.lampOn ∧
      ∀ a w, hasPair a w t.warn.entries = hasPair a w s.warn.entries)
  each : PairsDistinct s.warn.entries → s.entriesDealt d t

theorem State.deals.refl {s : State} (d : Dealing) (h : s.rst.asserted = false) : s.deals d s where
  released := h
  minute := rfl
  mode := rfl
  others _ _ _ := rfl
  dates x hx := .inl ⟨x, hx, rfl, rfl, rfl⟩
  lamp := .inr ⟨rfl, rfl, fun _ _ => rfl⟩
  each hd :=
    { distinct := hd
      origin := fun x hx => .inl ⟨x, hx, .inl rfl⟩
      place := fun e he _ => ⟨e, he, .inl rfl⟩
      sounding := fun _ _ _ _ _ _ => ⟨.inl rfl, rfl⟩
      idle := fun h => .inl ⟨h, rfl⟩ }

/-- What leaves the list, the chime and its timer alone, and takes no WARNING flag away. -/
theorem State.deals.neutral {s t u : State} {d : Dealing} (h : s.deals d t) (hr : u.rst.asserted = false)
    (hc : u.clock = t.clock) (hm : u.port.mode = t.port.mode) (hw : u.warn = t.warn) (h7 : u.timers.t7 = t.timers.t7)
    (hf : Notice.warning.inByte t.port.flags = true → Notice.warning.inByte u.port.flags = true) : s.deals d u where
  released := hr
  minute := by rw [hc, h.minute]
  mode := by rw [hm, h.mode]
  others a w hn := by rw [hw, h.others a w hn]
  dates x hx := by
    rw [hw] at hx
    exact (h.dates x hx).imp_right (And.imp_right hf)
  lamp := by
    rw [hw]
    exact h.lamp
  each hd := by
    obtain ⟨h1, h2, h3, h4, h5⟩ := h.each hd
    rw [← hw] at h1 h2 h3 h4 h5
    rw [← h7] at h4 h5
    exact ⟨h1, fun x hx => (h2 x hx).imp_right (And.imp_right (And.imp_left hf)), h3, h4, h5⟩

/-! ### The test and the selection -/

theorem hasPair_map {a : Source} {w : WarnType} {f : Entry → Entry}
    (hf : ∀ e, (f e).source = e.source ∧ (f e).type = e.type) (es : List Entry) :
    hasPair a w (es.map f) = hasPair a w es := by
  rw [Bool.eq_iff_iff, hasPair_iff, hasPair_iff]
  simp [hf]

/-- R110: a grave entry that is not SILENCED makes the lamp flash. -/
def Entry.flashes (e : Entry) : Prop := 4 ≤ e.type.severity ∧ e.state ≠ .silenced

theorem lampOf_congr {es fs : List Entry} (hn : fs = [] ↔ es = [])
    (h : (∃ x ∈ fs, x.flashes) ↔ ∃ e ∈ es, e.flashes) : lampOf fs = lampOf es := by
  have hany : fs.any (fun e => decide (4 ≤ e.type.severity) && decide (e.state ≠ .silenced)) =
      es.any (fun e => decide (4 ≤ e.type.severity) && decide (e.state ≠ .silenced)) := by
    rw [Bool.eq_iff_iff, List.any_eq_true, List.any_eq_true]
    simp only [Bool.and_eq_true, decide_eq_true_iff]
    exact h
  have hempty : fs.isEmpty = es.isEmpty := by
    rw [Bool.eq_iff_iff, List.isEmpty_iff, List.isEmpty_iff, hn]
  rw [lampOf, lampOf, hany, hempty]

/-- R110: the lamp looks at the pairs and at what is SILENCED alone. -/
theorem lampOf_map {f : Entry → Entry} (hf : ∀ e, (f e).type = e.type) (es : List Entry)
    (hs : ∀ e ∈ es, (f e).state = .silenced ↔ e.state = .silenced) : lampOf (es.map f) = lampOf es := by
  refine lampOf_congr List.map_eq_nil_iff ⟨?_, ?_⟩
  · rintro ⟨_, hx, h4, hn⟩
    obtain ⟨e, he, rfl⟩ := List.mem_map.mp hx
    rw [hf] at h4
    exact ⟨e, he, h4, fun h => hn ((hs e he).mpr h)⟩
  · rintro ⟨e, he, h4, hn⟩
    exact ⟨f e, List.mem_map_of_mem he, by rwa [hf], fun h => hn ((hs e he).mp h)⟩

/-- What the test for suppression makes of one entry. -/
def State.testEntry (s : State) (e : Entry) : Entry := if e.ready = true ∧ s.suppressed e = true then e.silent else e

theorem State.testEntry_pair (s : State) (e : Entry) :
    (s.testEntry e).source = e.source ∧ (s.testEntry e).type = e.type := by
  unfold State.testEntry
  split
  · exact e.silent_pair
  · exact ⟨rfl, rfl⟩

theorem Entry.silent_state (e : Entry) (h : e.ready = true) : e.silent.state ≠ .silenced ∧ e.state ≠ .silenced := by
  have hq := (e.ready_iff.mp h).1
  unfold Entry.silent
  refine ⟨?_, by simp [hq]⟩
  split
  · split <;> simp [hq]
  · simp [hq]

theorem State.testEntry_silenced (s : State) (e : Entry) : (s.testEntry e).state = .silenced ↔ e.state = .silenced := by
  unfold State.testEntry
  split
  next h => exact iff_of_false (e.silent_state h.1).1 (e.silent_state h.1).2
  next => rfl

theorem State.tested_eq (s : State) : s.tested = s.warn.entries.map s.testEntry := rfl

theorem lampOf_tested (s : State) : lampOf s.tested = lampOf s.warn.entries :=
  lampOf_map (fun e => (s.testEntry_pair e).2) _ (fun e _ => s.testEntry_silenced e)

theorem hasPair_tested (s : State) (a : Source) (w : WarnType) : hasPair a w s.tested = hasPair a w s.warn.entries :=
  hasPair_map s.testEntry_pair _

theorem Entry.silent_raisedAt (e : Entry) : e.silent.raisedAt = e.raisedAt := by
  unfold Entry.silent
  split
  · split <;> rfl
  · rfl

theorem State.testEntry_raisedAt (s : State) (e : Entry) : (s.testEntry e).raisedAt = e.raisedAt := by
  unfold State.testEntry
  split
  · exact e.silent_raisedAt
  · rfl

/-- A change of entries one by one keeps the dates. -/
theorem dates_map {s : State} {es : List Entry} {p : Prop} {f : Entry → Entry}
    (hf : ∀ e, (f e).source = e.source ∧ (f e).type = e.type ∧ (f e).raisedAt = e.raisedAt)
    (h : ∀ x ∈ es, (∃ e ∈ s.warn.entries, e.source = x.source ∧ e.type = x.type ∧ e.raisedAt = x.raisedAt) ∨
      (x.raisedAt = s.clock.minute ∧ p)) :
    ∀ x ∈ es.map f, (∃ e ∈ s.warn.entries, e.source = x.source ∧ e.type = x.type ∧ e.raisedAt = x.raisedAt) ∨
      (x.raisedAt = s.clock.minute ∧ p) := by
  intro x hx
  obtain ⟨e, he, rfl⟩ := List.mem_map.mp hx
  rw [(hf e).1, (hf e).2.1, (hf e).2.2]
  exact h e he

theorem State.entriesDealt.silenced {s t : State} {d : Dealing} (h : s.entriesDealt d t) (hf : d.tests t.suppressed) :
    s.entriesDealt d t.silenced where
  distinct := h.distinct.map t.testEntry_pair
  origin x hx := by
    obtain ⟨hx, -⟩ | ⟨e, he, ⟨hr, hs⟩, rfl⟩ := State.mem_tested.mp hx
    · exact h.origin x hx
    · obtain ⟨e', he', hh⟩ | ⟨hra, hfl, hh⟩ := h.origin e he
      · obtain rfl := hh.eq_of_ready hr
        exact .inl ⟨e, he', .inr (.inl ⟨hr, rfl, _, hf, hs⟩)⟩
      · refine .inr ?_
        rw [e.silent_pair.1, e.silent_pair.2]
        have heq := hh.eq_of_ready hr
        rw [← heq]
        exact ⟨hra, hfl, .inr (.inl ⟨hr, rfl, _, hf, hs⟩)⟩
  place e he hp := by
    have hp : ¬d.moved (e.source, e.type) ∨ (isDriving e.type = false ∧ hasPair e.source e.type t.warn.entries = true) := by
      rw [← hasPair_tested t]
      exact hp
    obtain ⟨x, hx, hh⟩ := h.place e he hp
    refine ⟨t.testEntry x, List.mem_map_of_mem hx, ?_⟩
    unfold State.testEntry
    split
    next hrs =>
      obtain rfl := hh.eq_of_ready hrs.1
      exact .inr (.inl ⟨hrs.1, rfl, _, hf, hrs.2⟩)
    next => exact hh
  sounding := h.sounding
  idle hi := by
    refine (h.idle hi).imp_right ?_
    rintro ⟨hm, h7, e, he, hr, ht, hc, hfirst⟩
    refine ⟨hm, h7, e, he, hr, ht, hc.imp_left (And.imp_right fun hx => ?_), fun y hy hry => ?_⟩
    · exact State.mem_tested.mpr (.inl ⟨hx, fun hrs => by rw [e.taken_not_ready] at hrs; cases hrs.1⟩)
    · exact hfirst y (State.ready_tested.mp ⟨hy, hry⟩).1 hry

theorem State.deals.silenced {s t : State} {d : Dealing} (h : s.deals d t) (hf : d.tests t.suppressed) :
    s.deals d t.silenced where
  released := h.released
  minute := h.minute
  mode := h.mode
  others a w hn := (hasPair_tested t a w).trans (h.others a w hn)
  dates := dates_map (fun e => ⟨(t.testEntry_pair e).1, (t.testEntry_pair e).2, t.testEntry_raisedAt e⟩) h.dates
  lamp := by
    refine h.lamp.imp ?_ ?_
    · rintro ⟨h1, h2⟩
      exact ⟨h1.trans (lampOf_tested t).symm, h2⟩
    · rintro ⟨h1, h2, h3⟩
      exact ⟨h1, h2, fun a w => (hasPair_tested t a w).trans (h3 a w)⟩
  each hd := (h.each hd).silenced hf

/-- What the beginning of a burst makes of one entry. -/
def Entry.takenFor (e x : Entry) : Entry := if x.source = e.source ∧ x.type = e.type then x.taken else x

theorem Entry.takenFor_pair (e x : Entry) : (e.takenFor x).source = x.source ∧ (e.takenFor x).type = x.type := by
  unfold Entry.takenFor
  split <;> exact ⟨rfl, rfl⟩

theorem Entry.takenFor_raisedAt (e x : Entry) : (e.takenFor x).raisedAt = x.raisedAt := by
  unfold Entry.takenFor
  split <;> rfl

theorem State.bursting_entries (s : State) (e : Entry) : (s.bursting e).warn.entries = s.warn.entries.map e.takenFor := rfl

theorem lampOf_takenFor {e : Entry} {es : List Entry} (he : e ∈ es) (hr : e.ready = true) :
    lampOf (es.map e.takenFor) = lampOf es := by
  have hq : e.state ≠ .silenced := (e.silent_state hr).2
  refine lampOf_congr List.map_eq_nil_iff ⟨?_, ?_⟩
  · rintro ⟨_, hx, h4, hn⟩
    obtain ⟨x, hxm, rfl⟩ := List.mem_map.mp hx
    rw [(e.takenFor_pair x).2] at h4
    unfold Entry.takenFor at hn
    split at hn
    next hp => exact ⟨e, he, hp.2 ▸ h4, hq⟩
    next hp => exact ⟨x, hxm, h4, hn⟩
  · rintro ⟨x, hxm, h4, hn⟩
    refine ⟨e.takenFor x, List.mem_map_of_mem hxm, by rwa [(e.takenFor_pair x).2], ?_⟩
    unfold Entry.takenFor
    split
    · exact fun h => nomatch h
    · exact hn

theorem State.entriesDealt.bursting {s t : State} {d : Dealing} {e : Entry} (h : s.entriesDealt d t)
    (hmode : t.port.mode = s.port.mode) (hi : t.warn.chime = .idle) (hm : t.port.mode ≠ .selfTest)
    (he : e ∈ t.warn.entries) (hr : e.ready = true) (ht : ∃ f, d.tests f ∧ f e = false)
    (hfirst : ∀ y ∈ t.warn.entries, y.ready = true → e.ranksFirst y) : s.entriesDealt d (t.bursting e) := by
  have hchime : (t.bursting e).warn.chime = .sounding e.source e.type e.type.tones true true := rfl
  have hcase : ∀ x ∈ t.warn.entries, (x = e ∧ e.takenFor x = e.taken) ∨ e.takenFor x = x := by
    intro x hx
    by_cases hp : x.source = e.source ∧ x.type = e.type
    · obtain rfl := h.distinct.eq hx he hp.1 hp.2
      exact .inl ⟨rfl, if_pos ⟨rfl, rfl⟩⟩
    · exact .inr (if_neg hp)
  have hown : ∀ x : Entry, x.handledBy d t.warn.chime e → x.handledBy d (t.bursting e).warn.chime e.taken := by
    intro x hx
    obtain rfl := hx.eq_of_ready hr
    exact .inr (.inr ⟨hr, rfl, ht, hchime⟩)
  have hrest : ∀ x y : Entry, x.handledBy d t.warn.chime y → x.handledBy d (t.bursting e).warn.chime y := by
    intro x y hx
    rw [hi] at hx
    exact hx.of_idle
  refine ⟨h.distinct.map e.takenFor_pair, fun x hx => ?_, fun x hx hp => ?_, fun a w n snd owned hs => ?_, fun hs => ?_⟩
  · rw [State.bursting_entries] at hx
    obtain ⟨y, hy, rfl⟩ := List.mem_map.mp hx
    rw [(e.takenFor_pair y).1, (e.takenFor_pair y).2]
    obtain ⟨rfl, htk⟩ | htk := hcase y hy
    · rw [htk]
      exact (h.origin y hy).imp (fun ⟨z, hz, hh⟩ => ⟨z, hz, hown z hh⟩) (fun ⟨h1, h2, hh⟩ => ⟨h1, h2, hown _ hh⟩)
    · rw [htk]
      exact (h.origin y hy).imp (fun ⟨z, hz, hh⟩ => ⟨z, hz, hrest _ _ hh⟩) (fun ⟨h1, h2, hh⟩ => ⟨h1, h2, hrest _ _ hh⟩)
  · have hp : ¬d.moved (x.source, x.type) ∨ (isDriving x.type = false ∧ hasPair x.source x.type t.warn.entries = true) := by
      rw [← hasPair_map e.takenFor_pair]
      exact hp
    obtain ⟨y, hy, hh⟩ := h.place x hx hp
    refine ⟨e.takenFor y, List.mem_map_of_mem hy, ?_⟩
    obtain ⟨rfl, htk⟩ | htk := hcase y hy
    · rw [htk]
      exact hown x hh
    · rw [htk]
      exact hrest _ _ hh
  · obtain ⟨hc | ⟨hc, -⟩, -⟩ := h.sounding a w n snd owned hs
    · rw [hi, hs] at hc
      cases hc
    · rw [hi] at hc
      cases hc
  · refine .inr ⟨hmode ▸ hm, Timer.write_given _ _ _, e, ?_, hr, ht, .inl ⟨hchime, ?_⟩, fun y hy hry _ => ?_⟩
    · obtain ⟨z, hz, hh⟩ | ⟨hra, -, hh⟩ := h.origin e he
      · obtain rfl := hh.eq_of_ready hr
        exact .inl hz
      · exact .inr ⟨hra, hh.eq_of_ready hr⟩
    · exact List.mem_map.mpr ⟨e, he, if_pos ⟨rfl, rfl⟩⟩
    · rw [State.bursting_entries] at hy
      obtain ⟨z, hz, rfl⟩ := List.mem_map.mp hy
      obtain ⟨rfl, htk⟩ | htk := hcase z hz
      · rw [htk, z.taken_not_ready] at hry
        cases hry
      · rw [htk] at hry ⊢
        exact hfirst z hz hry

theorem State.deals.bursting {s t : State} {d : Dealing} {e : Entry} (h : s.deals d t) (hi : t.warn.chime = .idle)
    (hm : t.port.mode ≠ .selfTest) (he : e ∈ t.warn.entries) (hr : e.ready = true)
    (ht : ∃ f, d.tests f ∧ f e = false) (hfirst : ∀ y ∈ t.warn.entries, y.ready = true → e.ranksFirst y) :
    s.deals d (t.bursting e) where
  released := h.released
  minute := h.minute
  mode := h.mode
  others a w hn := (hasPair_map e.takenFor_pair _).trans (h.others a w hn)
  dates := dates_map (fun x => ⟨(e.takenFor_pair x).1, (e.takenFor_pair x).2, e.takenFor_raisedAt x⟩) h.dates
  lamp := by
    refine h.lamp.imp ?_ ?_
    · rintro ⟨h1, h2⟩
      exact ⟨h1.trans (lampOf_takenFor he hr).symm, h2⟩
    · rintro ⟨h1, h2, h3⟩
      exact ⟨h1, h2, fun a w => (hasPair_map e.takenFor_pair _).trans (h3 a w)⟩
  each hd := (h.each hd).bursting h.mode hi hm he hr ht hfirst

/-- The test and the selection. -/
theorem State.deals.settle {s t : State} {d : Dealing} (h : s.deals d t) (hf : d.tests t.suppressed) :
    s.deals d t.settle := by
  have hs := h.silenced hf
  obtain ⟨-, heq⟩ | ⟨hi, hm, e, he, hr, hns, hfirst, heq⟩ := State.settle_cases h.released
  · rw [heq]
    exact hs
  · rw [heq]
    refine hs.bursting hi hm (State.ready_tested.mpr ⟨he, hr, hns⟩).1 hr ⟨_, hf, hns⟩ fun y hy hry => ?_
    obtain ⟨hym, -, hys⟩ := State.ready_tested.mp ⟨hy, hry⟩
    exact hfirst y hym hry hys

/-! ### A raise and a removal -/

theorem insertEntry_perm (e : Entry) (es : List Entry) : (insertEntry e es).Perm (e :: es) := by
  induction es with
  | nil => exact .refl _
  | cons x es ih =>
    unfold insertEntry
    split
    · exact .refl _
    · exact (List.Perm.cons x ih).trans (.swap e x es)

theorem mem_insertEntry {e x : Entry} {es : List Entry} : x ∈ insertEntry e es ↔ x = e ∨ x ∈ es :=
  (insertEntry_perm e es).mem_iff.trans List.mem_cons

theorem hasPair_insertEntry (a : Source) (w : WarnType) (e : Entry) (es : List Entry) :
    hasPair a w (insertEntry e es) = ((decide (e.source = a) && decide (e.type = w)) || hasPair a w es) := by
  rw [Bool.eq_iff_iff, Bool.or_eq_true, hasPair_iff, hasPair_iff]
  simp [mem_insertEntry]

/-- R108: the presenter once a pair is raised. -/
def Warn.raised (v : Warn) (a : Source) (w : WarnType) (now : Nat) : Warn :=
  ({ v with entries := insertEntry (.atRaise a w now) v.entries } : Warn).workLamp

theorem State.addEntry_eq {s : State} {a : Source} {w : WarnType} (h : hasPair a w s.warn.entries = false) :
    s.addEntry a w = (s.setWarn (s.warn.raised a w s.clock.minute)).notice .warning := by
  unfold State.addEntry
  rw [h]
  rfl

theorem State.addEntry_present {s : State} {a : Source} {w : WarnType} (h : hasPair a w s.warn.entries = true) :
    s.addEntry a w = s := by
  unfold State.addEntry
  rw [h]
  rfl

/-- R110: the lamp worked afresh, after a change of the entries, follows what the event found. -/
theorem Warn.lampWorked_workLamp {w v : Warn} {es : List Entry} {c : Chime}
    (h : w.lampWorked v ∨ (v.lamp = w.lamp ∧ v.lampOn = w.lampOn)) :
    w.lampWorked ({ v with entries := es, chime := c } : Warn).workLamp := by
  have hv := v.workLamp_worked es c
  obtain ⟨h1, h2, h3, h4⟩ := hv
  refine ⟨h1, h2, h3, fun hf => ?_⟩
  obtain ho | ⟨hvl, ho⟩ := h4 hf
  · exact .inl ho
  · rw [ho]
    obtain ⟨-, -, -, hw⟩ | ⟨hl, hon⟩ := h
    · exact (hw hvl).imp_right (And.imp_right id)
    · exact .inr ⟨hl ▸ hvl, hon⟩

/-- R108: what a raise may rely on: the pair is one that the event may raise, it was not there before when it is not a
driving warning's, and a burst that the event began does not outrank it. -/
structure State.mayRaise (s : State) (d : Dealing) (t : State) (a : Source) (w : WarnType) : Prop where
  raised : d.raised (a, w)
  moved : d.moved (a, w)
  fresh : isDriving w = false → hasPair a w t.warn.entries = false → hasPair a w s.warn.entries = false
  ranked : d.ranked (a, w) → t.warn.chime = s.warn.chime

theorem atRaise_pair {e : Entry} {a : Source} {w : WarnType} {now : Nat} (h : e = .atRaise a w now) :
    e.source = a ∧ e.type = w ∧ e.raisedAt = now := by
  subst h
  exact ⟨rfl, rfl, rfl⟩

theorem State.deals.addEntry {s t : State} {d : Dealing} {a : Source} {w : WarnType} (h : s.deals d t)
    (hm : s.mayRaise d t a w) : s.deals d (t.addEntry a w) := by
  cases hn : hasPair a w t.warn.entries with
  | true =>
    rw [State.addEntry_present hn]
    exact h
  | false =>
  have habs : ∀ e ∈ t.warn.entries, ¬(e.source = a ∧ e.type = w) := fun e he hp => by
    rw [hasPair_iff.mpr ⟨e, he, hp⟩] at hn
    cases hn
  obtain ⟨u, hu⟩ : ∃ u, u = t.addEntry a w := ⟨_, rfl⟩
  rw [← hu]
  rw [State.addEntry_eq hn] at hu
  have hflag : Notice.warning.inByte u.port.flags = true := by
    rw [hu, State.notice_inByte]
    simp [State.setWarn, h.released]
  have hentries : u.warn.entries = insertEntry (.atRaise a w s.clock.minute) t.warn.entries := by
    rw [← h.minute, hu]
    simp [State.setWarn, Warn.raised, Warn.workLamp]
  have hchime : u.warn.chime = t.warn.chime := by
    rw [hu]
    simp [State.setWarn, Warn.raised, Warn.workLamp]
  have htimers : u.timers = t.timers := by
    rw [hu]
    simp [State.setWarn]
  have hpair : ∀ b v, hasPair b v u.warn.entries =
      ((decide (a = b) && decide (w = v)) || hasPair b v t.warn.entries) := fun b v => by
    rw [hentries, hasPair_insertEntry]
    rfl
  have hkeep : ∀ b v, ¬(b = a ∧ v = w) → hasPair b v u.warn.entries = hasPair b v t.warn.entries := by
    intro b v hb
    rw [hpair]
    have : (decide (a = b) && decide (w = v)) = false := by
      rw [← Bool.not_eq_true, Bool.and_eq_true, decide_eq_true_iff, decide_eq_true_iff]
      exact fun hab => hb ⟨hab.1.symm, hab.2.symm⟩
    rw [this, Bool.false_or]
  refine ⟨?_, ?_, ?_, fun b v hb => ?_, fun x hx => ?_, .inl ?_, fun hd => ?_⟩
  · rw [hu]
    simpa [State.setWarn] using h.released
  · rw [hu]
    simpa [State.setWarn] using h.minute
  · rw [hu]
    simpa [State.setWarn] using h.mode
  · rw [hkeep b v (fun hab => hb (by rw [hab.1, hab.2]; exact hm.moved)), h.others b v hb]
  · rw [hentries, mem_insertEntry] at hx
    obtain rfl | hx := hx
    · exact .inr ⟨rfl, hflag⟩
    · exact (h.dates x hx).imp_right fun hd => ⟨hd.1, hflag⟩
  · have hlamp := Warn.lampWorked_workLamp (es := insertEntry (.atRaise a w t.clock.minute) t.warn.entries)
      (c := t.warn.chime) (h.lamp.imp_right fun hl => ⟨hl.1, hl.2.1⟩)
    have hwarn : u.warn = t.warn.raised a w t.clock.minute := by simp [hu, State.setWarn]
    rw [hwarn]
    exact hlamp
  · obtain ⟨hdist, horigin, hplace, hsound, hidle⟩ := h.each hd
    refine ⟨?_, fun x hx => ?_, fun e he hp => ?_, ?_, fun hs => ?_⟩
    · rw [hentries]
      have hsym : ∀ {x y : Entry}, ¬(x.source = y.source ∧ x.type = y.type) → ¬(y.source = x.source ∧ y.type = x.type) :=
        fun hxy hyx => hxy ⟨hyx.1.symm, hyx.2.symm⟩
      refine ((insertEntry_perm _ _).pairwise_iff hsym).mpr (List.pairwise_cons.mpr ⟨fun e he hp => ?_, hdist⟩)
      exact habs e he ⟨hp.1.symm, hp.2.symm⟩
    · rw [hchime]
      rw [hentries, mem_insertEntry] at hx
      obtain rfl | hx := hx
      · exact .inr ⟨hm.raised, hflag, .inl rfl⟩
      · exact (horigin x hx).imp_right fun ⟨h1, _, h3⟩ => ⟨h1, hflag, h3⟩
    · rw [hchime]
      have hne : ¬(e.source = a ∧ e.type = w) := by
        rintro ⟨rfl, rfl⟩
        obtain hp | ⟨hdr, -⟩ := hp
        · exact hp hm.moved
        · have := hm.fresh hdr hn
          rw [hasPair_iff.mpr ⟨e, he, rfl, rfl⟩] at this
          cases this
      rw [hkeep _ _ hne] at hp
      obtain ⟨x, hx, hh⟩ := hplace e he hp
      exact ⟨x, by rw [hentries, mem_insertEntry]; exact .inr hx, hh⟩
    · rw [hchime, htimers]
      exact hsound
    · rw [hchime, htimers]
      refine (hidle hs).imp_right ?_
      rintro ⟨hmode, h7, e, he, hr, ht, hc, hfirst⟩
      refine ⟨hmode, h7, e, he, hr, ht, hc.imp_left (And.imp_right fun hx => ?_), fun y hy hry hrk => ?_⟩
      · rw [hentries, mem_insertEntry]
        exact .inr hx
      · rw [hentries, mem_insertEntry] at hy
        obtain rfl | hy := hy
        · have hci := (hm.ranked hrk).trans hs
          obtain ⟨hc, -⟩ | ⟨hc, -⟩ := hc <;>
          · rw [hci] at hc
            cases hc
        · exact hfirst y hy hry hrk

theorem mem_dropped {v : Warn} {a : Source} {w : WarnType} {x : Entry} :
    x ∈ (v.dropped a w).entries ↔ x ∈ v.entries ∧ ¬(x.source = a ∧ x.type = w) := by
  simp only [Warn.dropped, Warn.workLamp, List.mem_filter, Bool.not_eq_true', ← Bool.not_eq_true, Bool.and_eq_true,
    decide_eq_true_iff]

theorem hasPair_dropped (v : Warn) (a : Source) (w : WarnType) (b : Source) (y : WarnType) :
    hasPair b y (v.dropped a w).entries = true ↔ hasPair b y v.entries = true ∧ ¬(b = a ∧ y = w) := by
  simp only [hasPair_iff, mem_dropped]
  constructor
  · rintro ⟨e, ⟨he, hn⟩, rfl, rfl⟩
    exact ⟨⟨e, he, rfl, rfl⟩, hn⟩
  · rintro ⟨⟨e, he, rfl, rfl⟩, hn⟩
    exact ⟨e, ⟨he, hn⟩, rfl, rfl⟩

theorem Warn.dropped_chime (v : Warn) (a : Source) (w : WarnType) :
    (v.dropped a w).chime =
      match v.chime with
      | .idle => .idle
      | .sounding b y n snd owned => .sounding b y n snd (owned && !(decide (b = a) && decide (y = w))) := rfl

/-- R117: a removal takes a burst's ownership away from its own pair alone. -/
theorem Warn.dropped_sounding {v : Warn} {a b : Source} {w y : WarnType} {n : Nat} {snd owned : Bool}
    (h : v.chime = .sounding b y n snd owned) :
    ((v.dropped a w).chime = .sounding b y n snd owned ∧ (owned = true → ¬(b = a ∧ y = w))) ∨
    ((v.dropped a w).chime = .sounding b y n snd false ∧ b = a ∧ y = w) := by
  rw [Warn.dropped_chime, h]
  by_cases hp : b = a ∧ y = w
  · exact .inr ⟨by simp [hp.1, hp.2], hp⟩
  · refine .inl ⟨?_, fun _ => hp⟩
    have : (decide (b = a) && decide (y = w)) = false := by
      rw [← Bool.not_eq_true, Bool.and_eq_true, decide_eq_true_iff, decide_eq_true_iff]
      exact hp
    simp [this]

theorem State.deals.dropEntry {s t : State} {d : Dealing} {a : Source} {w : WarnType} (h : s.deals d t)
    (hm : d.moved (a, w)) : s.deals d (t.dropEntry a w) := by
  cases hn : hasPair a w t.warn.entries with
  | false =>
    rw [State.dropEntry_absent hn]
    exact h
  | true =>
  rw [State.dropEntry_eq hn]
  obtain ⟨v, hv⟩ : ∃ v, v = t.warn.dropped a w := ⟨_, rfl⟩
  rw [← hv]
  have hmem : ∀ x, x ∈ v.entries ↔ x ∈ t.warn.entries ∧ ¬(x.source = a ∧ x.type = w) := fun x => hv ▸ mem_dropped
  have hpair : ∀ b y, hasPair b y v.entries = true ↔ hasPair b y t.warn.entries = true ∧ ¬(b = a ∧ y = w) :=
    fun b y => hv ▸ hasPair_dropped t.warn a w b y
  have hhandled : ∀ e x : Entry, x ∈ v.entries → e.handledBy d t.warn.chime x → e.handledBy d v.chime x := by
    intro e x hx hh
    obtain heq | hsil | ⟨hr, rfl, ht, hc⟩ := hh
    · exact .inl heq
    · exact .inr (.inl hsil)
    · refine .inr (.inr ⟨hr, rfl, ht, ?_⟩)
      obtain ⟨hc', -⟩ | ⟨-, hp⟩ := Warn.dropped_sounding (a := a) (w := w) hc
      · rw [hv]
        exact hc'
      · exact absurd hp ((hmem _).mp hx).2
  refine ⟨h.released, h.minute, h.mode, fun b y hb => ?_, fun x hx => h.dates x ((hmem x).mp hx).1, .inl ?_, fun hd => ?_⟩
  · rw [← h.others b y hb, Bool.eq_iff_iff]
    exact (hpair b y).trans (and_iff_left fun hp => hb (by rw [hp.1, hp.2]; exact hm))
  · rw [hv]
    exact Warn.lampWorked_workLamp (h.lamp.imp_right fun hl => ⟨hl.1, hl.2.1⟩)
  · obtain ⟨hdist, horigin, hplace, hsound, hidle⟩ := h.each hd
    refine ⟨?_, fun x hx => ?_, fun e he hp => ?_, fun b y n snd owned hs => ?_, fun hs => ?_⟩
    · rw [hv]
      exact hdist.sublist List.filter_sublist
    · exact (horigin x ((hmem x).mp hx).1).imp (fun ⟨e, he, hh⟩ => ⟨e, he, hhandled _ _ hx hh⟩)
        (fun ⟨h1, h2, hh⟩ => ⟨h1, h2, hhandled _ _ hx hh⟩)
    · have hne : ¬(e.source = a ∧ e.type = w) := by
        rintro ⟨rfl, rfl⟩
        obtain hp | ⟨-, hp⟩ := hp
        · exact hp hm
        · exact ((hpair _ _).mp hp).2 ⟨rfl, rfl⟩
      obtain ⟨x, hx, hh⟩ := hplace e he (hp.imp_right (And.imp_right fun hp => ((hpair _ _).mp hp).1))
      have hxv : x ∈ v.entries := (hmem x).mpr ⟨hx, by rw [hh.pair.1, hh.pair.2]; exact hne⟩
      exact ⟨x, hxv, hhandled _ _ hxv hh⟩
    · obtain ⟨hc, h7⟩ := hsound b y n snd owned hs
      refine ⟨?_, h7⟩
      show v.chime = s.warn.chime ∨ _
      rw [hs] at hc ⊢
      obtain hc | ⟨hc, hmv⟩ := hc
      · obtain ⟨hc', -⟩ | ⟨hc', rfl, rfl⟩ := Warn.dropped_sounding (a := a) (w := w) hc
        · exact .inl (hv ▸ hc')
        · exact .inr ⟨hv ▸ hc', hm⟩
      · obtain ⟨hc', -⟩ | ⟨hc', -⟩ := Warn.dropped_sounding (a := a) (w := w) hc
        · exact .inr ⟨hv ▸ hc', hmv⟩
        · exact .inr ⟨hv ▸ hc', hmv⟩
    · obtain ⟨hc, h7⟩ | ⟨hmode, h7, e, he, hr, ht, hc, hfirst⟩ := hidle hs
      · refine .inl ⟨?_, h7⟩
        show v.chime = .idle
        rw [hv, Warn.dropped_chime, hc]
      · refine .inr ⟨hmode, h7, e, he, hr, ht, ?_, fun y hy => hfirst y ((hmem y).mp hy).1⟩
        obtain ⟨hc, hx⟩ | ⟨hc, hmv⟩ := hc
        · obtain ⟨hc', hp⟩ | ⟨hc', hp1, hp2⟩ := Warn.dropped_sounding (a := a) (w := w) hc
          · exact .inl ⟨hv ▸ hc', (hmem _).mpr ⟨hx, hp rfl⟩⟩
          · exact .inr ⟨hv ▸ hc', by rw [hp1, hp2]; exact hm⟩
        · obtain ⟨hc', -⟩ | ⟨hc', -⟩ := Warn.dropped_sounding (a := a) (w := w) hc
          · exact .inr ⟨hv ▸ hc', hmv⟩
          · exact .inr ⟨hv ▸ hc', hmv⟩

end Sys2Proof.Machine
end

section
/-! PROOF. What `State.deals` gives of raises, removals and tested conditions, and how `State.listKept` is read off it. -/
namespace Sys2Proof.Machine

/-! ### Raises, removals and conditions -/

theorem State.suppressed_eq {s t : State} (hm : t.port.mode = s.port.mode) (hq : t.quiet = s.quiet)
    (ha : t.accounts = s.accounts) : t.suppressed = s.suppressed :=
  funext (State.suppressed_congr hm hq ha)

theorem State.raise_released {s : State} (a : Source) (w : WarnType) (h : s.rst.asserted = false) :
    s.raise a w = if hasPair a w s.warn.entries then s else (s.addEntry a w).settle := by
  simp [State.raise, h]

theorem State.deals.raise {s t : State} {d : Dealing} {a : Source} {w : WarnType} (h : s.deals d t)
    (hf : d.tests t.suppressed) (hm : s.mayRaise d t a w) : s.deals d (t.raise a w) := by
  rw [State.raise_released a w h.released]
  split
  · exact h
  · refine (h.addEntry hm).settle ?_
    rw [State.suppressed_eq (s := t) (by simp) (by simp) (by simp)]
    exact hf

theorem State.deals.remove {s t : State} {d : Dealing} {a : Source} {w : WarnType} (h : s.deals d t)
    (hm : d.moved (a, w)) : s.deals d (t.remove a w) := by
  rw [State.remove_released t a w h.released]
  exact h.dropEntry hm

theorem State.deals.workCondition {s t : State} {d : Dealing} {a : Source} {w : WarnType} {b : Bool} (h : s.deals d t)
    (hf : d.tests t.suppressed) (hm : s.mayRaise d t a w) : s.deals d (t.workCondition a w b) := by
  unfold State.workCondition
  split
  · exact h.raise hf hm
  · split
    · exact h.remove hm.moved
    · exact h

/-- R77, R86: the driving warnings of a slot, as pairs. -/
def drivingPairs (i : Slot) : List (Source × WarnType) := [(.slot i, .driveNear), (.slot i, .driveOver), (.slot i, .dailyOver)]

theorem mayRaise_driving {s t : State} {d : Dealing} {i : Slot} {w : WarnType} (hw : isDriving w = true)
    (hr : d.raised (.slot i, w)) (hm : d.moved (.slot i, w)) (hk : ¬d.ranked (.slot i, w)) :
    s.mayRaise d t (.slot i) w :=
  ⟨hr, hm, fun h => (by rw [hw] at h; cases h), fun h => absurd h hk⟩

theorem State.deals.testDriving {s t : State} {d : Dealing} {i : Slot} (h : s.deals d t) (hf : d.tests t.suppressed)
    (hp : ∀ p ∈ drivingPairs i, d.raised p ∧ d.moved p ∧ ¬d.ranked p) : s.deals d (t.testDriving i) := by
  have hmay : ∀ {u : State} {w : WarnType}, (Source.slot i, w) ∈ drivingPairs i → isDriving w = true →
      s.mayRaise d u (.slot i) w := fun hw hd =>
    mayRaise_driving hd (hp _ hw).1 (hp _ hw).2.1 (hp _ hw).2.2
  unfold State.testDriving
  split
  next a _ =>
    have h1 := h.workCondition (b := a.driveNear) hf (hmay (w := .driveNear) (by simp [drivingPairs]) rfl)
    have h2 := h1.workCondition (b := a.driveOver)
      (by rw [State.suppressed_eq (s := t) (by simp) (by simp) (by simp)]; exact hf)
      (hmay (w := .driveOver) (by simp [drivingPairs]) rfl)
    exact h2.workCondition (by rw [State.suppressed_eq (s := t) (by simp) (by simp) (by simp)]; exact hf)
      (hmay (w := .dailyOver) (by simp [drivingPairs]) rfl)
  next => exact h

/-! ### Due entries settled -/

theorem State.dueSettled.congr {s t : State} (h : s.dueSettled) (hm : t.port.mode = s.port.mode)
    (hq : t.quiet = s.quiet) (ha : t.accounts = s.accounts) (he : ∀ e ∈ t.warn.entries, e ∈ s.warn.entries)
    (hc : s.warn.chime ≠ .idle → t.warn.chime ≠ .idle) : t.dueSettled := by
  intro e het hr
  obtain ⟨hs, hb⟩ := h e (he e het) hr
  rw [State.suppressed_congr hm hq ha, hm]
  exact ⟨hs, hb.imp_left hc⟩

theorem State.dropEntry_dueSettled {s : State} {a : Source} {w : WarnType} (h : s.dueSettled) :
    (s.dropEntry a w).dueSettled := by
  cases hn : hasPair a w s.warn.entries with
  | false => rwa [State.dropEntry_absent hn]
  | true =>
    rw [State.dropEntry_eq hn]
    refine h.congr rfl rfl rfl (fun e he => (mem_dropped.mp he).1) fun hc => ?_
    show (s.warn.dropped a w).chime ≠ .idle
    rw [Warn.dropped_chime]
    split
    next hi => exact absurd hi hc
    next => exact fun h => nomatch h

theorem State.raise_dueSettled {s : State} {a : Source} {w : WarnType} (hr : s.rst.asserted = false) (h : s.dueSettled) :
    (s.raise a w).dueSettled := by
  rw [State.raise_released a w hr]
  split
  · exact h
  · exact State.settle_dueSettled (by simpa using hr)

theorem State.raise_dueSettled_new {s : State} {a : Source} {w : WarnType} (hr : s.rst.asserted = false)
    (h : hasPair a w s.warn.entries = false) : (s.raise a w).dueSettled := by
  rw [State.raise_released a w hr, h]
  exact State.settle_dueSettled (by simpa using hr)

/-! ### From `deals` to `listKept` -/

/-- The suppressions that `State.tests` allows. -/
def testsAround (s t : State) (f : Entry → Bool) : Prop :=
  f = s.suppressed ∨ f = State.suppressed { t with quiet := s.quiet } ∨ f = t.suppressed

theorem testsAround.tests {s t : State} {f : Entry → Bool} (h : testsAround s t f) {e : Entry} {b : Bool}
    (hb : f e = b) : s.tests t e b := by
  obtain rfl | rfl | rfl := h
  · exact .inl hb
  · exact .inr (.inl hb)
  · exact .inr (.inr hb)

/-- What an event may do to a list, by the pairs it moves and whether it may raise them. -/
def Dealing.of (tests : (Entry → Bool) → Prop) (moved : List (Source × WarnType)) (raises : Prop) : Dealing where
  tests := tests
  moved p := p ∈ moved
  raised p := raises ∧ p ∈ moved
  ranked p := moved.length ≤ 1 ∨ p ∉ moved

theorem Entry.handledBy.handled {s t : State} {d : Dealing} {e x : Entry}
    (h : e.handledBy d t.warn.chime x) (ht : ∀ f, d.tests f → testsAround s t f) : e.handled s t x := by
  obtain h | ⟨hr, hx, f, hf, hs⟩ | ⟨hr, hx, ⟨f, hf, hs⟩, hc⟩ := h
  · exact .inl h
  · exact .inr (.inl ⟨hr, hx, (ht f hf).tests hs⟩)
  · exact .inr (.inr ⟨hr, hx, (ht f hf).tests hs, hc⟩)

theorem State.deals.listKept {s t : State} {σ : (Entry → Bool) → Prop} {moved : List (Source × WarnType)} {raises : Prop}
    (h : s.deals (.of σ moved raises) t) (ht : ∀ f, σ f → testsAround s t f) (hr : raises → t.dueSettled)
    (hd : s.dueSettled → t.dueSettled) : s.listKept moved t := by
  refine ⟨h.others, h.dates, fun hdist => ?_, hd, h.lamp⟩
  obtain ⟨-, horigin, hplace, hsound, hidle⟩ := h.each hdist
  refine ⟨fun x hx => ?_, fun e he hp => ?_, hsound, fun hi => ?_⟩
  · obtain ⟨e, he, hh⟩ | ⟨hra, hf, hh⟩ := horigin x hx
    · exact .inl ⟨e, he, hh.handled ht⟩
    · exact .inr ⟨hra.2, hf, hr hra.1, hh.handled ht⟩
  · obtain ⟨x, hx, hh⟩ := hplace e he hp
    exact ⟨x, hx, hh.handled ht⟩
  · refine (hidle hi).imp_right ?_
    rintro ⟨hm, h7, e, he, hre, ⟨f, hf, hs⟩, hc, hfirst⟩
    exact ⟨hm, h7, e, he.imp_right (And.imp_left And.right), hre, (ht f hf).tests hs, hc, hfirst⟩

/-- A list that an event did not touch. -/
theorem State.listKept_refl {s t : State} (moved : List (Source × WarnType)) (hw : t.warn = s.warn)
    (h7 : t.timers.t7 = s.timers.t7) (hd : s.dueSettled → t.dueSettled) : s.listKept moved t := by
  refine ⟨fun a w _ => by rw [hw], fun x hx => .inl ⟨x, hw ▸ hx, rfl, rfl, rfl⟩, fun hdist => ⟨fun x hx =>
    .inl ⟨x, hw ▸ hx, .inl rfl⟩, fun e he _ => ⟨e, hw ▸ he, .inl rfl⟩, fun _ _ _ _ _ _ => ⟨.inl (by rw [hw]), h7⟩,
    fun hi => .inl ⟨by rw [hw, hi], h7⟩⟩, hd, .inr ⟨by rw [hw], by rw [hw], fun _ _ => by rw [hw]⟩⟩

/-! ### What leaves the list alone -/

theorem Notice.inByte_and (n : Notice) (a b : Byte) : n.inByte (a &&& b) = (n.inByte a && n.inByte b) := by
  simp [Notice.inByte_eq]

theorem Port.settingsKept.flag {p q : Port} (h : p.settingsKept q) (n : Notice) (hf : n.inByte p.flags = true) :
    n.inByte q.flags = true := by
  obtain ⟨-, -, -, -, -, -, -, hk⟩ := h
  rw [← hk, Notice.inByte_and] at hf
  exact (Bool.and_eq_true_iff.mp hf).2

/-- Two states between which the list, the chime, its timer and the suppression are the same. -/
structure State.sameList (s t : State) : Prop where
  asserted : t.rst.asserted = s.rst.asserted
  clock : t.clock = s.clock
  quiet : t.quiet = s.quiet
  accounts : t.accounts = s.accounts
  warn : t.warn = s.warn
  t7 : t.timers.t7 = s.timers.t7
  port : s.port.settingsKept t.port

theorem State.noticed.sameList {s t : State} (h : s.noticed t) (clock : t.clock = s.clock) (quiet : t.quiet = s.quiet)
    (accounts : t.accounts = s.accounts) (warn : t.warn = s.warn) (t7 : t.timers.t7 = s.timers.t7) : s.sameList t :=
  ⟨h.1, clock, quiet, accounts, warn, t7, h.flagsKept⟩

theorem State.sameList.suppressed {s t : State} (h : s.sameList t) : t.suppressed = s.suppressed :=
  State.suppressed_eq h.port.1 h.quiet h.accounts

theorem State.sameList.dueSettled {s t : State} (h : s.sameList t) (hs : s.dueSettled) : t.dueSettled :=
  hs.congr h.port.1 h.quiet h.accounts (fun e he => h.warn ▸ he) fun hc => h.warn ▸ hc

theorem State.deals.same {s t u : State} {d : Dealing} (h : s.deals d t) (k : t.sameList u) : s.deals d u :=
  h.neutral (k.asserted.trans h.released) k.clock k.port.1 k.warn k.t7 (k.port.flag .warning)

theorem State.sameList.listKept {s t : State} (h : s.sameList t) (moved : List (Source × WarnType)) : s.listKept moved t :=
  State.listKept_refl moved h.warn h.t7 h.dueSettled

theorem State.sameList.trans {s t u : State} (h : s.sameList t) (k : t.sameList u) : s.sameList u :=
  ⟨k.asserted.trans h.asserted, k.clock.trans h.clock, k.quiet.trans h.quiet, k.accounts.trans h.accounts,
    k.warn.trans h.warn, k.t7.trans h.t7, h.port.trans k.port⟩

theorem State.sameList.refl (s : State) : s.sameList s := ⟨rfl, rfl, rfl, rfl, rfl, rfl, .refl _⟩

/-! ### One pair raised or removed -/

section
variable {s u t : State} {a : Source} {w : WarnType} (hr : s.rst.asserted = false) (hu : s.sameList u)
include hr hu

theorem State.raise_listKept (ht : (u.raise a w).sameList t) : s.listKept [(a, w)] t := by
  have hur : u.rst.asserted = false := hu.asserted.trans hr
  cases hn : hasPair a w u.warn.entries with
  | true =>
    rw [State.raise_released a w hur, hn] at ht
    exact (hu.trans ht).listKept _
  | false =>
    have hd : t.dueSettled := ht.dueSettled (State.raise_dueSettled_new hur hn)
    have hmay : State.mayRaise s (.of (· = s.suppressed) [(a, w)] True) u a w :=
      ⟨⟨trivial, by simp⟩, by simp [Dealing.of], fun _ hf => hu.warn ▸ hf, fun _ => by rw [hu.warn]⟩
    have hdeal : s.deals (.of (· = s.suppressed) [(a, w)] True) t :=
      (((State.deals.refl _ hr).same hu).raise hu.suppressed hmay).same ht
    exact hdeal.listKept (fun f hf => .inl hf) (fun _ => hd) fun _ => hd

theorem State.remove_listKept (ht : (u.remove a w).sameList t) : s.listKept [(a, w)] t := by
  have hur : u.rst.asserted = false := hu.asserted.trans hr
  have hdeal : s.deals (.of (· = s.suppressed) [(a, w)] False) t :=
    (((State.deals.refl _ hr).same hu).remove (by simp [Dealing.of])).same ht
  refine hdeal.listKept (fun f hf => .inl hf) (fun h => h.elim) fun hs => ht.dueSettled ?_
  rw [State.remove_released u a w hur]
  exact State.dropEntry_dueSettled (hu.dueSettled hs)

theorem State.workCondition_listKept {x : Bool} (ht : (u.workCondition a w x).sameList t) : s.listKept [(a, w)] t := by
  unfold State.workCondition at ht
  split at ht
  · exact State.raise_listKept hr hu ht
  · split at ht
    · exact State.remove_listKept hr hu ht
    · exact (hu.trans ht).listKept _

end

/-! ### What is listed -/

theorem hasPair_settle (s : State) (a : Source) (w : WarnType) :
    hasPair a w s.settle.warn.entries = hasPair a w s.warn.entries := by
  by_cases hr : s.rst.asserted = true
  · simp [State.settle, hr]
  · obtain ⟨-, heq⟩ | ⟨-, -, e, -, -, -, -, heq⟩ := State.settle_cases (Bool.not_eq_true _ ▸ hr)
    · rw [heq]
      exact hasPair_tested s a w
    · rw [heq, State.bursting_entries, hasPair_map e.takenFor_pair]
      exact hasPair_tested s a w

theorem hasPair_addEntry (s : State) (a b : Source) (w v : WarnType) :
    hasPair b v (s.addEntry a w).warn.entries = true ↔ hasPair b v s.warn.entries = true ∨ (b = a ∧ v = w) := by
  cases hn : hasPair a w s.warn.entries with
  | true =>
    rw [State.addEntry_present hn]
    exact ⟨.inl, fun h => h.elim id fun hp => by rw [hp.1, hp.2, hn]⟩
  | false =>
    have he : (s.addEntry a w).warn.entries = insertEntry (.atRaise a w s.clock.minute) s.warn.entries := by
      rw [State.addEntry_eq hn]
      simp [State.setWarn, Warn.raised, Warn.workLamp]
    rw [he, hasPair_insertEntry, Bool.or_eq_true, Bool.and_eq_true, decide_eq_true_iff, decide_eq_true_iff, or_comm]
    exact or_congr_right (and_congr eq_comm eq_comm)

theorem hasPair_dropEntry' (s : State) (a b : Source) (w v : WarnType) :
    hasPair b v (s.dropEntry a w).warn.entries = true ↔ hasPair b v s.warn.entries = true ∧ ¬(b = a ∧ v = w) := by
  cases hn : hasPair a w s.warn.entries with
  | false =>
    rw [State.dropEntry_absent hn]
    refine ⟨fun h => ⟨h, fun hp => ?_⟩, And.left⟩
    rw [hp.1, hp.2, hn] at h
    cases h
  | true =>
    rw [State.dropEntry_eq hn]
    exact hasPair_dropped _ _ _ _ _

section
variable {s : State} (hr : s.rst.asserted = false)
include hr

theorem hasPair_raise (a b : Source) (w v : WarnType) :
    hasPair b v (s.raise a w).warn.entries = true ↔ hasPair b v s.warn.entries = true ∨ (b = a ∧ v = w) := by
  rw [State.raise_released a w hr]
  split
  next hn => exact ⟨.inl, fun h => h.elim id fun hp => by rw [hp.1, hp.2, hn]⟩
  next => rw [hasPair_settle, hasPair_addEntry]

theorem hasPair_remove (a b : Source) (w v : WarnType) :
    hasPair b v (s.remove a w).warn.entries = true ↔ hasPair b v s.warn.entries = true ∧ ¬(b = a ∧ v = w) := by
  rw [State.remove_released s a w hr]
  exact hasPair_dropEntry' s a b w v

theorem State.workCondition_rst (a : Source) (w : WarnType) (x : Bool) : (s.workCondition a w x).rst = s.rst := by
  unfold State.workCondition State.raise State.remove
  rw [hr]
  repeat' split
  all_goals simp_all

/-- R105: a condition that is worked is listed exactly when it holds, and no other pair changes. -/
theorem hasPair_workCondition (hh : s.rst.heldWarnings = []) (a b : Source) (w v : WarnType) (x : Bool) :
    hasPair b v (s.workCondition a w x).warn.entries = true ↔
      (if b = a ∧ v = w then x = true else hasPair b v s.warn.entries = true) := by
  have hl : s.listed a w = hasPair a w s.warn.entries := by rw [State.listed, hh]; rfl
  unfold State.workCondition
  rw [hl]
  split
  next h =>
    obtain ⟨hx, hn⟩ := Bool.and_eq_true_iff.mp h
    rw [hasPair_raise hr, hx]
    split
    next hp => simp [hp]
    next hp => simp [hp]
  next h1 =>
    split
    next h =>
      obtain ⟨hx, hn⟩ := Bool.and_eq_true_iff.mp h
      rw [hasPair_remove hr]
      split
      next hp => simpa [hp] using hx
      next hp => simp [hp]
    next h2 =>
      split
      next hp =>
        rw [hp.1, hp.2]
        revert h1 h2
        cases x <;> cases hasPair a w s.warn.entries <;> simp
      next => rfl

end

end Sys2Proof.Machine
end

section
/-! PROOF. The pieces that every command but a cold start and the assertion of RESET is made of, for the laws that every
step keeps. -/
namespace Sys2Proof.Machine

/-! ### The guards of the pieces -/

/-- What a command makes of the port's own records, without a notice and without a change of mode. -/
def State.portSet (s : State) (p : Port) : Prop :=
  p.mode = s.port.mode ∧ (AttnLaw s → AttnLaw { s with port := p }) ∧ (WakeLaw s → WakeLaw { s with port := p })

/-- The wake figures of a set of settings are in their ranges (Table 18). -/
def Settings.figured (t : Settings) : Prop := t.wakeLevel ≤ 1000 ∧ t.wakeRamp ≤ 30

def Account.figured (a : Account) : Prop := a.settings.figured ∧ ∀ t, a.staged = some t → t.figured

/-- The figures that a wake order can come from. -/
def State.figured (s : State) : Prop := ∀ i a, s.account i = some a → a.figured

def HeldWake.figured (w : HeldWake) : Prop := w.level ≤ 1000 ∧ w.fade ≤ 1800

/-- An order that may be entered in the table. -/
def State.admitsOrder (s : State) (o : Order) : Prop :=
  o.keyFits ∧ o.targetFits ∧ o.anchorFits s ∧
  ((∃ p ∈ s.orders, p.key = o.key) ∨ (s.orders.length < 24 ∧ (s.port.mode = .normal ∨ s.port.mode = .workshop)))

/-- A write of the accounts, which empties a slot only where no order is anchored to it. -/
def State.accountsSet (s : State) (p : PerSlot (Option Account)) : Prop :=
  (s.figured → State.figured { s with accounts := p }) ∧
  ∀ i, (s.account i).isSome = true → (p.get i).isSome = true ∨ ∀ o ∈ s.orders, o.anchoredTo i = false

/-- A write of the sensing records that hands nothing on. -/
def State.senseSet (s : State) (x : Sense) : Prop :=
  x.ovht.level = s.sense.ovht.level ∧ (x.fridgeT.fault = true → s.sense.fridgeT.fault = true) ∧
  (SenseLaw s → SenseLaw { s with sense := x })

/-- R195 to R197: the entry into a part mode, with the burst that SELFTEST stops. -/
def State.enterMode (s : State) (m : PartMode) : State :=
  if m = .selfTest then (s.withPort (fun p => { p with mode := m })).cutBurst Entry.requeueDue
  else s.withPort (fun p => { p with mode := m })

/-- The commands that may change the part mode. -/
def movesMode (c : Instr) : Prop :=
  (∃ m b, c = .init (some m) (some b)) ∨ (∃ failed, c = .selftestEnd failed) ∨
  c = .shut ∨ (∃ bytes, c = .unknownRequest (.frame bytes) ∧ frameRequest bytes = some .shut) ∨ c = .resetEnd

/-- The commands that may move the clock's minute or its flag. -/
def movesClock (c : Instr) : Prop :=
  (∃ m, c = .tset m ∨ ∃ bytes, c = .unknownRequest (.frame bytes) ∧ frameRequest bytes = some (.tset m)) ∨
  c = .minuteExpiry ∨ ∃ whole, c = .timebaseSecond whole

/-- R116, R204: the release of RESET with what it held for the list, and the restart of the presenter. -/
def State.releasePresenter (s : State) : State := (s.releaseReset.applyHeld s.rst.heldWarnings).restartPresenter

/-- R158: the entry into LOCKOUT, before its warning, its notice and its pass. -/
def State.lockHeater (s : State) : State :=
  (s.endCooldown.withHeater (fun h => { h with state := .lockout, phase := none, glow := false })).writeFan 0

/-- Table 31: a cooldown ends in LOCKOUT after an overheat or a third failed start. -/
def Heater.locks (h : Heater) : Prop := h.cause = some .overheat ∨ (h.cause = some .failedStart ∧ h.failed = 3)

/-! ### The pieces by their blocks -/

/-- What works the heater alone. -/
inductive HeaterOp (c : Instr) (s : State) : State → Prop
  | preheatEnd (h : c = .preheatExpiry) : HeaterOp c s s.preheatExpiry
  | ignitionEnd : HeaterOp c s s.ignitionExpiry
  | provingEnd (h : c = .provingExpiry) : HeaterOp c s s.provingExpiry
  | cooldownEnd (h : c = .cooldownExpiry) (hs : s.heater.state = .cooldown) (hl : ¬s.heater.locks) :
      HeaterOp c s s.cooldownExpiry
  | clearCount : HeaterOp c s s.runClearsCount
  | satisfied : HeaterOp c s s.satisfiedStop
  | reading (value : Int) (fault : Bool) : HeaterOp c s (s.heaterReading value fault)
  | flamePresent (h : ∃ held, c = .debounceExpiry .flame held) : HeaterOp c s s.flamePresent
  | flameAbsent : HeaterOp c s s.flameAbsent
  | setParams (p : HeaterParams) : HeaterOp c s (s.withHeater (fun h => { h with params := p }))
  | unlock (h : ∃ clear, c = .hclear (some clear)) (hs : s.heater.state = .lockout) (ho : s.sense.ovht.level = false) :
      HeaterOp c s ((s.withHeater (fun h => { h with failed := 0 })).heaterGo .off)
  | clearFuel (b : Bool) : HeaterOp c s (s.clearFuel b)
  | second : HeaterOp c s (s.withHeater Heater.second)
  | endReset (moved : Bool) : HeaterOp c s (s.heaterEndReset moved)
  | settleCause : HeaterOp c s s.settleCause

/-- What works the refrigerator alone. -/
inductive FridgeOp (c : Instr) (s : State) : State → Prop
  | endRest : FridgeOp c s s.endRestIfDue
  | minOffEnd : FridgeOp c s s.minOffEnd
  | cycleOn : FridgeOp c s s.fixedCycleOnEnd
  | cycleOff : FridgeOp c s s.fixedCycleOffEnd
  | clearStalls : FridgeOp c s s.runClearsStalls
  | tach (rate : Nat) (h : ∃ edges, c = .tachWindowEnd edges)
      (hf : (s.tachReading rate).fridge.state = .fault → s.fridge.state = .fault) : FridgeOp c s (s.tachReading rate)
  | setMinOff (n : Nat) (hc : ∃ m, c = .fset m) (h : 120 ≤ n ∧ n ≤ 600) :
      FridgeOp c s (s.withFridge (fun f => { f with minOff := n }))
  | clearFault (h : s.fridge.state = .fault) :
      FridgeOp c s ((s.withFridge (fun f => { f with stalls := 0 })).fridgeGo .rest)
  | second (hc : ∃ whole, c = .timebaseSecond whole) : FridgeOp c s (s.withFridge Fridge.second)
  | endReset (hc : c = .resetEnd) (moved : Bool) : FridgeOp c s (s.fridgeEndReset moved)
  | call (b : Bool) : FridgeOp c s (s.withFridge (fun f => { f with call := b }))
  | warm (w : Option Nat) (h : w = none ∨ s.fridge.monitored.isSome = true) :
      FridgeOp c s (s.withFridge (fun f => { f with warmRun := w }))
  | start : FridgeOp c s s.startTest
  | inRun (setpoint value : Int) (hs : s.fridge.state = .run) (hf : s.sense.fridgeT.fault = false) :
      FridgeOp c s (s.c3InRun setpoint value)

/-- What works the lights alone. -/
inductive LightOp (s : State) : State → Prop
  | fadeStep (i : LightId) : LightOp s (s.fadeStep i)
  | setLights (l : LightSettings) : LightOp s (s.setLights l)

/-- What works the warning list, the chime and its timer alone. -/
inductive WarnOp (s : State) : State → Prop
  | settle : WarnOp s s.settle
  | countdownZero : WarnOp s s.countdownZero
  | acknowledge (e : Entry) (h : e ∈ s.warn.entries) (hr : s.rst.asserted = false) : WarnOp s (s.acknowledge e)
  | toneEnd : WarnOp s s.toneEnd
  | endOfBurst : WarnOp s s.endOfBurst
  | flash (h : s.warn.lamp = .flashing) : WarnOp s { s with warn := { s.warn with lampOn := !s.warn.lampOn } }
  | second : WarnOp s { s with warn := { s.warn with entries := s.warn.entries.map Entry.second } }

/-- The pieces of a command `c` taken in the state `r`. -/
inductive Piece (c : Instr) (r s : State) : State → Prop
  | port (p : Port) (h : s.portSet p) : Piece c r s { s with port := p }
  | notice (n : Notice) : Piece c r s (s.notice n)
  | accountNotice : Piece c r s s.accountNotice
  | mode (m : PartMode) (hc : movesMode c)
      (h : s.port.mode = .uninit ∨ s.port.mode = .selfTest ∨ s.orders = []) : Piece c r s (s.enterMode m)
  | second (hc : movesClock c) : Piece c r s { s with clock := s.clock.second }
  | minute (hc : movesClock c) : Piece c r s { s with clock := s.clock.minuteOn }
  | stepClock (m : Nat) (hc : movesClock c) : Piece c r s (s.stepClock m)
  | enter (o : Order) (h : (∀ w ∈ r.rst.heldWakes, w.figured) → OrderLaw s → s.figured → s.admitsOrder o) :
      Piece c r s { s with orders := insertOrder o s.orders }
  | dropOrders (os : List Order) (h : os.Sublist s.orders) : Piece c r s { s with orders := os }
  | budget (horizon keepMargin : Nat) : Piece c r s (s.setBudget horizon keepMargin)
  | draws (d : Draws) : Piece c r s (s.setDraws d)
  | charge (x : Charge) (h : ChargeLaw s → ChargeLaw { s with charge := x }) : Piece c r s { s with charge := x }
  | sense (x : Sense) (h : s.senseSet x) : Piece c r s { s with sense := x }
  | accounts (p : PerSlot (Option Account)) (h : s.accountsSet p) : Piece c r s { s with accounts := p }
  | transport (b : Bool) : Piece c r s { s with transport := b }
  | quiet : Piece c r s s.workQuiet
  | raise (a : Source) (w : WarnType) (h : pairMatches a w = true) : Piece c r s (s.raise a w)
  | remove (a : Source) (w : WarnType) (h : pairMatches a w = true) : Piece c r s (s.remove a w)
  | holdWake (w : HeldWake) (ha : s.rst.asserted = true) (h : s.figured → w.figured) :
      Piece c r s { s with rst := { s.rst with heldWakes := s.rst.heldWakes ++ [w] } }
  | warn {t : State} (h : WarnOp s t) : Piece c r s t
  | heater {t : State} (h : HeaterOp c s t) : Piece c r s t
  | lock (hc : c = .cooldownExpiry) (hs : s.heater.state = .cooldown) (hl : s.heater.locks) : Piece c r s s.lockHeater
  | fridge {t : State} (h : FridgeOp c s t) : Piece c r s t
  | stall (rate : Nat) (h : ∃ edges, c = .tachWindowEnd edges) : Piece c r s (s.tachReading rate)
  | lights {t : State} (h : LightOp s t) : Piece c r s t
  | overheat (held : Nat) : Piece c r s (s.debounced .ovht held)
  | coldRoom (count : Nat) (hn : count ≤ 65535) (hf : s.sense.fridgeT.fault = false) (hd : (s.sense.fridgeT.window count).fault = true) :
      Piece c r s (s.tempWindow .c3 count)
  | period (i : TimerId) : Piece c r s (s.periodEnd i)
  | release (hc : c = .resetEnd) (ha : s.rst.asserted = true) : Piece c r s s.releasePresenter

/-! ### Runs of pieces -/

/-- What leaves the orders, the pass's figures and what each load presents as they were. -/
structure State.calm (s t : State) : Prop where
  orders : t.orders = s.orders
  committed : t.alloc.committed = s.alloc.committed
  usable : t.alloc.usable = s.alloc.usable
  keepMargin : t.alloc.keepMargin = s.alloc.keepMargin
  mode : t.port.mode = s.port.mode
  presented : ∀ load, t.presented load = s.presented load
  lockout : t.heater.state = .lockout → s.heater.state = .lockout
  fault : t.fridge.state = .fault → s.fridge.state = .fault

/-- The states a command comes through, piece by piece. With the mark set, the last piece that was not calm was
followed by a pass. -/
inductive Runs (c : Instr) (r : State) : Bool → State → Prop
  | start (b : Bool) : Runs c r b r
  | calm {b : Bool} {s t : State} (h : Runs c r b s) (p : Piece c r s t) (hc : s.calm t) : Runs c r b t
  | other {b : Bool} {s t : State} (h : Runs c r b s) (p : Piece c r s t) : Runs c r false t
  | passed {b : Bool} {s : State} (h : Runs c r b s) (hr : s.rst.asserted = false) (d : Bool) : Runs c r d s.pass

theorem Runs.weaken {c : Instr} {r s : State} {b : Bool} (h : Runs c r b s) : Runs c r false s := by
  induction h with
  | start => exact .start false
  | calm _ p hc ih => exact ih.calm p hc
  | other h p => exact h.other p
  | passed h hr => exact h.passed hr false

end Sys2Proof.Machine
end

section
/-! PROOF. What each group of pieces leaves alone. -/
namespace Sys2Proof.Machine

/-! ### A timer at rest stands at 0 with nothing pending -/

theorem TimerLaw.congr {s t : State} (h : TimerLaw s) (ht : t.timers = s.timers) : TimerLaw t := by
  unfold TimerLaw
  rw [ht]
  exact h

theorem Timers.get_set (b : Timers) (i j : TimerId) (x : Timer) : (b.set i x).get j = if i = j then x else b.get j := by
  cases i <;> cases j <;> rfl

theorem TimerLaw.setTimer {s : State} (h : TimerLaw s) (i : TimerId) {x : Timer}
    (hx : x.running = false → x.counter = 0 ∧ x.pending = false) : TimerLaw (s.setTimer i x) := by
  intro j
  simp only [State.setTimer, Timers.get_set]
  split
  · exact hx
  · exact h j

theorem TimerLaw.writeTimer {s : State} (h : TimerLaw s) (i : TimerId) (on per : Nat) :
    TimerLaw (s.writeTimer i on per) := by
  have hset : TimerLaw (s.setTimer i ((s.timers.get i).write on per)) :=
    h.setTimer i fun hr => by rw [(Timer.write_given _ on per).1] at hr; cases hr
  simp only [State.writeTimer]
  split
  · exact hset.congr rfl
  · exact hset

theorem TimerLaw.haltTimer {s : State} (h : TimerLaw s) (i : TimerId) : TimerLaw (s.haltTimer i) :=
  h.setTimer i fun _ => ⟨rfl, rfl⟩

theorem TimerLaw.heaterGo {s : State} (h : TimerLaw s) (st : HeaterState) : TimerLaw (s.heaterGo st) :=
  h.congr (s.heaterGo_timers st)

theorem TimerLaw.withHeater {s : State} (h : TimerLaw s) (f : Heater → Heater) : TimerLaw (s.withHeater f) :=
  h.congr rfl

theorem TimerLaw.noticeIf {s : State} (h : TimerLaw s) (b : Bool) (n : Notice) : TimerLaw (s.noticeIf b n) :=
  h.congr (by simp)

/-! ### The heater's pieces -/

/-- What works the heater alone leaves the rest, and what it presents, as they were. -/
structure State.heaterFrame (s t : State) : Prop where
  only : t =
    { s with
      heater := t.heater, timers := { s.timers with t4 := t.timers.t4, t5 := t.timers.t5 }, port := t.port }
  noticed : s.noticed t
  presented : t.heater.presented = s.heater.presented
  lockout : t.heater.state = .lockout → s.heater.state = .lockout
  timers : TimerLaw s → TimerLaw t

theorem State.heaterFrame.refl (s : State) : s.heaterFrame s := ⟨rfl, .refl s, rfl, id, id⟩

theorem State.heaterGo_state (s : State) (st : HeaterState) : (s.heaterGo st).heater.state = st := by
  rw [State.heaterGo_heater]

section
variable (s : State)

theorem State.enterPreheat_frame : s.heaterFrame s.enterPreheat :=
  ⟨by apply State.eq_of_heaterOnly <;> simp, State.enterPreheat_noticed (.refl s), by simp,
    by rw [s.enterPreheat_does.1]; exact nofun,
    fun h => ((h.withHeater _).writeTimer _ _ _).heaterGo _⟩

theorem State.enterOff_frame : s.heaterFrame s.enterOff :=
  ⟨by apply State.eq_of_heaterOnly <;> simp, State.enterOff_noticed (.refl s), by simp,
    by rw [s.enterOff_does.1]; exact nofun,
    fun h => ((h.withHeater _).writeTimer _ _ _).heaterGo _⟩

theorem State.enterIgnition_frame : s.heaterFrame s.enterIgnition :=
  ⟨by apply State.eq_of_heaterOnly <;> simp, State.enterIgnition_noticed (.refl s), by simp,
    by rw [State.enterIgnition, State.heaterGo_state]; exact nofun,
    fun h => (((h.withHeater _).writeTimer _ _ _).writeTimer _ _ _).heaterGo _⟩

theorem State.enterProving_frame : s.heaterFrame s.enterProving :=
  ⟨by apply State.eq_of_heaterOnly <;> simp, State.enterProving_noticed (.refl s), by simp,
    by rw [State.enterProving, State.heaterGo_state]; exact nofun,
    fun h => ((h.withHeater _).writeTimer _ _ _).heaterGo _⟩

theorem State.enterRun_frame : s.heaterFrame s.enterRun :=
  ⟨by apply State.eq_of_heaterOnly <;> simp, State.enterRun_noticed (.refl s), by simp,
    by rw [State.enterRun, State.heaterGo_state]; exact nofun,
    fun h => (((h.withHeater _).writeTimer _ _ _).writeTimer _ _ _).heaterGo _⟩

theorem State.enterCooldown_frame (cause : CooldownCause) : s.heaterFrame (s.enterCooldown cause) :=
  ⟨by apply State.eq_of_heaterOnly <;> simp, State.enterCooldown_noticed cause (.refl s), by simp,
    by rw [(s.enterCooldown_does cause).1]; exact nofun,
    fun h => (((h.withHeater _).haltTimer _).writeTimer _ _ _).heaterGo _⟩

theorem State.failedStart_state : s.failedStart.heater.state = .cooldown := by
  rw [State.failedStart, State.withHeater_heater, State.enterCooldown, State.heaterGo_heater]

theorem State.failedStart_frame : s.heaterFrame s.failedStart :=
  ⟨by apply State.eq_of_heaterOnly <;> simp, State.failedStart_noticed (.refl s), by simp,
    by rw [s.failedStart_state]; exact nofun,
    fun h => ((((h.withHeater _).withHeater _).haltTimer _).writeTimer _ _ _).heaterGo _ |>.withHeater _⟩

theorem State.withHeater_frame (f : Heater → Heater) (hp : (f s.heater).presented = s.heater.presented)
    (hl : (f s.heater).state = .lockout → s.heater.state = .lockout) : s.heaterFrame (s.withHeater f) :=
  ⟨by apply State.eq_of_heaterOnly <;> simp, State.withHeater_noticed f (.refl s), hp, hl, fun h => h.withHeater f⟩

end

theorem State.heaterFrame.trans {s u t : State} (h : s.heaterFrame u) (k : u.heaterFrame t) : s.heaterFrame t where
  only := by
    have hk := k.only
    rw [h.only] at hk
    exact hk
  noticed := by
    obtain ⟨ha, ns, hp, hs⟩ := h.noticed
    obtain ⟨ka, ms, kp, ks⟩ := k.noticed
    refine ⟨ka.trans ha, ns ++ ms, by rw [kp, hp, List.foldl_append], fun hr => ?_⟩
    rw [hs hr, ks (ha.trans hr), List.append_nil]
  presented := k.presented.trans h.presented
  lockout hl := h.lockout (k.lockout hl)
  timers ht := k.timers (h.timers ht)

theorem State.noticeIf_frame (s : State) (b : Bool) (n : Notice) : s.heaterFrame (s.noticeIf b n) :=
  ⟨by apply State.eq_of_heaterOnly <;> simp, State.noticeIf_noticed b n (.refl s), by simp, by simp,
    fun h => h.noticeIf b n⟩

theorem State.writeLevel_frame (s : State) (level : Nat) : s.heaterFrame (s.writeLevel level) :=
  ⟨by apply State.eq_of_heaterOnly <;> simp, State.writeLevel_noticed level (.refl s), by simp, by simp,
    fun h => (h.writeTimer _ _ _).writeTimer _ _ _⟩

theorem State.stepLevel_frame (s : State) : s.heaterFrame s.stepLevel := by
  simp only [State.stepLevel]
  split
  · exact (s.withHeater_frame _ rfl id).trans (State.writeLevel_frame _ _)
  · exact .refl s

theorem State.workSatisfy_frame (s : State) (setpoint value : Int) (fault : Bool) :
    s.heaterFrame (s.workSatisfy setpoint value fault) :=
  s.withHeater_frame _ rfl id

theorem State.c2InRun_frame (s : State) (setpoint value : Int) (fault : Bool) :
    s.heaterFrame (s.c2InRun setpoint value fault) :=
  ((s.withHeater_frame (fun h => { h with desired := desiredLevel setpoint value fault s.quiet }) rfl id).trans
    (State.stepLevel_frame _)).trans (State.workSatisfy_frame _ _ _ _)

theorem State.heaterReading_frame (s : State) (value : Int) (fault : Bool) :
    s.heaterFrame (s.heaterReading value fault) := by
  have hattention : s.heaterFrame s.heaterAttention := s.noticeIf_frame _ _
  simp only [State.heaterReading]
  split
  · exact hattention.trans (State.c2InRun_frame _ _ _ _)
  · refine hattention.trans ?_
    unfold State.c2InSatisfied
    split
    · exact State.enterPreheat_frame _
    · exact .refl _
  · exact hattention

theorem State.cooldownExpiry_frame (s : State) (hl : ¬s.heater.locks) : s.heaterFrame s.cooldownExpiry := by
  have hend : s.heater.state = .cooldown → s.heaterFrame s.endCooldown := fun _ => s.withHeater_frame _ rfl id
  simp only [State.cooldownExpiry]
  split
  next => exact .refl s
  next hs =>
    have hend : s.heaterFrame s.endCooldown := s.withHeater_frame _ rfl id
    rw [if_neg fun h => hl (.inl h), if_neg fun h => hl (.inr h)]
    split
    · refine hend.trans ⟨by apply State.eq_of_heaterOnly <;> simp [State.enterSatisfied], ?_, by simp [State.enterSatisfied], ?_,
        fun h => ((h.withHeater _).writeTimer _ _ _).heaterGo _⟩
      · exact State.heaterGo_noticed _ (State.writeFan_noticed _ (State.withHeater_noticed _ (.refl _)))
      · rw [State.enterSatisfied, State.heaterGo_state]
        exact nofun
    · split
      · exact hend.trans (State.enterPreheat_frame _)
      · exact hend.trans (State.enterOff_frame _)

theorem HeaterOp.frame {c : Instr} {s t : State} (h : HeaterOp c s t) : s.heaterFrame t := by
  cases h with
  | preheatEnd =>
    unfold State.preheatExpiry
    split
    · split
      · exact s.failedStart_frame
      · exact s.enterIgnition_frame
    · exact .refl s
  | ignitionEnd =>
    unfold State.ignitionExpiry
    split
    · exact s.failedStart_frame
    · exact .refl s
  | provingEnd =>
    unfold State.provingExpiry
    split
    · exact s.enterRun_frame
    · exact .refl s
  | cooldownEnd _ _ hl => exact s.cooldownExpiry_frame hl
  | clearCount =>
    unfold State.runClearsCount
    split
    · exact s.withHeater_frame _ rfl id
    · exact .refl s
  | satisfied =>
    unfold State.satisfiedStop
    split
    · exact s.enterCooldown_frame _
    · exact .refl s
  | reading value fault => exact s.heaterReading_frame value fault
  | flamePresent =>
    unfold State.flamePresent
    split
    · exact s.enterProving_frame
    · exact .refl s
  | flameAbsent =>
    unfold State.flameAbsent
    split
    · exact s.failedStart_frame
    · exact .refl s
  | setParams => exact s.withHeater_frame _ rfl id
  | unlock =>
    refine (s.withHeater_frame (fun h => { h with failed := 0 }) rfl id).trans
      ⟨by apply State.eq_of_heaterOnly <;> simp, State.heaterGo_noticed _ (.refl _), by simp, ?_, fun h => h.heaterGo _⟩
    rw [State.heaterGo_state]
    exact nofun
  | clearFuel b =>
    unfold State.clearFuel
    split
    · exact s.withHeater_frame _ rfl id
    · exact .refl s
  | second => exact s.withHeater_frame _ rfl id
  | endReset moved =>
    have hfan : s.heaterFrame (s.writeFan (if s.heater.state = .cooldown then 1000 else 0)) :=
      ⟨by apply State.eq_of_heaterOnly <;> simp, State.writeFan_noticed _ (.refl s), by simp, by simp,
        fun h => h.writeTimer _ _ _⟩
    exact (hfan.trans (State.withHeater_frame _ _ rfl id)).trans (State.noticeIf_frame _ _ _)
  | settleCause => exact s.withHeater_frame _ rfl id

/-! ### The refrigerator's pieces -/

/-- What works the refrigerator alone leaves the rest, and what it presents, as they were. -/
structure State.fridgeFrame (s t : State) : Prop where
  only : t = { s with fridge := t.fridge, timers := { s.timers with t6 := t.timers.t6 }, port := t.port }
  noticed : s.noticed t
  presented : t.fridge.presented = s.fridge.presented
  timers : TimerLaw s → TimerLaw t

/-- A state that differs in the refrigerator, its timer and the port alone. -/
theorem State.eq_of_fridgeOnly {s t : State} (clock : t.clock = s.clock) (orders : t.orders = s.orders)
    (alloc : t.alloc = s.alloc) (charge : t.charge = s.charge) (accounts : t.accounts = s.accounts)
    (transport : t.transport = s.transport) (quiet : t.quiet = s.quiet) (warn : t.warn = s.warn)
    (sense : t.sense = s.sense) (heater : t.heater = s.heater) (lights : t.lights = s.lights)
    (rst : t.rst = s.rst) (pending : t.pending = s.pending) (t0 : t.timers.t0 = s.timers.t0)
    (t1 : t.timers.t1 = s.timers.t1) (t2 : t.timers.t2 = s.timers.t2) (t3 : t.timers.t3 = s.timers.t3)
    (t4 : t.timers.t4 = s.timers.t4) (t5 : t.timers.t5 = s.timers.t5) (t7 : t.timers.t7 = s.timers.t7) :
    t = { s with fridge := t.fridge, timers := { s.timers with t6 := t.timers.t6 }, port := t.port } := by
  apply State.ext <;> simp only [*]
  apply Timers.ext <;> simp only [*]

theorem State.fridgeFrame.refl (s : State) : s.fridgeFrame s := ⟨rfl, .refl s, rfl, id⟩

theorem State.noticed.trans {s u t : State} (h : s.noticed u) (k : u.noticed t) : s.noticed t := by
  obtain ⟨ha, ns, hp, hs⟩ := h
  obtain ⟨ka, ms, kp, ks⟩ := k
  refine ⟨ka.trans ha, ns ++ ms, by rw [kp, hp, List.foldl_append], fun hr => ?_⟩
  rw [hs hr, ks (ha.trans hr), List.append_nil]

theorem State.fridgeFrame.trans {s u t : State} (h : s.fridgeFrame u) (k : u.fridgeFrame t) : s.fridgeFrame t where
  only := by
    have hk := k.only
    rw [h.only] at hk
    exact hk
  noticed := h.noticed.trans k.noticed
  presented := k.presented.trans h.presented
  timers ht := k.timers (h.timers ht)

section
variable (s : State)

theorem State.withFridge_frame (f : Fridge → Fridge) (hp : (f s.fridge).presented = s.fridge.presented) :
    s.fridgeFrame (s.withFridge f) :=
  ⟨by apply State.eq_of_fridgeOnly <;> simp, State.withFridge_noticed f (.refl s), hp, fun h => h.congr rfl⟩

theorem State.fridgeGo_frame (st : FridgeState) : s.fridgeFrame (s.fridgeGo st) :=
  ⟨by apply State.eq_of_fridgeOnly <;> simp, State.fridgeGo_noticed st (.refl s), by simp,
    fun h => h.congr (s.fridgeGo_timers st)⟩

theorem State.writeT6_frame (on per : Nat) : s.fridgeFrame (s.writeTimer .t6 on per) :=
  ⟨by apply State.eq_of_fridgeOnly <;> simp, State.writeTimer_noticed .t6 on per (.refl s), by simp,
    fun h => h.writeTimer _ _ _⟩

theorem State.fridgeAttention_frame : s.fridgeFrame s.fridgeAttention :=
  ⟨by apply State.eq_of_fridgeOnly <;> simp, State.fridgeAttention_noticed (.refl s), by simp,
    fun h => h.congr (by simp)⟩

theorem State.enterStart_frame : s.fridgeFrame s.enterStart :=
  ((State.withFridge_frame _ _ rfl).trans (State.writeT6_frame _ _ _)).trans (State.fridgeGo_frame _ _)

theorem State.switchOff_frame : s.fridgeFrame s.switchOff :=
  ⟨by apply State.eq_of_fridgeOnly <;> simp, State.switchOff_noticed (.refl s), by simp,
    fun h => (h.congr (t := s.withFridge _) rfl).haltTimer .t6⟩

theorem State.stopToRest_frame : s.fridgeFrame s.stopToRest := s.switchOff_frame.trans (State.fridgeGo_frame _ _)

theorem State.startTest_frame : s.fridgeFrame s.startTest := by
  unfold State.startTest
  split
  · exact .refl s
  · split <;> split
    · exact s.enterStart_frame
    · exact .refl s
    · exact s.enterStart_frame
    · exact .refl s

theorem State.enterIdle_frame : s.fridgeFrame s.enterIdle := (s.fridgeGo_frame _).trans (State.startTest_frame _)

theorem State.endRestIfDue_frame : s.fridgeFrame s.endRestIfDue := by
  unfold State.endRestIfDue State.endRestPhase
  split
  · split
    · exact s.enterIdle_frame
    · exact s.fridgeGo_frame _
  · exact .refl s

theorem State.minOffEnd_frame : s.fridgeFrame s.minOffEnd := by
  unfold State.minOffEnd
  split
  · exact s.endRestIfDue_frame
  · split
    · exact .refl s
    · exact s.startTest_frame
  · exact .refl s

theorem State.fixedCycleOnEnd_frame : s.fridgeFrame s.fixedCycleOnEnd := by
  unfold State.fixedCycleOnEnd
  split
  · exact s.stopToRest_frame
  · exact .refl s

theorem State.setSpeed_frame (v : Nat) : s.fridgeFrame (s.setSpeed v) := by
  unfold State.setSpeed
  split
  · exact .refl s
  · exact (State.withFridge_frame _ _ rfl).trans (State.writeT6_frame _ _ _)

theorem State.c3InRun_frame (setpoint value : Int) : s.fridgeFrame (s.c3InRun setpoint value) := by
  unfold State.c3InRun
  split
  · exact s.stopToRest_frame
  · exact s.setSpeed_frame _

theorem State.c3Faults_frame : s.fridgeFrame s.c3Faults := by
  unfold State.c3Faults
  split
  · exact (s.setSpeed_frame 1).trans (State.fixedCycleOnEnd_frame _)
  · exact (s.setSpeed_frame 1).trans (State.fixedCycleOnEnd_frame _)
  · exact s.startTest_frame
  · exact .refl s

theorem State.stall_frame : s.fridgeFrame s.stall := by
  have hoff : s.fridgeFrame (s.switchOff.withFridge (fun f => { f with stalls := gain 3 f.stalls })) :=
    s.switchOff_frame.trans (State.withFridge_frame _ _ rfl)
  simp only [State.stall]
  split
  · exact hoff.trans (State.fridgeGo_frame _ _)
  · exact hoff.trans (State.fridgeGo_frame _ _)

theorem State.tachReading_frame (rate : Nat) : s.fridgeFrame (s.tachReading rate) := by
  simp only [State.tachReading]
  refine s.fridgeAttention_frame.trans ?_
  generalize s.fridgeAttention = u
  split
  · split
    · exact (u.withFridge_frame _ rfl).trans (State.fridgeGo_frame _ _)
    · split
      · exact u.stall_frame
      · exact u.withFridge_frame _ rfl
  · split <;> split
    · exact u.stall_frame
    · exact u.withFridge_frame _ rfl
    · exact u.stall_frame
    · exact u.withFridge_frame _ rfl
  · exact .refl u

theorem FridgeOp.frame {c : Instr} {t : State} (h : FridgeOp c s t) : s.fridgeFrame t := by
  cases h with
  | endRest => exact s.endRestIfDue_frame
  | minOffEnd => exact s.minOffEnd_frame
  | cycleOn => exact s.fixedCycleOnEnd_frame
  | cycleOff =>
    unfold State.fixedCycleOffEnd
    split
    · exact s.startTest_frame
    · exact .refl s
  | clearStalls =>
    unfold State.runClearsStalls
    split
    · exact s.withFridge_frame _ rfl
    · exact .refl s
  | tach rate => exact s.tachReading_frame rate
  | setMinOff => exact s.withFridge_frame _ rfl
  | clearFault => exact (s.withFridge_frame _ rfl).trans (State.fridgeGo_frame _ _)
  | second => exact s.withFridge_frame _ rfl
  | endReset _ moved =>
    refine (s.withFridge_frame (fun f => { f with offSeconds := 0 }) rfl).trans
      ⟨by apply State.eq_of_fridgeOnly <;> simp [State.fridgeEndReset], State.noticeIf_noticed _ _ (.refl _),
        by simp [State.fridgeEndReset], fun h => h.noticeIf _ _⟩
  | call => exact s.withFridge_frame _ rfl
  | warm => exact s.withFridge_frame _ rfl
  | start => exact s.startTest_frame
  | inRun => exact s.c3InRun_frame _ _

end

/-! No piece of the refrigerator but a stall enters FAULT. -/

section
variable {s : State}

theorem State.startTest_fault (h : s.startTest.fridge.state = .fault) : s.fridge.state = .fault := by
  unfold State.startTest at h
  split at h
  · exact h
  · split at h <;> split at h
    · rw [s.enterStart_does.1] at h
      cases h
    · exact h
    · rw [s.enterStart_does.1] at h
      cases h
    · exact h

theorem State.stopToRest_fault : s.stopToRest.fridge.state ≠ .fault := by
  rw [s.stopToRest_does.1]
  exact nofun

theorem State.setSpeed_state (s : State) (v : Nat) : (s.setSpeed v).fridge.state = s.fridge.state := by
  unfold State.setSpeed
  split <;> simp

theorem State.endRestIfDue_fault (h : s.endRestIfDue.fridge.state = .fault) : s.fridge.state = .fault := by
  unfold State.endRestIfDue State.endRestPhase at h
  split at h
  · split at h
    · have hidle := State.startTest_fault h
      rw [State.fridgeGo_fridge] at hidle
      cases hidle
    · rw [State.fridgeGo_fridge] at h
      cases h
  · exact h

theorem State.fixedCycleOnEnd_fault (h : s.fixedCycleOnEnd.fridge.state = .fault) : s.fridge.state = .fault := by
  unfold State.fixedCycleOnEnd at h
  split at h
  · exact absurd h State.stopToRest_fault
  · exact h

theorem State.c3Faults_fault (h : s.c3Faults.fridge.state = .fault) : s.fridge.state = .fault := by
  unfold State.c3Faults at h
  split at h
  · exact (s.setSpeed_state 1).symm.trans (State.fixedCycleOnEnd_fault h)
  · exact (s.setSpeed_state 1).symm.trans (State.fixedCycleOnEnd_fault h)
  · exact State.startTest_fault h
  · exact h

theorem FridgeOp.fault {c : Instr} {t : State} (h : FridgeOp c s t) (hf : t.fridge.state = .fault) :
    s.fridge.state = .fault := by
  cases h with
  | endRest => exact State.endRestIfDue_fault hf
  | minOffEnd =>
    unfold State.minOffEnd at hf
    split at hf
    · exact State.endRestIfDue_fault hf
    · split at hf
      · exact hf
      · exact State.startTest_fault hf
    · exact hf
  | cycleOn => exact State.fixedCycleOnEnd_fault hf
  | cycleOff =>
    unfold State.fixedCycleOffEnd at hf
    split at hf
    · exact State.startTest_fault hf
    · exact hf
  | clearStalls =>
    unfold State.runClearsStalls at hf
    split at hf <;> exact hf
  | tach _ _ hs => exact hs hf
  | setMinOff => exact hf
  | clearFault hs => exact hs
  | second => exact hf
  | endReset => simpa [State.fridgeEndReset] using hf
  | call => exact hf
  | warm => exact hf
  | start => exact State.startTest_fault hf
  | inRun setpoint value hs =>
    unfold State.c3InRun at hf
    split at hf
    · exact absurd hf State.stopToRest_fault
    · exact (s.setSpeed_state _).symm.trans hf

end

/-! ### The pieces of the lights and of the list -/

/-- What works the lights alone leaves the rest, and what they present, as they were. -/
structure State.lightFrame (s t : State) : Prop where
  only : t =
    { s with
      lights := t.lights
      timers :=
        { s.timers with t0 := t.timers.t0, t1 := t.timers.t1, t2 := t.timers.t2, t3 := t.timers.t3 } }
  presented : ∀ i, (t.channel i).presented = (s.channel i).presented
  timers : TimerLaw s → TimerLaw t

theorem State.lightFrame.refl (s : State) : s.lightFrame s := ⟨rfl, fun _ => rfl, id⟩

theorem State.lightFrame.trans {s u t : State} (h : s.lightFrame u) (k : u.lightFrame t) : s.lightFrame t where
  only := by
    have hk := k.only
    rw [h.only] at hk
    exact hk
  presented i := (k.presented i).trans (h.presented i)
  timers ht := k.timers (h.timers ht)

/-- A state that differs in the lights and their timers alone. -/
theorem State.eq_of_lightsOnly {s t : State} (clock : t.clock = s.clock) (orders : t.orders = s.orders)
    (alloc : t.alloc = s.alloc) (charge : t.charge = s.charge) (accounts : t.accounts = s.accounts)
    (transport : t.transport = s.transport) (quiet : t.quiet = s.quiet) (warn : t.warn = s.warn)
    (sense : t.sense = s.sense) (heater : t.heater = s.heater) (fridge : t.fridge = s.fridge) (port : t.port = s.port)
    (rst : t.rst = s.rst) (pending : t.pending = s.pending) (t4 : t.timers.t4 = s.timers.t4)
    (t5 : t.timers.t5 = s.timers.t5) (t6 : t.timers.t6 = s.timers.t6) (t7 : t.timers.t7 = s.timers.t7) :
    t =
      { s with
        lights := t.lights
        timers :=
          { s.timers with t0 := t.timers.t0, t1 := t.timers.t1, t2 := t.timers.t2, t3 := t.timers.t3 } } := by
  apply State.ext <;> simp only [*]
  apply Timers.ext <;> simp only [*]

section
variable (s : State)

theorem State.setChannel_frame (i : LightId) (x : Channel) (hx : x.presented = (s.channel i).presented) :
    s.lightFrame (s.setChannel i x) := by
  refine ⟨by apply State.eq_of_lightsOnly <;> simp, fun j => ?_, fun h => h.congr (by simp)⟩
  rw [State.channel_setChannel]
  split
  next h => rw [hx, h]
  next => rfl

theorem State.setFade_frame (i : LightId) (f : Option Fade) :
    s.lightFrame (s.setChannel i { s.channel i with fade := f }) :=
  s.setChannel_frame i _ rfl

theorem State.setDuty_frame (i : LightId) (duty : Nat) : s.lightFrame (s.setDuty i duty) := by
  refine ⟨by apply State.eq_of_lightsOnly <;> simp, fun j => (s.setDuty_fixed i j duty).2.2, fun h => ?_⟩
  unfold State.setDuty
  split
  · exact h
  · exact (h.congr (by simp)).writeTimer _ _ _

theorem State.beginFade_frame (i : LightId) (duty steps : Nat) : s.lightFrame (s.beginFade i duty steps) := by
  unfold State.beginFade
  split
  · exact (s.setFade_frame i none).trans (State.setDuty_frame _ _ _)
  · exact s.setFade_frame i _

theorem State.fadeStep_frame (i : LightId) : s.lightFrame (s.fadeStep i) := by
  unfold State.fadeStep
  split
  · exact .refl s
  · exact (s.setFade_frame i _).trans (State.setDuty_frame _ _ _)

theorem State.cabQuietSet_frame : s.lightFrame s.cabQuietSet := by
  have hset := s.setChannel_frame .cabLight
    { s.channel .cabLight with effective := min (s.channel .cabLight).target s.lights.quietCap } rfl
  simp only [State.cabQuietSet]
  refine hset.trans ?_
  generalize s.setChannel .cabLight _ = u
  have hheld : u.lightFrame
      (if u.lights.quietCap < (s.channel .cabLight).duty then u.setDuty .cabLight u.lights.quietCap else u) := by
    split
    · exact u.setDuty_frame _ _
    · exact .refl u
  generalize (if u.lights.quietCap < (s.channel .cabLight).duty then u.setDuty .cabLight u.lights.quietCap else u) = v
    at hheld ⊢
  refine hheld.trans ?_
  split
  · exact State.beginFade_frame _ _ _ _
  · split
    · exact .refl _
    · exact State.beginFade_frame _ _ _ _

theorem State.cabQuietClear_frame : s.lightFrame s.cabQuietClear := by
  refine (s.setChannel_frame .cabLight { s.channel .cabLight with effective := (s.channel .cabLight).target } rfl).trans ?_
  simp only [State.cabQuietClear]
  split
  · exact .refl _
  · exact State.beginFade_frame _ _ _ _

theorem State.setPolarity_frame (i : LightId) (p : Polarity) : s.lightFrame (s.setPolarity i p) := by
  have hchannel := s.setChannel_frame i { s.channel i with polarity := p } rfl
  refine hchannel.trans ⟨?_, fun _ => rfl, fun h => h.setTimer i.timer ?_⟩
  · cases i <;> rfl
  · have hold := h i.timer
    rw [show (s.setChannel i { s.channel i with polarity := p }).timers = s.timers by simp] at hold
    unfold Timer.setPolarity
    split
    next hr => exact fun hn => absurd hr (by simpa using hn)
    next => exact hold

theorem State.setQuietCap_frame (cap : Nat) : s.lightFrame (s.setQuietCap cap) := by
  have hcap : s.lightFrame { s with lights := { s.lights with quietCap := cap } } :=
    ⟨rfl, fun i => by cases i <;> rfl, fun h => h⟩
  simp only [State.setQuietCap]
  split
  · exact hcap.trans (State.cabQuietSet_frame _)
  · exact hcap

theorem State.setLights_frame (l : LightSettings) : s.lightFrame (s.setLights l) := by
  have hpolarity := (((s.setPolarity_frame .readA l.polA).trans (State.setPolarity_frame _ .readB l.polB)).trans
    (State.setPolarity_frame _ .cabLight l.polCab)).trans (State.setPolarity_frame _ .nightLight l.polNight)
  refine hpolarity.trans ?_
  simp only [State.setLights]
  generalize State.setPolarity _ .nightLight l.polNight = u
  have hdraws : u.lightFrame { u with lights := u.lights.setDraws l.drawA l.drawB l.drawCab l.drawNight } :=
    ⟨rfl, fun i => by cases i <;> rfl, fun h => h⟩
  exact hdraws.trans (State.setQuietCap_frame _ _)

theorem LightOp.frame {t : State} (h : LightOp s t) : s.lightFrame t := by
  cases h with
  | fadeStep i => exact s.fadeStep_frame i
  | setLights l => exact s.setLights_frame l

end

/-- What works the list, the chime and its timer alone leaves the rest as it was. -/
structure State.warnFrame (s t : State) : Prop where
  only : t = { s with warn := t.warn, timers := { s.timers with t7 := t.timers.t7 } }
  timers : TimerLaw s → TimerLaw t

theorem State.warnFrame.refl (s : State) : s.warnFrame s := ⟨rfl, id⟩

theorem State.warnFrame.trans {s u t : State} (h : s.warnFrame u) (k : u.warnFrame t) : s.warnFrame t where
  only := by
    have hk := k.only
    rw [h.only] at hk
    exact hk
  timers ht := k.timers (h.timers ht)

section
variable (s : State)

theorem State.setWarn_frame (w : Warn) : s.warnFrame { s with warn := w } := ⟨rfl, fun h => h⟩

theorem State.writeT7_frame (on per : Nat) : s.warnFrame (s.writeTimer .t7 on per) :=
  ⟨s.writeT7_eq on per, fun h => h.writeTimer _ _ _⟩

theorem State.select_frame : s.warnFrame s.select := by
  unfold State.select
  split
  · exact .refl s
  · split
    · exact (s.setWarn_frame _).trans (State.writeT7_frame _ _ _)
    · exact .refl s

theorem State.settle_frame : s.warnFrame s.settle := by
  unfold State.settle
  split
  · exact .refl s
  · exact (s.setWarn_frame _).trans (State.select_frame _)

theorem State.dropEntry_frame (a : Source) (w : WarnType) : s.warnFrame (s.dropEntry a w) := by
  unfold State.dropEntry
  split
  · exact s.setWarn_frame _
  · exact .refl s

theorem WarnOp.frame {t : State} (h : WarnOp s t) : s.warnFrame t := by
  cases h with
  | settle => exact s.settle_frame
  | countdownZero =>
    unfold State.countdownZero
    split
    · exact .refl s
    · exact (s.setWarn_frame _).trans (State.settle_frame _)
  | acknowledge e =>
    unfold State.acknowledge
    split
    · exact s.dropEntry_frame _ _
    · split
      · exact .refl s
      · exact s.setWarn_frame _
  | toneEnd =>
    unfold State.toneEnd
    split
    · exact .refl s
    · exact (s.setWarn_frame _).trans (State.writeT7_frame _ _ _)
    · split
      · exact (s.setWarn_frame _).trans (State.writeT7_frame _ _ _)
      · exact .refl s
  | endOfBurst =>
    unfold State.endOfBurst
    split
    · split
      · exact (s.setWarn_frame _).trans (State.select_frame _)
      · exact .refl s
    · exact .refl s
  | flash => exact s.setWarn_frame _
  | second => exact s.setWarn_frame _

end

end Sys2Proof.Machine
end

section
/-! PROOF. The pieces one by one: what is calm, and each operation of the model as a run of pieces. -/
namespace Sys2Proof.Machine

/-! ### What is calm -/

theorem State.calm.of {s t : State} (orders : t.orders = s.orders := by simp) (alloc : t.alloc = s.alloc := by simp)
    (mode : t.port.mode = s.port.mode := by simp)
    (heater : t.heater.presented = s.heater.presented := by simp)
    (fridge : t.fridge.presented = s.fridge.presented := by simp)
    (lights : ∀ i, (t.channel i).presented = (s.channel i).presented := by intro i; simp [State.channel])
    (lockout : t.heater.state = .lockout → s.heater.state = .lockout := by simp)
    (fault : t.fridge.state = .fault → s.fridge.state = .fault := by simp) : s.calm t where
  orders := orders
  committed := by rw [alloc]
  usable := by rw [alloc]
  keepMargin := by rw [alloc]
  mode := mode
  presented load := by
    cases load with
    | heater => exact heater
    | fridge => exact fridge
    | readA => exact lights .readA
    | readB => exact lights .readB
    | cabLight => exact lights .cabLight
    | nightLight => exact lights .nightLight
  lockout := lockout
  fault := fault

theorem State.noticed.mode {s t : State} (h : s.noticed t) : t.port.mode = s.port.mode := h.flagsKept.1

theorem State.heaterFrame.calm {s t : State} (h : s.heaterFrame t) : s.calm t := by
  refine .of ?_ ?_ h.noticed.mode h.presented ?_ ?_ h.lockout ?_
  all_goals rw [h.only]
  · exact fun _ => rfl
  · exact id

theorem State.fridgeFrame.calm {s t : State} (h : s.fridgeFrame t) (hf : t.fridge.state = .fault → s.fridge.state = .fault) :
    s.calm t := by
  refine .of ?_ ?_ h.noticed.mode ?_ h.presented ?_ ?_ hf
  all_goals rw [h.only]
  · exact fun _ => rfl
  · exact id

theorem State.lightFrame.calm {s t : State} (h : s.lightFrame t) : s.calm t := by
  refine .of ?_ ?_ ?_ ?_ ?_ h.presented ?_ ?_
  all_goals rw [h.only]
  · exact id
  · exact id

theorem State.warnFrame.calm {s t : State} (h : s.warnFrame t) : s.calm t := by
  refine .of ?_ ?_ ?_ ?_ ?_ ?_ ?_ ?_
  all_goals rw [h.only]
  · exact fun _ => rfl
  · exact id
  · exact id

/-! ### The operations as pieces -/

section
variable {c : Instr} {r s : State} {b : Bool} (h : Runs c r b s)
include h

theorem Runs.port (p : Port) (hp : s.portSet p) : Runs c r b { s with port := p } :=
  h.calm (.port p hp) (.of (mode := hp.1))

theorem Runs.notice (n : Notice) : Runs c r b (s.notice n) := h.calm (.notice n) .of

theorem Runs.noticeIf (x : Bool) (n : Notice) : Runs c r b (s.noticeIf x n) := by
  unfold State.noticeIf
  split
  · exact h.notice n
  · exact h

theorem Runs.accountNotice : Runs c r b s.accountNotice := h.calm .accountNotice .of

theorem Runs.sense (x : Sense) (hx : s.senseSet x) : Runs c r b { s with sense := x } := h.calm (.sense x hx) .of

theorem Runs.accounts (p : PerSlot (Option Account)) (hp : s.accountsSet p) : Runs c r b { s with accounts := p } :=
  h.calm (.accounts p hp) .of

theorem Runs.transport (x : Bool) : Runs c r b { s with transport := x } := h.calm (.transport x) .of

theorem Runs.warn {t : State} (hw : WarnOp s t) : Runs c r b t := h.calm (.warn hw) hw.frame.calm

theorem Runs.heater {t : State} (hh : HeaterOp c s t) : Runs c r b t := h.calm (.heater hh) hh.frame.calm

theorem Runs.fridge {t : State} (hf : FridgeOp c s t) : Runs c r b t :=
  h.calm (.fridge hf) (State.fridgeFrame.calm hf.frame hf.fault)

theorem Runs.lights {t : State} (hl : LightOp s t) : Runs c r b t := h.calm (.lights hl) (State.lightFrame.calm hl.frame)

theorem Runs.raise (a : Source) (w : WarnType) (hw : pairMatches a w = true) : Runs c r b (s.raise a w) :=
  h.calm (.raise a w hw) .of

theorem Runs.remove (a : Source) (w : WarnType) (hw : pairMatches a w = true) : Runs c r b (s.remove a w) :=
  h.calm (.remove a w hw) .of

theorem Runs.workCondition (a : Source) (w : WarnType) (x : Bool) (hw : pairMatches a w = true) :
    Runs c r b (s.workCondition a w x) := by
  unfold State.workCondition
  split
  · exact h.raise a w hw
  · split
    · exact h.remove a w hw
    · exact h

theorem Runs.settle : Runs c r b s.settle := h.warn .settle

theorem Runs.pass (hb : s.rst.asserted = true → b = true) : Runs c r true s.pass := by
  cases hr : s.rst.asserted with
  | false => exact h.passed hr true
  | true =>
    rw [State.pass, if_pos hr]
    exact hb hr ▸ h

theorem Runs.pass_kept : Runs c r b s.pass := by
  cases hr : s.rst.asserted with
  | false => exact h.passed hr b
  | true => rwa [State.pass, if_pos hr]

end

/-! ### What the quiet flag's change leaves alone -/

section
variable (s : State)

theorem State.heaterQuiet_state : s.heaterQuiet.heater.state = s.heater.state := by
  unfold State.heaterQuiet
  split <;> simp

theorem State.fridgeQuiet_state : s.fridgeQuiet.fridge.state = s.fridge.state := by
  unfold State.fridgeQuiet
  split
  · exact s.setSpeed_state 1
  · rfl

theorem State.workQuiet_heaterState : s.workQuiet.heater.state = s.heater.state := by
  simp only [State.workQuiet]
  split
  · rfl
  · split <;> simp [State.heaterQuiet_state]

theorem State.workQuiet_fridgeState : s.workQuiet.fridge.state = s.fridge.state := by
  simp only [State.workQuiet]
  split
  · rfl
  · split <;> simp [State.fridgeQuiet_state]

theorem State.workQuiet_presented (i : LightId) : (s.workQuiet.channel i).presented = (s.channel i).presented := by
  have hattention : ∀ u : State, u.heaterAttention.fridgeAttention.channel i = u.channel i :=
    fun u => State.channel_congr (by simp) i
  have hloads : ∀ u : State, u.heaterQuiet.fridgeQuiet.channel i = u.channel i :=
    fun u => State.channel_congr (by simp) i
  have haccount : ∀ u : State, u.accountNotice.channel i = u.channel i :=
    fun u => State.channel_congr (by simp) i
  simp only [State.workQuiet]
  split
  · rfl
  · split
    · rw [hattention, (State.cabQuietSet_frame _).presented, hloads, haccount]
      rfl
    · rw [hattention, (State.cabQuietClear_frame _).presented, haccount]
      rfl

end

/-! ### The loads' own pieces -/

section
variable {c : Instr} {r s : State} {b : Bool} (h : Runs c r b s)
include h

theorem Runs.workQuiet : Runs c r b s.workQuiet :=
  h.calm .quiet (.of (lights := s.workQuiet_presented) (lockout := by rw [s.workQuiet_heaterState]; exact id)
    (fault := by rw [s.workQuiet_fridgeState]; exact id))

end

end Sys2Proof.Machine
end

section
/-! PROOF. The rest accounts' operations as runs of pieces. -/
namespace Sys2Proof.Machine

/-! ### The guards of what the accounts write -/

theorem State.figured.congr {s t : State} (h : s.figured) (ha : t.accounts = s.accounts) : t.figured := by
  intro i a hi
  exact h i a (by rwa [State.account, ← ha])

theorem Account.restDone_figured {a : Account} (h : a.figured) : a.restDone.figured := h

theorem State.accountsSet.set {s : State} {i : Slot} {a : Account} (h : s.figured → a.figured) :
    s.accountsSet (s.accounts.set i (some a)) := by
  refine ⟨fun hs j x hx => ?_, fun j hj => .inl ?_⟩
  · rw [State.account, PerSlot.get_set] at hx
    split at hx
    · exact Option.some.inj hx ▸ h hs
    · exact hs j x hx
  · rw [PerSlot.get_set]
    split
    · rfl
    · exact hj

theorem PerSlot.get_mapSome (p : PerSlot (Option Account)) (f : Account → Account) (i : Slot) :
    (p.mapSome f).get i = (p.get i).map f := by
  cases i <;> rfl

theorem State.accountsSet.mapSome {s : State} {f : Account → Account} (h : ∀ a, a.figured → (f a).figured) :
    s.accountsSet (s.accounts.mapSome f) := by
  refine ⟨fun hs j x hx => ?_, fun j hj => .inl ?_⟩
  · rw [State.account, PerSlot.get_mapSome] at hx
    obtain ⟨a, ha, rfl⟩ := Option.map_eq_some_iff.mp hx
    exact h a (hs j a ha)
  · rw [PerSlot.get_mapSome, Option.isSome_map]
    exact hj

theorem wakeOrder_fits {s : State} {side : Side} {level fade now : Nat} (hl : level ≤ 1000) (hf : fade ≤ 1800) :
    (wakeOrder side level fade now).keyFits ∧ (wakeOrder side level fade now).targetFits ∧
    (wakeOrder side level fade now).anchorFits s := by
  cases side <;> exact ⟨by simp [Order.keyFits, wakeOrder, newOrder, wakeKey, readLoad], ⟨hl, hf⟩, trivial⟩

theorem manualOrder_fits {s : State} {side : Side} {now : Nat} :
    (manualOrder side now).keyFits ∧ (manualOrder side now).targetFits ∧ (manualOrder side now).anchorFits s := by
  cases side <;>
    exact ⟨by simp [Order.keyFits, manualOrder, newOrder, manualKey, readLoad],
      ⟨show 600 ≤ 1000 by omega, show 1 ≤ 1800 by omega⟩, trivial⟩

theorem State.mayPlace_iff (s : State) :
    s.mayPlace = true ↔ (s.port.mode = .normal ∨ s.port.mode = .workshop) ∧ s.orders.length < 24 := by
  simp only [State.mayPlace, Bool.and_eq_true, Bool.or_eq_true, decide_eq_true_iff]
  rfl

/-! ### The operations -/

section
variable {c : Instr} {r s : State} {b : Bool} (h : Runs c r b s)
include h

theorem Runs.enter (hb : b = false) {o : Order}
    (ho : (∀ w ∈ r.rst.heldWakes, w.figured) → OrderLaw s → s.figured → s.admitsOrder o) :
    Runs c r b { s with orders := insertOrder o s.orders } :=
  hb ▸ h.other (.enter o ho)

theorem Runs.placePart (hb : b = false) {o : Order}
    (ho : (∀ w ∈ r.rst.heldWakes, w.figured) → s.figured → o.keyFits ∧ o.targetFits ∧ o.anchorFits s) :
    Runs c r b (s.placePart o) := by
  unfold State.placePart
  split
  next hp =>
    refine h.enter hb fun hw _ hs => ?_
    obtain ⟨hkey, htarget, hanchor⟩ := ho hw hs
    refine ⟨hkey, htarget, hanchor, ?_⟩
    obtain hp | hp := Bool.or_eq_true_iff.mp hp
    · exact .inl (findOrder_isSome.mp hp)
    · exact .inr (State.mayPlace_iff s |>.mp hp).symm
  next => exact h.notice .order

theorem Runs.placeWake (hb : s.rst.asserted = false → b = false) (side : Side) {level fade : Nat}
    (hf : s.figured → level ≤ 1000 ∧ fade ≤ 1800) : Runs c r b (s.placeWake side level fade) := by
  unfold State.placeWake
  split
  next hr => exact h.calm (.holdWake { side := side, level := level, fade := fade } hr hf) .of
  next hr => exact h.placePart (hb (Bool.not_eq_true _ ▸ hr)) fun _ hs => wakeOrder_fits (hf hs).1 (hf hs).2

theorem Runs.wakeFor (hb : s.rst.asserted = false → b = false) {a : Account} (ha : s.figured → a.settings.figured) :
    Runs c r b (s.wakeFor a) := by
  unfold State.wakeFor
  split
  · split
    · refine h.placeWake hb _ fun hs => ?_
      have hfig := ha hs
      exact ⟨hfig.1, by have := hfig.2; omega⟩
    · exact h
  · exact h

theorem Runs.setAccount {i : Slot} {a : Account} (ha : s.figured → a.figured) : Runs c r b (s.setAccount i a) :=
  h.accounts _ (.set ha)

theorem Runs.updAccount {i : Slot} {f : Account → Account} (hf : ∀ a, a.figured → (f a).figured) :
    Runs c r b (s.updAccount i f) := by
  unfold State.updAccount
  split
  next a ha => exact h.setAccount fun hs => hf a (hs i a ha)
  next => exact h

theorem Runs.testDriving (i : Slot) : Runs c r b (s.testDriving i) := by
  unfold State.testDriving
  split
  · exact ((h.workCondition _ _ _ rfl).workCondition _ _ _ rfl).workCondition _ _ _ rfl
  · exact h

theorem Runs.testBreak (i : Slot) : Runs c r b (s.testBreak i) := by
  unfold State.testBreak
  split
  next a ha =>
    split
    · have hset : Runs c r b (s.setAccount i { a with contSeconds := 0 }) := h.setAccount fun hs => hs i a ha
      exact hset.testDriving i
    · exact h
  next => exact h

theorem Runs.applyStaged (i : Slot) : Runs c r b (s.applyStaged i) := by
  unfold State.applyStaged
  split
  next a ha =>
    split
    next t ht =>
      have hset : Runs c r b (s.setAccount i { a with settings := t, staged := none }) :=
        h.setAccount fun hs => ⟨(hs i a ha).2 t ht, fun _ hn => nomatch hn⟩
      exact ((hset.testDriving i).testBreak i).accountNotice
    next => exact h
  next => exact h

theorem Runs.accountGo (i : Slot) (st : AccountState) : Runs c r b (s.accountGo i st) :=
  (h.updAccount (f := fun a => { a with state := st }) fun _ ha => ha).accountNotice

theorem Runs.fireRestDone (hb : s.rst.asserted = false → b = false) {i : Slot} {a : Account} (ha : s.account i = some a) :
    Runs c r b (s.fireRestDone i a) := by
  have hfirst : Runs c r b ((s.setAccount i a.restDone).testDriving i) :=
    (h.setAccount fun hs => Account.restDone_figured (hs i a ha)).testDriving i
  have haccount : ((s.setAccount i a.restDone).testDriving i).account i = some a.restDone := by
    rw [State.account, (State.testDriving_keeps _ _).2.2.2.2.1, ← State.account]
    simp [State.setAccount, State.account, PerSlot.get_set]
  simp only [State.fireRestDone]
  refine (((hfirst.setAccount fun hs => ?_).raise _ _ rfl).wakeFor (by simpa using hb) fun hs => ?_).accountNotice
  · exact show a.restDone.figured from hs i _ haccount
  · have hset := State.figured.congr (t := State.setAccount _ i _) hs (State.raise_keeps _ _ _).2.2.2.2.1.symm
    refine (hset i { a.restDone with restEnd := some (.fixed ((s.setAccount i a.restDone).testDriving i).clock.minute) } ?_).1
    simp [State.setAccount, State.account, PerSlot.get_set]

theorem Runs.testRestDone (hb : s.rst.asserted = false → b = false) (i : Slot) : Runs c r b (s.testRestDone i) := by
  unfold State.testRestDone
  split
  next a ha =>
    split
    · exact h.fireRestDone hb ha
    · exact h
  next => exact h

theorem Runs.takeRestDone (i : Slot) : Runs c r b (s.takeRestDone i) := by
  unfold State.takeRestDone
  split
  next a ha =>
    split
    · cases hr : s.rst.asserted with
      | true => exact ((h.fireRestDone (by simp [hr]) ha).settle).pass_kept
      | false => exact ((h.weaken.fireRestDone (fun _ => rfl) ha).settle).passed (by simp [hr]) b
    · exact h
  next => exact h

theorem Runs.startSegment (hb : s.rst.asserted = false → b = false) (i : Slot) : Runs c r b (s.startSegment i) := by
  unfold State.startSegment
  exact (((h.updAccount (f := fun a => { a with state := .resting }) fun _ ha => ha).applyStaged i).updAccount
    (f := fun a => a.startSegment s.clock.minute) fun _ ha => ha).testRestDone (by simpa using hb) i

theorem Runs.closeSegment (i : Slot) : Runs c r b (s.closeSegment i) := by
  unfold State.closeSegment
  split
  next a ha =>
    have hclosed : Runs c r b (s.setAccount i a.closeSegment) := h.setAccount fun hs => hs i a ha
    dsimp only
    split
    · exact hclosed.raise _ _ rfl
    · exact hclosed
  next => exact h

theorem Runs.closeIfResting (i : Slot) : Runs c r b (s.closeIfResting i) := by
  unfold State.closeIfResting
  split
  · split
    · exact h.closeSegment i
    · exact h
  · exact h

theorem Runs.finishRest (i : Slot) : Runs c r b (s.finishRest i) := (h.applyStaged i).remove _ _ rfl

theorem Runs.declareRest (hb : s.standstill = true → s.rst.asserted = false → b = false) (i : Slot) :
    Runs c r b (s.declareRest i) := by
  have hcleared : Runs c r b (s.updAccount i (fun a => { a with restEnd := if a.fixedEnd then none else a.restEnd })) :=
    h.updAccount fun _ ha => ha
  have hstand : (s.updAccount i (fun a => { a with restEnd := if a.fixedEnd then none else a.restEnd })).standstill =
      s.standstill := by simp [State.standstill]
  unfold State.declareRest
  dsimp only
  split
  next hs =>
    exact ((hcleared.startSegment (by simpa using hb (hstand ▸ hs)) i).accountNotice).workQuiet.settle
  next => exact (hcleared.accountGo i _).workQuiet.settle

theorem Runs.endRest (i : Slot) : Runs c r b (s.endRest i) :=
  ((((h.closeIfResting i).accountGo i .idle).finishRest i).workQuiet.settle).pass_kept

theorem Runs.passIf (x : Bool) : Runs c r b (s.passIf x) := by
  unfold State.passIf
  split
  · exact h.pass_kept
  · exact h

theorem Runs.declareWheel (i : Slot) (a : Account) : Runs c r b (s.declareWheel i a) := by
  have hfirst : Runs c r b (if a.declared then (s.closeIfResting i).finishRest i else s) := by
    split
    · exact (h.closeIfResting i).finishRest i
    · exact h
  have hnew : ∀ x : Account, x.figured → x.newDuty.figured := by
    intro x hx
    unfold Account.newDuty
    split <;> exact hx
  exact (((hfirst.updAccount hnew).accountGo i .driving).workQuiet.settle).passIf _

theorem Runs.declareRestPass (hr : s.rst.asserted = false) (i : Slot) (a : Account) :
    Runs c r b ((s.declareRest i).passIf (s.declareStartsPass a)) := by
  unfold State.passIf State.declareStartsPass
  split
  · exact (h.weaken.declareRest (fun _ _ => rfl) i).passed (by simpa using hr) b
  next hp =>
    refine h.declareRest (fun hs => ?_) i
    simp [hs] at hp

theorem Runs.longPress (hr : s.rst.asserted = false) (side : Side) : Runs c r b (s.longPress side) := by
  unfold State.longPress
  split
  · exact h
  · split
    · exact h
    · split
      · exact h.endRest _
      · exact h.declareRestPass hr _ _

theorem Runs.moveAccount (hb : s.rst.asserted = false → b = false) (i : Slot) : Runs c r b (s.moveAccount i) := by
  unfold State.moveAccount
  split
  · exact h
  · split
    · split
      · exact (h.startSegment hb i).accountNotice
      · exact (h.closeSegment i).accountGo i .restWait
    · exact h

theorem Runs.moveAccounts (hb : s.rst.asserted = false → b = false) : Runs c r b s.moveAccounts :=
  (((h.moveAccount hb .s0).moveAccount (by simpa using hb) .s1).moveAccount (by simpa using hb) .s2).moveAccount
    (by simpa using hb) .s3

theorem Runs.workStandstill (hr : s.rst.asserted = false) : Runs c r b s.workStandstill := by
  unfold State.workStandstill
  split
  · exact h
  · exact ((h.weaken.moveAccounts (fun _ => rfl)).settle).passed (by simpa using hr) b

theorem Runs.motionChanged (hr : s.rst.asserted = false) : Runs c r b s.motionChanged := by
  have hoff : ∀ x : Account, x.figured → x.moveOff.figured := by
    intro x hx
    unfold Account.moveOff
    split <;> exact hx
  unfold State.motionChanged
  dsimp only
  split
  · exact (h.accounts _ (.mapSome hoff)).workStandstill hr
  · exact h.workStandstill hr

end

end Sys2Proof.Machine
end

section
/-! PROOF. The requests as runs of pieces. -/
namespace Sys2Proof.Machine

/-! ### The port -/

theorem Port.openFrame_attn (p : Port) : p.openFrame.attn = decide (p.flags &&& p.enables ≠ 0#8) := by
  simp [Port.openFrame, Port.workAttn]

section
variable {c : Instr} {r s : State} {b : Bool} (h : Runs c r b s)
include h

theorem Runs.inFrame (hr : s.rst.asserted = false) : Runs c r b s.inFrame := by
  unfold State.inFrame
  split
  · exact h
  · refine h.port _ ⟨rfl, fun _ => ?_, fun hw => ⟨?_, fun hn => ?_⟩⟩
    · simp [AttnLaw, hr, Port.openFrame, Port.workAttn]
    · have hwait := hw.1
      simp only [Port.openFrame, Port.workAttn]
      split
      · exact nofun
      next hn => exact fun hx => absurd (hwait hx) hn
    · exact absurd (hr.symm.trans hn) Bool.false_ne_true

theorem Runs.closeFrame (x : Reply) : Runs c r b (s.closeFrame x) :=
  h.port _ ⟨rfl, fun ha => ha, fun hw => hw⟩

theorem Runs.attnWorked (hr : s.rst.asserted = false) {p : Port} (hm : p.mode = s.port.mode)
    (hw : s.port.wait = true → s.port.asleep = true → p.asleep = true) (hwait : p.wait = s.port.wait) :
    Runs c r b { s with port := p.workAttn } := by
  refine h.port _ ⟨hm, fun _ => ?_, fun hl => ⟨fun hx => ?_, fun hn => ?_⟩⟩
  · simp [AttnLaw, hr, Port.workAttn]
  · have hx : s.port.wait = true := hwait.symm.trans hx
    exact hw hx (hl.1 hx)
  · exact absurd (hr.symm.trans hn) Bool.false_ne_true

end

/-- A request runs within its frame. -/
theorem Runs.takeFrame {c : Instr} {s : State} {f : State → State × Reply}
    (hf : ∀ {u : State}, Runs c s true u → u.rst.asserted = false → Runs c s true (f u).1) :
    Runs c s true (s.takeFrame f) := by
  unfold State.takeFrame
  split
  · exact .start true
  next hr =>
    have hr : s.rst.asserted = false := Bool.not_eq_true _ ▸ hr
    have hframe := (Runs.start (c := c) (r := s) true).inFrame hr
    dsimp only
    split
    · exact hframe.closeFrame _
    · exact (hf hframe (by simpa using hr)).closeFrame _

/-! ### The part mode -/

theorem State.changeMode_eq (s : State) (m : PartMode) : s.changeMode m = ((s.enterMode m).settle).pass := by
  unfold State.changeMode State.enterMode
  split <;> rfl

theorem State.enterMode_rst (s : State) (m : PartMode) : (s.enterMode m).rst = s.rst := by
  unfold State.enterMode
  split
  · simp [State.withPort]
  · rfl

section
variable {c : Instr} {r s : State} {b : Bool} (h : Runs c r b s)
include h

theorem Runs.changeMode (hr : s.rst.asserted = false) (m : PartMode) (hc : movesMode c)
    (hm : s.port.mode = .uninit ∨ s.port.mode = .selfTest ∨ s.orders = []) : Runs c r b (s.changeMode m) := by
  rw [State.changeMode_eq]
  exact ((h.other (.mode m hc hm)).settle).passed (by simp [State.enterMode_rst, hr]) b

theorem Runs.reqInit (hr : s.rst.asserted = false) {mode : Option InitMode} {selfTest : Option Bool}
    (hc : c = .init mode selfTest) : Runs c r b (reqInit mode selfTest s).1 := by
  unfold Machine.reqInit
  split
  next m x =>
    have hmoves : movesMode c := .inl ⟨m, x, hc⟩
    split
    · exact h
    next hm =>
      have hm : s.port.mode = .uninit := not_not.mp hm
      split
      · exact (h.port { s.port with initMode := m } ⟨rfl, fun ha => ha, fun hw => hw⟩).changeMode hr _ hmoves (.inl hm)
      · exact h.changeMode hr _ hmoves (.inl hm)
  next => exact h

theorem Runs.reqShut (hr : s.rst.asserted = false) (hc : movesMode c) : Runs c r b (reqShut s).1 := by
  unfold Machine.reqShut
  split
  · exact h
  · have hempty : Runs c r false { s with orders := [] } := h.other (.dropOrders [] (List.nil_sublist _))
    have hcause := hempty.port { s.port with cause := .shut } ⟨rfl, fun ha => ha, fun hw => hw⟩
    rw [State.changeMode_eq]
    exact ((hcause.other (.mode .uninit hc (.inr (.inr rfl)))).settle).passed (by simp [State.enterMode_rst, hr]) b

theorem Runs.selftestEnd (hr : s.rst.asserted = false) {failed : List (Fin 5)} (hc : c = .selftestEnd failed) :
    Runs c r b (s.selftestEnd failed) := by
  have hmoves : movesMode c := .inr (.inl ⟨failed, hc⟩)
  unfold State.selftestEnd
  split
  · exact h
  next hm =>
    have hm : s.port.mode = .selfTest := not_not.mp hm
    split
    · have hset := h.port { s.port with selfTest := .passed } ⟨rfl, fun ha => ha, fun hw => hw⟩
      exact (hset.notice .part).changeMode (by simpa using hr) _ hmoves (.inr (.inl (by simpa using hm)))
    · rename_i n _
      have hset := h.port { s.port with selfTest := .failed n } ⟨rfl, fun ha => ha, fun hw => hw⟩
      exact (hset.notice .part).changeMode (by simpa using hr) _ hmoves (.inr (.inl (by simpa using hm)))

end

/-! ### The order table -/

theorem targetArg_fits {load : Load} (t : TargetArg) {o : Order} (hl : o.load = load) (ht : o.target = t.store load) :
    o.targetFits := by
  have hint : ∀ {lo hi x : Int}, lo ≤ hi → lo ≤ clampInt lo hi x ∧ clampInt lo hi x ≤ hi := by
    intro lo hi x h
    unfold clampInt
    split <;> [skip; split] <;> omega
  have hnat : ∀ {x : Nat}, clampNat 0 1800 x ≤ 1800 := by
    intro x
    unfold clampNat
    split <;> [skip; split] <;> omega
  have hlevel : (clampInt 0 1000 t.value).toNat ≤ 1000 := by
    have := hint (lo := 0) (hi := 1000) (x := t.value) (by omega)
    omega
  unfold Order.targetFits
  rw [hl, ht]
  cases load with
  | heater => exact hint (by omega)
  | fridge => exact hint (by omega)
  | readA => exact ⟨hlevel, hnat⟩
  | readB => exact ⟨hlevel, hnat⟩
  | cabLight => exact ⟨hlevel, hnat⟩
  | nightLight => exact ⟨hlevel, hnat⟩

/-- An anchored start that was carried is open and within its bounds. -/
theorem startArg_fits {s : State} {arg : StartArg} {start : Start} {o : Order} (ho : o.start = start)
    (hs : arg.store = some start) (ha : s.anchorOpen start = true) : o.anchorFits s := by
  unfold Order.anchorFits
  rw [ho]
  cases arg with
  | immediate => cases hs; trivial
  | absolute => cases hs; trivial
  | bad => cases hs
  | anchored n anchor offset =>
    simp only [StartArg.store] at hs
    split at hs
    · cases hs
      refine ⟨ha, ?_⟩
      unfold clampInt
      split <;> [skip; split] <;> omega
    · cases hs

theorem State.serves_of_servesOrders {s : State} (h : s.servesOrders = true) :
    s.port.mode = .normal ∨ s.port.mode = .workshop := by
  simpa [State.servesOrders] using h

section
variable {c : Instr} {r s : State} {b : Bool} (h : Runs c r b s)
include h

theorem Runs.enterPass (hr : s.rst.asserted = false) {o : Order} (ho : OrderLaw s → s.admitsOrder o) :
    Runs c r b { s with orders := insertOrder o s.orders }.pass :=
  (h.weaken.enter rfl fun _ hl _ => ho hl).passed hr b

theorem Runs.dropPass (hr : s.rst.asserted = false) {os : List Order} (hs : os.Sublist s.orders) :
    Runs c r b { s with orders := os }.pass :=
  (h.other (.dropOrders os hs)).passed hr b

theorem Runs.reqOplace (hr : s.rst.asserted = false) (a : PlaceArg) : Runs c r b (reqOplace a s).1 := by
  simp only [Machine.reqOplace]
  split
  · exact h
  next hmode =>
    split
    · exact h
    next hkey =>
      split
      next load cls start finish _ _ hstart _ =>
        split
        · exact h
        · split
          · exact h
          next hanchor =>
            split
            · exact h
            · split
              · exact h
              next hlimit =>
                refine h.enterPass hr fun _ => ⟨.inl ?_, targetArg_fits a.target rfl rfl,
                  startArg_fits rfl hstart (show s.anchorOpen start = true by simpa using hanchor), .inr ⟨?_, ?_⟩⟩
                · obtain ⟨h1, h2⟩ := (hostKey_iff _).mp (by simpa using hkey)
                  exact ⟨h1, h2, rfl⟩
                · exact Nat.not_le.mp hlimit
                · exact State.serves_of_servesOrders (by simpa using hmode)
      next => exact h

theorem Runs.reqOamend (hr : s.rst.asserted = false) (a : AmendArg) : Runs c r b (reqOamend a s).1 := by
  simp only [Machine.reqOamend]
  split
  · exact h
  · split
    · exact h
    · split
      · exact h
      next o ho =>
        obtain ⟨hmem, hkey⟩ := findOrder_some ho
        split
        · exact h
        · split
          next cls start finish _ hstart _ =>
            split
            · exact h
            · split
              · exact h
              next hanchor =>
                refine h.enterPass hr fun hl => ?_
                obtain ⟨-, -, hfits, -⟩ := hl
                obtain ⟨hk, ht, hs⟩ := hfits o hmem
                refine ⟨hk, ?_, ?_, .inl ⟨o, hmem, rfl⟩⟩
                · cases harg : a.target with
                  | none => simpa [Order.targetFits, amendOrder, harg] using ht
                  | some t => exact targetArg_fits t rfl (by simp [amendOrder, harg])
                · cases harg : a.start with
                  | none =>
                    rw [harg] at hstart
                    cases hstart
                    simpa [Order.anchorFits, amendOrder] using hs
                  | some arg =>
                    rw [harg] at hstart hanchor
                    exact startArg_fits rfl hstart (show s.anchorOpen start = true by simpa [State.amendAnchor] using hanchor)
          next => exact h

theorem Runs.reqOretire (hr : s.rst.asserted = false) (key : Byte) : Runs c r b (reqOretire key s).1 := by
  unfold Machine.reqOretire State.withOrder
  split
  · exact h
  · split
    · exact h
    · split
      · exact h
      · exact h.dropPass hr List.filter_sublist

end

end Sys2Proof.Machine
end

section
/-! PROOF. The other requests as runs of pieces. -/
namespace Sys2Proof.Machine

/-! ### The charge account stays in its ranges -/

/-- R53, R58, R62: the charge account in its ranges. -/
def Charge.lawful (x : Charge) : Prop :=
  10000 ≤ x.capacity ∧ x.capacity ≤ 1000000 ∧ x.reserve < x.capacity ∧ 1 ≤ x.weight ∧ x.weight ≤ 36000 ∧
  x.count ≤ x.capacity ∧ x.residue < 3600 ∧ (x.count = x.capacity → x.residue = 0) ∧
  -2147483647 ≤ x.tally ∧ x.tally ≤ 2147483647 ∧ -596523 ≤ x.netLast ∧ x.netLast ≤ 596523

theorem chargeLaw_iff (s : State) : ChargeLaw s ↔ s.charge.lawful := Iff.rfl

theorem holdInt_bounds (x : Int) : -2147483647 ≤ holdInt 2147483647 x ∧ holdInt 2147483647 x ≤ 2147483647 := by
  unfold holdInt clampInt
  split <;> [skip; split] <;> omega

theorem Charge.lawful.addTally {x : Charge} (h : x.lawful) (d : Int) : (x.addTally d).lawful := by
  obtain ⟨h1, h2, h3, h4, h5, h6, h7, h8, -, -, h11, h12⟩ := h
  exact ⟨h1, h2, h3, h4, h5, h6, h7, h8, (holdInt_bounds _).1, (holdInt_bounds _).2, h11, h12⟩

theorem Charge.lawful.charge {x : Charge} (h : x.lawful) : x.charge.lawful := by
  obtain ⟨h1, h2, h3, h4, h5, h6, h7, h8, h9, h10, h11, h12⟩ := h
  unfold Charge.charge
  split
  next hc =>
    refine ⟨h1, h2, h3, h4, h5, ?_, ?_, fun he => ?_, h9, h10, h11, h12⟩
    · simp only [Charge.divide]
      omega
    · simp only [Charge.divide]
      omega
    · simp only [Charge.divide] at he
      omega
  next => exact ⟨h1, h2, h3, h4, h5, Nat.le_refl _, by simp, fun _ => rfl, h9, h10, h11, h12⟩

theorem Charge.lawful.discharge {x : Charge} (h : x.lawful) : x.discharge.lawful := by
  obtain ⟨h1, h2, h3, h4, h5, h6, h7, h8, h9, h10, h11, h12⟩ := h
  have hcontent : x.content = x.count * 3600 + x.residue := rfl
  unfold Charge.discharge
  split
  next hc =>
    refine ⟨h1, h2, h3, h4, h5, ?_, ?_, fun he => ?_, h9, h10, h11, h12⟩
    · simp only [Charge.divide]
      omega
    · simp only [Charge.divide]
      omega
    · simp only [Charge.divide] at he
      omega
  next => exact ⟨h1, h2, h3, h4, h5, by simp, by simp, fun _ => rfl, h9, h10, h11, h12⟩

theorem Charge.lawful.configure {x : Charge} (h : x.lawful) {capacity reserve weight : Nat}
    (hok : csetOk capacity reserve weight = true) : (x.configure capacity reserve weight).lawful := by
  obtain ⟨-, -, -, -, -, h6, h7, h8, h9, h10, h11, h12⟩ := h
  simp only [csetOk, Bool.and_eq_true, decide_eq_true_iff] at hok
  obtain ⟨⟨⟨⟨k1, k2⟩, k3⟩, k4⟩, k5⟩ := hok
  refine ⟨k1, k2, k5, k3, k4, ?_, ?_, fun he => ?_, h9, h10, h11, h12⟩
  · simp only [Charge.configure]
    split <;> omega
  · simp only [Charge.configure]
    split <;> omega
  · simp only [Charge.configure] at he ⊢
    split at he <;> split <;> omega

theorem Charge.lawful.sync {x : Charge} (h : x.lawful) (n : Nat) : (x.sync n).lawful := by
  obtain ⟨h1, h2, h3, h4, h5, h6, h7, h8, h9, h10, h11, h12⟩ := h
  exact ⟨h1, h2, h3, h4, h5, Nat.min_le_right _ _, by simp [Charge.sync], fun _ => rfl, h9, h10, h11, h12⟩

theorem Charge.lawful.minute {x : Charge} (h : x.lawful) : x.minute.lawful := by
  obtain ⟨h1, h2, h3, h4, h5, h6, h7, h8, h9, h10, -, -⟩ := h
  refine ⟨h1, h2, h3, h4, h5, h6, h7, h8, by simp [Charge.minute], by simp [Charge.minute], ?_, ?_⟩
  · simp only [Charge.minute, Int.tdiv_eq_ediv, show Int.sign 3600 = 1 from rfl]
    split <;> omega
  · simp only [Charge.minute, Int.tdiv_eq_ediv, show Int.sign 3600 = 1 from rfl]
    split <;> omega

theorem settingsArg_figured (a : SettingsArg) (w : Bool) : (a.store w).figured := by
  simp only [Settings.figured, SettingsArg.store, clampNat]
  constructor <;> split <;> [omega; split <;> omega; omega; split <;> omega]

section
variable {c : Instr} {r s : State} {b : Bool} (h : Runs c r b s)
include h

theorem Runs.charge {x : Charge} (hx : s.charge.lawful → x.lawful) : Runs c r b { s with charge := x } :=
  h.calm (.charge x hx) .of

theorem Runs.takePulse {x : Charge} (hx : s.charge.lawful → x.lawful) : Runs c r b (s.takePulse x) :=
  (((h.charge hx).workCondition _ _ _ rfl).noticeIf _ _).noticeIf _ _

theorem Runs.reqCset (capacity reserve weight : Nat) : Runs c r b (reqCset capacity reserve weight s).1 := by
  unfold Machine.reqCset
  split
  · exact h
  next hok => exact (h.takePulse fun hx => hx.configure (by simpa using hok)).pass_kept

theorem Runs.reqCsync (x : Word32) : Runs c r b (reqCsync x s).1 := (h.takePulse fun hx => hx.sync _).pass_kept

/-! ### The clock and the allocator -/

theorem Runs.reqTset (hr : s.rst.asserted = false) (m : Word32) (hc : movesClock c) : Runs c r b (reqTset m s).1 :=
  (h.other (.stepClock _ hc)).passed hr b

theorem Runs.reqBset (hr : s.rst.asserted = false) (horizon keepMargin : Nat) :
    Runs c r b (reqBset horizon keepMargin s).1 := by
  rw [reqBset_eq]
  exact (h.other (.budget (clampNat 30 1440 horizon) (clampNat 0 20000 keepMargin))).passed hr b

theorem Runs.setDraws (d : Draws) : Runs c r b (s.setDraws d) :=
  h.calm (.draws d)
    { orders := rfl, committed := rfl, usable := rfl, keepMargin := rfl, mode := rfl
      presented := fun load => by cases load <;> rfl, lockout := id, fault := id }

theorem Runs.reqPlan (a : PlanArg) : Runs c r b (reqPlan a s).1 := (h.setDraws _).pass_kept

/-! ### The accounts -/

theorem Runs.reqAopen (slot : Nat) (tag : Word32) (bunk : Option Bunk) : Runs c r b (reqAopen slot tag bunk s).1 := by
  unfold Machine.reqAopen
  split
  · split
    · exact h
    · split
      · exact h
      · split
        · exact h
        · split
          · exact h
          · exact h.setAccount fun _ => ⟨⟨show 400 ≤ 1000 by omega, show 10 ≤ 30 by omega⟩, nofun⟩
  · exact h

theorem Runs.setSettings {i : Slot} {a : Account} (ha : s.account i = some a) (bunk : Bunk) {t : Settings}
    (ht : t.figured) : Runs c r b (s.setSettings i a bunk t) := by
  have hset : Runs c r b (s.setAccount i (a.takeSettings bunk t)) := by
    refine h.setAccount fun hs => ?_
    unfold Account.takeSettings
    split
    · exact ⟨(hs i a ha).1, fun x hx => Option.some.inj hx ▸ ht⟩
    · exact ⟨ht, (hs i a ha).2⟩
  unfold State.setSettings
  dsimp only
  split
  · exact hset.settle
  · exact (hset.settle.testDriving i).testBreak i

theorem Runs.reqAset (slot : Nat) (bunk : Option Bunk) (arg : SettingsArg) : Runs c r b (reqAset slot bunk arg s).1 := by
  unfold Machine.reqAset
  split
  · split
    · exact h
    next a ha =>
      split
      · exact h
      · split
        · exact h
        · exact h.setSettings ha _ (settingsArg_figured arg _)
  · exact h

theorem Runs.withAccount {slot : Nat} {f : Slot → Account → State × Reply}
    (hf : ∀ i a, s.account i = some a → Runs c r b (f i a).1) : Runs c r b (s.withAccount slot f).1 := by
  unfold State.withAccount
  split
  · exact h
  · split
    · exact h
    next a ha => exact hf _ a ha

theorem Runs.reqAdeclRest (hr : s.rst.asserted = false) (slot : Nat) : Runs c r b (reqAdeclRest slot s).1 := by
  refine h.withAccount fun i a _ => ?_
  split
  · exact h
  · exact h.declareRestPass hr i a

theorem Runs.reqAdeclEnd (slot : Nat) : Runs c r b (reqAdeclEnd slot s).1 := by
  refine h.withAccount fun i a _ => ?_
  split
  · exact h.endRest i
  · exact h

theorem Runs.reqAdeclWheel (slot : Nat) : Runs c r b (reqAdeclWheel slot s).1 := by
  refine h.withAccount fun i a _ => ?_
  split
  · exact h
  · split
    · exact h
    · exact h.declareWheel i a

theorem Runs.reqAdeclRelease (slot : Nat) : Runs c r b (reqAdeclRelease slot s).1 := by
  refine h.withAccount fun i a _ => ?_
  split
  · exact (h.accountGo i .idle).settle
  · exact h

theorem Runs.dropSource (i : Slot) : Runs c r b (s.dropSource i) :=
  ((((h.remove _ _ rfl).remove _ _ rfl).remove _ _ rfl).remove _ _ rfl).remove _ _ rfl

theorem Runs.reqAretire (hr : s.rst.asserted = false) (slot : Nat) : Runs c r b (reqAretire slot s).1 := by
  refine h.withAccount fun i a _ => ?_
  have hfilter : Runs c r false { s with orders := s.orders.filter (fun o => !o.anchoredTo i) } :=
    h.other (.dropOrders _ List.filter_sublist)
  have hdropped := (hfilter.noticeIf (s.orders.any (fun o => o.anchoredTo i)) .order).dropSource i
  have horders : ((s.orphan i).dropSource i).orders = s.orders.filter (fun o => !o.anchoredTo i) := by
    simp [State.dropSource, State.orphan]
  have hempty : Runs c r false (((s.orphan i).dropSource i).emptySlot i) := by
    refine hdropped.accounts _ ⟨fun hs j x hx => ?_, fun j hj => ?_⟩
    · rw [State.account, PerSlot.get_set] at hx
      split at hx
      · cases hx
      · exact hs j x hx
    · rw [PerSlot.get_set]
      split
      next hij =>
        refine .inr fun o ho => ?_
        have ho : o ∈ s.orders.filter (fun o => !o.anchoredTo i) := horders ▸ ho
        simpa [hij] using (List.mem_filter.mp ho).2
      next => exact .inl hj
  exact hempty.workQuiet.settle.passed (by simp [State.dropSource, State.emptySlot, State.orphan, hr]) b

theorem Runs.reqXmode (hr : s.rst.asserted = false) (on : Option Bool) : Runs c r b (reqXmode on s).1 := by
  unfold Machine.reqXmode
  split
  · exact h
  · exact (h.transport _).workStandstill hr

/-! ### The list, the heater, the refrigerator and the lights -/

theorem Runs.acknowledge (hr : s.rst.asserted = false) {e : Entry} (he : e ∈ s.warn.entries) :
    Runs c r b (s.acknowledge e) :=
  h.warn (.acknowledge e he hr)

theorem Runs.reqWack (hr : s.rst.asserted = false) (a : Option Source) (w : Option WarnType) :
    Runs c r b (reqWack a w s).1 := by
  unfold Machine.reqWack
  split
  · split
    · exact h
    · split
      · exact h
      next e he => exact h.acknowledge hr (List.mem_of_find?_eq_some he)
  · exact h

theorem Runs.reqHset (a : HeaterArg) : Runs c r b (reqHset a s).1 := by
  unfold Machine.reqHset
  split
  · exact (h.heater (.setParams _)).noticeIf _ _
  · exact h

theorem Runs.clearFuel (x : Bool) : Runs c r b (s.clearFuel x) := h.heater (.clearFuel x)

theorem Runs.reqHclear {option : Option Bool} (hc : c = .hclear option) : Runs c r b (reqHclear option s).1 := by
  unfold Machine.reqHclear
  split
  · exact h
  next clear =>
    split
    next hs =>
      split
      · exact h
      next ho =>
        have hunlock := h.heater (.unlock ⟨clear, hc⟩ hs (by simpa [State.overheated] using ho))
        exact ((hunlock.remove .part .heaterLockout rfl).clearFuel clear).pass_kept
    next =>
      split
      · exact h.clearFuel true
      · exact h

theorem Runs.reqFset {n : Nat} (hc : c = .fset n) : Runs c r b (reqFset n s).1 := by
  refine ((h.fridge (.setMinOff (clampNat 120 600 n) ⟨n, hc⟩ ?_)).fridge .endRest).noticeIf _ _
  unfold clampNat
  split <;> [skip; split] <;> omega

theorem Runs.reqFclear : Runs c r b (reqFclear s).1 := by
  unfold Machine.reqFclear
  split
  · exact h
  next hs => exact ((h.fridge (.clearFault (not_not.mp hs))).pass_kept).fridge .endRest

theorem Runs.reqLset (a : LightArg) : Runs c r b (reqLset a s).1 := by
  unfold Machine.reqLset
  split
  · exact h
  · exact h.lights (.setLights _)

/-! ### Sensing -/

theorem Runs.senseRecord {x : Sense} (hx : x = { s.sense with chgTotal := x.chgTotal, disTotal := x.disTotal
                                                              pbrake := x.pbrake, flame := x.flame, ovht := x.ovht
                                                              btnA := x.btnA, btnB := x.btnB, pressA := x.pressA
                                                              pressB := x.pressB, drawn := x.drawn })
    (ho : x.ovht.level = s.sense.ovht.level) : Runs c r b { s with sense := x } := by
  refine h.sense x ⟨ho, ?_, ?_⟩
  · rw [hx]
    exact id
  · rw [hx]
    exact id

theorem Runs.reqSlook : Runs c r b (reqSlook s).1 := by
  refine h.senseRecord ?_ ?_ <;> simp only [Sense.drawnOn] <;> split <;> rfl

theorem Runs.reqSset (hr : s.rst.asserted = false) (seconds : Nat) : Runs c r b (reqSset seconds s).1 := by
  have hm : 10 ≤ clampNat 10 600 seconds ∧ clampNat 10 600 seconds ≤ 600 := by
    unfold clampNat
    split <;> [skip; split] <;> omega
  simp only [Machine.reqSset, State.setSettle]
  split
  next hs =>
    refine (h.sense { s.sense with settleTime := clampNat 10 600 seconds, motion := .stationary }
      ⟨rfl, id, fun hl => ?_⟩).motionChanged hr
    obtain ⟨h1, h2, h3, h4, h5, -, -, h8, -⟩ := hl
    exact ⟨h1, h2, h3, h4, h5, hm.1, hm.2, h8, nofun⟩
  next hs =>
    refine h.sense _ ⟨rfl, id, fun hl => ?_⟩
    obtain ⟨h1, h2, h3, h4, h5, -, -, h8, -⟩ := hl
    refine ⟨h1, h2, h3, h4, h5, hm.1, hm.2, h8, fun hst => ?_⟩
    exact Nat.not_le.mp fun hle => hs ⟨hst, hle⟩

end

end Sys2Proof.Machine
end

section
/-! PROOF. The events as runs of pieces, and the traversal: every command but a cold start and the assertion of RESET is
a run of pieces. -/
namespace Sys2Proof.Machine

/-! ### What the events write of the sensing records -/

theorem tempOfCount_bounds {n : Nat} {v : Int} (h : tempOfCount n = some v) : -500 ≤ v ∧ v ≤ 500 := by
  unfold tempOfCount at h
  split at h
  · cases h
  · split at h
    · cases h
      omega
    · split at h
      · cases h
        omega
      · split at h
        · cases h
          omega
        · cases h

theorem TempChannel.legal.window {x : TempChannel} (h : x.legal) {n : Nat} (hn : n ≤ 65535) : (x.window n).legal := by
  obtain ⟨hlow, hhigh, -, hrun, hfault⟩ := h
  unfold TempChannel.window
  split
  next v hv =>
    obtain ⟨k1, k2⟩ := tempOfCount_bounds hv
    split
    · exact ⟨k1, k2, hn, hrun, hfault⟩
    · split
      · exact ⟨k1, k2, hn, Nat.le_refl _, by simp⟩
      next hf h2 => exact ⟨hlow, hhigh, hn, by simp only; omega, by simp only; simp [Bool.not_eq_false _ ▸ hf]; omega⟩
  next => exact ⟨hlow, hhigh, hn, by simp, by simp⟩

theorem heldCount_le (n : Nat) : heldCount n ≤ 65535 := Nat.min_le_right _ _

/-- The window of a channel, as a write of its record alone. -/
theorem State.senseSet_window {s : State} {i : TempId} {n : Nat} (hn : n ≤ 65535)
    (hi : i = .c3 → (s.sense.fridgeT.window n).fault = true → s.sense.fridgeT.fault = true) :
    s.senseSet (s.sense.setTemp i ((s.sense.temp i).window n)) := by
  cases i with
  | c2 => exact ⟨rfl, id, fun ⟨h1, h⟩ => ⟨h1.window hn, h⟩⟩
  | c3 => exact ⟨rfl, hi rfl, fun ⟨h1, h2, h⟩ => ⟨h1, h2.window hn, h⟩⟩
  | c4 => exact ⟨rfl, id, fun ⟨h1, h2, h3, h⟩ => ⟨h1, h2, h3.window hn, h⟩⟩

theorem State.senseSet_motion {s : State} {n : Nat} (hn : n ≤ 65535) :
    s.senseSet { s.sense.motionStep n with vspdCount := n } := by
  refine ⟨?_, ?_, fun hl => ?_⟩
  · unfold Sense.motionStep
    split <;> [rfl; split <;> rfl]
  · unfold Sense.motionStep
    split <;> [exact id; split <;> exact id]
  · obtain ⟨h1, h2, h3, -, h5, h6, h7, h8, h9⟩ := hl
    unfold Sense.motionStep
    split
    · exact ⟨h1, h2, h3, hn, h5, h6, h7, h8, nofun⟩
    · split
      · exact ⟨h1, h2, h3, hn, h5, h6, h7, by simp, fun _ => by simp only; omega⟩
      next hm =>
        have hcount := h9 hm
        refine ⟨h1, h2, h3, hn, h5, h6, h7, by simp only; omega, fun hst => ?_⟩
        simp only at hst ⊢
        split at hst
        · cases hst
        next hlt => exact Nat.not_le.mp hlt
      · exact ⟨h1, h2, h3, hn, h5, h6, h7, h8, h9⟩

section
variable {c : Instr} {r s : State} {b : Bool} (h : Runs c r b s)
include h

theorem Runs.setInput (i : DigitalIn) {x : Input} (hx : x.level = (s.sense.input i).level ∨ i ≠ .ovht) :
    Runs c r b { s with sense := s.sense.setInput i x } := by
  refine h.senseRecord ?_ ?_
  · cases i <;> rfl
  · cases i with
    | ovht => exact hx.resolve_right fun hn => hn rfl
    | _ => rfl

theorem Runs.setPress (side : Side) (p : Press) : Runs c r b { s with sense := s.sense.setPress side p } := by
  refine h.senseRecord ?_ ?_ <;> cases side <;> rfl

theorem Runs.endWaitOf (side : Side) : Runs c r b { s with sense := s.sense.endWait side } := by
  refine h.senseRecord ?_ ?_ <;> simp only [Sense.endWait] <;> split <;> [rfl; cases side <;> rfl; rfl; cases side <;> rfl]

theorem Runs.endWait : Runs c r b { s with sense := (s.sense.endWait .a).endWait .b } :=
  (h.endWaitOf .a).endWaitOf .b

end

/-! ### The overheat input -/

theorem State.calm.trans {s u t : State} (h : s.calm u) (k : u.calm t) : s.calm t where
  orders := k.orders.trans h.orders
  committed := k.committed.trans h.committed
  usable := k.usable.trans h.usable
  keepMargin := k.keepMargin.trans h.keepMargin
  mode := k.mode.trans h.mode
  presented load := (k.presented load).trans (h.presented load)
  lockout hl := h.lockout (k.lockout hl)
  fault hf := h.fault (k.fault hf)

theorem State.ovhtActive_frame (s : State) : s.heaterFrame s.ovhtActive := by
  unfold State.ovhtActive
  split
  · exact s.enterOff_frame
  · exact s.enterCooldown_frame _
  · exact s.enterCooldown_frame _
  · exact s.enterCooldown_frame _
  · exact s.withHeater_frame _ rfl id
  · exact .refl s

theorem State.ovhtInactive_frame (s : State) : s.heaterFrame s.ovhtInactive := by
  unfold State.ovhtInactive
  split
  · exact s.enterPreheat_frame
  · exact .refl s

/-- The state in which a debounced input takes its pin's level. -/
def State.takeLevel (s : State) (i : DigitalIn) : State :=
  { s with sense := s.sense.setInput i (s.sense.input i).expire }

/-- What the overheat input hands on is the heater's alone. -/
theorem State.debounced_ovht (s : State) (held : Nat) :
    s.debounced .ovht held = s ∨ (s.takeLevel .ovht).heaterFrame (s.debounced .ovht held) := by
  unfold State.debounced
  split
  · refine .inr ?_
    show (s.takeLevel .ovht).heaterFrame ((s.takeLevel .ovht).levelChanged .ovht held)
    simp only [State.levelChanged]
    split
    · exact (State.noticeIf_frame _ _ _).trans (State.ovhtActive_frame _)
    · exact (State.noticeIf_frame _ _ _).trans (State.ovhtInactive_frame _)
  · exact .inl rfl

section
variable {c : Instr} {r s : State} {b : Bool} (h : Runs c r b s)
include h

/-! ### Presses and debounced levels -/

theorem Runs.toggleManual (hr : s.rst.asserted = false) (side : Side) : Runs c r b (s.toggleManual side) := by
  unfold State.toggleManual
  split
  · have hdrop : Runs c r false { s with orders := eraseOrder (manualKey side) s.orders } :=
      h.other (.dropOrders _ List.filter_sublist)
    exact (hdrop.notice .order).passed (by simpa using hr) b
  next hkey =>
    split
    · exact (h.weaken.placePart rfl fun _ _ => manualOrder_fits).passed (by simpa using hr) b
    next hmay =>
      have hout : s.placePart (manualOrder side s.clock.minute) = s.notice .order := by
        unfold State.placePart
        rw [if_neg]
        simpa [hmay, manualOrder, newOrder] using hkey
      rw [hout]
      exact h.notice .order

theorem Runs.shortPress (hr : s.rst.asserted = false) (side : Side) : Runs c r b (s.shortPress side) := by
  unfold State.shortPress
  split
  · exact h.toggleManual hr side
  · split
    next e he =>
      refine h.acknowledge hr ?_
      have hmem := List.mem_of_find?_eq_some he
      unfold State.bunkEntries at hmem
      split at hmem
      · exact (rankOrder_perm _).mem_iff.mp (List.mem_filter.mp hmem).1
      · cases hmem
    next => exact h

theorem Runs.pressed (side : Side) : Runs c r b (s.pressed side) := by
  unfold State.pressed
  split
  · exact h.setPress _ _
  · exact h

theorem Runs.released (hr : s.rst.asserted = false) (side : Side) (held : Nat) : Runs c r b (s.released side held) := by
  unfold State.released
  split
  · dsimp only
    split
    · exact (h.setPress _ _).shortPress hr side
    · exact h.setPress _ _
  · exact h.setPress _ _
  · exact h.setPress _ _
  · exact h

theorem Runs.debounced (hr : s.rst.asserted = false) {i : DigitalIn} {held : Nat} (hc : c = .debounceExpiry i held) :
    Runs c r b (s.debounced i held) := by
  by_cases hi : i = .ovht
  · subst hi
    refine h.calm (.overheat held) ?_
    obtain heq | hframe := s.debounced_ovht held
    · rw [heq]
      exact .of
    · have hset : s.calm { s with sense := s.sense.setInput .ovht (s.sense.input .ovht).expire } := .of
      exact State.calm.trans hset hframe.calm
  · unfold State.debounced
    split
    · have hset := h.setInput i (x := (s.sense.input i).expire) (.inr hi)
      cases i with
      | pbrake => exact hset.workStandstill hr
      | flame =>
        simp only [State.levelChanged]
        split
        · exact (hset.noticeIf _ _).heater (.flamePresent ⟨held, hc⟩)
        · exact (hset.noticeIf _ _).heater .flameAbsent
      | ovht => exact absurd rfl hi
      | btnA =>
        simp only [State.levelChanged]
        split
        · exact hset.pressed .a
        · exact hset.released hr .a held
      | btnB =>
        simp only [State.levelChanged]
        split
        · exact hset.pressed .b
        · exact hset.released hr .b held
    · exact h

end

/-! ### The windows -/

/-- The state in which a temperature window has moved its channel, with SENSOR set by its fault. -/
def State.takeTemp (s : State) (i : TempId) (n : Nat) : State :=
  ({ s with sense := s.sense.setTemp i ((s.sense.temp i).window n) }).noticeIf
    ((s.sense.temp i).fault || ((s.sense.temp i).window n).fault) .sensor

theorem State.tempWindow_c3_faulted {s : State} {n : Nat} (hf : s.sense.fridgeT.fault = false)
    (hd : (s.sense.fridgeT.window n).fault = true) :
    s.tempWindow .c3 n =
      (((((s.takeTemp .c3 n).fridgeAttention).withFridge
        (fun f => { f with call := f.workCall (s.sense.fridgeT.window n).value true })).withFridge
        (fun f => { f with warmRun := none })).c3Faults) := by
  simp [State.tempWindow, State.presentTemp, State.fridgeReading, Sense.temp, hf, hd, State.takeTemp]

theorem State.tempWindow_c3_faulted_frame {s : State} {n : Nat} (hf : s.sense.fridgeT.fault = false)
    (hd : (s.sense.fridgeT.window n).fault = true) : (s.takeTemp .c3 n).fridgeFrame (s.tempWindow .c3 n) := by
  rw [State.tempWindow_c3_faulted hf hd]
  exact (((State.fridgeAttention_frame _).trans (State.withFridge_frame _ _ rfl)).trans
    (State.withFridge_frame _ _ rfl)).trans (State.c3Faults_frame _)

section
variable {c : Instr} {r s : State} {b : Bool} (h : Runs c r b s)
include h

theorem Runs.dropIf (a : Source) (w : WarnType) (hw : pairMatches a w = true) (p : Prop) [Decidable p] :
    Runs c r b (if p then s.remove a w else s) := by
  split
  · exact h.remove a w hw
  · exact h

theorem Runs.workWarm (value : Int) : Runs c r b (s.workWarm value) := by
  unfold State.workWarm
  split
  · exact h
  next t ht =>
    have hwarm : ∀ w : Fridge → Option Nat, Runs c r b (s.withFridge (fun f => { f with warmRun := w f })) :=
      fun w => h.fridge (.warm (w s.fridge) (.inr (by rw [ht]; rfl)))
    exact (hwarm _).dropIf .part .fridgeWarm rfl _

theorem Runs.fridgeReading (value : Int) {fault : Bool} (hf : s.sense.fridgeT.fault = fault) :
    Runs c r b (s.fridgeReading value fault false) := by
  have hcall : Runs c r b (s.fridgeAttention.withFridge (fun f => { f with call := f.workCall value fault })) :=
    (h.noticeIf _ _).fridge (.call (s.fridgeAttention.fridge.workCall value fault))
  simp only [State.fridgeReading]
  split
  · exact hcall
  next hfault =>
    have hwarm := hcall.workWarm value
    have hclear : (State.workWarm (s.fridgeAttention.withFridge (fun f => { f with call := f.workCall value fault }))
        value).sense.fridgeT.fault = false := by
      simpa [hf] using hfault
    split
    · exact hwarm.fridge .start
    next hs _ => exact hwarm.fridge (.inRun _ _ hs hclear)
    · exact hwarm

theorem Runs.tempWindow (i : TempId) {n : Nat} (hn : n ≤ 65535) : Runs c r b (s.tempWindow i n) := by
  by_cases hi : i = .c3 ∧ s.sense.fridgeT.fault = false ∧ (s.sense.fridgeT.window n).fault = true
  · obtain ⟨rfl, hf, hd⟩ := hi
    have hset : s.calm { s with sense := s.sense.setTemp .c3 (s.sense.fridgeT.window n) } := .of
    have hnotice : State.calm { s with sense := s.sense.setTemp .c3 (s.sense.fridgeT.window n) } (s.takeTemp .c3 n) :=
      .of (orders := by simp [State.takeTemp]) (alloc := by simp [State.takeTemp]) (mode := by simp [State.takeTemp])
        (heater := by simp [State.takeTemp]) (fridge := by simp [State.takeTemp])
        (lights := by intro i; simp [State.takeTemp, State.channel]) (lockout := by simp [State.takeTemp])
        (fault := by simp [State.takeTemp])
    refine h.calm (.coldRoom n hn hf hd) ((hset.trans hnotice).trans
      (State.fridgeFrame.calm (State.tempWindow_c3_faulted_frame hf hd) fun hfault => ?_))
    rw [State.tempWindow_c3_faulted hf hd] at hfault
    have hstate := State.c3Faults_fault hfault
    simpa using hstate
  · have hset : Runs c r b { s with sense := s.sense.setTemp i ((s.sense.temp i).window n) } := by
      refine h.sense _ (State.senseSet_window hn fun h3 hd => ?_)
      by_contra hf
      exact hi ⟨h3, by simpa using hf, hd⟩
    have hnotice := hset.noticeIf ((s.sense.temp i).fault || ((s.sense.temp i).window n).fault) .sensor
    cases i with
    | c2 => exact hnotice.heater (.reading _ _)
    | c4 => exact hnotice.noticeIf _ _
    | c3 =>
      have hfaulted : (!s.sense.fridgeT.fault && (s.sense.fridgeT.window n).fault) = false := by
        by_contra hx
        obtain ⟨h1, h2⟩ := Bool.and_eq_true_iff.mp (Bool.not_eq_false _ ▸ hx)
        exact hi ⟨rfl, by simpa using h1, h2⟩
      simp only [State.tempWindow, State.presentTemp, Sense.temp, hfaulted]
      exact hnotice.fridgeReading _ (by simp [Sense.setTemp, Sense.temp])

theorem Runs.vspdWindow (hr : s.rst.asserted = false) {n : Nat} (hn : n ≤ 65535) : Runs c r b (s.vspdWindow n) := by
  have hset := h.sense _ (State.senseSet_motion hn)
  unfold State.vspdWindow
  dsimp only
  split
  · exact hset
  · exact hset.motionChanged hr

theorem Runs.tachWindow (hr : s.rst.asserted = false) {n : Nat} (hn : n ≤ 65535) (hc : ∃ edges, c = .tachWindowEnd edges) :
    Runs c r b (s.tachWindow n) := by
  have hset : Runs c r b { s with sense := { s.sense with tachRate := n } } :=
    h.sense _ ⟨rfl, id, fun ⟨h1, h2, h3, h4, _, h⟩ => ⟨h1, h2, h3, h4, hn, h⟩⟩
  simp only [State.tachWindow, State.passIf]
  split
  · exact (hset.other (.stall n hc)).passed (by simpa using hr) b
  next hp =>
    refine hset.fridge (.tach n hc fun hfault => ?_)
    by_contra hne
    exact hp (by simpa using ⟨hfault, hne⟩)

end

/-! ### Seconds, minutes and the counters that fall due -/

theorem Account.second_figured {m : Motion} {a : Account} (ha : a.figured) : (a.second m).figured := by
  unfold Account.second
  split
  · exact ha
  · split <;> exact ha
  · exact ha

section
variable {c : Instr} {r s : State} {b : Bool} (h : Runs c r b s)
include h

theorem Runs.minuteExpiry (hc : movesClock c) : Runs c r b s.minuteExpiry := by
  have hclock : Runs c r b { s with clock := s.clock.minuteOn } := h.calm (.minute hc) .of
  exact ((hclock.charge (x := s.charge.minute) fun hx => hx.minute).noticeIf _ _).pass_kept

theorem Runs.secondHeldOut (hc : movesClock c) : Runs c r b s.secondHeldOut := by
  have hclock : Runs c r b { s with clock := s.clock.second } := h.calm (.second hc) .of
  exact hclock.accounts _ (.mapSome fun _ ha => Account.second_figured ha)

theorem Runs.secondLoads (hc : ∃ whole, c = .timebaseSecond whole) : Runs c r b s.secondLoads :=
  (((h.warn .second).heater .second).fridge (.second hc)).noticeIf _ _

theorem Runs.forSlots {f : State → Slot → State} (hf : ∀ {u : State} (i : Slot), Runs c r b u → Runs c r b (f u i))
    (is : List Slot) : Runs c r b (s.forSlots f is) := by
  induction is generalizing s with
  | nil => exact h
  | cons i is ih => exact ih (hf i h)

theorem Runs.testDrivers : Runs c r b s.testDrivers := h.forSlots (fun i hu => hu.testDriving i) _

theorem Runs.warmRunComplete : Runs c r b s.warmRunComplete := by
  unfold State.warmRunComplete
  split
  · exact ((h.fridge (.warm none (.inl rfl))).raise _ _ rfl).noticeIf _ _
  · exact h

theorem Runs.dueInLoads : Runs c r b s.dueInLoads := by
  have hminOff : ∀ {u : State}, Runs c r b u → Runs c r b u.minOffAtSecond := by
    intro u hu
    unfold State.minOffAtSecond
    split
    · exact hu.fridge .minOffEnd
    · exact hu
  exact (((((hminOff ((h.heater .clearCount).heater .satisfied)).fridge .cycleOff).fridge .cycleOn).fridge
    .clearStalls).warmRunComplete)

theorem Runs.outOfReset {f : State → State} (hf : s.rst.asserted = false → Runs c r b (f s)) :
    Runs c r b (s.outOfReset f) := by
  unfold State.outOfReset
  split
  · exact h
  next hr => exact hf (Bool.not_eq_true _ ▸ hr)

theorem Runs.takeDue (hc : movesClock c) (minute : Bool) : Runs c r b (s.takeDue minute) := by
  have hzero : Runs c r b s.countdownZero := h.warn .countdownZero
  have hminute : Runs c r b (if minute then s.countdownZero.minuteExpiry else s.countdownZero) := by
    split
    · exact hzero.minuteExpiry hc
    · exact hzero
  have hrest := hminute.forSlots (f := State.takeRestDone) (fun i hu => hu.takeRestDone i) allSlots
  exact ((hrest.forSlots (f := State.testBreak) (fun i hu => hu.testBreak i) _).testDrivers).outOfReset
    fun _ => Runs.dueInLoads ((hrest.forSlots (f := State.testBreak) (fun i hu => hu.testBreak i) _).testDrivers)

theorem Runs.secondEnd (hc : ∃ whole, c = .timebaseSecond whole) :
    Runs c r b (s.secondHeldOut.outOfReset State.secondLoads) :=
  have hheld := h.secondHeldOut (.inr (.inr hc))
  hheld.outOfReset fun _ => hheld.secondLoads hc

theorem Runs.cooldownExpiry (hr : s.rst.asserted = false) (hc : c = .cooldownExpiry) : Runs c r b s.cooldownExpiry := by
  by_cases hs : s.heater.state = .cooldown
  · by_cases hl : s.heater.locks
    · have heq : s.cooldownExpiry = (((s.lockHeater).raise .part .heaterLockout).notice .heater).pass := by
        simp only [State.cooldownExpiry]
        rw [if_neg (not_not.mpr hs)]
        obtain hl | hl := hl
        · rw [if_pos hl]
          rfl
        · rw [if_pos hl, ite_self]
          rfl
      rw [heq]
      exact (((h.other (.lock hc hs hl)).raise _ _ rfl).notice .heater).passed
        (by simp [State.lockHeater, State.endCooldown, hr]) b
    · exact h.heater (.cooldownEnd hc hs hl)
  · rw [State.cooldownExpiry, if_pos hs]
    exact h

theorem Runs.periodEnd (i : TimerId) : Runs c r b (s.periodEnd i) := by
  refine h.calm (.period i) ?_
  unfold State.periodEnd
  dsimp only
  split
  · split <;> exact .of
  · exact .of

end

end Sys2Proof.Machine
end

section
/-! PROOF. The traversal: every command but a cold start and the assertion of RESET is a run of pieces. O2: no command
touches the queue. -/
namespace Sys2Proof.Machine

/-! ### The end of a reset -/

section
variable {c : Instr} {r s : State} {b : Bool}

theorem Runs.testAllDriving (h : Runs c r b s) : Runs c r b s.testAllDriving :=
  (((h.testDriving .s0).testDriving .s1).testDriving .s2).testDriving .s3

theorem Runs.placeHeld (h : Runs c r false s) (ws : List HeldWake) (hw : ∀ w ∈ ws, w ∈ r.rst.heldWakes) :
    Runs c r false (s.placeHeld ws) := by
  induction ws generalizing s with
  | nil => exact h
  | cons w ws ih =>
    have hplace : Runs c r false (s.placePart (wakeOrder w.side w.level w.fade s.clock.minute)) :=
      h.placePart rfl fun hf _ => wakeOrder_fits (hf w (hw w (.head _))).1 (hf w (hw w (.head _))).2
    exact ih hplace fun v hv => hw v (.tail _ hv)

end

theorem State.applyHeld_rst (s : State) (hs : List Handed) : (s.applyHeld hs).rst = s.rst := by
  induction hs generalizing s with
  | nil => rfl
  | cons x xs ih => cases x <;> exact (ih _).trans (by simp)

theorem State.placeHeld_asserted (s : State) (ws : List HeldWake) : (s.placeHeld ws).rst.asserted = s.rst.asserted := by
  induction ws generalizing s with
  | nil => rfl
  | cons w ws ih => exact (ih _).trans (by simp)

theorem State.releasePresenter_asserted (s : State) : s.releasePresenter.rst.asserted = false := by
  show (s.releaseReset.applyHeld s.rst.heldWarnings).rst.asserted = false
  rw [State.applyHeld_rst]
  rfl

theorem Runs.endReset {c : Instr} {r : State} (hr : r.rst.asserted = true) (hc : c = .resetEnd) :
    Runs c r true r.endReset := by
  have htested : Runs c r true r.testAllDriving := (Runs.start true).testAllDriving
  have hasserted : r.testAllDriving.rst.asserted = true := by simp [State.testAllDriving, hr]
  have hwakes : r.testAllDriving.rst.heldWakes = r.rst.heldWakes := by simp [State.testAllDriving]
  have hreleased := ((htested.other (.release hc hasserted)).settle).placeHeld r.testAllDriving.rst.heldWakes
    fun w hw => hwakes ▸ hw
  have hloads := (((hreleased.noticeIf r.testAllDriving.rst.accountNotice .account).heater (.endReset
    r.testAllDriving.rst.heaterMoved)).fridge (.endReset hc r.testAllDriving.rst.fridgeMoved))
  refine (((hloads.noticeIf _ .charge).moveAccounts fun _ => rfl).settle.passed ?_ true).heater .settleCause
  simp [State.fridgeEndReset, State.heaterEndReset, State.placeHeld_asserted, State.releasePresenter_asserted]

/-! ### The commands -/

section
variable {c : Instr} {r s : State} {b : Bool} (h : Runs c r b s)
include h

theorem Runs.portNow {p : Port} (hp : p = { s.port with unanswered := p.unanswered }) :
    Runs c r b { s with port := p } := by
  refine h.port p ⟨?_, ?_, ?_⟩
  all_goals rw [hp]
  · exact id
  · exact id

theorem Runs.reqOlist : Runs c r b (reqOlist s).1 := by
  unfold Machine.reqOlist
  split <;> exact h

theorem Runs.reqOlook (key : Byte) : Runs c r b (reqOlook key s).1 := by
  unfold Machine.reqOlook State.withOrder
  split
  · exact h
  · split
    · exact h
    · split <;> exact h

end

/-! The requests that a frame can spell (Table 39). -/

theorem frameRequest_spelled {bytes : List Byte} {i : Instr} (h : frameRequest bytes = some i) :
    (∃ n, (n, i) ∈ emptyBodies) ∨ (∃ n f b, (n, f) ∈ byteBodies ∧ i = f b) ∨ ∃ n f w, (n, f) ∈ wordBodies ∧ i = f w := by
  unfold frameRequest at h
  split at h
  · split at h
    · obtain ⟨-, hm⟩ | ⟨b, f, -, hm, hi⟩ | ⟨b0, b1, b2, b3, f, -, hm, hi⟩ := requestOf_cases h
      · exact .inl ⟨_, hm⟩
      · exact .inr (.inl ⟨_, f, b, hm, hi⟩)
      · exact .inr (.inr ⟨_, f, _, hm, hi⟩)
    · cases h
  · cases h

/-- A property of every request that a frame can spell. -/
theorem frameRequest_all {P : Instr → Prop} (he : ∀ p ∈ emptyBodies, P p.2) (hb : ∀ p ∈ byteBodies, ∀ x, P (p.2 x))
    (hw : ∀ p ∈ wordBodies, ∀ x, P (p.2 x)) {bytes : List Byte} {i : Instr} (h : frameRequest bytes = some i) : P i := by
  obtain ⟨n, hm⟩ | ⟨n, f, x, hm, rfl⟩ | ⟨n, f, x, hm, rfl⟩ := frameRequest_spelled h
  · exact he _ hm
  · exact hb _ hm x
  · exact hw _ hm x

theorem frameRequest_ne_init {bytes : List Byte} {m : Option InitMode} {x : Option Bool} :
    frameRequest bytes ≠ some (.init m x) := fun h =>
  frameRequest_all (P := fun i => i ≠ .init m x) (by simp [emptyBodies]) (by simp [byteBodies]) (by simp [wordBodies]) h rfl

theorem frameRequest_ne_hclear {bytes : List Byte} {x : Option Bool} : frameRequest bytes ≠ some (.hclear x) := fun h =>
  frameRequest_all (P := fun i => i ≠ .hclear x) (by simp [emptyBodies]) (by simp [byteBodies]) (by simp [wordBodies]) h rfl

theorem frameRequest_ne_fset {bytes : List Byte} {n : Nat} : frameRequest bytes ≠ some (.fset n) := fun h =>
  frameRequest_all (P := fun i => i ≠ .fset n) (by simp [emptyBodies]) (by simp [byteBodies]) (by simp [wordBodies]) h rfl

section
variable {c : Instr} {r s : State} {b : Bool} (h : Runs c r b s) (hr : s.rst.asserted = false)
include h hr

/-- A request, in service, as a run of pieces, whether `c` is it or a frame that spells it. -/
theorem Runs.work {i : Instr} (hi : i = c ∨ ∃ bytes, c = .unknownRequest (.frame bytes) ∧ frameRequest bytes = some i)
    (hne : ∀ bytes, i ≠ .unknownRequest (.frame bytes)) (hreq : i.isRequest = true) :
    Runs c r b (requestWork i s).1 := by
  cases i with
  | init =>
    obtain rfl | ⟨bytes, -, hb⟩ := hi
    · exact h.reqInit hr rfl
    · exact absurd hb frameRequest_ne_init
  | oplace a => exact h.reqOplace hr a
  | oamend a => exact h.reqOamend hr a
  | bset => exact h.reqBset hr _ _
  | plan a => exact h.reqPlan a
  | cset => exact h.reqCset _ _ _
  | aopen => exact h.reqAopen _ _ _
  | aset => exact h.reqAset _ _ _
  | alook => exact h.withAccount fun _ _ _ => h
  | adeclRest => exact h.reqAdeclRest hr _
  | adeclEnd => exact h.reqAdeclEnd _
  | adeclWheel => exact h.reqAdeclWheel _
  | adeclRelease => exact h.reqAdeclRelease _
  | aretire => exact h.reqAretire hr _
  | xmode => exact h.reqXmode hr _
  | wack => exact h.reqWack hr _ _
  | hset => exact h.reqHset _
  | hclear =>
    obtain rfl | ⟨bytes, -, hb⟩ := hi
    · exact h.reqHclear rfl
    · exact absurd hb frameRequest_ne_hclear
  | fset =>
    obtain rfl | ⟨bytes, -, hb⟩ := hi
    · exact h.reqFset rfl
    · exact absurd hb frameRequest_ne_fset
  | lset => exact h.reqLset _
  | sset => exact h.reqSset hr _
  | unknownRequest arg =>
    cases arg with
    | undeclared => exact h
    | frame bytes => exact absurd rfl (hne bytes)
  | stat => exact h.portNow rfl
  | nfetch => exact h.attnWorked hr rfl (fun _ ha => ha) rfl
  | nmask => exact h.attnWorked hr rfl (fun _ ha => ha) rfl
  | sleep => exact h.attnWorked hr rfl (fun _ _ => rfl) rfl
  | shut =>
    obtain rfl | ⟨bytes, hc, hb⟩ := hi
    · exact h.reqShut hr (.inr (.inr (.inl rfl)))
    · exact h.reqShut hr (.inr (.inr (.inr (.inl ⟨bytes, hc, hb⟩))))
  | olook key => exact h.reqOlook key
  | oretire key => exact h.reqOretire hr key
  | olist => exact h.reqOlist
  | tset m =>
    obtain rfl | ⟨bytes, hc, hb⟩ := hi
    · exact h.reqTset hr m (.inl ⟨m, .inl rfl⟩)
    · exact h.reqTset hr m (.inl ⟨m, .inr ⟨bytes, hc, hb⟩⟩)
  | csync x => exact h.reqCsync x
  | fclear => exact h.reqFclear
  | slook => exact h.reqSlook
  | nop => exact h
  | tlook => exact h
  | blook => exact h
  | clook => exact h
  | wlist => exact h
  | hlook => exact h
  | flook => exact h
  | llook => exact h
  | _ => cases hreq

theorem Runs.requestWork (hc : c.isRequest = true) : Runs c r b (requestWork c s).1 := by
  by_cases hframe : ∃ bytes, c = .unknownRequest (.frame bytes)
  · obtain ⟨bytes, rfl⟩ := hframe
    show Runs _ _ _ (reqFrame bytes s).1
    cases hb : frameRequest bytes with
    | none =>
      rw [reqFrame_failed hb]
      exact h
    | some i =>
      rw [reqFrame_spelled hb]
      obtain ⟨heq, hne⟩ | heq := spelledRequest_eq i
      · rw [heq]
        exact h.work hr (.inr ⟨bytes, rfl, hb⟩) hne (frameRequest_spec hb).2.1
      · rw [heq]
        exact h
  · exact h.work hr (.inl rfl) (fun bytes hb => hframe ⟨bytes, hb⟩) hc

/-- An event out of reset, as a run of pieces. -/
theorem Runs.guardedEvent {event : State → State} (he : guardedEvent c = some event) (hc : c ≠ .resetAssert) :
    Runs c r b (event s) := by
  cases c with
  | frameStart => cases he; exact h.inFrame hr
  | resetAssert => exact absurd rfl hc
  | toneEnd => cases he; exact h.warn .toneEnd
  | endOfBurst => cases he; exact h.warn .endOfBurst
  | wlampFlashPhase =>
    cases he
    dsimp only
    split
    next hl => exact h.warn (.flash hl)
    next => exact h
  | selftestEnd => cases he; exact h.selftestEnd hr rfl
  | wakeWaitExpiry =>
    cases he
    refine h.port _ ⟨?_, ?_, ?_⟩ <;> dsimp only <;> split
    · rfl
    · rfl
    · exact id
    · exact id
    · exact fun hw => ⟨nofun, hw.2⟩
    · exact id
  | preheatExpiry => cases he; exact h.heater (.preheatEnd rfl)
  | ignitionLimitExpiry => cases he; exact h.heater .ignitionEnd
  | provingExpiry => cases he; exact h.heater (.provingEnd rfl)
  | cooldownExpiry => cases he; exact h.cooldownExpiry hr rfl
  | heaterRunClearsCount => cases he; exact h.heater .clearCount
  | satisfiedStop => cases he; exact h.heater .satisfied
  | minOffEnd => cases he; exact h.fridge .minOffEnd
  | fixedCycleOnEnd => cases he; exact h.fridge .cycleOn
  | fixedCycleOffEnd => cases he; exact h.fridge .cycleOff
  | fridgeRunClearsStalls => cases he; exact h.fridge .clearStalls
  | warmRunComplete => cases he; exact h.warmRunComplete
  | fadeStep i => cases he; exact h.lights (.fadeStep i)
  | vspdWindowEnd n => cases he; exact h.vspdWindow hr (heldCount_le n)
  | tempWindowEnd i n => cases he; exact h.tempWindow i (heldCount_le n)
  | tachWindowEnd n => cases he; exact h.tachWindow hr (heldCount_le n) ⟨n, rfl⟩
  | debounceExpiry i held => cases he; exact h.debounced hr rfl
  | longPress side =>
    cases he
    dsimp only
    split
    · exact (h.setPress side _).longPress hr side
    · exact h
  | pressClassifierWaitEnd => cases he; exact h.endWait
  | unknownRequest arg => cases arg <;> cases he
  | _ => cases he

end

/-- An event that goes on in reset, as a run of pieces. -/
theorem Runs.freeEvent {c : Instr} {s : State} {event : State → State} (he : freeEvent c = some event)
    (hc : c ≠ .coldStart) : Runs c s true (event s) := by
  have h : Runs c s true s := .start true
  cases c with
  | coldStart => exact absurd rfl hc
  | resetEnd =>
    cases he
    dsimp only
    split
    next hr => exact .endReset hr rfl
    next => exact h
  | timebaseSecond whole =>
    cases he
    have hsecond : ∃ w, Instr.timebaseSecond whole = .timebaseSecond w := ⟨whole, rfl⟩
    dsimp only
    split
    · exact (h.secondEnd hsecond).takeDue (.inr (.inr hsecond)) _
    · exact (h.secondEnd hsecond).testDrivers
  | minuteExpiry => cases he; exact h.minuteExpiry (.inr (.inl rfl))
  | restDone i => cases he; exact h.takeRestDone i
  | breakComplete i => cases he; exact h.testBreak i
  | countdownZero => cases he; exact h.warn .countdownZero
  | wakePulseEnd => cases he; exact h.port _ ⟨rfl, id, fun hw => ⟨hw.1, fun ha => ⟨rfl, (hw.2 ha).2⟩⟩⟩
  | wakeSpacingExpiry => cases he; exact h.port _ ⟨rfl, id, id⟩
  | endOfPeriod i => cases he; exact h.periodEnd i
  | qchgPulse =>
    cases he
    exact (h.senseRecord (x := { s.sense with chgTotal := s.sense.chgTotal + 1 }) rfl rfl).takePulse
      fun hx => (hx.charge).addTally _
  | qdisPulse =>
    cases he
    exact (h.senseRecord (x := { s.sense with disTotal := s.sense.disTotal + 1 }) rfl rfl).takePulse
      fun hx => (hx.discharge).addTally _
  | pinChange i level =>
    cases he
    dsimp only
    split
    · exact h.setInput i (.inl rfl)
    · refine h.setInput i (.inl ?_)
      unfold Input.move
      split <;> rfl
  | unknownRequest arg => cases arg <;> cases he
  | _ => cases he

/-- Every command but a cold start and the assertion of RESET is a run of pieces, none of its last ones in need of a pass. -/
theorem exec_runs {c : Instr} {s t : State} (h : exec c s = .next t) (hcold : c ≠ .coldStart) (hreset : c ≠ .resetAssert) :
    Runs c s true t := by
  obtain ⟨hc, rfl⟩ | ⟨event, he, rfl⟩ | ⟨event, he, rfl⟩ := exec_cases h
  · exact .takeFrame fun hu hr => hu.requestWork hr hc
  · exact (Runs.start true).outOfReset fun hr => (Runs.start true).guardedEvent hr he hreset
  · exact .freeEvent he hcold

end Sys2Proof.Machine
end

section
/-! PROOF. What the pieces leave alone: the queue, the clock and the part mode (O2, O11, O21). -/
namespace Sys2Proof.Machine

theorem State.applyHeld_only (s : State) (hs : List Handed) :
    s.applyHeld hs = { s with warn := (s.applyHeld hs).warn, port := (s.applyHeld hs).port } := by
  induction hs generalizing s with
  | nil => rfl
  | cons x xs ih =>
    obtain ⟨w, p, hfirst⟩ : ∃ w p, s.applyHeld [x] = { s with warn := w, port := p } := by
      refine ⟨(s.applyHeld [x]).warn, (s.applyHeld [x]).port, ?_⟩
      cases x <;> apply State.ext <;> simp [State.applyHeld]
    have hall : s.applyHeld (x :: xs) = (s.applyHeld [x]).applyHeld xs := by cases x <;> rfl
    rw [hall, hfirst]
    exact ih _

theorem State.releasePresenter_only (s : State) :
    s.releasePresenter =
      { s with
        warn := s.releasePresenter.warn, port := s.releasePresenter.port, rst := s.releaseReset.rst
        sense := s.sense.endReset } := by
  have h := s.releaseReset.applyHeld_only s.rst.heldWarnings
  unfold State.releasePresenter State.restartPresenter
  rw [h]
  rfl

theorem State.periodEnd_only (s : State) (i : TimerId) :
    s.periodEnd i =
      { s with
        timers := (s.periodEnd i).timers
        heater := { s.heater with fuel := (s.periodEnd i).heater.fuel } } := by
  simp only [State.periodEnd]
  split
  · split <;> rfl
  · rfl

theorem State.debounced_ovht_only (s : State) (held : Nat) :
    s.debounced .ovht held =
      { s with
        sense := (s.debounced .ovht held).sense, heater := (s.debounced .ovht held).heater
        timers :=
          { s.timers with t4 := (s.debounced .ovht held).timers.t4, t5 := (s.debounced .ovht held).timers.t5 }
        port := (s.debounced .ovht held).port } := by
  obtain h | h := s.debounced_ovht held
  · rw [h]
  · rw [h.only]
    rfl

theorem State.takeTemp_only (s : State) (i : TempId) (n : Nat) :
    s.takeTemp i n = { s with sense := (s.takeTemp i n).sense, port := (s.takeTemp i n).port } := by
  apply State.ext <;> simp [State.takeTemp]

theorem State.tempWindow_c3_only {s : State} {n : Nat} (hf : s.sense.fridgeT.fault = false)
    (hd : (s.sense.fridgeT.window n).fault = true) :
    s.tempWindow .c3 n =
      { s with
        sense := s.sense.setTemp .c3 (s.sense.fridgeT.window n), fridge := (s.tempWindow .c3 n).fridge
        timers := { s.timers with t6 := (s.tempWindow .c3 n).timers.t6 }, port := (s.tempWindow .c3 n).port } := by
  have h := (State.tempWindow_c3_faulted_frame hf hd).only
  have hsense : (s.takeTemp .c3 n).sense = s.sense.setTemp .c3 (s.sense.fridgeT.window n) := by
    simp [State.takeTemp, Sense.temp]
  rw [s.takeTemp_only, hsense] at h
  exact h

/-! ### The queue, the clock and the mode -/

theorem Piece.keeps {c : Instr} {r s t : State} (p : Piece c r s t) :
    t.pending = s.pending ∧ (¬movesClock c → t.clock = s.clock) ∧ (¬movesMode c → t.port.mode = s.port.mode) := by
  cases p with
  | port p h => exact ⟨rfl, fun _ => rfl, fun _ => h.1⟩
  | mode m hc => exact ⟨by simp only [State.enterMode]; split <;> simp [State.withPort],
      fun _ => by simp only [State.enterMode]; split <;> simp [State.withPort], fun hn => absurd hc hn⟩
  | second hc => exact ⟨rfl, fun hn => absurd hc hn, fun _ => rfl⟩
  | minute hc => exact ⟨rfl, fun hn => absurd hc hn, fun _ => rfl⟩
  | stepClock m hc => exact ⟨rfl, fun hn => absurd hc hn, fun _ => rfl⟩
  | warn h =>
    rw [h.frame.only]
    exact ⟨rfl, fun _ => rfl, fun _ => rfl⟩
  | heater h =>
    rw [h.frame.only]
    exact ⟨rfl, fun _ => rfl, fun _ => h.frame.noticed.mode⟩
  | fridge h =>
    have hf := State.fridgeFrame.only h.frame
    rw [hf]
    exact ⟨rfl, fun _ => rfl, fun _ => h.frame.noticed.mode⟩
  | stall rate =>
    rw [(s.tachReading_frame rate).only]
    exact ⟨rfl, fun _ => rfl, fun _ => (s.tachReading_frame rate).noticed.mode⟩
  | lights h =>
    have hf := State.lightFrame.only h.frame
    rw [hf]
    exact ⟨rfl, fun _ => rfl, fun _ => rfl⟩
  | lock => exact ⟨rfl, fun _ => rfl, fun _ => rfl⟩
  | overheat held =>
    have hmode : (s.debounced .ovht held).port.mode = s.port.mode := by
      obtain h | h := s.debounced_ovht held
      · rw [h]
      · exact h.noticed.mode
    rw [s.debounced_ovht_only held]
    exact ⟨rfl, fun _ => rfl, fun _ => hmode⟩
  | coldRoom n hn hf hd =>
    have hmode := (State.tempWindow_c3_faulted_frame hf hd).noticed.mode
    rw [State.tempWindow_c3_only hf hd]
    exact ⟨rfl, fun _ => rfl, fun _ => hmode.trans (by simp [State.takeTemp])⟩
  | period i =>
    rw [s.periodEnd_only i]
    exact ⟨rfl, fun _ => rfl, fun _ => rfl⟩
  | release hc =>
    rw [s.releasePresenter_only]
    exact ⟨rfl, fun _ => rfl, fun hn => absurd (.inr (.inr (.inr (.inr hc)))) hn⟩
  | enter => exact ⟨rfl, fun _ => rfl, fun _ => rfl⟩
  | dropOrders => exact ⟨rfl, fun _ => rfl, fun _ => rfl⟩
  | budget => exact ⟨rfl, fun _ => rfl, fun _ => rfl⟩
  | draws => exact ⟨rfl, fun _ => rfl, fun _ => rfl⟩
  | charge => exact ⟨rfl, fun _ => rfl, fun _ => rfl⟩
  | sense => exact ⟨rfl, fun _ => rfl, fun _ => rfl⟩
  | accounts => exact ⟨rfl, fun _ => rfl, fun _ => rfl⟩
  | transport => exact ⟨rfl, fun _ => rfl, fun _ => rfl⟩
  | holdWake => exact ⟨rfl, fun _ => rfl, fun _ => rfl⟩
  | notice => exact ⟨by simp, fun _ => by simp, fun _ => by simp⟩
  | accountNotice => exact ⟨by simp, fun _ => by simp, fun _ => by simp⟩
  | quiet => exact ⟨by simp, fun _ => by simp, fun _ => by simp⟩
  | raise => exact ⟨by simp, fun _ => by simp, fun _ => by simp⟩
  | remove => exact ⟨by simp, fun _ => by simp, fun _ => by simp⟩

theorem Runs.keeps {c : Instr} {r s : State} {b : Bool} (h : Runs c r b s) :
    s.pending = r.pending ∧ (¬movesClock c → s.clock = r.clock) ∧ (¬movesMode c → s.port.mode = r.port.mode) := by
  have hstep : ∀ {s t : State}, Piece c r s t →
      (s.pending = r.pending ∧ (¬movesClock c → s.clock = r.clock) ∧ (¬movesMode c → s.port.mode = r.port.mode)) →
      t.pending = r.pending ∧ (¬movesClock c → t.clock = r.clock) ∧ (¬movesMode c → t.port.mode = r.port.mode) := by
    rintro s t p ⟨h1, h2, h3⟩
    obtain ⟨k1, k2, k3⟩ := p.keeps
    exact ⟨k1.trans h1, fun hc => (k2 hc).trans (h2 hc), fun hc => (k3 hc).trans (h3 hc)⟩
  induction h with
  | start => exact ⟨rfl, fun _ => rfl, fun _ => rfl⟩
  | calm _ p _ ih => exact hstep p ih
  | other _ p ih => exact hstep p ih
  | passed _ _ _ ih => simpa using ih

theorem State.assertReset_keeps (s : State) :
    s.assertReset.pending = s.pending ∧ s.assertReset.clock = s.clock ∧ s.assertReset.port.mode = s.port.mode := by
  simp [State.assertReset, State.quietPresenter, Port.atReset]

/-- What every command leaves as it is. -/
theorem exec_keeps {c : Instr} {s t : State} (h : exec c s = .next t) :
    t.pending = s.pending ∧ (c ≠ .coldStart → ¬movesClock c → t.clock = s.clock) ∧
    (c ≠ .coldStart → ¬movesMode c → t.port.mode = s.port.mode) := by
  by_cases hcold : c = .coldStart
  · subst hcold
    cases h
    exact ⟨rfl, fun hn => absurd rfl hn, fun hn => absurd rfl hn⟩
  · by_cases hreset : c = .resetAssert
    · subst hreset
      cases h
      unfold State.outOfReset
      split
      · exact ⟨rfl, fun _ _ => rfl, fun _ _ => rfl⟩
      · obtain ⟨h1, h2, h3⟩ := s.assertReset_keeps
        exact ⟨h1, fun _ _ => h2, fun _ _ => h3⟩
    · obtain ⟨h1, h2, h3⟩ := (exec_runs h hcold hreset).keeps
      exact ⟨h1, fun _ => h2, fun _ => h3⟩

/-- Settles O2: no piece of a command touches the queue. -/
theorem commandsRunAndKeepTheQueue : Obligations.CommandsRunAndKeepTheQueue := by
  unfold Obligations.CommandsRunAndKeepTheQueue
  refine ⟨⟨exec_next, fun bytes i hi => ?_⟩, fun c s t h => (exec_keeps h).1, fun s t h => ?_⟩
  · exact ⟨(frameRequest_spec hi).1, fun s => exec_frame hi s⟩
  · unfold step at h
    split at h
    next hp =>
      cases h
      rw [hp]
      rfl
    next c rest hp =>
      rw [(exec_keeps h).1, hp]
      rfl

/-! ### The part mode -/

theorem State.enterMode_mode (s : State) (m : PartMode) : (s.enterMode m).port.mode = m := by
  unfold State.enterMode
  split
  next h => simp [State.withPort, h]
  next => rfl

theorem State.changeMode_mode (s : State) (m : PartMode) : (s.changeMode m).port.mode = m := by
  rw [State.changeMode_eq]
  simp [State.enterMode_mode]

/-- What a request does to the mode, it does in service. -/
theorem State.takeFrame_mode {s : State} {f : State → State × Reply} (h : (s.takeFrame f).port.mode ≠ s.port.mode) :
    s.serves ∧ (s.takeFrame f).port.mode = (f s.inFrame).1.port.mode := by
  cases ha : s.rst.asserted with
  | true =>
    rw [State.takeFrame_asserted s f ha] at h
    exact absurd rfl h
  | false =>
    by_cases hm : s.port.mode = .selfTest
    · rw [State.takeFrame_selfTest s f ha hm] at h
      exact absurd s.inFrame_mode h
    · rw [State.takeFrame_served s f ⟨ha, hm⟩]
      exact ⟨⟨ha, hm⟩, rfl⟩

theorem reqInit_mode {s : State} {m : InitMode} {x : Bool} (h : (reqInit (some m) (some x) s).1.port.mode ≠ s.port.mode) :
    s.port.mode = .uninit ∧
    (reqInit (some m) (some x) s).1.port.mode = if x then .selfTest else m.toMode := by
  simp only [reqInit] at h ⊢
  split at h
  · exact absurd rfl h
  next hm =>
    rw [if_neg hm]
    refine ⟨not_not.mp hm, ?_⟩
    cases x <;> exact State.changeMode_mode _ _

theorem reqShut_mode {s : State} (h : (reqShut s).1.port.mode ≠ s.port.mode) :
    s.port.mode ≠ .uninit ∧ (reqShut s).1.port.mode = .uninit := by
  unfold reqShut at h ⊢
  split at h
  · exact absurd rfl h
  next hm =>
    rw [if_neg hm]
    exact ⟨hm, State.changeMode_mode _ _⟩

theorem lowestFailed_none {ts : List (Fin 5)} : lowestFailed ts = none ↔ ts = [] := by
  cases ts with
  | nil => simp [lowestFailed]
  | cons t ts =>
    simp only [lowestFailed]
    split <;> [simp; split <;> simp]

theorem State.selftestEnd_mode {s : State} {failed : List (Fin 5)} (h : (s.selftestEnd failed).port.mode ≠ s.port.mode) :
    s.port.mode = .selfTest ∧
    (s.selftestEnd failed).port.mode = if failed = [] then s.port.initMode.toMode else .uninit := by
  unfold State.selftestEnd at h ⊢
  split at h
  · exact absurd rfl h
  next hm =>
    rw [if_neg hm]
    refine ⟨not_not.mp hm, ?_⟩
    split
    next hn => rw [if_pos (lowestFailed_none.mp hn), State.changeMode_mode]
    next n hn => rw [if_neg fun he => by simp [lowestFailed_none.mpr he] at hn, State.changeMode_mode]

theorem State.applyHeld_mode (s : State) (hs : List Handed) : (s.applyHeld hs).port.mode = s.port.mode := by
  induction hs generalizing s with
  | nil => rfl
  | cons x xs ih => cases x <;> exact (ih _).trans (by simp)

/-- R204: the end of a reset leaves SELFTEST for UNINIT. -/
theorem State.endReset_mode (s : State) :
    s.endReset.port.mode = if s.port.mode = .selfTest then .uninit else s.port.mode := by
  have hplace : ∀ (u : State) ws, (u.placeHeld ws).port.mode = u.port.mode := by
    intro u ws
    induction ws generalizing u with
    | nil => rfl
    | cons w ws ih => exact (ih _).trans (by simp)
  simp [State.endReset, State.settleCause, State.fridgeEndReset, State.heaterEndReset, hplace, State.restartPresenter,
    State.applyHeld_mode, State.releaseReset, Port.endReset, Port.workAttn, State.testAllDriving]

/-- Settles O11: the mode is kept by every piece but the entry into a mode, whose commands are looked at one by one. -/
theorem modeChangesByItsTable : Obligations.ModeChangesByItsTable := by
  unfold Obligations.ModeChangesByItsTable
  intro c s t h hne
  by_cases hcold : c = .coldStart
  · subst hcold
    cases h
    exact .inr (.inr (.inr (.inr ⟨rfl, rfl⟩)))
  · have hmoves : movesMode c := not_not.mp fun hn => hne ((exec_keeps h).2.2 hcold hn)
    have hshut : exec .shut s = .next t →
        (s.port.mode = .normal ∨ s.port.mode = .workshop) ∧ t.port.mode = .uninit := by
      intro h
      cases h
      obtain ⟨hserves, hin⟩ := State.takeFrame_mode hne
      rw [hin, ← s.inFrame_mode] at hne
      obtain ⟨h1, h2⟩ := reqShut_mode hne
      refine ⟨?_, hin.trans h2⟩
      rw [s.inFrame_mode] at h1
      obtain ⟨-, hself⟩ := hserves
      cases hm : s.port.mode with
      | uninit => exact absurd hm h1
      | selfTest => exact absurd hm hself
      | normal => exact .inl rfl
      | workshop => exact .inr rfl
    obtain ⟨m, x, rfl⟩ | ⟨failed, rfl⟩ | rfl | ⟨bytes, rfl, hb⟩ | rfl := hmoves
    · cases h
      obtain ⟨-, hin⟩ := State.takeFrame_mode hne
      rw [hin, ← s.inFrame_mode] at hne
      obtain ⟨h1, h2⟩ := reqInit_mode hne
      exact .inl ⟨m, x, rfl, s.inFrame_mode ▸ h1, hin.trans h2⟩
    · have hr : s.rst.asserted = false := by
        by_contra ha
        cases h
        exact hne (by rw [State.outOfReset_asserted _ (by simpa using ha)])
      rw [exec_released (c := .selftestEnd failed) rfl hr] at h
      cases h
      obtain ⟨h1, h2⟩ := State.selftestEnd_mode hne
      exact .inr (.inl ⟨failed, rfl, h1, h2⟩)
    · exact .inr (.inr (.inl ⟨.inl rfl, hshut h⟩))
    · rw [exec_frame hb] at h
      exact .inr (.inr (.inl ⟨.inr ⟨bytes, rfl, hb⟩, hshut h⟩))
    · cases h
      split at hne
      next ha =>
        rw [State.endReset_mode] at hne
        have hm : s.port.mode = .selfTest := not_not.mp fun hm => hne (if_neg hm)
        refine .inr (.inr (.inr (.inl ⟨rfl, ha, hm, ?_⟩)))
        rw [if_pos ha, State.endReset_mode, if_pos hm]
      next => exact absurd rfl hne

/-! ### The cab clock -/

theorem not_movesClock_nop : ¬movesClock .nop := by
  rintro (⟨m, h | ⟨bytes, h, -⟩⟩ | h | ⟨whole, h⟩) <;> cases h

/-- A run of pieces that no command of the clock carries leaves the clock alone. -/
theorem Runs.clock_nop {s t : State} (h : Runs .nop s true t) : t.clock = s.clock := h.keeps.2.1 not_movesClock_nop

theorem State.testDrivers_clock (s : State) : s.testDrivers.clock = s.clock := (Runs.start true).testDrivers.clock_nop

theorem State.secondEnd_clock (s : State) : (s.secondHeldOut.outOfReset State.secondLoads).clock = s.clock.second := by
  unfold State.outOfReset
  split
  · rfl
  · simp [State.secondLoads, State.secondHeldOut]

theorem State.minuteExpiry_clock (s : State) : s.minuteExpiry.clock = s.clock.minuteOn := by
  simp [State.minuteExpiry, State.chargeAttention]

/-- What falls due within a second moves the clock only at a minute's end. -/
theorem State.takeDue_clock (s : State) (minute : Bool) :
    (s.takeDue minute).clock = if minute then s.clock.minuteOn else s.clock := by
  obtain ⟨u, hu⟩ : ∃ u : State, u = if minute then s.countdownZero.minuteExpiry else s.countdownZero := ⟨_, rfl⟩
  have hclock : u.clock = if minute then s.clock.minuteOn else s.clock := by
    rw [hu]
    split
    · rw [State.minuteExpiry_clock, (State.countdownZero_keeps s).1]
    · exact (State.countdownZero_keeps s).1
  have hrest : Runs .nop u true (u.forSlots State.takeRestDone allSlots) :=
    (Runs.start true).forSlots (fun i hv => hv.takeRestDone i) allSlots
  have hbreaks := (hrest.forSlots (f := State.testBreak) (fun i hv => hv.testBreak i)
    (u.forSlots State.takeRestDone allSlots).drivers).testDrivers
  rw [← hclock, ← (hbreaks.outOfReset fun _ => hbreaks.dueInLoads).clock_nop, hu]
  rfl

theorem takeFrame_tset_clock {s : State} {m : Word32} (h : (s.takeFrame (reqTset m)).clock ≠ s.clock) :
    (s.takeFrame (reqTset m)).clock = { minute := m.toNat, prescaler := 0, isSet := true } := by
  cases ha : s.rst.asserted with
  | true =>
    rw [State.takeFrame_asserted s _ ha] at h
    exact absurd rfl h
  | false =>
    by_cases hm : s.port.mode = .selfTest
    · rw [State.takeFrame_selfTest s _ ha hm] at h
      simp at h
    · rw [State.takeFrame_served s _ ⟨ha, hm⟩]
      simp [reqTset, State.stepClock]

/-- Settles O21: the clock is kept by every piece but its own, whose commands are looked at one by one. -/
theorem cabClockMovesOnlyByItsEvents : Obligations.CabClockMovesOnlyByItsEvents := by
  unfold Obligations.CabClockMovesOnlyByItsEvents
  intro c s t h
  by_cases hcold : c = .coldStart
  · subst hcold
    cases h
    exact ⟨fun _ => .inr (.inr rfl), fun _ => .inr ⟨rfl, rfl⟩⟩
  by_cases hmoves : movesClock c
  · have htset : ∀ {m : Word32}, exec (.tset m) s = .next t →
        t.clock = s.clock ∨ t.clock = { minute := m.toNat, prescaler := 0, isSet := true } := by
      intro m h
      cases h
      exact Classical.or_iff_not_imp_left.mpr takeFrame_tset_clock
    have hend : ∀ {m : Word32}, t.clock = s.clock ∨ t.clock = { minute := m.toNat, prescaler := 0, isSet := true } →
        (t.clock.minute ≠ s.clock.minute → t.clock.minute = m.toNat) ∧
        (t.clock.isSet ≠ s.clock.isSet → t.clock.isSet = true) := by
      rintro m (hk | hk)
      · rw [hk]
        exact ⟨fun hn => absurd rfl hn, fun hn => absurd rfl hn⟩
      · rw [hk]
        exact ⟨fun _ => rfl, fun _ => rfl⟩
    obtain ⟨m, rfl | ⟨bytes, rfl, hb⟩⟩ | rfl | ⟨whole, rfl⟩ := hmoves
    · obtain ⟨h1, h2⟩ := hend (htset h)
      exact ⟨fun hn => .inl ⟨m, .inl rfl, h1 hn⟩, fun hn => .inl ⟨⟨m, .inl rfl⟩, h2 hn⟩⟩
    · obtain ⟨h1, h2⟩ := hend (htset (exec_frame hb s ▸ h))
      exact ⟨fun hn => .inl ⟨m, .inr ⟨bytes, rfl, hb⟩, h1 hn⟩, fun hn => .inl ⟨⟨m, .inr ⟨bytes, rfl, hb⟩⟩, h2 hn⟩⟩
    · cases h
      rw [State.minuteExpiry_clock]
      exact ⟨fun _ => .inr (.inl ⟨.inl rfl, rfl⟩), fun hn => absurd rfl hn⟩
    · cases h
      cases whole with
      | false =>
        have hclock := (State.testDrivers_clock (s.secondHeldOut.outOfReset State.secondLoads)).trans s.secondEnd_clock
        dsimp only [Bool.false_eq_true, if_false]
        rw [if_neg Bool.false_ne_true, hclock]
        exact ⟨fun hn => absurd rfl hn, fun hn => absurd rfl hn⟩
      | true =>
        have hclock := State.takeDue_clock (s.secondHeldOut.outOfReset State.secondLoads)
          (decide (59 ≤ s.clock.prescaler))
        rw [s.secondEnd_clock] at hclock
        dsimp only
        rw [if_pos rfl, hclock]
        by_cases h59 : 59 ≤ s.clock.prescaler
        · rw [if_pos (decide_eq_true h59)]
          exact ⟨fun _ => .inr (.inl ⟨.inr ⟨rfl, h59⟩, rfl⟩), fun hn => absurd rfl hn⟩
        · rw [if_neg (by simpa using h59)]
          exact ⟨fun hn => absurd rfl hn, fun hn => absurd rfl hn⟩
  · rw [(exec_keeps h).2.1 hcold hmoves]
    exact ⟨fun hn => absurd rfl hn, fun hn => absurd rfl hn⟩

end Sys2Proof.Machine
end

section
/-! PROOF. O54: every piece keeps the laws of the port, of what a reset holds, of the charge account, sensing and the
timers. -/
namespace Sys2Proof.Machine

/-! ### A step is a command or idles -/

/-- A law that every command keeps is kept by every step, once it does not look at the queue. -/
theorem step_keeps {P : State → Prop} (hexec : ∀ {c : Instr} {s t : State}, exec c s = .next t → P s → P t)
    (hqueue : ∀ (s : State) (q : List Instr), P s → P { s with pending := q }) {s t : State} (h : step s = .next t)
    (hs : P s) : P t := by
  unfold step at h
  split at h
  · cases h
    exact hs
  · exact hexec h (hqueue s _ hs)

/-- A law that a command's pieces and a pass keep is kept by it, once a cold start and the assertion of RESET keep it. -/
theorem exec_keeps_of_pieces_of {P : State → Prop} {c : Instr}
    (hpiece : ∀ {r s t : State}, Piece c r s t → P s → P t)
    (hpass : ∀ {s : State}, s.rst.asserted = false → P s → P s.pass)
    (hcold : ∀ s : State, P { State.reset with sense := s.sense.powerUp, pending := s.pending })
    (hreset : ∀ {s : State}, s.rst.asserted = false → P s → P s.assertReset) {s t : State}
    (h : exec c s = .next t) (hs : P s) : P t := by
  by_cases hc : c = .coldStart
  · subst hc
    cases h
    exact hcold s
  by_cases hr : c = .resetAssert
  · subst hr
    cases h
    unfold State.outOfReset
    split
    · exact hs
    next ha => exact hreset (by simpa using ha) hs
  · have hall : ∀ {b : Bool} {u : State}, Runs c s b u → P u := by
      intro b u hruns
      induction hruns with
      | start => exact hs
      | calm _ p _ ih => exact hpiece p ih
      | other _ p ih => exact hpiece p ih
      | passed _ hr' _ ih => exact hpass hr' ih
    exact hall (exec_runs h hc hr)

theorem exec_keeps_of_pieces {P : State → Prop}
    (hpiece : ∀ {c : Instr} {r s t : State}, Piece c r s t → P s → P t)
    (hpass : ∀ {s : State}, s.rst.asserted = false → P s → P s.pass)
    (hcold : ∀ s : State, P { State.reset with sense := s.sense.powerUp, pending := s.pending })
    (hreset : ∀ {s : State}, s.rst.asserted = false → P s → P s.assertReset) {c : Instr} {s t : State}
    (h : exec c s = .next t) (hs : P s) : P t :=
  exec_keeps_of_pieces_of hpiece hpass hcold hreset h hs

/-! ### Notices keep the port's laws -/

theorem Port.setFlag_attn (p : Port) (n : Notice) :
    (p.setFlag n).attn = (!(p.setFlag n).asleep && decide ((p.setFlag n).flags &&& (p.setFlag n).enables ≠ 0#8)) := rfl

theorem Port.setFlag_asleep (p : Port) (n : Notice) : (p.setFlag n).asleep = p.asleep := by
  simp only [Port.setFlag, Port.workAttn]
  split <;> rfl

theorem Port.setFlag_wait {p : Port} {n : Notice} (h : (p.setFlag n).wait = true) : p.wait = true ∨ p.asleep = true := by
  simp only [Port.setFlag, Port.workAttn] at h
  split at h
  next hw => exact .inr ((Port.wakeDue_iff p n).mp hw).2.1
  next => exact .inl h

/-- The laws of the port, of the wake wait and of what a reset holds. -/
def PortLaws (s : State) : Prop := AttnLaw s ∧ WakeLaw s ∧ HeldLaw s

/-- A port that keeps the laws out of reset. -/
def Port.lawful (p : Port) : Prop :=
  p.attn = (!p.asleep && decide (p.flags &&& p.enables ≠ 0#8)) ∧ (p.wait = true → p.asleep = true)

theorem Port.lawful.setFlag {p : Port} (h : p.lawful) (n : Notice) : (p.setFlag n).lawful := by
  refine ⟨p.setFlag_attn n, fun hw => ?_⟩
  rw [p.setFlag_asleep n]
  exact (Port.setFlag_wait hw).elim h.2 id

theorem portLaws_released {s : State} (hr : s.rst.asserted = false) : PortLaws s ↔ s.port.lawful ∧ HeldLaw s := by
  simp only [PortLaws, AttnLaw, WakeLaw, Port.lawful, hr]
  simp [and_assoc]

theorem State.noticed.portLaws {s t : State} (h : s.noticed t) (hrst : s.rst.asserted = false → t.rst = s.rst)
    (hs : PortLaws s) : PortLaws t := by
  obtain ⟨ha, ns, hp, hn⟩ := h
  cases hr : s.rst.asserted with
  | true =>
    rw [hn hr, List.foldl_nil] at hp
    obtain ⟨h1, h2, h3⟩ := hs
    refine ⟨?_, ?_, fun hf => absurd (ha.symm.trans hf) (by rw [hr]; exact Bool.noConfusion)⟩
    · rw [AttnLaw, hp, ha]
      exact h1
    · rw [WakeLaw, hp, ha]
      exact h2
  | false =>
    rw [portLaws_released hr] at hs
    rw [portLaws_released (ha.trans hr)]
    refine ⟨?_, fun hf => ?_⟩
    · rw [hp]
      have hall : ∀ (ms : List Notice) (p : Port), p.lawful → (ms.foldl Port.setFlag p).lawful := by
        intro ms
        induction ms with
        | nil => exact fun p h => h
        | cons m ms ih => exact fun p h => ih _ (h.setFlag m)
      exact hall ns _ hs.1
    · rw [hrst hr]
      exact hs.2 hr

theorem State.applyHeld_noticed {r s : State} (hs : List Handed) (h : r.noticed s) : r.noticed (s.applyHeld hs) := by
  induction hs generalizing s with
  | nil => exact h
  | cons x xs ih =>
    cases x with
    | raise a w => exact ih (State.addEntry_noticed a w h)
    | remove a w => exact ih (State.dropEntry_noticed a w h)

theorem State.releasePresenter_portLaws (s : State) : PortLaws s.releasePresenter := by
  have hstart : PortLaws s.releaseReset := by
    refine (portLaws_released rfl).mpr ⟨⟨rfl, nofun⟩, fun _ => ⟨rfl, rfl, rfl, rfl, rfl⟩⟩
  have hheld := (State.applyHeld_noticed s.rst.heldWarnings (.refl s.releaseReset)).portLaws
    (fun _ => State.applyHeld_rst _ _) hstart
  exact hheld

theorem State.raise_rst {s : State} (hr : s.rst.asserted = false) (a : Source) (w : WarnType) : (s.raise a w).rst = s.rst := by
  rw [State.raise_released a w hr]
  split <;> simp

theorem State.remove_rst {s : State} (hr : s.rst.asserted = false) (a : Source) (w : WarnType) : (s.remove a w).rst = s.rst := by
  rw [State.remove_released s a w hr]
  simp

theorem State.accountNotice_rst {s : State} (hr : s.rst.asserted = false) : s.accountNotice.rst = s.rst := by
  simp [State.accountNotice, hr]

theorem State.workQuiet_rst {s : State} (hr : s.rst.asserted = false) : s.workQuiet.rst = s.rst := by
  have hnotice : ∀ q, ({ s with quiet := q } : State).accountNotice.rst = s.rst := fun q =>
    State.accountNotice_rst (s := { s with quiet := q }) hr
  simp only [State.workQuiet]
  split
  · rfl
  · split <;> simp [hnotice]

theorem Piece.portLaws {c : Instr} {r s t : State} (p : Piece c r s t) (hs : PortLaws s) : PortLaws t := by
  have hsame : ∀ {u : State}, u.port = s.port → u.rst = s.rst → PortLaws u := by
    intro u hp hr
    unfold PortLaws AttnLaw WakeLaw HeldLaw
    rw [hp, hr]
    exact hs
  cases p with
  | port p h => exact ⟨h.2.1 hs.1, h.2.2 hs.2.1, hs.2.2⟩
  | notice n => exact (State.notice_noticed n (.refl s)).portLaws (fun _ => by simp) hs
  | accountNotice => exact (State.accountNotice_noticed (.refl s)).portLaws State.accountNotice_rst hs
  | mode m =>
    have hport : (s.enterMode m).port = { s.port with mode := m } := by
      simp only [State.enterMode]
      split <;> simp [State.withPort]
    unfold PortLaws AttnLaw WakeLaw HeldLaw
    rw [hport, s.enterMode_rst m]
    exact hs
  | quiet => exact (State.workQuiet_noticed (.refl s)).portLaws State.workQuiet_rst hs
  | raise a w => exact (State.raise_noticed a w (.refl s)).portLaws (fun hr => State.raise_rst hr a w) hs
  | remove a w => exact (State.remove_noticed a w (.refl s)).portLaws (fun hr => State.remove_rst hr a w) hs
  | holdWake w ha => exact ⟨hs.1, hs.2.1, fun hn => absurd (ha.symm.trans hn) Bool.noConfusion⟩
  | warn h =>
    rw [h.frame.only]
    exact hs
  | heater h =>
    have hf := h.frame
    exact hf.noticed.portLaws (fun _ => by rw [hf.only]) hs
  | fridge h =>
    have hf : s.fridgeFrame t := h.frame
    exact hf.noticed.portLaws (fun _ => by rw [hf.only]) hs
  | stall rate =>
    have hf := s.tachReading_frame rate
    exact hf.noticed.portLaws (fun _ => by rw [hf.only]) hs
  | lights h =>
    have hf : s.lightFrame t := h.frame
    exact hsame (by rw [hf.only]) (by rw [hf.only])
  | overheat held =>
    obtain h | h := s.debounced_ovht held
    · rw [h]
      exact hs
    · exact h.noticed.portLaws (fun _ => by rw [s.debounced_ovht_only held]; rfl) hs
  | coldRoom n hn hf hd =>
    have htake : PortLaws (s.takeTemp .c3 n) :=
      (State.noticeIf_noticed _ _ (.refl _)).portLaws (fun _ => by simp) hs
    have hframe := State.tempWindow_c3_faulted_frame hf hd
    exact hframe.noticed.portLaws (fun _ => by rw [hframe.only]) htake
  | period i => exact hsame (by rw [s.periodEnd_only i]) (by rw [s.periodEnd_only i])
  | release => exact s.releasePresenter_portLaws
  | _ => exact hs

theorem State.pass_portLaws {s : State} (hr : s.rst.asserted = false) (hs : PortLaws s) : PortLaws s.pass := by
  obtain ⟨-, -, -, -, -, -, -, -, -, -, ⟨-, -, -, -, -, -, hrst⟩, -⟩ := s.pass_spec hr
  exact (State.pass_noticed (.refl s)).portLaws (fun _ => hrst) hs

theorem State.assertReset_portLaws {s : State} (hs : PortLaws s) : PortLaws s.assertReset := by
  refine ⟨rfl, ⟨fun hw => ?_, fun _ => ⟨rfl, rfl⟩⟩, fun hn => nomatch hn⟩
  have hwait : s.assertReset.port.wait = s.port.wait := by
    simp [State.assertReset, State.quietPresenter, Port.atReset]
  have hasleep : s.assertReset.port.asleep = s.port.asleep := by
    simp [State.assertReset, State.quietPresenter, Port.atReset]
  rw [hasleep]
  exact hs.2.1.1 (hwait.symm.trans hw)

/-! ### The timers -/

theorem State.heaterQuiet_frame (s : State) : s.heaterFrame s.heaterQuiet := by
  unfold State.heaterQuiet
  split
  · exact (s.withHeater_frame (fun h => { h with level := 3, desired := 3, stepTimer := 60 }) rfl id).trans
      (State.writeLevel_frame _ 3)
  · exact .refl s

theorem State.fridgeQuiet_frame (s : State) : s.fridgeFrame s.fridgeQuiet := by
  unfold State.fridgeQuiet
  split
  · exact s.setSpeed_frame 1
  · exact .refl s

section
variable {s : State} (h : TimerLaw s)
include h

theorem TimerLaw.presentHeater (p : Option Presented) : TimerLaw (s.presentHeater p) := by
  have hset : TimerLaw (s.withHeater (fun x => { x with presented := p })) := h.withHeater _
  unfold State.presentHeater
  generalize s.withHeater (fun x => { x with presented := p }) = u at hset ⊢
  dsimp only
  split
  · unfold State.heaterPresented
    split
    · split
      · exact hset
      · exact u.enterPreheat_frame.timers hset
    · exact hset.withHeater _
    · exact hset
  · split
    · unfold State.heaterWithdrawn
      split
      · exact u.enterOff_frame.timers hset
      · exact (u.enterCooldown_frame _).timers hset
      · exact (u.enterCooldown_frame _).timers hset
      · exact (u.enterCooldown_frame _).timers hset
      · exact u.enterOff_frame.timers hset
      · exact hset.withHeater _
      · exact hset
    · exact hset

theorem TimerLaw.presentFridge (p : Option Presented) : TimerLaw (s.presentFridge p) := by
  have hset : TimerLaw (s.withFridge (fun x => { x with presented := p })) := h.congr rfl
  unfold State.presentFridge
  generalize s.withFridge (fun x => { x with presented := p }) = u at hset ⊢
  dsimp only
  split
  · unfold State.fridgePresented
    split
    · exact u.enterIdle_frame.timers hset
    · exact hset
  · split
    · unfold State.fridgeWithdrawn
      split
      · exact (u.fridgeGo_frame _).timers hset
      · exact u.stopToRest_frame.timers hset
      · exact u.stopToRest_frame.timers hset
      · exact hset
    · exact hset

theorem TimerLaw.presentLight (i : LightId) (p : Option Presented) : TimerLaw (s.presentLight i p) := by
  have hset : ∀ x, TimerLaw (s.setChannel i x) := fun x => h.congr (by simp)
  simp only [State.presentLight]
  split
  · exact hset _
  · exact (State.beginFade_frame _ _ _ _).timers (hset _)

theorem TimerLaw.presentAll (os : List Order) : TimerLaw (s.presentAll os) := by
  have hlights := (((((h.presentHeater (presentedFor .heater os)).presentFridge (presentedFor .fridge os)).presentLight
    .readA (presentedFor .readA os)).presentLight .readB (presentedFor .readB os)).presentLight .cabLight
    (presentedFor .cabLight os)).presentLight .nightLight (presentedFor .nightLight os)
  exact hlights.congr (State.workMonitor_keeps _ os).2.2.2.2.2.2.2.2.1

theorem TimerLaw.pass : TimerLaw s.pass := by
  simp only [State.pass]
  split
  · exact h
  · exact TimerLaw.presentAll (h.congr (by simp)) _

theorem TimerLaw.workQuiet : TimerLaw s.workQuiet := by
  have hquiet : ∀ q, TimerLaw ({ s with quiet := q } : State).accountNotice := fun q => h.congr (by simp)
  simp only [State.workQuiet]
  split
  · exact h
  · have hnotices : ∀ {u : State}, TimerLaw u → TimerLaw u.heaterAttention.fridgeAttention :=
      fun hu => (hu.noticeIf _ _).noticeIf _ _
    split
    · refine hnotices ((State.cabQuietSet_frame _).timers ((State.fridgeQuiet_frame _).timers
        ((State.heaterQuiet_frame _).timers (hquiet _))))
    · exact hnotices ((State.cabQuietClear_frame _).timers (hquiet _))

theorem TimerLaw.raise (a : Source) (w : WarnType) : TimerLaw (s.raise a w) := by
  unfold State.raise
  split
  · exact h
  · split
    · exact h
    · exact (State.settle_frame _).timers (h.congr (by simp))

theorem TimerLaw.periodEnd (i : TimerId) : TimerLaw (s.periodEnd i) := by
  simp only [State.periodEnd]
  split
  next hr =>
    have hset : TimerLaw (s.setTimer i (s.timers.get i).endPeriod) := h.setTimer i fun hn =>
      absurd (show (s.timers.get i).running = false from hn) (by simp [hr])
    split
    · exact hset.congr rfl
    · exact hset
  next => exact h

end

/-! ### The charge account, sensing and the timers -/

/-- The laws of the charge account, of sensing and of the timers. -/
def CounterLaws (s : State) : Prop := ChargeLaw s ∧ SenseLaw s ∧ TimerLaw s

theorem CounterLaws.of {s t : State} (h : CounterLaws s) (charge : t.charge = s.charge := by simp)
    (sense : t.sense = s.sense := by simp) (timers : TimerLaw s → TimerLaw t) : CounterLaws t := by
  refine ⟨?_, ?_, timers h.2.2⟩
  · rw [ChargeLaw, charge]
    exact h.1
  · rw [SenseLaw, sense]
    exact h.2.1

theorem State.debounced_ovht_senseLaw {s : State} {held : Nat} (h : SenseLaw s) : SenseLaw (s.debounced .ovht held) := by
  obtain heq | hframe := s.debounced_ovht held
  · rwa [heq]
  · rw [hframe.only]
    exact h

theorem State.cutBurst_frame (s : State) (back : Entry → Entry) : s.warnFrame (s.cutBurst back) := by
  unfold State.cutBurst
  split
  · exact .refl s
  · exact (s.setWarn_frame _).trans ⟨rfl, fun h => h.haltTimer .t7⟩

theorem State.enterMode_frame (s : State) (m : PartMode) :
    (s.withPort (fun p => { p with mode := m })).warnFrame (s.enterMode m) := by
  unfold State.enterMode
  split
  · exact State.cutBurst_frame _ _
  · exact .refl _

theorem Piece.counterLaws {c : Instr} {r s t : State} (p : Piece c r s t) (hs : CounterLaws s) : CounterLaws t := by
  cases p with
  | mode m =>
    have hf := s.enterMode_frame m
    exact hs.of (by rw [hf.only]; rfl) (by rw [hf.only]; rfl) fun ht => hf.timers (ht.congr rfl)
  | charge x h => exact ⟨h hs.1, hs.2⟩
  | sense x h => exact ⟨hs.1, h.2.2 hs.2.1, hs.2.2⟩
  | notice => exact hs.of (timers := fun ht => ht.congr (by simp))
  | accountNotice => exact hs.of (timers := fun ht => ht.congr (by simp))
  | quiet => exact hs.of (timers := TimerLaw.workQuiet)
  | raise a w => exact hs.of (timers := fun ht => ht.raise a w)
  | remove => exact hs.of (timers := fun ht => ht.congr (by simp))
  | warn h =>
    have hf := h.frame
    exact hs.of (by rw [hf.only]) (by rw [hf.only]) hf.timers
  | heater h =>
    have hf := h.frame
    exact hs.of (by rw [hf.only]) (by rw [hf.only]) hf.timers
  | lock => exact hs.of rfl rfl fun ht => ((ht.withHeater _).withHeater _).writeTimer _ _ _
  | fridge h =>
    have hf : s.fridgeFrame t := h.frame
    exact hs.of (by rw [hf.only]) (by rw [hf.only]) hf.timers
  | stall rate =>
    have hf := s.tachReading_frame rate
    exact hs.of (by rw [hf.only]) (by rw [hf.only]) hf.timers
  | lights h =>
    have hf : s.lightFrame t := h.frame
    exact hs.of (by rw [hf.only]) (by rw [hf.only]) hf.timers
  | overheat held =>
    refine ⟨?_, State.debounced_ovht_senseLaw hs.2.1, ?_⟩
    · rw [s.debounced_ovht_only held]
      exact hs.1
    · obtain heq | hframe := s.debounced_ovht held
      · rw [heq]
        exact hs.2.2
      · exact hframe.timers hs.2.2
  | coldRoom n hn hf hd =>
    obtain ⟨h1, ⟨h2, h3, h⟩, h4⟩ := hs
    refine ⟨?_, ?_, (State.tempWindow_c3_faulted_frame hf hd).timers (h4.congr (by simp [State.takeTemp]))⟩
    · rw [State.tempWindow_c3_only hf hd]
      exact h1
    · rw [State.tempWindow_c3_only hf hd]
      exact ⟨h2, h3.window hn, h⟩
  | period i => exact hs.of (by rw [s.periodEnd_only i]) (by rw [s.periodEnd_only i]) fun ht => ht.periodEnd i
  | release =>
    rw [s.releasePresenter_only]
    exact hs
  | _ => exact hs

theorem TempChannel.legal.atReset {x : TempChannel} (h : x.legal) : x.atReset.legal := by
  obtain ⟨h1, h2, -, h4, h5⟩ := h
  exact ⟨h1, h2, Nat.zero_le _, h4, h5⟩

theorem State.assertReset_counterLaws {s : State} (hs : CounterLaws s) : CounterLaws s.assertReset := by
  obtain ⟨hcharge, ⟨h1, h2, h3, -, h5, h6, h7, -, h9⟩, htimer⟩ := hs
  have hquiet : s.quietPresenter.charge = s.charge ∧ s.quietPresenter.sense = s.sense := by
    simp [State.quietPresenter]
  refine ⟨?_, ?_, fun i => ?_⟩
  · show s.quietPresenter.charge.lawful
    rw [hquiet.1]
    exact hcharge
  · refine ⟨?_, ?_, ?_, Nat.zero_le _, ?_, ?_, ?_, Nat.zero_le _, fun _ => ?_⟩ <;>
      simp only [State.assertReset, Sense.atReset, hquiet.2]
    · exact h1.atReset
    · exact h2.atReset
    · exact h3.atReset
    · exact h5
    · exact h6
    · exact h7
    · omega
  · cases i <;> exact fun hr => ⟨rfl, rfl⟩

/-- Settles O54: notices keep the port's laws, and each record is written in its ranges. -/
theorem stepKeepsThePortAndCounterLaws : Obligations.StepKeepsThePortAndCounterLaws := by
  unfold Obligations.StepKeepsThePortAndCounterLaws
  refine ⟨fun s t h hs => ?_, fun s t h hs => ?_⟩
  · refine step_keeps (P := PortLaws) (fun h hs => ?_) (fun _ _ h => h) h hs
    exact exec_keeps_of_pieces (P := PortLaws) Piece.portLaws State.pass_portLaws
      (fun s => ⟨by simp [AttnLaw, State.reset], ⟨nofun, nofun⟩, fun _ => ⟨rfl, rfl, rfl, rfl, rfl⟩⟩) (fun _ => State.assertReset_portLaws) h hs
  · refine step_keeps (P := CounterLaws) (fun h hs => ?_) (fun _ _ h => h) h hs
    refine exec_keeps_of_pieces (P := CounterLaws) Piece.counterLaws
      (fun _ hs => hs.of (timers := fun ht => ht.pass)) (fun s => ⟨?_, ?_, ?_⟩) (fun _ => State.assertReset_counterLaws) h hs
    · show Charge.lawful State.reset.charge
      simp [State.reset, Charge.lawful]
    · simp [SenseLaw, State.reset, Sense.powerUp, TempChannel.legal, TempChannel.cold]
    · intro i
      cases i <;> exact fun _ => ⟨rfl, rfl⟩

end Sys2Proof.Machine
end

section
/-! PROOF. O38: the heater's state graph. -/
namespace Sys2Proof.Machine

/-- How the heater's state moves in any command: a start that has not lit is taken back or begun, a burner cools. -/
def HeaterState.drifts (a b : HeaterState) : Prop :=
  b = a ∨ ((a = .off ∨ a = .preheat ∨ a = .satisfied) ∧ (b = .off ∨ b = .preheat)) ∨ (a.burning = true ∧ b = .cooldown)

theorem HeaterState.drifts.refl (a : HeaterState) : a.drifts a := .inl rfl

theorem HeaterState.drifts.trans {a b x : HeaterState} (h : a.drifts b) (k : b.drifts x) : a.drifts x := by
  obtain rfl | ⟨ha, hb⟩ | ⟨ha, rfl⟩ := h
  · exact k
  · obtain rfl | ⟨-, hx⟩ | ⟨hb', -⟩ := k
    · exact .inr (.inl ⟨ha, hb⟩)
    · exact .inr (.inl ⟨ha, hx⟩)
    · obtain rfl | rfl := hb <;> cases hb'
  · obtain rfl | ⟨hb, -⟩ | ⟨hb, -⟩ := k
    · exact .inr (.inr ⟨ha, rfl⟩)
    · obtain hb | hb | hb := hb <;> cases hb
    · cases hb

theorem HeaterState.burning_iff (a : HeaterState) : a.burning = true ↔ a = .ignition ∨ a = .proving ∨ a = .run := by
  cases a <;> simp [HeaterState.burning]

/-- The commands that light the burner, end a cooldown or clear a lockout. -/
def worksBurner (c : Instr) : Prop :=
  c = .preheatExpiry ∨ c = .provingExpiry ∨ c = .cooldownExpiry ∨ (∃ held, c = .debounceExpiry .flame held) ∨
  ∃ x, c = .hclear (some x)

/-! ### Where each move of the heater leads -/

theorem State.enterPreheat_state (s : State) : s.enterPreheat.heater.state = .preheat := by rw [s.enterPreheat_does.1]

theorem State.enterOff_state (s : State) : s.enterOff.heater.state = .off := by rw [s.enterOff_does.1]

theorem State.enterCooldown_state (s : State) (x : CooldownCause) : (s.enterCooldown x).heater.state = .cooldown := by
  rw [(s.enterCooldown_does x).1]

theorem State.enterIgnition_state (s : State) : s.enterIgnition.heater.state = .ignition := State.heaterGo_state _ _

theorem State.enterProving_state (s : State) : s.enterProving.heater.state = .proving := State.heaterGo_state _ _

theorem State.enterRun_state (s : State) : s.enterRun.heater.state = .run := State.heaterGo_state _ _

theorem drifts_cooldown {s t : State} {a : HeaterState} (hs : s.heater.state = a) (ha : a.burning = true)
    (ht : t.heater.state = .cooldown) : s.heater.state.drifts t.heater.state :=
  .inr (.inr ⟨hs ▸ ha, ht⟩)

theorem State.stepLevel_state (s : State) : s.stepLevel.heater.state = s.heater.state := by
  simp only [State.stepLevel]
  split <;> simp

theorem State.heaterReading_drifts (s : State) (value : Int) (fault : Bool) :
    s.heater.state.drifts (s.heaterReading value fault).heater.state := by
  simp only [State.heaterReading]
  have hattention : s.heaterAttention.heater = s.heater := by simp
  split
  · refine .inl ?_
    rw [State.c2InRun, State.workSatisfy, State.withHeater_heater, State.stepLevel_state, State.withHeater_heater,
      hattention]
  next hs _ =>
    unfold State.c2InSatisfied
    split
    · rw [State.enterPreheat_state]
      exact .inr (.inl ⟨.inr (.inr (hattention ▸ hs)), .inr rfl⟩)
    · exact .inl (by rw [hattention])
  · exact .inl (by rw [hattention])

theorem HeaterOp.drifts {c : Instr} {s t : State} (h : HeaterOp c s t) (hc : ¬worksBurner c) :
    s.heater.state.drifts t.heater.state := by
  cases h with
  | preheatEnd h => exact absurd (.inl h) hc
  | ignitionEnd =>
    unfold State.ignitionExpiry
    split
    next hs => exact drifts_cooldown hs rfl s.failedStart_state
    next => exact .refl _
  | provingEnd h => exact absurd (.inr (.inl h)) hc
  | cooldownEnd h => exact absurd (.inr (.inr (.inl h))) hc
  | clearCount =>
    unfold State.runClearsCount
    split <;> exact .refl _
  | satisfied =>
    unfold State.satisfiedStop
    split
    next hs => exact drifts_cooldown hs.1 rfl (s.enterCooldown_state _)
    next => exact .refl _
  | reading value fault => exact s.heaterReading_drifts value fault
  | flamePresent h => exact absurd (.inr (.inr (.inr (.inl h)))) hc
  | flameAbsent =>
    unfold State.flameAbsent
    split
    next hs => exact .inr (.inr ⟨(HeaterState.burning_iff _).mpr (.inr hs), s.failedStart_state⟩)
    next => exact .refl _
  | setParams => exact .refl _
  | unlock h => exact absurd (.inr (.inr (.inr (.inr h)))) hc
  | clearFuel b =>
    unfold State.clearFuel
    split <;> exact .refl _
  | second => exact .refl _
  | endReset => exact .inl (by simp [State.heaterEndReset])
  | settleCause => exact .refl _

theorem State.ovhtActive_drifts (s : State) : s.heater.state.drifts s.ovhtActive.heater.state := by
  unfold State.ovhtActive
  split
  next hs => exact .inr (.inl ⟨.inr (.inl hs), .inl s.enterOff_state⟩)
  next hs => exact drifts_cooldown hs rfl (s.enterCooldown_state _)
  next hs => exact drifts_cooldown hs rfl (s.enterCooldown_state _)
  next hs => exact drifts_cooldown hs rfl (s.enterCooldown_state _)
  next => exact .refl _
  next => exact .refl _

theorem State.ovhtInactive_drifts (s : State) : s.heater.state.drifts s.ovhtInactive.heater.state := by
  unfold State.ovhtInactive
  split
  next hs => exact .inr (.inl ⟨.inl hs.1, .inr s.enterPreheat_state⟩)
  next => exact .refl _

theorem State.debounced_ovht_drifts (s : State) (held : Nat) :
    s.heater.state.drifts (s.debounced .ovht held).heater.state := by
  have hattention : ∀ u : State, u.heaterAttention.heater = u.heater := fun u => by simp
  simp only [State.debounced, State.levelChanged]
  split
  · split
    · have h := State.ovhtActive_drifts (s.takeLevel .ovht).heaterAttention
      rw [hattention] at h
      exact h
    · have h := State.ovhtInactive_drifts (s.takeLevel .ovht).heaterAttention
      rw [hattention] at h
      exact h
  · exact .refl _

theorem State.heaterWorked.drifts {s t : State} (h : s.heaterWorked t) : s.heater.state.drifts t.heater.state := by
  obtain ⟨-, hall⟩ := h
  obtain ⟨hsame, hon, hoff⟩ := hall _ rfl
  cases hs : s.heater.presented with
  | none =>
    cases ht : t.heater.presented with
    | none =>
      obtain ⟨⟨heq, -⟩, -⟩ := hsame (by rw [hs, ht])
      exact .inl (by rw [heq])
    | some p =>
      obtain ⟨h1, h2, h3, h4⟩ := hon hs (by rw [ht]; exact nofun)
      by_cases ho : s.heater.state = .off
      · cases hl : s.sense.ovht.level with
        | false =>
          rw [(h1 ho hl).1]
          exact .inr (.inl ⟨.inl ho, .inr rfl⟩)
        | true => exact .inl (by rw [h2 ho hl])
      · by_cases hcool : s.heater.state = .cooldown
        · exact .inl (by rw [h3 hcool])
        · exact .inl (by rw [h4 ho hcool])
  | some p =>
    cases ht : t.heater.presented with
    | some q =>
      obtain ⟨⟨heq, -⟩, -⟩ := hsame (by rw [hs, ht]; rfl)
      exact .inl (by rw [heq])
    | none =>
      obtain ⟨h1, h2, h3, h4⟩ := hoff (by rw [hs]; exact nofun) ht
      cases hst : s.heater.state with
      | off => exact .inl (by rw [h4 (.inl hst), hst])
      | lockout => exact .inl (by rw [h4 (.inr hst), hst])
      | cooldown => exact .inl (by rw [h3 hst, hst])
      | preheat => exact .inr (.inl ⟨.inr (.inl rfl), .inl (by rw [(h1 (.inl hst)).1])⟩)
      | satisfied => exact .inr (.inl ⟨.inr (.inr rfl), .inl (by rw [(h1 (.inr hst)).1])⟩)
      | ignition => exact .inr (.inr ⟨rfl, by rw [(h2 (by rw [hst]; rfl)).1]⟩)
      | proving => exact .inr (.inr ⟨rfl, by rw [(h2 (by rw [hst]; rfl)).1]⟩)
      | run => exact .inr (.inr ⟨rfl, by rw [(h2 (by rw [hst]; rfl)).1]⟩)

theorem State.pass_drifts (s : State) : s.heater.state.drifts s.pass.heater.state := by
  cases hr : s.rst.asserted with
  | true =>
    rw [State.pass, if_pos hr]
    exact .refl _
  | false =>
    obtain ⟨-, -, -, -, -, -, h, -⟩ := s.pass_spec hr
    exact h.drifts

theorem Piece.drifts {c : Instr} {r s t : State} (p : Piece c r s t) (hc : ¬worksBurner c) :
    s.heater.state.drifts t.heater.state := by
  cases p with
  | heater h => exact h.drifts hc
  | lock h => exact absurd (.inr (.inr (.inl h))) hc
  | overheat held => exact s.debounced_ovht_drifts held
  | mode m => exact .inl (by rw [(s.enterMode_frame m).only]; rfl)
  | quiet => exact .inl s.workQuiet_heaterState
  | notice => exact .inl (by simp)
  | accountNotice => exact .inl (by simp)
  | raise => exact .inl (by simp)
  | remove => exact .inl (by simp)
  | warn h => exact .inl (by rw [h.frame.only])
  | fridge h =>
    have hf : s.fridgeFrame t := h.frame
    exact .inl (by rw [hf.only])
  | stall rate => exact .inl (by rw [(s.tachReading_frame rate).only])
  | lights h =>
    have hf : s.lightFrame t := h.frame
    exact .inl (by rw [hf.only])
  | coldRoom n hn hf hd => exact .inl (by rw [State.tempWindow_c3_only hf hd])
  | period i => exact .inl (by rw [s.periodEnd_only i])
  | release => exact .inl (by rw [s.releasePresenter_only])
  | _ => exact .refl _

theorem Runs.drifts {c : Instr} {r s : State} {b : Bool} (h : Runs c r b s) (hc : ¬worksBurner c) :
    r.heater.state.drifts s.heater.state := by
  induction h with
  | start => exact .refl _
  | calm _ p _ ih => exact ih.trans (p.drifts hc)
  | other _ p ih => exact ih.trans (p.drifts hc)
  | passed _ _ _ ih => exact ih.trans (State.pass_drifts _)

theorem State.assertReset_drifts (s : State) : s.heater.state.drifts s.assertReset.heater.state := by
  have hstate : s.assertReset.heater.state = s.heater.state.atReset := by
    simp [State.assertReset, State.quietPresenter, Heater.atReset]
  rw [hstate]
  cases s.heater.state <;> simp [HeaterState.drifts, HeaterState.atReset, HeaterState.burning]

theorem exec_drifts {c : Instr} {s t : State} (h : exec c s = .next t) (hcold : c ≠ .coldStart) (hc : ¬worksBurner c) :
    s.heater.state.drifts t.heater.state := by
  by_cases hr : c = .resetAssert
  · subst hr
    cases h
    unfold State.outOfReset
    split
    · exact .refl _
    · exact s.assertReset_drifts
  · exact (exec_runs h hcold hr).drifts hc

/-! ### The commands that work the burner -/

theorem State.cooldownExpiry_state {s : State} (hs : s.heater.state = .cooldown) :
    s.cooldownExpiry.heater.state ≠ .run ∧ s.cooldownExpiry.heater.state ≠ .proving ∧
    s.cooldownExpiry.heater.state ≠ .ignition := by
  have hlocked : ∀ u : State, u.enterLockout.heater.state = .lockout := by
    intro u
    have hdrift := State.pass_drifts ((((u.withHeater (fun h =>
      { h with state := .lockout, phase := none, glow := false })).writeFan 0).raise .part .heaterLockout).notice .heater)
    have hstate : ((((u.withHeater (fun h => { h with state := .lockout, phase := none, glow := false })).writeFan 0).raise
        .part .heaterLockout).notice .heater).heater.state = .lockout := by simp
    rw [hstate] at hdrift
    obtain h | ⟨h, -⟩ | ⟨h, -⟩ := hdrift
    · exact h
    · obtain h | h | h := h <;> cases h
    · cases h
  simp only [State.cooldownExpiry]
  rw [if_neg (not_not.mpr hs)]
  split
  · rw [hlocked]
    exact ⟨nofun, nofun, nofun⟩
  · split
    · rw [hlocked]
      exact ⟨nofun, nofun, nofun⟩
    · split
      · rw [State.enterSatisfied, State.heaterGo_state]
        exact ⟨nofun, nofun, nofun⟩
      · split
        · rw [State.enterPreheat_state]
          exact ⟨nofun, nofun, nofun⟩
        · rw [State.enterOff_state]
          exact ⟨nofun, nofun, nofun⟩

/-- What O38 says of one move of the heater's state under a command. -/
def burnerOrdered (c : Instr) (s : State) (a b : HeaterState) : Prop :=
  (a.burning = true → b.burning = true ∨ b = .cooldown) ∧ (b = .run → a ≠ .run → a = .proving ∧ c = .provingExpiry) ∧
  (b = .proving → a ≠ .proving → a = .ignition ∧ ∃ held, c = .debounceExpiry .flame held) ∧
  (b = .ignition → a ≠ .ignition → a = .preheat ∧ c = .preheatExpiry) ∧
  (b = .lockout → a ≠ .lockout → a = .cooldown ∧ c = .cooldownExpiry) ∧
  (a = .lockout → b ≠ .lockout → s.sense.ovht.level = false ∧ ∃ clear, c = .hclear (some clear))

theorem HeaterState.drifts.ordered {a b : HeaterState} (h : a.drifts b) (c : Instr) (s : State) : burnerOrdered c s a b := by
  obtain rfl | ⟨ha, hb⟩ | ⟨ha, rfl⟩ := h
  · exact ⟨.inl, fun h n => absurd h n, fun h n => absurd h n, fun h n => absurd h n, fun h n => absurd h n,
      fun h n => absurd h n⟩
  · obtain rfl | rfl | rfl := ha <;> obtain rfl | rfl := hb <;>
      exact ⟨nofun, nofun, nofun, nofun, nofun, nofun⟩
  · exact ⟨fun _ => .inr rfl, nofun, nofun, nofun, nofun, fun h => by subst h; cases ha⟩

section
variable {c : Instr} {s : State}

theorem burnerOrdered_refl (a : HeaterState) : burnerOrdered c s a a := (HeaterState.drifts.refl a).ordered c s

theorem preheatExpiry_ordered : burnerOrdered .preheatExpiry s s.heater.state s.preheatExpiry.heater.state := by
  unfold State.preheatExpiry
  split
  next hs =>
    split
    · rw [hs, s.failedStart_state]
      exact ⟨nofun, nofun, nofun, nofun, nofun, nofun⟩
    · rw [hs, s.enterIgnition_state]
      exact ⟨nofun, nofun, nofun, fun _ _ => ⟨rfl, rfl⟩, nofun, nofun⟩
  next => exact burnerOrdered_refl _

theorem provingExpiry_ordered : burnerOrdered .provingExpiry s s.heater.state s.provingExpiry.heater.state := by
  unfold State.provingExpiry
  split
  next hs =>
    rw [hs, s.enterRun_state]
    exact ⟨fun _ => .inl rfl, fun _ _ => ⟨rfl, rfl⟩, nofun, nofun, nofun, nofun⟩
  next => exact burnerOrdered_refl _

theorem cooldownExpiry_ordered : burnerOrdered .cooldownExpiry s s.heater.state s.cooldownExpiry.heater.state := by
  by_cases hs : s.heater.state = .cooldown
  · obtain ⟨h1, h2, h3⟩ := State.cooldownExpiry_state hs
    rw [hs]
    exact ⟨nofun, fun h => absurd h h1, fun h => absurd h h2, fun h => absurd h h3, fun _ _ => ⟨rfl, rfl⟩, nofun⟩
  · rw [State.cooldownExpiry, if_pos hs]
    exact burnerOrdered_refl _

theorem debounced_flame_ordered {held : Nat} :
    burnerOrdered (.debounceExpiry .flame held) s s.heater.state (s.debounced .flame held).heater.state := by
  have hattention : (s.takeLevel .flame).heaterAttention.heater.state = s.heater.state := by simp [State.takeLevel]
  simp only [State.debounced, State.levelChanged]
  split
  · split
    · show burnerOrdered _ s s.heater.state (s.takeLevel .flame).heaterAttention.flamePresent.heater.state
      unfold State.flamePresent
      split
      next hs =>
        rw [State.enterProving_state, ← hattention, hs]
        exact ⟨fun _ => .inl rfl, nofun, fun _ _ => ⟨rfl, held, rfl⟩, nofun, nofun, nofun⟩
      next =>
        rw [hattention]
        exact burnerOrdered_refl _
    · show burnerOrdered _ s s.heater.state (s.takeLevel .flame).heaterAttention.flameAbsent.heater.state
      unfold State.flameAbsent
      split
      next hs =>
        rw [State.failedStart_state, ← hattention]
        exact HeaterState.drifts.ordered (.inr (.inr ⟨(HeaterState.burning_iff _).mpr (.inr hs), rfl⟩)) _ s
      next =>
        rw [hattention]
        exact burnerOrdered_refl _
  · exact burnerOrdered_refl _

theorem reqHclear_ordered (x : Bool) :
    burnerOrdered (.hclear (some x)) s s.heater.state (reqHclear (some x) s).1.heater.state := by
  have hclear : ∀ (u : State) b, (u.clearFuel b).heater.state = u.heater.state := by
    intro u b
    unfold State.clearFuel
    split <;> rfl
  simp only [reqHclear]
  split
  next hs =>
    split
    · exact burnerOrdered_refl _
    next ho =>
      have hpass := State.pass_drifts ((s.leaveLockout).clearFuel x)
      have hoff : s.leaveLockout.heater.state = .off := by
        rw [State.leaveLockout, (State.remove_keeps _ _ _).2.2.2.2.2.2.2.2.2.1, State.heaterGo_state]
      rw [hclear, hoff] at hpass
      dsimp only
      rw [hs]
      generalize ((s.leaveLockout).clearFuel x).pass.heater.state = b at hpass
      have hlevel : s.sense.ovht.level = false := by simpa [State.overheated] using ho
      have hb : b = .off ∨ b = .preheat := by
        obtain rfl | ⟨-, hb⟩ | ⟨hb, -⟩ := hpass
        · exact .inl rfl
        · exact hb
        · cases hb
      obtain rfl | rfl := hb <;> exact ⟨nofun, nofun, nofun, nofun, nofun, fun _ _ => ⟨hlevel, x, rfl⟩⟩
  next =>
    split
    · rw [hclear]
      exact burnerOrdered_refl _
    · exact burnerOrdered_refl _

end

theorem State.takeFrame_heaterState {s : State} (f : State → State × Reply) :
    (s.takeFrame f).heater = s.heater ∨ (s.serves ∧ (s.takeFrame f).heater = (f s.inFrame).1.heater) := by
  cases ha : s.rst.asserted with
  | true => exact .inl (by rw [State.takeFrame_asserted s f ha])
  | false =>
    by_cases hm : s.port.mode = .selfTest
    · exact .inl (by rw [State.takeFrame_selfTest s f ha hm]; simp)
    · exact .inr ⟨⟨ha, hm⟩, by rw [State.takeFrame_served s f ⟨ha, hm⟩]; rfl⟩

/-- A guarded event that keeps the order of O38. -/
theorem outOfReset_ordered {c : Instr} {s : State} {f : State → State}
    (hf : burnerOrdered c s s.heater.state (f s).heater.state) :
    burnerOrdered c s s.heater.state (s.outOfReset f).heater.state := by
  unfold State.outOfReset
  split
  · exact burnerOrdered_refl _
  · exact hf

/-- Settles O38: every piece but five commands' own lets the heater drift, and the five are looked at one by one. -/
theorem burnerKeepsItsOrder : Obligations.BurnerKeepsItsOrder := by
  unfold Obligations.BurnerKeepsItsOrder
  intro c s t h hcold
  show burnerOrdered c s s.heater.state t.heater.state
  by_cases hc : worksBurner c
  · obtain rfl | rfl | rfl | ⟨held, rfl⟩ | ⟨x, rfl⟩ := hc
    · cases h
      exact outOfReset_ordered preheatExpiry_ordered
    · cases h
      exact outOfReset_ordered provingExpiry_ordered
    · cases h
      exact outOfReset_ordered cooldownExpiry_ordered
    · cases h
      exact outOfReset_ordered (f := fun s => s.debounced .flame held) debounced_flame_ordered
    · cases h
      obtain heq | ⟨-, heq⟩ := State.takeFrame_heaterState (s := s) (reqHclear (some x))
      · rw [heq]
        exact burnerOrdered_refl _
      · rw [heq]
        have hin := reqHclear_ordered (s := s.inFrame) x
        unfold burnerOrdered at hin ⊢
        simpa using hin
  · exact (exec_drifts h hcold hc).ordered c s

end Sys2Proof.Machine
end

section
/-! PROOF. O60: the refrigerator's law. -/
namespace Sys2Proof.Machine

/-- The refrigerator's law but for the cap on its speed; `on` is its timer. -/
structure Fridge.sound (f : Fridge) (on : Bool) : Prop where
  compressor : f.compressor = f.state.turning
  timer : on = f.state.turning
  onSeconds : f.onSeconds.isSome = f.state.turning
  startWindows : f.startWindows.isSome = decide (f.state = .start)
  lowWindows : f.lowWindows.isSome = decide (f.state = .run)
  runSeconds : f.runSeconds.isSome = decide (f.state = .run)
  startBound : ∀ n, f.startWindows = some n → n < 10
  lowBound : ∀ n, f.lowWindows = some n → n < 5
  startSpeed : f.state = .start → f.speed = 1
  runSpeed : f.state = .run → 1 ≤ f.speed ∧ f.speed ≤ 3
  restSpeed : f.state.turning = false → f.speed = 0
  stalls : f.stalls ≤ 3 ∧ (f.stalls = 3 ↔ f.state = .fault)
  minOffLow : 120 ≤ f.minOff
  minOffHigh : f.minOff ≤ 600
  offSeconds : f.offSeconds ≤ 65535
  unpresented : f.presented = none → f.state = .off ∨ f.state = .rest ∨ f.state = .fault
  presented : f.presented ≠ none → f.state ≠ .off ∧ f.state ≠ .fault
  warm : f.warmRun.isSome = true → f.monitored.isSome = true

theorem fridgeLaw_iff (s : State) :
    FridgeLaw s ↔ s.fridge.sound s.timers.t6.running ∧
      (s.quiet = true ∨ s.sense.fridgeT.fault = true → s.fridge.speed ≤ 1) := by
  constructor
  · rintro ⟨h1, h2, h3, h4, h5, h6, h7, h8, h9, h10, h11, h12, h13, h14, h15, h16, h17, h18, h19⟩
    exact ⟨⟨h1, h2, h3, h4, h5, h6, h7, h8, h9, h10, h11, h13, h14, h15, h16, h17, h18, h19⟩, h12⟩
  · rintro ⟨⟨h1, h2, h3, h4, h5, h6, h7, h8, h9, h10, h11, h13, h14, h15, h16, h17, h18, h19⟩, h12⟩
    exact ⟨h1, h2, h3, h4, h5, h6, h7, h8, h9, h10, h11, h12, h13, h14, h15, h16, h17, h18, h19⟩

theorem FridgeLaw.congr {s t : State} (h : FridgeLaw s) (hf : t.fridge = s.fridge)
    (h6 : t.timers.t6.running = s.timers.t6.running) (hq : t.quiet = true → s.quiet = true)
    (hc : t.sense.fridgeT.fault = true → s.sense.fridgeT.fault = true) : FridgeLaw t := by
  rw [fridgeLaw_iff] at h ⊢
  rw [hf, h6]
  exact ⟨h.1, fun hx => h.2 (hx.imp hq hc)⟩

/-! ### The shapes of a move -/

namespace Fridge.sound

section
variable {f : Fridge} {on : Bool} (h : f.sound on)
include h

/-- A state outside START and RUN holds none of their items. -/
theorem items (hs : f.state.turning = false) :
    f.compressor = false ∧ f.onSeconds = none ∧ f.startWindows = none ∧ f.lowWindows = none ∧ f.runSeconds = none := by
  have hstart : f.state ≠ .start := by
    intro he
    rw [he] at hs
    cases hs
  have hrun : f.state ≠ .run := by
    intro he
    rw [he] at hs
    cases hs
  refine ⟨h.compressor.trans hs, ?_, ?_, ?_, ?_⟩
  · simpa [hs] using h.onSeconds
  · simpa [hstart] using h.startWindows
  · simpa [hrun] using h.lowWindows
  · simpa [hrun] using h.runSeconds

/-- Between two states with the compressor off only the state moves. -/
theorem move (hs : f.state.turning = false) {st : FridgeState} {n : Nat} {p : Option Presented} (ht : st.turning = false)
    (hn : n ≤ 3 ∧ (n = 3 ↔ st = .fault)) (hu : p = none → st = .off ∨ st = .rest ∨ st = .fault)
    (hp : p ≠ none → st ≠ .off ∧ st ≠ .fault) : { f with state := st, stalls := n, presented := p }.sound on := by
  obtain ⟨h1, h2, h3, h4, h5⟩ := h.items hs
  have hstart : st ≠ .start := by
    rintro rfl
    cases ht
  have hrun : st ≠ .run := by
    rintro rfl
    cases ht
  exact
    { compressor := by simp [h1, ht], timer := by rw [h.timer, hs]; exact ht.symm, onSeconds := by simp [h2, ht]
      startWindows := by simp [h3, hstart], lowWindows := by simp [h4, hrun], runSeconds := by simp [h5, hrun]
      startBound := h.startBound, lowBound := h.lowBound, startSpeed := fun he => absurd he hstart
      runSpeed := fun he => absurd he hrun, restSpeed := fun _ => h.restSpeed hs, stalls := hn
      minOffLow := h.minOffLow, minOffHigh := h.minOffHigh, offSeconds := h.offSeconds, unpresented := hu
      presented := hp, warm := h.warm }

/-- R168, R170: the compressor comes on into START. -/
theorem start (hs : f.state.turning = false) (hf : f.state ≠ .fault) {p : Option Presented} (hp : p ≠ none) :
    { f with
      presented := p, state := .start, compressor := true, speed := 1, onSeconds := some 0
      startWindows := some 0 }.sound true := by
  obtain ⟨-, -, -, h4, h5⟩ := h.items hs
  have hstalls := h.stalls
  exact
    { compressor := rfl, timer := rfl, onSeconds := rfl, startWindows := rfl, lowWindows := by simp [h4]
      runSeconds := by simp [h5], startBound := fun n hn => by cases hn; omega, lowBound := h.lowBound
      startSpeed := fun _ => rfl, runSpeed := nofun, restSpeed := nofun
      stalls := ⟨hstalls.1, iff_of_false (fun he => hf (hstalls.2.mp he)) nofun⟩, minOffLow := h.minOffLow
      minOffHigh := h.minOffHigh, offSeconds := h.offSeconds, unpresented := fun hn => absurd hn hp
      presented := fun _ => ⟨nofun, nofun⟩, warm := h.warm }

/-- R172, R173, R175: whatever takes the compressor off. -/
theorem stop {st : FridgeState} {n : Nat} {p : Option Presented} (ht : st = .rest ∨ st = .fault)
    (hn : n ≤ 3 ∧ (n = 3 ↔ st = .fault)) (hp : p ≠ none → st ≠ .fault) :
    { f with
      presented := p, state := st, compressor := false, speed := 0, offSeconds := 0, onSeconds := none
      startWindows := none, lowWindows := none, runSeconds := none, stalls := n }.sound false := by
  have hturn : st.turning = false := by obtain rfl | rfl := ht <;> rfl
  have hstart : st ≠ .start := by
    rintro rfl
    cases hturn
  have hrun : st ≠ .run := by
    rintro rfl
    cases hturn
  exact
    { compressor := hturn.symm, timer := hturn.symm, onSeconds := hturn.symm
      startWindows := (decide_eq_false hstart).symm, lowWindows := (decide_eq_false hrun).symm
      runSeconds := (decide_eq_false hrun).symm, startBound := nofun, lowBound := nofun
      startSpeed := fun he => absurd he hstart, runSpeed := fun he => absurd he hrun, restSpeed := fun _ => rfl
      stalls := hn, minOffLow := h.minOffLow, minOffHigh := h.minOffHigh, offSeconds := Nat.zero_le _
      unpresented := fun _ => .inr ht
      presented := fun hx => ⟨by obtain rfl | rfl := ht <;> exact nofun, hp hx⟩, warm := h.warm }

/-- R171: the speed in RUN. -/
theorem speed (hs : f.state = .run) {v : Nat} (h1 : 1 ≤ v) (h3 : v ≤ 3) : { f with speed := v }.sound on :=
  { h with
    startSpeed := fun he => nomatch hs.symm.trans he
    runSpeed := fun _ => ⟨h1, h3⟩
    restSpeed := fun he => absurd ((congrArg FridgeState.turning hs).symm.trans he) nofun }

end

end Fridge.sound

/-- A presentation that stays a presentation. -/
theorem Fridge.sound.present {f : Fridge} {on : Bool} (h : f.sound on) {p : Option Presented}
    (hp : p = none ↔ f.presented = none) : { f with presented := p }.sound on :=
  { h with
    unpresented := fun hn => h.unpresented (hp.mp hn), presented := fun hn => h.presented fun he => hn (hp.mpr he) }

theorem Fridge.sound.remonitor {f : Fridge} {on : Bool} (h : f.sound on) {m : Option Int} {w : Option Nat}
    (hw : w.isSome = true → m.isSome = true) : { f with monitored := m, warmRun := w }.sound on :=
  { h with warm := hw }

theorem Fridge.sound.capped {f : Fridge} {on : Bool} (h : f.sound on) (hs : f.state ≠ .run) : f.speed ≤ 1 := by
  by_cases hstart : f.state = .start
  · exact (h.startSpeed hstart).le
  · rw [h.restSpeed (by simp [FridgeState.turning, hstart, hs])]
    exact Nat.zero_le 1

theorem FridgeState.turning_of_start {a : FridgeState} (h : a = .start ∨ a = .run) : a.turning = true := by
  obtain rfl | rfl := h <;> rfl

theorem Fridge.sound.few {f : Fridge} {on : Bool} (h : f.sound on) (hf : f.state ≠ .fault) : f.stalls < 3 := by
  have hne : f.stalls ≠ 3 := fun he => hf (h.stalls.2.mp he)
  have := h.stalls.1
  omega

/-- R170: START passes to RUN with its two counts at 0. -/
theorem Fridge.sound.enterRun {f : Fridge} {on : Bool} (h : f.sound on) (hs : f.state = .start) :
    { f with startWindows := none, lowWindows := some 0, runSeconds := some 0, state := .run }.sound on := by
  have hon : f.state.turning = true := by rw [hs]; rfl
  have hspeed : f.speed = 1 := h.startSpeed hs
  exact
    { h with
      compressor := h.compressor.trans hon, timer := h.timer.trans hon, onSeconds := h.onSeconds.trans hon
      startWindows := rfl, lowWindows := rfl, runSeconds := rfl, startBound := nofun
      lowBound := fun n hn => by cases hn; omega
      startSpeed := nofun, runSpeed := fun _ => by show 1 ≤ f.speed ∧ f.speed ≤ 3; omega
      restSpeed := nofun
      stalls := ⟨h.stalls.1, iff_of_false (h.few (by rw [hs]; exact nofun)).ne nofun⟩
      unpresented := fun hn => by obtain he | he | he := h.unpresented hn <;> cases hs.symm.trans he
      presented := fun _ => ⟨nofun, nofun⟩ }

theorem Fridge.sound.startWindow {f : Fridge} {on : Bool} (h : f.sound on) (hs : f.state = .start) {n : Nat} (hn : n < 10) :
    { f with startWindows := some n }.sound on :=
  { h with startWindows := (decide_eq_true hs).symm, startBound := fun m hm => by cases hm; exact hn }

theorem Fridge.sound.lowWindow {f : Fridge} {on : Bool} (h : f.sound on) (hs : f.state = .run) {n : Nat} (hn : n < 5) :
    { f with lowWindows := some n }.sound on :=
  { h with lowWindows := (decide_eq_true hs).symm, lowBound := fun m hm => by cases hm; exact hn }

/-! ### The fridge's operations -/

def State.fridgeSound (s : State) : Prop := s.fridge.sound s.timers.t6.running

/-- The fridge's law is kept, and no speed is raised above 1. -/
def State.fridgeTame (s t : State) : Prop :=
  s.fridgeSound → t.fridgeSound ∧ (t.fridge.speed ≤ 1 ∨ t.fridge.speed = s.fridge.speed)

theorem State.fridgeTame.refl (s : State) : s.fridgeTame s := fun h => ⟨h, .inr rfl⟩

theorem State.fridgeTame.trans {s u t : State} (h : s.fridgeTame u) (k : u.fridgeTame t) : s.fridgeTame t := by
  intro hs
  obtain ⟨hu, hv⟩ := h hs
  obtain ⟨ht, hw⟩ := k hu
  refine ⟨ht, ?_⟩
  omega

theorem State.fridgeTame.same {s t : State} (hf : t.fridge = s.fridge) (h6 : t.timers.t6 = s.timers.t6) :
    s.fridgeTame t := fun h => by
  unfold State.fridgeSound
  rw [hf, h6]
  exact ⟨h, .inr rfl⟩

/-- A write of the fridge that leaves its timer and its speed. -/
theorem State.fridgeTame.write {s t : State} (h6 : t.timers.t6 = s.timers.t6)
    (hs : s.fridgeSound → t.fridge.sound s.timers.t6.running) (hv : t.fridge.speed = s.fridge.speed) : s.fridgeTame t :=
  fun h => by
  unfold State.fridgeSound
  rw [h6]
  exact ⟨hs h, .inr hv⟩

/-- A tame change leaves the law standing where quiet and the C3 fault stand. -/
theorem FridgeLaw.tame {s t : State} (h : FridgeLaw s) (hm : s.fridgeTame t) (hq : t.quiet = s.quiet)
    (hc : t.sense = s.sense) : FridgeLaw t := by
  obtain ⟨hsound, hcap⟩ := (fridgeLaw_iff s).mp h
  obtain ⟨ht, hv⟩ := hm hsound
  refine (fridgeLaw_iff t).mpr ⟨ht, fun hx => ?_⟩
  rw [hq, hc] at hx
  have := hcap hx
  omega

theorem State.fridgeTame.law {s t : State} (hm : s.fridgeTame t) (hf : s.fridgeFrame t) (h : FridgeLaw s) : FridgeLaw t :=
  h.tame hm (by rw [hf.only]) (by rw [hf.only])

section
variable (s : State)

theorem State.fridgeAttention_tame : s.fridgeTame s.fridgeAttention := .same (by simp) (by simp)

/-- With the compressor off the state may move where the presentation lets it. -/
theorem State.fridgeGo_tame {st : FridgeState} (hs : s.fridge.state.turning = false) (ht : st.turning = false)
    (hn : st ≠ .fault) (hf : s.fridge.state ≠ .fault) (hu : s.fridge.presented = none → st = .off ∨ st = .rest)
    (hp : s.fridge.presented ≠ none → st ≠ .off) : s.fridgeTame (s.fridgeGo st) := by
  refine .write (by rw [State.fridgeGo_timers]) (fun h => ?_) (by rw [State.fridgeGo_fridge])
  rw [State.fridgeGo_fridge]
  exact h.move (n := s.fridge.stalls) (p := s.fridge.presented) hs ht
    ⟨h.stalls.1, iff_of_false (fun he => hf (h.stalls.2.mp he)) hn⟩ (fun hx => (hu hx).imp id .inl) (fun hx => ⟨hp hx, hn⟩)

theorem State.startTest_tame : s.fridgeTame s.startTest := by
  have hstart : s.fridge.state = .idle → s.fridgeTame s.enterStart := fun hi h => by
    have hp : s.fridge.presented ≠ none := fun hn => by
      obtain he | he | he := h.unpresented hn <;> cases hi.symm.trans he
    have hsound := h.start (by rw [hi]; rfl) (by rw [hi]; exact nofun) hp
    unfold State.fridgeSound
    rw [s.enterStart_does.1, s.enterStart_does.2.1]
    exact ⟨hsound, .inl (Nat.le_refl 1)⟩
  unfold State.startTest
  split
  · exact .refl s
  next hi =>
    have hi := hstart (not_not.mp hi)
    split <;> split
    · exact hi
    · exact .refl s
    · exact hi
    · exact .refl s

theorem State.stopToRest_tame (hs : s.fridge.state = .start ∨ s.fridge.state = .run) : s.fridgeTame s.stopToRest := by
  intro h
  have hf : s.fridge.state ≠ .fault := by
    intro hf
    rw [hf] at hs
    exact hs.elim nofun nofun
  have hsound := h.stop (st := .rest) (n := s.fridge.stalls) (p := s.fridge.presented) (.inl rfl)
    ⟨h.stalls.1, iff_of_false (fun he => hf (h.stalls.2.mp he)) nofun⟩ (fun _ => nofun)
  unfold State.fridgeSound
  rw [s.stopToRest_does.1, s.stopToRest_does.2]
  exact ⟨hsound, .inl (Nat.zero_le 1)⟩

theorem State.endRestIfDue_tame : s.fridgeTame s.endRestIfDue := by
  unfold State.endRestIfDue State.endRestPhase
  split
  next hs =>
    have hoff : s.fridge.state.turning = false := by rw [hs.1]; rfl
    have hf : s.fridge.state ≠ .fault := by rw [hs.1]; exact nofun
    split
    next hp =>
      have hp : s.fridge.presented ≠ none := Option.isSome_iff_ne_none.mp hp
      exact (s.fridgeGo_tame (st := .idle) hoff rfl nofun hf (fun hn => absurd hn hp) fun _ => nofun).trans
        (State.startTest_tame _)
    next hp =>
      exact s.fridgeGo_tame hoff rfl nofun hf (fun _ => .inl rfl) fun hn => absurd (Option.isSome_iff_ne_none.mpr hn) hp
  next => exact .refl s

theorem State.minOffEnd_tame : s.fridgeTame s.minOffEnd := by
  unfold State.minOffEnd
  split
  · exact s.endRestIfDue_tame
  · split
    · exact .refl s
    · exact s.startTest_tame
  · exact .refl s

theorem State.fixedCycleOnEnd_tame : s.fridgeTame s.fixedCycleOnEnd := by
  unfold State.fixedCycleOnEnd
  split
  next hs => exact s.stopToRest_tame hs.1
  next => exact .refl s

theorem State.fixedCycleOffEnd_tame : s.fridgeTame s.fixedCycleOffEnd := by
  unfold State.fixedCycleOffEnd
  split
  · exact s.startTest_tame
  · exact .refl s

theorem State.setSpeed_sound {v : Nat} (hs : s.fridge.state = .run) (h1 : 1 ≤ v) (h3 : v ≤ 3) (h : s.fridgeSound) :
    (s.setSpeed v).fridgeSound ∧ (s.setSpeed v).fridge.speed = v := by
  unfold State.setSpeed
  split
  next he => exact ⟨h, he⟩
  next =>
    refine ⟨?_, by simp⟩
    have hsound := h.speed hs h1 h3
    have hon : s.timers.t6.running = true := by rw [h.timer, hs]; rfl
    have hwrite := (State.writeT6_given (s.withFridge fun f => { f with speed := v }) (speedDuty v) 1000).1
    unfold State.fridgeSound
    rw [hwrite, ← hon]
    simpa using hsound

theorem State.setSpeed_tame (hs : s.fridge.state = .start ∨ s.fridge.state = .run) : s.fridgeTame (s.setSpeed 1) := by
  intro h
  obtain hs | hs := hs
  · have he : s.setSpeed 1 = s := by rw [State.setSpeed, if_pos (h.startSpeed hs)]
    rw [he]
    exact ⟨h, .inr rfl⟩
  · obtain ⟨ht, hv⟩ := s.setSpeed_sound hs (Nat.le_refl 1) (by omega) h
    exact ⟨ht, .inl hv.le⟩

theorem State.setSpeed_capped : (s.setSpeed 1).fridge.speed ≤ 1 := by
  unfold State.setSpeed
  split
  next he => exact he.le
  next => simp

/-- R169: where C3 faults no speed stays above 1. -/
theorem State.c3Faults_capped (h : s.fridgeSound) : s.c3Faults.fridgeSound ∧ s.c3Faults.fridge.speed ≤ 1 := by
  have hmoved : ∀ {t : State}, s.fridge.state ≠ .run → s.fridgeTame t → t.fridgeSound ∧ t.fridge.speed ≤ 1 := by
    intro t hs hm
    obtain ⟨ht, hv⟩ := hm h
    have := h.capped hs
    exact ⟨ht, by omega⟩
  have hslow : s.fridge.state = .start ∨ s.fridge.state = .run →
      (s.setSpeed 1).fixedCycleOnEnd.fridgeSound ∧ (s.setSpeed 1).fixedCycleOnEnd.fridge.speed ≤ 1 := by
    intro hs
    obtain ⟨ht, hv⟩ := State.fixedCycleOnEnd_tame _ (s.setSpeed_tame hs h).1
    have := s.setSpeed_capped
    exact ⟨ht, by omega⟩
  unfold State.c3Faults
  split
  next hs => exact hslow (.inl hs)
  next hs => exact hslow (.inr hs)
  next hs => exact hmoved (by rw [hs]; exact nofun) s.startTest_tame
  next _ hs _ => exact hmoved hs (.refl s)

theorem State.stall_does :
    s.stall.fridge =
      { s.fridge with
        state := if gain 3 s.fridge.stalls = 3 then .fault else .rest, compressor := false, speed := 0, offSeconds := 0
        onSeconds := none, startWindows := none, lowWindows := none, runSeconds := none, stalls := gain 3 s.fridge.stalls } ∧
    s.stall.timers.t6.running = false := by
  have hgo : ∀ st, ((s.switchOff.withFridge (fun f => { f with stalls := gain 3 f.stalls })).fridgeGo st).timers.t6.running = false :=
    fun st => by rw [State.fridgeGo_timers]; rfl
  simp only [State.stall]
  split
  next h3 =>
    refine ⟨?_, hgo _⟩
    rw [State.fridgeGo_fridge, if_pos (show gain 3 s.fridge.stalls = 3 from h3)]
    rfl
  next h3 =>
    refine ⟨?_, hgo _⟩
    rw [State.fridgeGo_fridge, if_neg (show ¬gain 3 s.fridge.stalls = 3 from h3)]
    rfl

/-- R170, R175: a stall stops the compressor; the third one enters FAULT, where nothing may be presented. -/
theorem State.stall_sound (h : s.fridgeSound) (hs : s.fridge.state = .start ∨ s.fridge.state = .run) :
    s.stall.fridge.speed ≤ 1 ∧
    ((s.stall.fridge.state ≠ .fault ∧ s.stall.fridgeSound) ∨
      (s.stall.fridge.state = .fault ∧
        Fridge.sound { s.stall.fridge with presented := none } s.stall.timers.t6.running)) := by
  have hfew : s.fridge.stalls < 3 := h.few fun hf => by
    rw [hf] at hs
    exact hs.elim nofun nofun
  have hgain : gain 3 s.fridge.stalls = s.fridge.stalls + 1 := by rw [gain, if_pos hfew]
  unfold State.fridgeSound
  rw [s.stall_does.1, s.stall_does.2, hgain]
  refine ⟨Nat.zero_le 1, ?_⟩
  by_cases h3 : s.fridge.stalls + 1 = 3
  · rw [if_pos h3, h3]
    exact .inr ⟨rfl, h.stop (.inr rfl) ⟨Nat.le_refl 3, iff_of_true rfl rfl⟩ fun hn => absurd rfl hn⟩
  · rw [if_neg h3]
    exact .inl ⟨nofun, h.stop (.inl rfl) ⟨hfew, iff_of_false h3 nofun⟩ fun _ => nofun⟩

end

/-- What a window's rate leaves: the law, or a FAULT just entered whose presentation the pass has still to take. -/
def State.fridgeStalls (s t : State) : Prop :=
  (t.fridge.speed ≤ 1 ∨ t.fridge.speed = s.fridge.speed) ∧
  (t.fridgeSound ∨
    (t.fridge.state = .fault ∧ s.fridge.state ≠ .fault ∧
      Fridge.sound { t.fridge with presented := none } t.timers.t6.running))

theorem State.fridgeTame.stalls {s t : State} (hm : s.fridgeTame t) (h : s.fridgeSound) : s.fridgeStalls t :=
  ⟨(hm h).2, .inl (hm h).1⟩

theorem State.stall_stalls {s : State} (h : s.fridgeSound) (hs : s.fridge.state = .start ∨ s.fridge.state = .run) :
    s.fridgeStalls s.stall := by
  obtain ⟨hv, ⟨-, hk⟩ | ⟨hk, ht⟩⟩ := s.stall_sound h hs
  · exact ⟨.inl hv, .inl hk⟩
  · refine ⟨.inl hv, .inr ⟨hk, fun hf => ?_, ht⟩⟩
    rw [hf] at hs
    exact hs.elim nofun nofun

/-- R170: a window's rate. -/
theorem State.tachReading_stalls {s : State} (rate : Nat) (h : s.fridgeSound) : s.fridgeStalls (s.tachReading rate) := by
  have hattention : s.fridgeAttention.fridge = s.fridge := by simp
  have hu : s.fridgeAttention.fridgeSound := (s.fridgeAttention_tame h).1
  suffices s.fridgeAttention.fridgeStalls (s.tachReading rate) by
    unfold State.fridgeStalls at this ⊢
    rwa [hattention] at this
  simp only [State.tachReading]
  generalize s.fridgeAttention = u at hu
  split
  next hs =>
    split
    · have hrun : u.enterFridgeRun.fridge =
          { u.fridge with startWindows := none, lowWindows := some 0, runSeconds := some 0, state := .run } := by
        rw [State.enterFridgeRun, State.fridgeGo_fridge, State.withFridge_fridge]
      refine (State.fridgeTame.write (s := u) ?_ (fun hx => hrun ▸ hx.enterRun hs) (by rw [hrun])).stalls hu
      rw [State.enterFridgeRun, State.fridgeGo_timers, (State.withFridge_keeps _ _).2.2.2.2.2.2.2.2.2.1]
    · split
      · exact State.stall_stalls hu (.inl hs)
      next hn =>
        have htame : u.fridgeTame (u.withFridge fun f => { f with startWindows := some (u.fridge.startWindows.getD 0 + 1) }) :=
          .write rfl (fun hx => hx.startWindow hs (Nat.lt_of_not_le hn)) rfl
        exact htame.stalls hu
  next hs =>
    generalize (if rate < 15 then u.fridge.lowWindows.getD 0 + 1 else 0) = n
    split
    · exact State.stall_stalls hu (.inr hs)
    next hn =>
      have htame : u.fridgeTame (u.withFridge fun f => { f with lowWindows := some n }) :=
        .write rfl (fun hx => hx.lowWindow hs (Nat.lt_of_not_le hn)) rfl
      exact htame.stalls hu
  next => exact (State.fridgeTame.refl u).stalls hu

/-! ### A pass over the fridge -/

/-- A load that is unavailable holds no ACTIVE order after a pass. -/
theorem Reading.presentedFor_unavailable {r : Reading} {load : Load} (h : r.unavailable load = true) (os : List Order) :
    presentedFor load (r.run os).orders = none := by
  have hnone : (r.run os).orders.find? (fun o => decide (o.load = load) && decide (o.state = .active)) = none := by
    rw [List.find?_eq_none]
    intro o ho
    simp only [Reading.run, List.mem_map] at ho
    obtain ⟨p, -, rfl⟩ := ho
    intro hboth
    simp only [Bool.and_eq_true, decide_eq_true_eq] at hboth
    obtain ⟨hl, ha⟩ := hboth
    have hl : p.load = load := hl
    have hstate : r.settleState _ _ p = .active := ha
    unfold Reading.settleState at hstate
    rw [hl, h] at hstate
    split at hstate <;> cases hstate
  rw [presentedFor, hnone]
  rfl

theorem State.reading_fridge (s : State) : s.reading.fridge = s.fridge.state := rfl

theorem State.reading_heater (s : State) : s.reading.heater = s.heater.state := rfl

/-- What a stall may leave to the pass: the law, or a FAULT whose presentation has still to go. -/
def State.fridgeStanding (s : State) : Prop :=
  s.fridgeSound ∨ (s.fridge.state = .fault ∧ Fridge.sound { s.fridge with presented := none } s.timers.t6.running)

theorem State.fridgeWithdrawn_tame {s : State} {f : Fridge} (h : f.sound s.timers.t6.running) (hf : f.state ≠ .fault)
    (hp : f.presented ≠ none) (hs : s.fridge = { f with presented := none }) :
    s.fridgeWithdrawn.fridgeSound ∧ (s.fridgeWithdrawn.fridge.speed ≤ 1 ∨ s.fridgeWithdrawn.fridge.speed = f.speed) := by
  have hstalls : ∀ {st}, st ≠ FridgeState.fault → f.stalls ≤ 3 ∧ (f.stalls = 3 ↔ st = .fault) := fun hst =>
    ⟨h.stalls.1, iff_of_false (fun he => hf (h.stalls.2.mp he)) hst⟩
  have hstop : (f.state = .start ∨ f.state = .run) →
      s.stopToRest.fridgeSound ∧ (s.stopToRest.fridge.speed ≤ 1 ∨ s.stopToRest.fridge.speed = f.speed) := fun hst => by
    unfold State.fridgeSound
    rw [s.stopToRest_does.1, s.stopToRest_does.2, hs]
    exact ⟨h.stop (.inl rfl) (hstalls nofun) fun _ => nofun, .inl (Nat.zero_le 1)⟩
  have hstate : s.fridge.state = f.state := by rw [hs]
  unfold State.fridgeWithdrawn
  rw [hstate]
  split
  next hst =>
    unfold State.fridgeSound
    rw [State.fridgeGo_fridge, State.fridgeGo_timers, hs]
    exact ⟨h.move (by rw [hst]; rfl) rfl (hstalls nofun) (fun _ => .inl rfl) fun hn => absurd rfl hn, .inr rfl⟩
  next hst => exact hstop (.inl hst)
  next hst => exact hstop (.inr hst)
  next hidle hstart hrun =>
    have hrest : f.state = .rest := by
      have hoff := (h.presented hp).1
      cases hst : f.state with
      | rest => rfl
      | off => exact absurd hst hoff
      | idle => exact absurd hst hidle
      | start => exact absurd hst hstart
      | run => exact absurd hst hrun
      | fault => exact absurd hst hf
    unfold State.fridgeSound
    rw [hs]
    refine ⟨?_, .inr rfl⟩
    have hmove := h.move (st := .rest) (p := none) (by rw [hrest]; rfl) rfl (hstalls nofun) (fun _ => .inr (.inl rfl))
      fun hn => absurd rfl hn
    rw [← hrest] at hmove
    exact hmove

theorem State.fridgePresented_tame {s : State} {f : Fridge} {p : Option Presented} (h : f.sound s.timers.t6.running)
    (hf : f.state ≠ .fault) (hn : f.presented = none) (hp : p ≠ none) (hs : s.fridge = { f with presented := p }) :
    s.fridgePresented.fridgeSound ∧ (s.fridgePresented.fridge.speed ≤ 1 ∨ s.fridgePresented.fridge.speed = f.speed) := by
  have hstate : s.fridge.state = f.state := by rw [hs]
  have hmove : ∀ {st : FridgeState}, st ≠ .off → st ≠ .fault → st.turning = false →
      ({ f with state := st, presented := p } : Fridge).sound s.timers.t6.running := fun hoff hst ht =>
    h.move (n := f.stalls)
      (by obtain he | he | he := h.unpresented hn
          · rw [he]; rfl
          · rw [he]; rfl
          · exact absurd he hf)
      ht ⟨h.stalls.1, iff_of_false (fun he => hf (h.stalls.2.mp he)) hst⟩ (fun he => absurd he hp) fun _ => ⟨hoff, hst⟩
  unfold State.fridgePresented
  rw [hstate]
  split
  next hst =>
    have hidle : (s.fridgeGo .idle).fridgeSound := by
      unfold State.fridgeSound
      rw [State.fridgeGo_fridge, State.fridgeGo_timers, hs]
      exact hmove nofun nofun rfl
    obtain ⟨ht, hv⟩ := State.startTest_tame _ hidle
    rw [State.fridgeGo_fridge, hs] at hv
    exact ⟨ht, hv⟩
  next hst =>
    have hrest : f.state = .rest := by
      obtain he | he | he := h.unpresented hn
      · exact absurd he hst
      · exact he
      · exact absurd he hf
    unfold State.fridgeSound
    rw [hs]
    have hsame := hmove (st := .rest) nofun nofun rfl
    rw [← hrest] at hsame
    exact ⟨hsame, .inr rfl⟩

theorem State.presentFridge_sound {s : State} {p : Option Presented} (h : s.fridgeStanding)
    (hf : s.fridge.state = .fault → p = none) :
    (s.presentFridge p).fridgeSound ∧
    ((s.presentFridge p).fridge.speed ≤ 1 ∨ (s.presentFridge p).fridge.speed = s.fridge.speed) := by
  have hset : (s.withFridge fun f => { f with presented := p }).fridge = { s.fridge with presented := p } := rfl
  by_cases hfault : s.fridge.state = .fault
  · obtain rfl := hf hfault
    have hgone : Fridge.sound { s.fridge with presented := none } s.timers.t6.running := by
      obtain h | ⟨-, h⟩ := h
      · have hnone : s.fridge.presented = none := by
          by_contra hn
          exact (h.presented hn).2 hfault
        exact h.present (iff_of_true rfl hnone)
      · exact h
    have hkept : s.presentFridge none = s.withFridge fun f => { f with presented := none } := by
      have hstate : (s.withFridge fun f => { f with presented := none }).fridge.state = .fault := hfault
      simp [State.presentFridge, State.fridgeWithdrawn, hfault]
    rw [hkept]
    exact ⟨hgone, .inr rfl⟩
  · have h : s.fridgeSound := h.resolve_right fun hr => hfault hr.1
    simp only [State.presentFridge]
    split
    next hc =>
      simp only [Bool.and_eq_true, Option.isNone_iff_eq_none, Option.isSome_iff_ne_none] at hc
      exact State.fridgePresented_tame h hfault hc.1 hc.2 hset
    next hon =>
      split
      next hc =>
        simp only [Bool.and_eq_true, Option.isNone_iff_eq_none, Option.isSome_iff_ne_none] at hc
        exact State.fridgeWithdrawn_tame h hfault hc.1 (by rw [hset, hc.2])
      next hoff =>
        refine ⟨h.present ?_, .inr rfl⟩
        cases hs : s.fridge.presented <;> cases p <;> simp_all

theorem State.workMonitor_tame (s : State) (os : List Order) : s.fridgeTame (s.workMonitor os) := by
  unfold State.workMonitor
  split
  · exact .write rfl (fun h => h.remonitor fun _ => rfl) rfl
  · have hgone : s.fridgeTame (s.withFridge fun f => { f with monitored := none, warmRun := none }) :=
      .write rfl (fun h => h.remonitor nofun) rfl
    dsimp only
    split
    · exact hgone.trans (.same (by simp) (by simp))
    · exact hgone

theorem State.presentLights_fridge (s : State) (os : List Order) :
    (s.presentLights os).fridge = s.fridge ∧ (s.presentLights os).timers.t6 = s.timers.t6 := by
  simp [State.presentLights]

theorem State.presentHeater_fridge (s : State) (p : Option Presented) :
    (s.presentHeater p).fridge = s.fridge ∧ (s.presentHeater p).timers.t6 = s.timers.t6 := by
  simp

/-- A pass takes the presentation of a FAULT, and keeps the fridge's law otherwise. -/
theorem State.pass_sound {s : State} (hr : s.rst.asserted = false) (h : s.fridgeStanding) :
    s.pass.fridgeSound ∧ (s.pass.fridge.speed ≤ 1 ∨ s.pass.fridge.speed = s.fridge.speed) := by
  have hfault : s.fridge.state = .fault → presentedFor .fridge (s.reading.run s.orders).orders = none := fun hf =>
    Reading.presentedFor_unavailable (by simp [Reading.unavailable, s.reading_fridge, hf]) _
  simp only [State.pass]
  rw [if_neg (by simp [hr])]
  generalize hu : State.noticeIf _ _ _ = u
  have hfridge : u.fridge = s.fridge ∧ u.timers.t6 = s.timers.t6 := by rw [← hu]; simp
  rw [← hfridge.1] at hfault
  have hstand : u.fridgeStanding := by
    unfold State.fridgeStanding State.fridgeSound
    rw [hfridge.1, hfridge.2]
    exact h
  rw [← hfridge.1]
  generalize (s.reading.run s.orders).orders = os at hfault
  have hheater := u.presentHeater_fridge (presentedFor .heater os)
  unfold State.presentAll
  generalize u.presentHeater (presentedFor .heater os) = v at hheater
  rw [← hheater.1] at hfault ⊢
  have hstand : v.fridgeStanding := by
    unfold State.fridgeStanding State.fridgeSound at hstand ⊢
    rw [hheater.1, hheater.2]
    exact hstand
  obtain ⟨hsound, hv⟩ := State.presentFridge_sound hstand hfault
  obtain ⟨hl, hl6⟩ := (v.presentFridge (presentedFor .fridge os)).presentLights_fridge os
  obtain ⟨ht, hw⟩ := ((State.fridgeTame.same hl hl6).trans (State.workMonitor_tame _ os)) hsound
  exact ⟨ht, by omega⟩

end Sys2Proof.Machine
end

section
/-! PROOF. O60: every piece, and a stall with its pass, keep the refrigerator's law. -/
namespace Sys2Proof.Machine

/-! ### The pieces -/

theorem State.debounced_ovht_fridgeT (s : State) (held : Nat) :
    (s.debounced .ovht held).sense.fridgeT = s.sense.fridgeT := by
  obtain heq | hframe := s.debounced_ovht held
  · rw [heq]
  · rw [hframe.only]
    simp [State.takeLevel, Sense.setInput]

theorem State.periodEnd_running (s : State) (i j : TimerId) :
    ((s.periodEnd i).timers.get j).running = (s.timers.get j).running := by
  have hset : ((s.setTimer i (s.timers.get i).endPeriod).timers.get j).running = (s.timers.get j).running := by
    simp only [State.setTimer, Timers.get_set]
    split
    next he => rw [he]; rfl
    next => rfl
  simp only [State.periodEnd]
  split
  · split
    · exact hset
    · exact hset
  · rfl

theorem State.runClearsStalls_tame (s : State) : s.fridgeTame s.runClearsStalls := by
  unfold State.runClearsStalls
  split
  next hs =>
    refine .write rfl (fun h => ?_) rfl
    exact { h with stalls := ⟨Nat.zero_le 3, iff_of_false (by decide : ¬(0 = 3)) fun he => nomatch hs.1.symm.trans he⟩ }
  next => exact .refl s

theorem gain_le (bound x : Nat) (h : x ≤ bound) : gain bound x ≤ bound := by
  unfold gain
  split <;> omega

theorem Fridge.sound.second {f : Fridge} {on : Bool} (h : f.sound on) : f.second.sound on := by
  exact
    { h with
      onSeconds := Option.isSome_map.trans h.onSeconds
      runSeconds := Option.isSome_map.trans h.runSeconds
      offSeconds := by
        simp only [Fridge.second]
        split
        · exact h.offSeconds
        · exact gain_le _ _ h.offSeconds
      warm := fun hw => h.warm (Option.isSome_map.symm.trans hw) }

theorem State.c3InRun_law {s : State} {setpoint value : Int} (hs : s.fridge.state = .run)
    (hf : s.sense.fridgeT.fault = false) (h : FridgeLaw s) : FridgeLaw (s.c3InRun setpoint value) := by
  unfold State.c3InRun
  split
  · exact (s.stopToRest_tame (.inr hs)).law s.stopToRest_frame h
  · obtain ⟨hsound, -⟩ := (fridgeLaw_iff s).mp h
    have hv : ∀ q, 1 ≤ runSpeed (value - setpoint) q ∧ runSpeed (value - setpoint) q ≤ 3 ∧
        (q = true → runSpeed (value - setpoint) q = 1) := by
      intro q
      cases q with
      | true => exact ⟨Nat.le_refl 1, by simp [runSpeed], fun _ => rfl⟩
      | false =>
        simp only [runSpeed, Bool.false_eq_true, if_false]
        split
        · simp
        · split <;> simp
    obtain ⟨h1, h3, hq⟩ := hv s.quiet
    obtain ⟨ht, hspeed⟩ := s.setSpeed_sound hs h1 h3 hsound
    refine (fridgeLaw_iff _).mpr ⟨ht, fun hx => ?_⟩
    rw [hspeed]
    have hquiet : s.quiet = true := by simpa [hf] using hx
    exact (hq hquiet).le

theorem FridgeOp.fridgeLaw {c : Instr} {s t : State} (p : FridgeOp c s t) (hc : ¬∃ edges, c = .tachWindowEnd edges)
    (h : FridgeLaw s) : FridgeLaw t := by
  have hframe : s.fridgeFrame t := p.frame
  cases p with
  | endRest => exact s.endRestIfDue_tame.law hframe h
  | minOffEnd => exact s.minOffEnd_tame.law hframe h
  | cycleOn => exact s.fixedCycleOnEnd_tame.law hframe h
  | cycleOff => exact s.fixedCycleOffEnd_tame.law hframe h
  | clearStalls => exact s.runClearsStalls_tame.law hframe h
  | tach _ h => exact absurd h hc
  | setMinOff n _ hn =>
    have htame : s.fridgeTame (s.withFridge fun f => { f with minOff := n }) :=
      .write rfl (fun h => { h with minOffLow := hn.1, minOffHigh := hn.2 }) rfl
    exact htame.law hframe h
  | clearFault hs =>
    have htame : s.fridgeTame ((s.withFridge fun f => { f with stalls := 0 }).fridgeGo .rest) := by
      refine .write ?_ (fun h => ?_) (by rw [State.fridgeGo_fridge]; rfl)
      · rw [State.fridgeGo_timers]
        rfl
      · rw [State.fridgeGo_fridge, State.withFridge_fridge]
        exact h.move (n := 0) (p := s.fridge.presented) (by rw [hs]; rfl) rfl ⟨Nat.zero_le 3, iff_of_false (by decide) nofun⟩
          (fun _ => .inr (.inl rfl)) fun _ => ⟨nofun, nofun⟩
    exact htame.law hframe h
  | second =>
    have htame : s.fridgeTame (s.withFridge Fridge.second) := .write rfl (fun h => h.second) rfl
    exact htame.law hframe h
  | endReset _ moved =>
    have htame : s.fridgeTame (s.fridgeEndReset moved) :=
      .write (by simp [State.fridgeEndReset]) (fun h => by
        have hfridge : (s.fridgeEndReset moved).fridge = { s.fridge with offSeconds := 0 } := by simp [State.fridgeEndReset]
        rw [hfridge]
        exact { h with offSeconds := Nat.zero_le _ }) (by simp [State.fridgeEndReset])
    exact htame.law hframe h
  | call b =>
    have htame : s.fridgeTame (s.withFridge fun f => { f with call := b }) := .write rfl (fun h => { h with }) rfl
    exact htame.law hframe h
  | warm w hw =>
    have htame : s.fridgeTame (s.withFridge fun f => { f with warmRun := w }) :=
      .write rfl (fun h => h.remonitor (m := s.fridge.monitored) fun hs =>
        hw.elim (fun hn => by rw [hn] at hs; cases hs) id) rfl
    exact htame.law hframe h
  | start => exact s.startTest_tame.law hframe h
  | inRun setpoint value hs hf => exact State.c3InRun_law hs hf h

/-- R92: quiet holds the speed at 1 when it is set, and lets it go when it ends. -/
theorem State.workQuiet_fridgeLaw {s : State} (h : FridgeLaw s) : FridgeLaw s.workQuiet := by
  obtain ⟨hsound, hcap⟩ := (fridgeLaw_iff s).mp h
  simp only [State.workQuiet]
  split
  · exact h
  next hne =>
    obtain ⟨u, hu⟩ : ∃ u, u = ({ s with quiet := s.quietNow } : State).accountNotice := ⟨_, rfl⟩
    have hfridge : u.fridge = s.fridge := by simp [hu]
    have h6 : u.timers.t6 = s.timers.t6 := by simp [hu]
    rw [← hu]
    have husound : u.fridgeSound := by
      unfold State.fridgeSound
      rw [hfridge, h6]
      exact hsound
    split
    · have hquiet : u.heaterQuiet.fridgeSound := (State.fridgeTame.same (by simp) (by simp) husound).1
      have hslow : u.heaterQuiet.fridgeQuiet.fridgeSound ∧ u.heaterQuiet.fridgeQuiet.fridge.speed ≤ 1 := by
        unfold State.fridgeQuiet
        split
        next hrun => exact ⟨(State.setSpeed_tame _ (.inr hrun) hquiet).1, State.setSpeed_capped _⟩
        next hrun => exact ⟨hquiet, hquiet.capped hrun⟩
      obtain ⟨ht, hv⟩ := (State.fridgeTame.same (t := ((u.heaterQuiet.fridgeQuiet).cabQuietSet).heaterAttention.fridgeAttention)
        (by simp) (by simp)) hslow.1
      have := hslow.2
      exact (fridgeLaw_iff _).mpr ⟨ht, fun _ => by omega⟩
    next hq =>
      refine h.congr (by simp [hfridge]) (by simp [h6]) (fun hq' => absurd ?_ hq) (by simp [hu])
      simpa [hu] using hq'

theorem State.coldRoom_fridgeLaw {s : State} {n : Nat} (hf : s.sense.fridgeT.fault = false)
    (hd : (s.sense.fridgeT.window n).fault = true) (h : FridgeLaw s) : FridgeLaw (s.tempWindow .c3 n) := by
  obtain ⟨hsound, -⟩ := (fridgeLaw_iff s).mp h
  rw [State.tempWindow_c3_faulted hf hd]
  generalize hu : State.withFridge (State.withFridge _ _) _ = u
  have hfridge : u.fridge = { s.fridge with call := s.fridge.workCall (s.sense.fridgeT.window n).value true, warmRun := none } := by
    rw [← hu]
    simp [State.takeTemp]
  have h6 : u.timers.t6 = s.timers.t6 := by
    rw [← hu]
    simp [State.takeTemp]
  have hu : u.fridgeSound := by
    unfold State.fridgeSound
    rw [hfridge, h6]
    exact { hsound with warm := nofun }
  obtain ⟨ht, hv⟩ := u.c3Faults_capped hu
  exact (fridgeLaw_iff _).mpr ⟨ht, fun _ => hv⟩

theorem Piece.fridgeLaw {c : Instr} {r s t : State} (p : Piece c r s t) (hc : ¬∃ edges, c = .tachWindowEnd edges)
    (h : FridgeLaw s) : FridgeLaw t := by
  cases p with
  | mode m =>
    have hf := s.enterMode_frame m
    exact h.congr (by rw [hf.only]; rfl) (by rw [hf.only]; rfl) (by rw [hf.only]; exact id) (by rw [hf.only]; exact id)
  | sense x hx => exact h.congr rfl rfl id hx.2.1
  | quiet => exact State.workQuiet_fridgeLaw h
  | notice => exact h.congr (by simp) (by simp) (by simp) (by simp)
  | accountNotice => exact h.congr (by simp) (by simp) (by simp) (by simp)
  | raise => exact h.congr (by simp) (by simp) (by simp) (by simp)
  | remove => exact h.congr (by simp) (by simp) (by simp) (by simp)
  | warn hw =>
    have hf := hw.frame
    exact h.congr (by rw [hf.only]) (by rw [hf.only]) (by rw [hf.only]; exact id) (by rw [hf.only]; exact id)
  | heater hh =>
    have hf := hh.frame
    exact h.congr (by rw [hf.only]) (by rw [hf.only]) (by rw [hf.only]; exact id) (by rw [hf.only]; exact id)
  | lock => exact h.congr rfl rfl id id
  | fridge hp => exact hp.fridgeLaw hc h
  | stall _ hx => exact absurd hx hc
  | lights hl =>
    have hf : s.lightFrame t := hl.frame
    exact h.congr (by rw [hf.only]) (by rw [hf.only]) (by rw [hf.only]; exact id) (by rw [hf.only]; exact id)
  | overheat held =>
    have hf := s.debounced_ovht_only held
    have hsense := s.debounced_ovht_fridgeT held
    exact h.congr (by rw [hf]) (by rw [hf]) (by rw [hf]; exact id) (by rw [hsense]; exact id)
  | coldRoom n hn hf hd => exact State.coldRoom_fridgeLaw hf hd h
  | period i =>
    have hf := s.periodEnd_only i
    exact h.congr (by rw [hf]) (s.periodEnd_running i .t6) (by rw [hf]; exact id) (by rw [hf]; exact id)
  | release =>
    have hf := s.releasePresenter_only
    exact h.congr (by rw [hf]) (by rw [hf]) (by rw [hf]; exact id) (by rw [hf]; exact id)
  | _ => exact h.congr rfl rfl id id

/-! ### The commands -/

theorem State.tachWindow_fridgeLaw {s : State} {rate : Nat} (hr : s.rst.asserted = false) (h : FridgeLaw s) :
    FridgeLaw (s.tachWindow rate) := by
  obtain ⟨u, hu⟩ : ∃ u, u = ({ s with sense := { s.sense with tachRate := rate } } : State) := ⟨_, rfl⟩
  obtain ⟨hsound, hcap⟩ : u.fridgeSound ∧ (u.quiet = true ∨ u.sense.fridgeT.fault = true → u.fridge.speed ≤ 1) := by
    rw [hu]
    exact (fridgeLaw_iff s).mp h
  have hstate : u.fridge = s.fridge := by rw [hu]
  have hur : u.rst.asserted = false := by rw [hu]; exact hr
  have hlaw : ∀ {v t : State}, (v.fridge.speed ≤ 1 ∨ v.fridge.speed = u.fridge.speed) → t.fridgeSound →
      (t.fridge.speed ≤ 1 ∨ t.fridge.speed = v.fridge.speed) → t.quiet = u.quiet → t.sense = u.sense → FridgeLaw t := by
    intro v t hv ht hw hq hs
    refine (fridgeLaw_iff t).mpr ⟨ht, fun hx => ?_⟩
    rw [hq, hs] at hx
    have := hcap hx
    omega
  obtain ⟨hv, hstalls⟩ := State.tachReading_stalls rate hsound
  simp only [State.tachWindow]
  rw [← hu, ← hstate]
  have hstand : (u.tachReading rate).fridgeStanding := hstalls.imp id fun hx => ⟨hx.1, hx.2.2⟩
  unfold State.passIf
  split
  · obtain ⟨ht, hw⟩ := State.pass_sound (by simpa using hur) hstand
    exact hlaw hv ht hw (by simp) (by simp)
  next hc =>
    have ht : (u.tachReading rate).fridgeSound := hstalls.resolve_right fun hx => hc (by simp [hx.1, hx.2.1])
    exact hlaw hv ht (.inr rfl) (by simp) (by simp)

theorem State.assertReset_fridgeLaw {s : State} (h : FridgeLaw s) : FridgeLaw s.assertReset := by
  obtain ⟨hsound, -⟩ := (fridgeLaw_iff s).mp h
  have hfridge : s.assertReset.fridge = s.fridge.atReset := by simp [State.assertReset, State.quietPresenter]
  have h6 : s.assertReset.timers.t6.running = false := rfl
  suffices s.fridge.atReset.sound false by
    refine (fridgeLaw_iff _).mpr ⟨?_, fun _ => ?_⟩
    · rw [hfridge, h6]
      exact this
    · rw [hfridge]
      exact Nat.zero_le 1
  have hstalls : s.fridge.stalls ≤ 3 ∧ (s.fridge.stalls = 3 ↔ s.fridge.atReset.state = .fault) := by
    refine ⟨hsound.stalls.1, hsound.stalls.2.trans ?_⟩
    unfold Fridge.atReset
    by_cases hf : s.fridge.state = .fault <;> simp [hf]
  have hst : s.fridge.atReset.state = .rest ∨ s.fridge.atReset.state = .fault := by
    unfold Fridge.atReset
    by_cases hf : s.fridge.state = .fault <;> simp [hf]
  have hstop := (hsound.stop (p := none) hst hstalls fun hn => absurd rfl hn).remonitor (m := s.fridge.monitored) (w := none)
    nofun
  refine { hstop with offSeconds := ?_ }
  unfold Fridge.atReset
  dsimp only
  split
  · exact Nat.zero_le _
  · exact hsound.offSeconds

theorem exec_fridgeLaw {c : Instr} {s t : State} (h : exec c s = .next t) (hs : FridgeLaw s) : FridgeLaw t := by
  by_cases htach : ∃ edges, c = .tachWindowEnd edges
  · obtain ⟨edges, rfl⟩ := htach
    cases h
    unfold State.outOfReset
    split
    · exact hs
    next hr => exact State.tachWindow_fridgeLaw (by simpa using hr) hs
  · refine exec_keeps_of_pieces_of (P := FridgeLaw) (fun p => p.fridgeLaw htach) (fun hr hs => ?_) (fun s => ?_)
      (fun _ => State.assertReset_fridgeLaw) h hs
    · exact hs.tame (fun hx => State.pass_sound hr (.inl hx)) (by simp) (by simp)
    · refine (fridgeLaw_iff _).mpr ⟨?_, fun _ => by simp [State.reset]⟩
      constructor <;> simp [State.reset, FridgeState.turning, Timer.cold]

/-- Settles O60: an operation of the fridge moves its items together, and the pass takes the presentation of a FAULT. -/
theorem stepKeepsTheFridgeLaw : Obligations.StepKeepsTheFridgeLaw := by
  unfold Obligations.StepKeepsTheFridgeLaw
  intro s t h hs
  exact step_keeps (P := FridgeLaw) exec_fridgeLaw (fun _ _ h => h) h hs

end Sys2Proof.Machine
end

section
/-! PROOF. O42: the compressor's rest. -/
namespace Sys2Proof.Machine

/-- How the compressor and its off count move within a command: what takes it off begins the count afresh, and it comes
on into START with the count run out. -/
structure Fridge.rests (f g : Fridge) : Prop where
  minOff : g.minOff = f.minOff
  on : f.state.turning = true → g.state.turning = true →
    g.offSeconds = f.offSeconds ∧ (f.state = .start → f.speed = 1 → g.state = .start ∧ g.speed = 1)
  stopped : f.state.turning = true → g.state.turning = false → g.offSeconds = 0
  off : f.state.turning = false → g.state.turning = false → g.offSeconds = f.offSeconds ∨ g.offSeconds = 0
  started : f.state.turning = false → g.state.turning = true →
    g.state = .start ∧ g.speed = 1 ∧ g.offSeconds = f.offSeconds ∧ f.minOff ≤ f.offSeconds

/-- The min-off time is in its range (R176). -/
def Fridge.timed (f : Fridge) : Prop := 120 ≤ f.minOff ∧ f.minOff ≤ 600

theorem Fridge.rests.refl (f : Fridge) : f.rests f where
  minOff := rfl
  on _ _ := ⟨rfl, fun h k => ⟨h, k⟩⟩
  stopped h k := absurd (h.symm.trans k) nofun
  off _ _ := .inl rfl
  started h k := absurd (h.symm.trans k) nofun

theorem Fridge.rests.of_eq {f g : Fridge} (hs : g.state = f.state) (hv : g.speed = f.speed) (hm : g.minOff = f.minOff)
    (ho : g.offSeconds = f.offSeconds) : f.rests g where
  minOff := hm
  on _ _ := ⟨ho, fun h k => ⟨hs.trans h, hv.trans k⟩⟩
  stopped h k := absurd (h.symm.trans ((congrArg FridgeState.turning hs).symm.trans k)) nofun
  off _ _ := .inl ho
  started h k := absurd (h.symm.trans ((congrArg FridgeState.turning hs).symm.trans k)) nofun

theorem Fridge.rests.trans {f g x : Fridge} (ht : f.timed) (h : f.rests g) (k : g.rests x) : f.rests x where
  minOff := k.minOff.trans h.minOff
  on hf hx := by
    cases hg : g.state.turning with
    | true =>
      obtain ⟨h1, h2⟩ := h.on hf hg
      obtain ⟨k1, k2⟩ := k.on hg hx
      exact ⟨k1.trans h1, fun hs hv => k2 (h2 hs hv).1 (h2 hs hv).2⟩
    | false =>
      have h0 := h.stopped hf hg
      obtain ⟨-, -, -, hle⟩ := k.started hg hx
      rw [h0, h.minOff] at hle
      exact absurd (ht.1.trans hle) (by omega)
  stopped hf hx := by
    cases hg : g.state.turning with
    | true => exact k.stopped hg hx
    | false =>
      have h0 := h.stopped hf hg
      exact (k.off hg hx).elim (fun he => he.trans h0) id
  off hf hx := by
    cases hg : g.state.turning with
    | true => exact .inr (k.stopped hg hx)
    | false =>
      obtain hk | hk := k.off hg hx
      · rw [hk]
        exact h.off hf hg
      · exact .inr hk
  started hf hx := by
    cases hg : g.state.turning with
    | true =>
      obtain ⟨h1, h2, h3, h4⟩ := h.started hf hg
      obtain ⟨k1, k2⟩ := k.on hg hx
      exact ⟨(k2 h1 h2).1, (k2 h1 h2).2, k1.trans h3, h4⟩
    | false =>
      obtain ⟨k1, k2, k3, k4⟩ := k.started hg hx
      rw [h.minOff] at k4
      obtain hg | hg := h.off hf hg
      · exact ⟨k1, k2, k3.trans hg, hg ▸ k4⟩
      · rw [hg] at k4
        exact absurd (ht.1.trans k4) (by omega)

theorem Fridge.rests.timed {f g : Fridge} (h : f.rests g) (ht : f.timed) : g.timed := by
  unfold Fridge.timed
  rw [h.minOff]
  exact ht

/-- The operations that keep the compressor's rest, from a fridge whose min-off time is in its range. -/
def State.fridgeRests (s t : State) : Prop := s.fridge.timed → s.fridge.rests t.fridge

theorem State.fridgeRests.refl (s : State) : s.fridgeRests s := fun _ => .refl _

theorem State.fridgeRests.trans {s u t : State} (h : s.fridgeRests u) (k : u.fridgeRests t) : s.fridgeRests t :=
  fun ht => .trans ht (h ht) (k ((h ht).timed ht))

theorem State.fridgeRests.same {s t : State} (hf : t.fridge = s.fridge) : s.fridgeRests t := fun _ => by
  rw [hf]
  exact .refl _

section
variable (s : State)

theorem State.enterStart_rests (hs : s.fridge.state.turning = false) (hm : s.fridge.minOff ≤ s.fridge.offSeconds) :
    s.fridge.rests s.enterStart.fridge := by
  rw [s.enterStart_does.1]
  exact
    { minOff := rfl, on := fun h => absurd (h.symm.trans hs) nofun, stopped := fun h => absurd (h.symm.trans hs) nofun
      off := fun _ => nofun, started := fun _ _ => ⟨rfl, rfl, rfl, hm⟩ }

theorem State.stopToRest_rests : s.fridge.rests s.stopToRest.fridge := by
  rw [s.stopToRest_does.1]
  exact
    { minOff := rfl, on := fun _ => nofun, stopped := fun _ _ => rfl, off := fun _ _ => .inr rfl, started := fun _ => nofun }

theorem State.startTest_rests : s.fridgeRests s.startTest := fun ht => by
  unfold State.startTest
  split
  · exact .refl _
  next hi =>
    have hoff : s.fridge.state.turning = false := by rw [not_not.mp hi]; rfl
    split <;> split
    next ho => exact s.enterStart_rests hoff (ht.2.trans (by omega))
    next => exact .refl _
    next hm => exact s.enterStart_rests hoff hm.2
    next => exact .refl _

/-- Between two states with the compressor off nothing else moves. -/
theorem State.fridgeGo_rests {st : FridgeState} (hs : s.fridge.state.turning = false) (ht : st.turning = false) :
    s.fridgeRests (s.fridgeGo st) := fun _ => by
  rw [State.fridgeGo_fridge]
  exact
    { minOff := rfl, on := fun h => absurd (h.symm.trans hs) nofun, stopped := fun h => absurd (h.symm.trans hs) nofun
      off := fun _ _ => .inl rfl, started := fun _ h => absurd (h.symm.trans ht) nofun }

theorem State.enterIdle_rests (hs : s.fridge.state.turning = false) : s.fridgeRests s.enterIdle :=
  (s.fridgeGo_rests (st := .idle) hs rfl).trans (State.startTest_rests _)

theorem State.endRestIfDue_rests : s.fridgeRests s.endRestIfDue := by
  unfold State.endRestIfDue State.endRestPhase
  split
  next hs =>
    have hoff : s.fridge.state.turning = false := by rw [hs.1]; rfl
    split
    · exact s.enterIdle_rests hoff
    · exact s.fridgeGo_rests hoff rfl
  next => exact .refl s

theorem State.minOffEnd_rests : s.fridgeRests s.minOffEnd := by
  unfold State.minOffEnd
  split
  · exact s.endRestIfDue_rests
  · split
    · exact .refl s
    · exact s.startTest_rests
  · exact .refl s

theorem State.fixedCycleOnEnd_rests : s.fridgeRests s.fixedCycleOnEnd := by
  unfold State.fixedCycleOnEnd
  split
  · exact fun _ => s.stopToRest_rests
  · exact .refl s

theorem State.setSpeed_rests {v : Nat} (hs : s.fridge.state = .run ∨ v = 1) : s.fridgeRests (s.setSpeed v) := fun _ => by
  have hkept : (s.setSpeed v).fridge.offSeconds = s.fridge.offSeconds := by
    unfold State.setSpeed
    split <;> simp
  have hspeed : (s.setSpeed v).fridge.speed = v := by
    unfold State.setSpeed
    split
    next he => exact he
    next => simp
  have hstate := s.setSpeed_state v
  exact
    { minOff := by simp
      on := fun _ _ => ⟨hkept, fun h _ => ⟨hstate.trans h, by
        obtain hs | hs := hs
        · cases hs.symm.trans h
        · exact hspeed.trans hs⟩⟩
      stopped := fun h k => absurd (h.symm.trans ((congrArg FridgeState.turning hstate).symm.trans k)) nofun
      off := fun _ _ => .inl hkept
      started := fun h k => absurd (h.symm.trans ((congrArg FridgeState.turning hstate).symm.trans k)) nofun }

theorem State.c3Faults_rests : s.fridgeRests s.c3Faults := by
  unfold State.c3Faults
  split
  · exact (s.setSpeed_rests (.inr rfl)).trans (State.fixedCycleOnEnd_rests _)
  · exact (s.setSpeed_rests (.inr rfl)).trans (State.fixedCycleOnEnd_rests _)
  · exact s.startTest_rests
  · exact .refl s

theorem State.presentFridge_rests (p : Option Presented) : s.fridgeRests (s.presentFridge p) := by
  have hset : s.fridgeRests (s.withFridge fun f => { f with presented := p }) := fun _ => .of_eq rfl rfl rfl rfl
  refine hset.trans ?_
  simp only [State.presentFridge]
  generalize s.withFridge (fun f => { f with presented := p }) = u
  split
  · unfold State.fridgePresented
    split
    next hs => exact u.enterIdle_rests (by rw [hs]; rfl)
    next => exact .refl u
  · split
    · unfold State.fridgeWithdrawn
      split
      next hs => exact u.fridgeGo_rests (by rw [hs]; rfl) rfl
      next => exact fun _ => u.stopToRest_rests
      next => exact fun _ => u.stopToRest_rests
      next => exact .refl u
    · exact .refl u

theorem State.workMonitor_rests (os : List Order) : s.fridgeRests (s.workMonitor os) := by
  unfold State.workMonitor
  split
  · exact fun _ => .of_eq rfl rfl rfl rfl
  · have hgone : s.fridgeRests (s.withFridge fun f => { f with monitored := none, warmRun := none }) :=
      fun _ => .of_eq rfl rfl rfl rfl
    dsimp only
    split
    · exact hgone.trans (.same (by simp))
    · exact hgone

theorem State.pass_rests : s.fridgeRests s.pass := by
  simp only [State.pass]
  split
  · exact .refl s
  · refine State.fridgeRests.trans (.same ?_) ((State.presentFridge_rests _ _).trans
      (State.fridgeRests.trans (.same (State.presentLights_fridge _ _).1) (State.workMonitor_rests _ _)))
    simp

theorem State.workQuiet_rests : s.fridgeRests s.workQuiet := by
  simp only [State.workQuiet]
  split
  · exact .refl s
  · generalize hu : ({ s with quiet := s.quietNow } : State).accountNotice = u
    have hsame : s.fridgeRests u := .same (by simp [← hu])
    split
    · have hslow : u.heaterQuiet.fridgeRests u.heaterQuiet.fridgeQuiet := by
        unfold State.fridgeQuiet
        split
        · exact State.setSpeed_rests _ (.inr rfl)
        · exact .refl _
      exact ((hsame.trans (.same (by simp))).trans hslow).trans (.same (by simp))
    · exact hsame.trans (.same (by simp))

theorem State.c3InRun_rests {setpoint value : Int} (hs : s.fridge.state = .run) :
    s.fridgeRests (s.c3InRun setpoint value) := by
  unfold State.c3InRun
  split
  · exact fun _ => s.stopToRest_rests
  · exact s.setSpeed_rests (.inl hs)

end

/-- The commands whose own work on the fridge is looked at by itself. -/
def worksRest (c : Instr) : Prop :=
  (∃ edges, c = .tachWindowEnd edges) ∨ (∃ whole, c = .timebaseSecond whole) ∨ (∃ n, c = .fset n) ∨ c = .resetEnd

theorem FridgeOp.rests {c : Instr} {s t : State} (p : FridgeOp c s t) (hc : ¬worksRest c) : s.fridgeRests t := by
  cases p with
  | endRest => exact s.endRestIfDue_rests
  | minOffEnd => exact s.minOffEnd_rests
  | cycleOn => exact s.fixedCycleOnEnd_rests
  | cycleOff =>
    unfold State.fixedCycleOffEnd
    split
    · exact s.startTest_rests
    · exact .refl s
  | clearStalls =>
    unfold State.runClearsStalls
    split
    · exact fun _ => .of_eq rfl rfl rfl rfl
    · exact .refl s
  | tach _ h => exact absurd (.inl h) hc
  | setMinOff _ h => exact absurd (.inr (.inr (.inl h))) hc
  | clearFault hs =>
    have hzero : s.fridgeRests (s.withFridge fun f => { f with stalls := 0 }) := fun _ => .of_eq rfl rfl rfl rfl
    exact hzero.trans (State.fridgeGo_rests _ (show s.fridge.state.turning = false by rw [hs]; rfl) rfl)
  | second h => exact absurd (.inr (.inl h)) hc
  | endReset h => exact absurd (.inr (.inr (.inr h))) hc
  | call => exact fun _ => .of_eq rfl rfl rfl rfl
  | warm => exact fun _ => .of_eq rfl rfl rfl rfl
  | start => exact s.startTest_rests
  | inRun _ _ hs => exact s.c3InRun_rests hs

theorem State.coldRoom_rests {s : State} {n : Nat} (hf : s.sense.fridgeT.fault = false)
    (hd : (s.sense.fridgeT.window n).fault = true) : s.fridgeRests (s.tempWindow .c3 n) := by
  rw [State.tempWindow_c3_faulted hf hd]
  generalize hu : State.withFridge (State.withFridge _ _) _ = u
  have hfridge : u.fridge = { s.fridge with call := s.fridge.workCall (s.sense.fridgeT.window n).value true, warmRun := none } := by
    rw [← hu]
    simp [State.takeTemp]
  have hsame : s.fridgeRests u := fun _ => by
    rw [hfridge]
    exact .of_eq rfl rfl rfl rfl
  exact hsame.trans u.c3Faults_rests

theorem Piece.rests {c : Instr} {r s t : State} (p : Piece c r s t) (hc : ¬worksRest c) : s.fridgeRests t := by
  cases p with
  | mode m => exact .same (by rw [(s.enterMode_frame m).only]; rfl)
  | quiet => exact s.workQuiet_rests
  | notice => exact .same (by simp)
  | accountNotice => exact .same (by simp)
  | raise => exact .same (by simp)
  | remove => exact .same (by simp)
  | warn hw => exact .same (by rw [hw.frame.only])
  | heater hh => exact .same (by rw [hh.frame.only])
  | fridge hp => exact hp.rests hc
  | stall _ h => exact absurd (.inl h) hc
  | lights hl =>
    have hf : s.lightFrame t := hl.frame
    exact .same (by rw [hf.only])
  | overheat held => exact .same (by rw [s.debounced_ovht_only held])
  | coldRoom n hn hf hd => exact State.coldRoom_rests hf hd
  | period i => exact .same (by rw [s.periodEnd_only i])
  | release => exact .same (by rw [s.releasePresenter_only])
  | _ => exact .same rfl

theorem Runs.rests {c : Instr} {r s : State} {b : Bool} (h : Runs c r b s) (hc : ¬worksRest c) : r.fridgeRests s := by
  induction h with
  | start => exact .refl _
  | calm _ p _ ih => exact ih.trans (p.rests hc)
  | other _ p ih => exact ih.trans (p.rests hc)
  | passed _ _ _ ih => exact ih.trans (State.pass_rests _)

/-! ### The commands -/

/-- What O42 says of one command. -/
def compressorRests (f g : Fridge) : Prop :=
  (f.state.turning = false → g.state.turning = true → g.state = .start ∧ g.speed = 1 ∧ g.minOff ≤ g.offSeconds) ∧
  (f.state.turning = true → g.state.turning = false → g.offSeconds = 0)

theorem Fridge.rests.compressor {f g : Fridge} (h : f.rests g) : compressorRests f g := by
  refine ⟨fun hf hg => ?_, h.stopped⟩
  obtain ⟨h1, h2, h3, h4⟩ := h.started hf hg
  refine ⟨h1, h2, ?_⟩
  rw [h3, h.minOff]
  exact h4

/-- Work on the fridge that leaves its compressor before what keeps its rest. -/
theorem compressorRests.after {f f' g : Fridge} (hs : f'.state.turning = f.state.turning) (h : compressorRests f' g) :
    compressorRests f g := by
  unfold compressorRests at h ⊢
  rw [← hs]
  exact h

theorem not_worksRest_minuteExpiry : ¬worksRest .minuteExpiry := by
  rintro (⟨e, h⟩ | ⟨w, h⟩ | ⟨n, h⟩ | h) <;> cases h

theorem movesClock_minuteExpiry : movesClock .minuteExpiry := .inr (.inl rfl)

theorem second_rests {s : State} (whole : Bool) (ht : s.fridge.timed) :
    compressorRests s.fridge
      (if whole then (s.secondHeldOut.outOfReset State.secondLoads).takeDue (decide (59 ≤ s.clock.prescaler))
       else (s.secondHeldOut.outOfReset State.secondLoads).testDrivers).fridge := by
  obtain ⟨u, hu⟩ : ∃ u, u = s.secondHeldOut.outOfReset State.secondLoads := ⟨_, rfl⟩
  have hfridge : u.fridge = s.fridge ∨ u.fridge = s.fridge.second := by
    rw [hu]
    unfold State.outOfReset
    split
    · exact .inl rfl
    · exact .inr (by simp [State.secondLoads, State.secondHeldOut])
  obtain ⟨hstate, hminOff⟩ : u.fridge.state = s.fridge.state ∧ u.fridge.minOff = s.fridge.minOff := by
    obtain h | h := hfridge
    · rw [h]
      exact ⟨rfl, rfl⟩
    · rw [h]
      exact ⟨rfl, rfl⟩
  have htimed : u.fridge.timed := by
    unfold Fridge.timed
    rw [hminOff]
    exact ht
  rw [← hu]
  refine compressorRests.after (congrArg FridgeState.turning hstate) ?_
  have hstart : Runs .minuteExpiry u true u := .start true
  split
  · exact ((hstart.takeDue movesClock_minuteExpiry _).rests not_worksRest_minuteExpiry htimed).compressor
  · exact (hstart.testDrivers.rests not_worksRest_minuteExpiry htimed).compressor

theorem State.placeHeld_fridge (s : State) (ws : List HeldWake) : (s.placeHeld ws).fridge = s.fridge := by
  induction ws generalizing s with
  | nil => rfl
  | cons w ws ih => exact (ih _).trans (by simp)

theorem endReset_rests {s : State} (ht : s.fridge.timed) : compressorRests s.fridge s.endReset.fridge := by
  have hreleased : s.testAllDriving.releasePresenter.fridge = s.fridge := by
    rw [State.releasePresenter_only]
    simp [State.testAllDriving]
  obtain ⟨u, hu⟩ : ∃ u, u = State.fridgeEndReset
    ((((s.testAllDriving.releasePresenter.settle).placeHeld s.testAllDriving.rst.heldWakes).noticeIf
      s.testAllDriving.rst.accountNotice .account).heaterEndReset s.testAllDriving.rst.heaterMoved)
    s.testAllDriving.rst.fridgeMoved := ⟨_, rfl⟩
  have heq : s.endReset = (((u.noticeIf u.charge.attention .charge).moveAccounts.settle).pass).settleCause := by
    rw [hu]
    rfl
  have hfridge : u.fridge = { s.fridge with offSeconds := 0 } := by
    rw [hu]
    simp [State.fridgeEndReset, State.heaterEndReset, State.placeHeld_fridge, hreleased]
  have htimed : u.fridge.timed := by
    rw [hfridge]
    exact ht
  have hrest : u.fridgeRests ((u.noticeIf u.charge.attention .charge).moveAccounts.settle).pass := by
    refine State.fridgeRests.trans (.same ?_) (State.pass_rests _)
    simp
  rw [heq]
  exact compressorRests.after (by rw [hfridge]) (hrest htimed).compressor

/-- R170: a window's rate turns the compressor on, leaves it on or stops it with its count at 0. -/
theorem tachReading_rests (s : State) (rate : Nat) :
    (s.tachReading rate).fridge = s.fridge ∨
    (s.fridge.state.turning = true ∧
      ((s.tachReading rate).fridge.state.turning = true ∨ (s.tachReading rate).fridge.offSeconds = 0)) := by
  have hattention : s.fridgeAttention.fridge = s.fridge := by simp
  rw [← hattention]
  simp only [State.tachReading]
  generalize s.fridgeAttention = u
  have hstall : u.stall.fridge.offSeconds = 0 := by rw [u.stall_does.1]
  split
  next hs =>
    refine .inr ⟨by rw [hs]; rfl, ?_⟩
    split
    · refine .inl ?_
      rw [State.enterFridgeRun, State.fridgeGo_fridge]
      rfl
    · split
      · exact .inr hstall
      · exact .inl (congrArg FridgeState.turning hs)
  next hs =>
    refine .inr ⟨by rw [hs]; rfl, ?_⟩
    generalize (if rate < 15 then u.fridge.lowWindows.getD 0 + 1 else 0) = n
    split
    · exact .inr hstall
    · exact .inl (congrArg FridgeState.turning hs)
  next => exact .inl rfl

theorem tachWindow_rests {s : State} {rate : Nat} (ht : s.fridge.timed) :
    compressorRests s.fridge (s.tachWindow rate).fridge := by
  obtain ⟨u, hu⟩ : ∃ u, u = ({ s with sense := { s.sense with tachRate := rate } } : State).tachReading rate := ⟨_, rfl⟩
  have hread : u.fridge = s.fridge ∨
      (s.fridge.state.turning = true ∧ (u.fridge.state.turning = true ∨ u.fridge.offSeconds = 0)) := by
    rw [hu]
    exact tachReading_rests _ rate
  have htimed : u.fridge.timed := by
    have hminOff : u.fridge.minOff = s.fridge.minOff := by simp [hu]
    unfold Fridge.timed
    rw [hminOff]
    exact ht
  have hpass : ∀ p, u.fridge.rests (u.passIf p).fridge := by
    intro p
    unfold State.passIf
    split
    · exact u.pass_rests htimed
    · exact .refl _
  simp only [State.tachWindow]
  rw [← hu]
  generalize (decide (u.fridge.state = .fault) && decide (s.fridge.state ≠ .fault)) = p
  have hpass := hpass p
  obtain hread | ⟨hs, hread⟩ := hread
  · rw [← hread]
    exact hpass.compressor
  · refine ⟨fun hn => absurd (hs.symm.trans hn) nofun, fun _ hoff => ?_⟩
    cases hon : u.fridge.state.turning with
    | true => exact hpass.stopped hon hoff
    | false =>
      obtain hread | hread := hread
      · exact absurd (hread.symm.trans hon) nofun
      · exact (hpass.off hon hoff).elim (fun he => he.trans hread) id

theorem reqFset_rests (s : State) (n : Nat) : compressorRests s.fridge (reqFset n s).1.fridge := by
  have hclamp : 120 ≤ clampNat 120 600 n ∧ clampNat 120 600 n ≤ 600 := by
    unfold clampNat
    split <;> [skip; split] <;> omega
  have hfridge : (reqFset n s).1.fridge =
      (s.withFridge fun f => { f with minOff := clampNat 120 600 n }).endRestIfDue.fridge := by
    simp [reqFset]
  rw [hfridge]
  exact compressorRests.after (f' := { s.fridge with minOff := clampNat 120 600 n }) rfl
    ((State.endRestIfDue_rests (s.withFridge fun f => { f with minOff := clampNat 120 600 n })) hclamp).compressor

theorem State.takeFrame_fridge {s : State} (f : State → State × Reply) :
    (s.takeFrame f).fridge = s.fridge ∨ (s.takeFrame f).fridge = (f s.inFrame).1.fridge := by
  cases ha : s.rst.asserted with
  | true => exact .inl (by rw [State.takeFrame_asserted s f ha])
  | false =>
    by_cases hm : s.port.mode = .selfTest
    · exact .inl (by rw [State.takeFrame_selfTest s f ha hm]; simp)
    · exact .inr (by rw [State.takeFrame_served s f ⟨ha, hm⟩]; rfl)

theorem State.assertReset_rests (s : State) : compressorRests s.fridge s.assertReset.fridge := by
  have hfridge : s.assertReset.fridge = s.fridge.atReset := by simp [State.assertReset, State.quietPresenter]
  rw [hfridge]
  refine ⟨fun _ hon => ?_, fun hon _ => ?_⟩
  · have hoff : s.fridge.atReset.state.turning = false := by
      unfold Fridge.atReset
      dsimp only
      split <;> rfl
    exact absurd (hoff.symm.trans hon) nofun
  · have hst : s.fridge.state = .start ∨ s.fridge.state = .run := by
      simpa [FridgeState.turning] using hon
    simp [Fridge.atReset, hst]

/-- Settles O42: every piece keeps the compressor's rest, and the commands whose own work it is are looked at one by one. -/
theorem compressorKeepsItsRest : Obligations.CompressorKeepsItsRest := by
  unfold Obligations.CompressorKeepsItsRest
  intro c s t h hlaw
  have ht : s.fridge.timed := by
    obtain ⟨hsound, -⟩ := (fridgeLaw_iff s).mp hlaw
    exact ⟨hsound.minOffLow, hsound.minOffHigh⟩
  show compressorRests s.fridge t.fridge
  have hsame : compressorRests s.fridge s.fridge := (Fridge.rests.refl _).compressor
  by_cases hcold : c = .coldStart
  · subst hcold
    cases h
    exact ⟨fun _ => nofun, fun _ _ => rfl⟩
  by_cases hreset : c = .resetAssert
  · subst hreset
    cases h
    unfold State.outOfReset
    split
    · exact hsame
    · exact s.assertReset_rests
  by_cases hc : worksRest c
  · obtain ⟨edges, rfl⟩ | ⟨whole, rfl⟩ | ⟨n, rfl⟩ | rfl := hc
    · cases h
      unfold State.outOfReset
      split
      · exact hsame
      · exact tachWindow_rests ht
    · cases h
      exact second_rests whole ht
    · cases h
      obtain heq | heq := State.takeFrame_fridge (s := s) (reqFset n)
      · rw [heq]
        exact hsame
      · rw [heq]
        have hin := reqFset_rests s.inFrame n
        rwa [show s.inFrame.fridge = s.fridge by simp] at hin
    · cases h
      split
      · exact endReset_rests ht
      · exact hsame
  · exact ((exec_runs h hcold hreset).rests hc ht).compressor

end Sys2Proof.Machine
end

section
/-! PROOF. O59: the heater's law, on its record. -/
namespace Sys2Proof.Machine

/-- The heater's law on its record; `on` is the pump's timer and `hot` the level of OVHT. -/
structure Heater.sound (h : Heater) (on hot : Bool) : Prop where
  glow : h.glow = h.state.glows
  timer : on = h.state.burning
  phase : h.phase.isSome = h.state.timed
  cause : h.cause.isSome = decide (h.state = .cooldown)
  run : h.state = .run → 1 ≤ h.level ∧ h.level ≤ 4 ∧ 1 ≤ h.desired ∧ h.desired ≤ 4
  idle : h.state ≠ .run → h.level = 0 ∧ h.desired = 0
  satisfy : h.satisfy.isSome = true → h.state = .run ∧ h.level = 1
  failed : h.failed ≤ 3
  third : h.failed = 3 → h.state = .lockout ∨
    (h.state = .cooldown ∧ (h.cause = some .failedStart ∨ h.cause = some .overheat))
  restart : h.restart = true → h.state = .cooldown ∧ h.presented.isSome = true
  unpresented : h.presented = none → h.state = .off ∨ h.state = .cooldown ∨ h.state = .lockout
  locked : h.state = .lockout → h.presented = none
  heldOff : h.state = .off → h.presented.isSome = true → hot = true
  restarting : h.state = .cooldown → h.presented.isSome = true →
    h.cause = some .stopped ∨ (h.cause = some .failedStart ∧ h.failed < 3) → h.restart = true

/-- The law that holds through the end of a reset, where a cooldown's cause is still to be settled. -/
def HeaterCore (s : State) : Prop :=
  s.heater.sound s.timers.t4.running s.sense.ovht.level ∧ (s.quiet = true → s.heater.level ≤ 3) ∧
  (s.rst.asserted = true → s.heater.presented = none)

/-- A satisfied cooldown out of reset holds an order. -/
def HeaterCause (s : State) : Prop :=
  s.rst.asserted = false → s.heater.cause = some .satisfied → s.heater.presented.isSome = true

theorem heaterLaw_iff (s : State) : HeaterLaw s ↔ HeaterCore s ∧ HeaterCause s := by
  constructor
  · rintro ⟨h1, h2, h3, h4, h5, h6, h7, h8, h9, h10, h11, h12, h13, h14, h15, h16, h17⟩
    exact ⟨⟨⟨h1, h2, h3, h4, h5, h6, h7, h9, h10, h11, h12, h13, h16, h17⟩, h8, h15⟩, h14⟩
  · rintro ⟨⟨⟨h1, h2, h3, h4, h5, h6, h7, h9, h10, h11, h12, h13, h16, h17⟩, h8, h15⟩, h14⟩
    exact ⟨h1, h2, h3, h4, h5, h6, h7, h8, h9, h10, h11, h12, h13, h14, h15, h16, h17⟩

/-- A record with nothing of a burn or a cooldown left. -/
structure Heater.clear (h : Heater) : Prop where
  level : h.level = 0
  desired : h.desired = 0
  satisfy : h.satisfy = none
  cause : h.cause = none
  restart : h.restart = false
  failed : h.failed < 3

/-- The states of a record that is clear. -/
def HeaterState.starts (a : HeaterState) : Prop := a ≠ .run ∧ a ≠ .cooldown ∧ a ≠ .lockout

theorem Heater.clear.sound {h : Heater} (hc : h.clear) {st : HeaterState} {g : Bool} {p : Option Nat} {x : BitVec 24}
    {on hot : Bool} (hst : st.starts) (hg : g = st.glows) (hp : p.isSome = st.timed) (hon : on = st.burning)
    (hu : h.presented = none → st = .off) (ho : st = .off → h.presented.isSome = true → hot = true) :
    { h with state := st, glow := g, phase := p, fuel := x }.sound on hot where
  glow := hg
  timer := hon
  phase := hp
  cause := by
    show h.cause.isSome = decide (st = .cooldown)
    rw [hc.cause, decide_eq_false hst.2.1]
    rfl
  run hs := absurd hs hst.1
  idle _ := ⟨hc.level, hc.desired⟩
  satisfy hs := by
    rw [show h.satisfy = none from hc.satisfy] at hs
    cases hs
  failed := hc.failed.le
  third he := absurd he hc.failed.ne
  restart hr := absurd (hc.restart.symm.trans hr) nofun
  unpresented hn := .inl (hu hn)
  locked hl := absurd hl hst.2.2
  heldOff := ho
  restarting hs := absurd hs hst.2.1

/-- R149: RUN begins at level 2. -/
theorem Heater.clear.enterRun {h : Heater} (hc : h.clear) {x y : Nat} {z : BitVec 24} {hot : Bool} (hp : h.presented ≠ none) :
    { h with
      state := .run, glow := false, phase := none, level := 2, desired := 2, stepTimer := x, runSeconds := y
      satisfy := none, fuel := z }.sound true hot where
  glow := rfl
  timer := rfl
  phase := rfl
  cause := by
    show h.cause.isSome = false
    rw [hc.cause]
    rfl
  run _ := by simp
  idle hn := absurd rfl hn
  satisfy := nofun
  failed := hc.failed.le
  third he := absurd he hc.failed.ne
  restart hr := absurd (hc.restart.symm.trans hr) nofun
  unpresented hn := absurd hn hp
  locked := nofun
  heldOff := nofun
  restarting := nofun

/-- A cooldown by its cause and its mark of a restart. -/
theorem Heater.cooled {h : Heater} {c : CooldownCause} {n : Nat} {r : Bool} {hot : Bool} {d : Nat} (hn : n ≤ 3)
    (h3 : n = 3 → c = .failedStart ∨ c = .overheat) (hr : r = true → h.presented.isSome = true)
    (hs : h.presented.isSome = true → c = .stopped ∨ (c = .failedStart ∧ n < 3) → r = true) :
    { h with
      state := .cooldown, glow := false, phase := some d, cause := some c, level := 0, desired := 0, satisfy := none
      failed := n, restart := r }.sound false hot where
  glow := rfl
  timer := rfl
  phase := rfl
  cause := rfl
  run := nofun
  idle _ := ⟨rfl, rfl⟩
  satisfy := nofun
  failed := hn
  third he := .inr ⟨rfl, (h3 he).imp (congrArg some) (congrArg some)⟩
  restart hx := ⟨rfl, hr hx⟩
  unpresented _ := .inr (.inl rfl)
  locked := nofun
  heldOff := nofun
  restarting _ hp hx := hs hp (hx.imp (fun he => Option.some.inj he) fun he => ⟨Option.some.inj he.1, he.2⟩)

namespace Heater.sound

section
variable {h : Heater} {on hot : Bool} (hh : h.sound on hot)
include hh

theorem clear (hs : h.state.starts) : h.clear := by
  obtain ⟨h1, h2, h3⟩ := hs
  obtain ⟨hlevel, hdesired⟩ := hh.idle h1
  refine ⟨hlevel, hdesired, ?_, ?_, ?_, ?_⟩
  · cases hx : h.satisfy with
    | none => rfl
    | some x => exact absurd (hh.satisfy (by rw [hx]; rfl)).1 h1
  · have hcause := hh.cause
    rw [decide_eq_false h2] at hcause
    simpa using hcause
  · cases hx : h.restart with
    | false => rfl
    | true => exact absurd (hh.restart hx).1 h2
  · have hne : h.failed ≠ 3 := fun he => (hh.third he).elim h3 fun hx => h2 hx.1
    have := hh.failed
    omega

/-- In a start, a burn or SATISFIED the heater holds an order, has not failed three times and waits for no restart. -/
theorem active (h1 : h.state ≠ .off) (h2 : h.state ≠ .cooldown) (h3 : h.state ≠ .lockout) :
    h.presented ≠ none ∧ h.failed < 3 ∧ h.restart = false := by
  refine ⟨fun hn => (hh.unpresented hn).elim h1 fun hx => hx.elim h2 h3, ?_, ?_⟩
  · have hne : h.failed ≠ 3 := fun he => (hh.third he).elim h3 fun hx => h2 hx.1
    have := hh.failed
    omega
  · cases hx : h.restart with
    | false => rfl
    | true => exact absurd (hh.restart hx).1 h2

theorem burns (hs : h.state.burning = true) : h.presented ≠ none ∧ h.failed < 3 ∧ h.restart = false := by
  have hoff : h.state ≠ .off ∧ h.state ≠ .cooldown ∧ h.state ≠ .lockout := by
    obtain hst | hst | hst := (HeaterState.burning_iff _).mp hs <;> rw [hst] <;> exact ⟨nofun, nofun, nofun⟩
  exact hh.active hoff.1 hoff.2.1 hoff.2.2

/-- A presentation that stays a presentation. -/
theorem present {p : Option Presented} (hp : p = none ↔ h.presented = none) : { h with presented := p }.sound on hot := by
  have hsome : p.isSome = h.presented.isSome := by
    cases hx : h.presented with
    | none => rw [hp.mpr hx]
    | some x =>
      cases p with
      | none => exact absurd (hx.symm.trans (hp.mp rfl)) nofun
      | some y => rfl
  exact
    { hh with
      restart := fun hr => ⟨(hh.restart hr).1, hsome.trans (hh.restart hr).2⟩
      unpresented := fun hn => hh.unpresented (hp.mp hn)
      locked := fun hl => hp.mpr (hh.locked hl)
      heldOff := fun hs ho => hh.heldOff hs (hsome ▸ ho)
      restarting := fun hs ho => hh.restarting hs (hsome ▸ ho) }

end

end Heater.sound

end Sys2Proof.Machine
end

section
/-! PROOF. O59: every operation of the heater keeps its law. -/
namespace Sys2Proof.Machine

def State.heaterSound (s : State) : Prop := s.heater.sound s.timers.t4.running s.sense.ovht.level

/-- The heater's record keeps its law, raises no level above 3 and enters no satisfied cooldown without an order. -/
structure State.heaterTame (s t : State) : Prop where
  presented : t.heater.presented = s.heater.presented
  sound : s.heaterSound → t.heaterSound
  level : s.heaterSound → t.heater.level ≤ 3 ∨ t.heater.level = s.heater.level
  cause : s.heaterSound → t.heater.cause = some .satisfied →
    s.heater.cause = some .satisfied ∨ s.heater.presented.isSome = true

theorem State.heaterTame.refl (s : State) : s.heaterTame s := ⟨rfl, id, fun _ => .inr rfl, fun _ => .inl⟩

theorem State.heaterTame.trans {s u t : State} (h : s.heaterTame u) (k : u.heaterTame t) : s.heaterTame t where
  presented := k.presented.trans h.presented
  sound hs := k.sound (h.sound hs)
  level hs := by
    have h1 := h.level hs
    have h2 := k.level (h.sound hs)
    omega
  cause hs hc := by
    obtain hu | hu := k.cause (h.sound hs) hc
    · exact h.cause hs hu
    · exact .inr (h.presented ▸ hu)

theorem State.heaterTame.same {s t : State} (hh : t.heater = s.heater) (h4 : t.timers.t4.running = s.timers.t4.running)
    (ho : t.sense.ovht.level = s.sense.ovht.level) : s.heaterTame t := by
  have hsound : s.heaterSound → t.heaterSound := by
    unfold State.heaterSound
    rw [hh, h4, ho]
    exact id
  exact ⟨by rw [hh], hsound, fun _ => .inr (by rw [hh]), fun _ hc => .inl (by rw [← hh]; exact hc)⟩

/-- A tame change leaves the law standing where quiet and RESET stand. -/
theorem HeaterCore.tame {s t : State} (h : HeaterCore s) (hm : s.heaterTame t) (hq : t.quiet = s.quiet)
    (hr : t.rst.asserted = s.rst.asserted) : HeaterCore t := by
  obtain ⟨hsound, hcap, hgone⟩ := h
  refine ⟨hm.sound hsound, fun hx => ?_, fun hx => hm.presented.trans (hgone (hr ▸ hx))⟩
  have h1 := hcap (hq ▸ hx)
  have h2 := hm.level hsound
  omega

theorem HeaterCause.tame {s t : State} (h : HeaterCause s) (hs : s.heaterSound) (hm : s.heaterTame t)
    (hr : t.rst.asserted = s.rst.asserted) : HeaterCause t := fun ha hc => by
  rw [hm.presented]
  exact (hm.cause hs hc).elim (fun hx => h (hr ▸ ha) hx) id

section
variable (s : State)

theorem State.heaterAttention_tame : s.heaterTame s.heaterAttention := .same (by simp) (by simp) (by simp)

theorem State.writePump_running (rate : Nat) : (s.writePump rate).timers.t4.running = true := by
  exact (s.writePump_given rate).1

/-- A move to a state of a start from one whose record is clear. -/
theorem State.clearMove_tame {t : State} (st : HeaterState) (g : Bool) (p : Option Nat)
    (ht : t.heater = { s.heater with state := st, glow := g, phase := p, fuel := t.heater.fuel })
    (hsense : t.sense = s.sense) (hfrom : s.heater.state.starts) (hst : st.starts)
    (hg : s.heaterSound → g = st.glows) (hp : p.isSome = st.timed) (hon : s.heaterSound → t.timers.t4.running = st.burning)
    (hu : s.heaterSound → s.heater.presented = none → st = .off)
    (ho : st = .off → s.heater.presented.isSome = true → s.sense.ovht.level = true) : s.heaterTame t where
  presented := by rw [ht]
  sound hs := by
    unfold State.heaterSound
    rw [ht, hsense]
    exact (hs.clear hfrom).sound hst (hg hs) hp (hon hs) (hu hs) ho
  level _ := .inr (by rw [ht])
  cause _ hx := .inl (by rw [ht] at hx; exact hx)

theorem State.enterPreheat_t4 : s.enterPreheat.timers.t4 = s.timers.t4 := by
  simp [State.enterPreheat, State.writeFan]

theorem State.enterOff_t4 : s.enterOff.timers.t4 = s.timers.t4 := by
  simp [State.enterOff, State.writeFan]

theorem State.enterPreheat_tame (hs : s.heater.state = .off ∨ s.heater.state = .satisfied)
    (hp : s.heater.presented.isSome = true) : s.heaterTame s.enterPreheat := by
  have hst : s.heater.state.starts := by
    obtain h | h := hs <;> rw [h] <;> exact ⟨nofun, nofun, nofun⟩
  refine s.clearMove_tame .preheat true (some s.preheatLength) (by rw [s.enterPreheat_does.1]) (by simp) hst
    ⟨nofun, nofun, nofun⟩ (fun _ => rfl) rfl (fun hx => ?_) (fun _ hn => absurd hn (Option.isSome_iff_ne_none.mp hp)) nofun
  have htimer : s.timers.t4.running = false := hx.timer.trans (by obtain h | h := hs <;> rw [h] <;> rfl)
  rw [s.enterPreheat_t4]
  exact htimer

theorem State.enterOff_tame (hs : s.heater.state = .preheat ∨ s.heater.state = .satisfied)
    (ho : s.heater.presented.isSome = true → s.sense.ovht.level = true) : s.heaterTame s.enterOff := by
  have hst : s.heater.state.starts := by
    obtain h | h := hs <;> rw [h] <;> exact ⟨nofun, nofun, nofun⟩
  refine s.clearMove_tame .off false none (by rw [s.enterOff_does.1]) (by simp) hst ⟨nofun, nofun, nofun⟩
    (fun _ => rfl) rfl (fun hx => ?_) (fun _ _ => rfl) (fun _ => ho)
  have htimer : s.timers.t4.running = false := hx.timer.trans (by obtain h | h := hs <;> rw [h] <;> rfl)
  rw [s.enterOff_t4]
  exact htimer

theorem State.enterIgnition_tame (hs : s.heater.state = .preheat) : s.heaterTame s.enterIgnition := by
  obtain ⟨hheater, h4, -⟩ := s.enterIgnition_does
  refine s.clearMove_tame .ignition s.heater.glow (some s.heater.params.ignition) (by rw [hheater]) (by simp)
    (by rw [hs]; exact ⟨nofun, nofun, nofun⟩) ⟨nofun, nofun, nofun⟩ (fun hx => ?_) rfl (fun _ => h4.1) (fun hx hn => ?_)
    nofun
  · have hglow := hx.glow
    rw [hs] at hglow
    exact hglow
  · exact absurd hn (hx.active (by rw [hs]; exact nofun) (by rw [hs]; exact nofun) (by rw [hs]; exact nofun)).1

theorem State.enterProving_tame (hs : s.heater.state = .ignition) : s.heaterTame s.enterProving := by
  obtain ⟨hheater, -, h4⟩ := s.enterProving_does
  refine s.clearMove_tame .proving s.heater.glow (some 20) (by rw [hheater]) (by simp)
    (by rw [hs]; exact ⟨nofun, nofun, nofun⟩) ⟨nofun, nofun, nofun⟩ (fun hx => ?_) rfl (fun hx => ?_) (fun hx hn => ?_) nofun
  · have hglow := hx.glow
    rw [hs] at hglow
    exact hglow
  · have htimer := hx.timer
    rw [hs] at htimer
    rw [h4]
    exact htimer
  · exact absurd hn (hx.active (by rw [hs]; exact nofun) (by rw [hs]; exact nofun) (by rw [hs]; exact nofun)).1

theorem State.enterRun_tame (hs : s.heater.state = .proving) : s.heaterTame s.enterRun := by
  obtain ⟨hheater, h4, -⟩ := s.enterRun_does
  have hst : s.heater.state.starts := by rw [hs]; exact ⟨nofun, nofun, nofun⟩
  refine ⟨by rw [hheater], fun hx => ?_, fun _ => .inl (by rw [hheater]; exact Nat.le_succ 2), fun hx hc => ?_⟩
  · unfold State.heaterSound
    rw [hheater, h4.1]
    exact (hx.clear hst).enterRun (hx.active (by rw [hs]; exact nofun) (by rw [hs]; exact nofun)
      (by rw [hs]; exact nofun)).1
  · rw [hheater] at hc
    exact .inl hc

/-- A burn ends in a cooldown. -/
theorem State.enterCooldown_tame (cause : CooldownCause) (hs : s.heater.state.burning = true)
    (hcause : cause = .satisfied ∨ cause = .overheat) : s.heaterTame (s.enterCooldown cause) := by
  obtain ⟨hheater, h4, -⟩ := s.enterCooldown_does cause
  refine ⟨by rw [hheater], fun hx => ?_, fun _ => .inl (by rw [hheater]; exact Nat.zero_le 3), fun hx _ => ?_⟩
  · obtain ⟨-, hfew, hrestart⟩ := hx.burns hs
    unfold State.heaterSound
    rw [hheater, h4]
    have hcooled := Heater.cooled (h := s.heater) (c := cause) (n := s.heater.failed) (r := s.heater.restart)
      (hot := (s.enterCooldown cause).sense.ovht.level) (d := s.heater.params.cooldown) hfew.le
      (fun he => absurd he hfew.ne) (fun hr => absurd (hrestart.symm.trans hr) nofun) fun _ hx => by
        obtain rfl | rfl := hcause <;> exact hx.elim nofun fun hy => nomatch hy.1
    exact hcooled
  · exact .inr (Option.isSome_iff_ne_none.mpr (hx.burns hs).1)

/-- R147, R150: a failed start. -/
theorem State.failedStart_does :
    s.failedStart.heater =
      { s.heater with
        state := .cooldown, glow := false, phase := some s.heater.params.cooldown, cause := some .failedStart
        level := 0, desired := 0, satisfy := none, failed := gain 3 s.heater.failed
        restart := s.heater.presented.isSome && decide (gain 3 s.heater.failed < 3) } ∧
    s.failedStart.timers.t4.running = false := by
  have hdoes := (s.withHeater (fun h => { h with failed := gain 3 h.failed })).enterCooldown_does .failedStart
  refine ⟨?_, hdoes.2.1⟩
  rw [State.failedStart, State.withHeater_heater, hdoes.1]
  rfl

theorem State.failedStart_tame (hs : s.heater.state.burning = true ∨ s.heater.state = .preheat) :
    s.heaterTame s.failedStart := by
  obtain ⟨hheater, h4⟩ := s.failedStart_does
  have hactive : s.heaterSound → s.heater.presented ≠ none ∧ s.heater.failed < 3 := fun hx => by
    obtain hs | hs := hs
    · exact ⟨(hx.burns hs).1, (hx.burns hs).2.1⟩
    · obtain ⟨h1, h2, -⟩ := hx.active (by rw [hs]; exact nofun) (by rw [hs]; exact nofun) (by rw [hs]; exact nofun)
      exact ⟨h1, h2⟩
  refine ⟨by rw [hheater], fun hx => ?_, fun _ => .inl (by rw [hheater]; exact Nat.zero_le 3), fun hx hc => ?_⟩
  · unfold State.heaterSound
    rw [hheater, h4]
    refine Heater.cooled (gain_le 3 _ (hactive hx).2.le) (fun _ => .inl rfl) (fun hr => (Bool.and_eq_true_iff.mp hr).1)
      fun hp hc => ?_
    obtain hc | ⟨-, hc⟩ := hc
    · cases hc
    · rw [hp, decide_eq_true hc]
      rfl
  · rw [hheater] at hc
    cases hc

/-! ### The operations -/

theorem State.writeHeater_tame {f : Heater → Heater} (hp : (f s.heater).presented = s.heater.presented)
    (hs : s.heaterSound → (f s.heater).sound s.timers.t4.running s.sense.ovht.level)
    (hl : (f s.heater).level = s.heater.level) (hc : (f s.heater).cause = s.heater.cause) :
    s.heaterTame (s.withHeater f) :=
  ⟨hp, hs, fun _ => .inr hl, fun _ hx => .inl (hc.symm.trans hx)⟩

theorem State.preheatExpiry_tame : s.heaterTame s.preheatExpiry := by
  unfold State.preheatExpiry
  split
  next hs =>
    split
    · exact s.failedStart_tame (.inr hs)
    · exact s.enterIgnition_tame hs
  next => exact .refl s

theorem State.ignitionExpiry_tame : s.heaterTame s.ignitionExpiry := by
  unfold State.ignitionExpiry
  split
  next hs => exact s.failedStart_tame (.inl (by rw [hs]; rfl))
  next => exact .refl s

theorem State.provingExpiry_tame : s.heaterTame s.provingExpiry := by
  unfold State.provingExpiry
  split
  next hs => exact s.enterRun_tame hs
  next => exact .refl s

theorem State.runClearsCount_tame : s.heaterTame s.runClearsCount := by
  unfold State.runClearsCount
  split
  next hs =>
    refine s.writeHeater_tame rfl (fun hx => ?_) rfl rfl
    exact
      { hx with
        failed := Nat.zero_le 3, third := nofun
        restarting := fun hc => absurd (hs.1.symm.trans hc) nofun }
  next => exact .refl s

theorem State.satisfiedStop_tame : s.heaterTame s.satisfiedStop := by
  unfold State.satisfiedStop
  split
  next hs => exact s.enterCooldown_tame .satisfied (by rw [hs.1]; rfl) (.inl rfl)
  next => exact .refl s

theorem State.flamePresent_tame : s.heaterTame s.flamePresent := by
  unfold State.flamePresent
  split
  next hs => exact s.enterProving_tame hs
  next => exact .refl s

theorem State.flameAbsent_tame : s.heaterTame s.flameAbsent := by
  unfold State.flameAbsent
  split
  next hs => exact s.failedStart_tame (.inl ((HeaterState.burning_iff _).mpr (.inr hs)))
  next => exact .refl s

/-- R163: LOCKOUT is left for OFF with the count at 0. -/
theorem State.unlock_tame (hs : s.heater.state = .lockout) :
    s.heaterTame ((s.withHeater (fun h => { h with failed := 0 })).heaterGo .off) := by
  have hheater : ((s.withHeater (fun h => { h with failed := 0 })).heaterGo .off).heater =
      { s.heater with failed := 0, state := .off } := by
    rw [State.heaterGo_heater]
    rfl
  refine ⟨by rw [hheater], fun hx => ?_, fun _ => .inr (by rw [hheater]), fun _ hc => .inl (by rw [hheater] at hc; exact hc)⟩
  have hnone : s.heater.presented = none := hx.locked hs
  obtain ⟨hlevel, hdesired⟩ := hx.idle (by rw [hs]; exact nofun)
  have hclear : Heater.clear { s.heater with failed := 0 } := by
    refine ⟨hlevel, hdesired, ?_, ?_, ?_, Nat.zero_lt_succ 2⟩
    · cases hy : s.heater.satisfy with
      | none => rfl
      | some y => exact absurd (hs.symm.trans (hx.satisfy (by rw [hy]; rfl)).1) nofun
    · have hcause := hx.cause
      rw [hs] at hcause
      simpa using hcause
    · cases hy : s.heater.restart with
      | false => rfl
      | true => exact absurd (hs.symm.trans (hx.restart hy).1) nofun
  have hglow := hx.glow
  have hphase := hx.phase
  have htimer := hx.timer
  rw [hs] at hglow hphase htimer
  unfold State.heaterSound
  rw [hheater]
  have hsound := hclear.sound (st := .off) (g := s.heater.glow) (p := s.heater.phase) (x := s.heater.fuel)
    (on := s.timers.t4.running) (hot := s.sense.ovht.level) ⟨nofun, nofun, nofun⟩ hglow hphase htimer (fun _ => rfl)
    (fun _ hp => absurd hnone (Option.isSome_iff_ne_none.mp hp))
  simpa using hsound

theorem State.clearFuel_tame (b : Bool) : s.heaterTame (s.clearFuel b) := by
  unfold State.clearFuel
  split
  · exact s.writeHeater_tame rfl (fun hx => { hx with }) rfl rfl
  · exact .refl s

theorem State.secondHeater_tame : s.heaterTame (s.withHeater Heater.second) := by
  refine s.writeHeater_tame rfl (fun hx => ?_) rfl rfl
  exact
    { hx with
      phase := Option.isSome_map.trans hx.phase
      satisfy := fun hs => hx.satisfy (by
        unfold Heater.second at hs
        dsimp only at hs
        split at hs
        · exact Option.isSome_map.symm.trans hs
        · exact hs) }

theorem State.settleCause_core (h : HeaterCore s) : HeaterCore s.settleCause ∧ HeaterCause s.settleCause := by
  obtain ⟨hx, hcap, hgone⟩ := h
  by_cases hc : s.heater.state = .cooldown ∧ s.heater.cause = some .satisfied ∧ s.heater.presented = none
  · have heq : s.settleCause.heater = { s.heater with cause := some .stopped } := by
      simp [State.settleCause, hc]
    have hnone : ¬s.heater.presented.isSome = true := by rw [hc.2.2]; exact nofun
    unfold HeaterCore HeaterCause
    rw [heq]
    refine ⟨⟨?_, hcap, hgone⟩, fun _ => nofun⟩
    refine
      { hx with
        cause := (decide_eq_true hc.1).symm
        third := fun he => (hx.third he).imp id fun hy => ?_
        restarting := fun _ hp => absurd hp hnone }
    obtain hy | hy := hy.2
    · exact absurd (hc.2.1.symm.trans hy) nofun
    · exact absurd (hc.2.1.symm.trans hy) nofun
  · have heq : s.settleCause.heater = s.heater := by
      simp only [State.settleCause, State.withHeater]
      rw [if_neg hc]
    unfold HeaterCore HeaterCause
    rw [heq]
    refine ⟨⟨hx, hcap, hgone⟩, fun _ hsat => ?_⟩
    have hcool : s.heater.state = .cooldown := by
      have hcause := hx.cause
      rw [hsat] at hcause
      exact of_decide_eq_true hcause.symm
    by_contra hn
    exact hc ⟨hcool, hsat, by simpa using hn⟩

theorem desiredLevel_le (setpoint value : Int) (fault quiet : Bool) :
    1 ≤ desiredLevel setpoint value fault quiet ∧ desiredLevel setpoint value fault quiet ≤ 4 ∧
    (quiet = true → desiredLevel setpoint value fault quiet ≤ 3) := by
  rw [desiredLevel_eq]
  grind

theorem steppedLevel_le {h : Heater} {want n : Nat} (h1 : 1 ≤ h.level) (hw : 1 ≤ want) (hn : h.level ≤ n) (hm : want ≤ n) :
    1 ≤ steppedLevel h want ∧ steppedLevel h want ≤ n := by
  unfold steppedLevel
  split
  · exact ⟨h1, hn⟩
  · split <;> omega

/-- R151 to R153: a reading in RUN. -/
theorem State.c2InRun_core {s : State} {setpoint value : Int} {fault : Bool} (hs : s.heater.state = .run) (h : HeaterCore s) :
    HeaterCore (s.c2InRun setpoint value fault) ∧ (s.c2InRun setpoint value fault).heater.cause = s.heater.cause := by
  obtain ⟨hx, hcap, hgone⟩ := h
  obtain ⟨hheater, hsame, hmoved⟩ := s.c2InRun_does setpoint value fault _ _ rfl rfl
  obtain ⟨hd1, hd4, hdq⟩ := desiredLevel_le setpoint value fault s.quiet
  obtain ⟨hl1, hl4, -, -⟩ := hx.run hs
  have hlevel := steppedLevel_le hl1 hd1 hl4 hd4
  have hon : (s.c2InRun setpoint value fault).timers.t4.running = s.timers.t4.running := by
    by_cases hl : steppedLevel s.heater (desiredLevel setpoint value fault s.quiet) = s.heater.level
    · rw [hsame hl]
    · rw [(hmoved hl).1.1, hx.timer, hs]
      rfl
  have hframe := s.c2InRun_frame setpoint value fault
  have hrest : (s.c2InRun setpoint value fault).sense = s.sense ∧ (s.c2InRun setpoint value fault).quiet = s.quiet ∧
      (s.c2InRun setpoint value fault).rst = s.rst := by
    rw [hframe.only]
    exact ⟨rfl, rfl, rfl⟩
  obtain ⟨hsense, hquiet, hrst⟩ := hrest
  unfold HeaterCore
  rw [hheater, hon, hsense, hquiet, hrst]
  refine ⟨⟨?_, ?_, ?_⟩, rfl⟩
  · refine
      { hx with
        run := fun _ => ⟨hlevel.1, hlevel.2, hd1, hd4⟩
        idle := fun hn => absurd hs hn
        satisfy := fun hy => ⟨hs, ?_⟩ }
    by_contra hn
    have hn : ¬steppedLevel s.heater (desiredLevel setpoint value fault s.quiet) = 1 := hn
    simp [hn] at hy
  · exact fun hq => (steppedLevel_le hl1 hd1 (hcap hq) (hdq hq)).2
  · exact hgone

theorem State.heaterReading_core {s : State} {value : Int} {fault : Bool} (h : HeaterCore s) :
    HeaterCore (s.heaterReading value fault) ∧ (HeaterCause s → HeaterCause (s.heaterReading value fault)) := by
  have hattention := s.heaterAttention_tame
  have hu : HeaterCore s.heaterAttention := h.tame hattention (by simp) (by simp)
  have huc : HeaterCause s → HeaterCause s.heaterAttention := fun hc => hc.tame h.1 hattention (by simp)
  simp only [State.heaterReading]
  generalize s.heaterAttention = u at hu huc
  split
  next p hs _ =>
    obtain ⟨hcore, hcause⟩ := State.c2InRun_core (setpoint := p.setpoint) (value := value) (fault := fault) hs hu
    refine ⟨hcore, fun _ _ hx => ?_⟩
    rw [hcause] at hx
    have hsome := hu.1.cause
    rw [hx, hs] at hsome
    cases hsome
  next p hs hp =>
    have htame : u.heaterTame (u.c2InSatisfied p.setpoint value fault) := by
      unfold State.c2InSatisfied
      split
      · exact u.enterPreheat_tame (.inr hs) (by rw [hp]; rfl)
      · exact .refl u
    have hframe : u.heaterFrame (u.c2InSatisfied p.setpoint value fault) := by
      unfold State.c2InSatisfied
      split
      · exact State.enterPreheat_frame _
      · exact .refl _
    exact ⟨hu.tame htame (by rw [hframe.only]) (by rw [hframe.only]),
      fun hc => (huc hc).tame hu.1 htame (by rw [hframe.only])⟩
  next => exact ⟨hu, huc⟩

end

end Sys2Proof.Machine
end

section
/-! PROOF. O59: OVHT, quiet and the pass keep the heater's law. -/
namespace Sys2Proof.Machine

/-! ### OVHT -/

/-- R157: OVHT active takes back a start and cools a burner. -/
theorem State.ovhtActive_tame {s : State} (ho : s.sense.ovht.level = true) : s.heaterTame s.ovhtActive := by
  unfold State.ovhtActive
  split
  next hs => exact s.enterOff_tame (.inl hs) fun _ => ho
  next hs => exact s.enterCooldown_tame .overheat (by rw [hs]; rfl) (.inr rfl)
  next hs => exact s.enterCooldown_tame .overheat (by rw [hs]; rfl) (.inr rfl)
  next hs => exact s.enterCooldown_tame .overheat (by rw [hs]; rfl) (.inr rfl)
  next hs =>
    refine ⟨rfl, fun hx => ?_, fun _ => .inr rfl, fun _ hc => nomatch hc⟩
    exact
      { hx with
        cause := (decide_eq_true hs).symm, third := fun _ => .inr ⟨hs, .inr rfl⟩
        restarting := fun _ _ hc => hc.elim nofun fun hy => nomatch hy.1 }
  next => exact .refl s

/-- R146: OVHT inactive lets a waiting start begin. -/
theorem State.ovhtInactive_sound {s : State} (hx : s.heater.sound s.timers.t4.running true) :
    s.ovhtInactive.heaterSound ∧ s.ovhtInactive.heater.level = s.heater.level ∧
    s.ovhtInactive.heater.cause = s.heater.cause := by
  unfold State.ovhtInactive
  split
  next hs =>
    have hclear := hx.clear (by rw [hs.1]; exact ⟨nofun, nofun, nofun⟩)
    have htimer := hx.timer
    rw [hs.1] at htimer
    unfold State.heaterSound
    rw [s.enterPreheat_does.1, s.enterPreheat_t4]
    exact ⟨hclear.sound (x := s.heater.fuel) ⟨nofun, nofun, nofun⟩ rfl rfl htimer
      (fun hn => absurd hn (Option.isSome_iff_ne_none.mp hs.2)) nofun, rfl, rfl⟩
  next hs =>
    refine ⟨?_, rfl, rfl⟩
    exact { hx with heldOff := fun hoff hp => absurd ⟨hoff, hp⟩ hs }

theorem State.debounced_ovht_eq {s : State} (held : Nat) (ht : s.sense.ovht.timer = true) :
    s.debounced .ovht held =
      if (s.takeLevel .ovht).heaterAttention.overheated then (s.takeLevel .ovht).heaterAttention.ovhtActive
      else (s.takeLevel .ovht).heaterAttention.ovhtInactive := by
  have hlevel : (s.takeLevel .ovht).heaterAttention.overheated = ((s.takeLevel .ovht).sense.input .ovht).level := by
    simp [State.overheated, Sense.input]
  rw [State.debounced, if_pos (show (s.sense.input .ovht).timer = true from ht), hlevel]
  rfl

theorem State.debounced_ovht_core {s : State} {held : Nat} (h : HeaterCore s) :
    HeaterCore (s.debounced .ovht held) ∧ (HeaterCause s → HeaterCause (s.debounced .ovht held)) := by
  obtain ⟨hx, hcap, hgone⟩ := h
  cases ht : s.sense.ovht.timer with
  | true =>
    obtain ⟨u, hu⟩ : ∃ u, u = (s.takeLevel .ovht).heaterAttention := ⟨_, rfl⟩
    have hheater : u.heater = s.heater := by simp [hu, State.takeLevel]
    have h4 : u.timers.t4 = s.timers.t4 := by simp [hu, State.takeLevel]
    have hquiet : u.quiet = s.quiet := by simp [hu, State.takeLevel]
    have hrst : u.rst = s.rst := by simp [hu, State.takeLevel]
    have hhot : u.heater.sound u.timers.t4.running true := by
      rw [hheater, h4]
      exact { hx with heldOff := fun _ _ => rfl }
    have hcause : HeaterCause s → HeaterCause u := by
      unfold HeaterCause
      rw [hheater, hrst]
      exact id
    have hucap : u.quiet = true → u.heater.level ≤ 3 := by rwa [hquiet, hheater]
    have hugone : u.rst.asserted = true → u.heater.presented = none := by rwa [hrst, hheater]
    rw [State.debounced_ovht_eq held ht, ← hu]
    cases ho : u.overheated with
    | true =>
      rw [if_pos rfl]
      have htame := State.ovhtActive_tame (s := u) ho
      have hsound : u.heaterSound := by
        unfold State.heaterSound
        rw [show u.sense.ovht.level = true from ho]
        exact hhot
      have hframe : u.ovhtActive.quiet = u.quiet ∧ u.ovhtActive.rst = u.rst := by
        rw [u.ovhtActive_frame.only]
        exact ⟨rfl, rfl⟩
      exact ⟨HeaterCore.tame ⟨hsound, hucap, hugone⟩ htame hframe.1 (by rw [hframe.2]),
        fun hc => (hcause hc).tame hsound htame (by rw [hframe.2])⟩
    | false =>
      rw [if_neg Bool.false_ne_true]
      obtain ⟨ht, hl, hc⟩ := u.ovhtInactive_sound hhot
      have hframe : u.heaterFrame u.ovhtInactive := u.ovhtInactive_frame
      have hp := hframe.presented
      have hq : u.ovhtInactive.quiet = u.quiet := by rw [hframe.only]
      have hr : u.ovhtInactive.rst = u.rst := by rw [hframe.only]
      have hcore : HeaterCore u.ovhtInactive := by
        refine ⟨ht, ?_, ?_⟩
        · rwa [hq, hl]
        · rwa [hr, hp]
      refine ⟨hcore, fun hcs => ?_⟩
      have hu := hcause hcs
      unfold HeaterCause at hu ⊢
      rwa [hr, hc, hp]
  | false =>
    rw [State.debounced, if_neg (show ¬(s.sense.input .ovht).timer = true from by rw [show (s.sense.input .ovht).timer = false from ht]; exact nofun)]
    exact ⟨⟨hx, hcap, hgone⟩, id⟩

/-! ### Quiet -/

/-- R92, R151: quiet lowers a level 4 to 3. -/
theorem State.heaterQuiet_sound {s : State} (hx : s.heaterSound) :
    s.heaterQuiet.heaterSound ∧ s.heaterQuiet.heater.level ≤ 3 ∧ s.heaterQuiet.heater.cause = s.heater.cause := by
  unfold State.heaterQuiet
  split
  next hs =>
    obtain ⟨hheater, h4, -⟩ := State.writeLevel_does (s.withHeater fun h => { h with level := 3, desired := 3, stepTimer := 60 }) 3
    have hon : s.timers.t4.running = true := hx.timer.trans (by rw [hs.1]; rfl)
    unfold State.heaterSound
    rw [hheater, h4.1]
    refine ⟨?_, Nat.le_refl 3, rfl⟩
    have hsense : ∀ u : State, (u.writeLevel 3).sense = u.sense := fun u => by simp
    rw [hsense]
    unfold State.heaterSound at hx
    rw [hon] at hx
    exact
      { hx with
        run := fun _ => ⟨Nat.le_add_left 1 2, Nat.le_succ 3, Nat.le_add_left 1 2, Nat.le_succ 3⟩, idle := fun hn => absurd hs.1 hn
        satisfy := fun hy => absurd ((hx.satisfy hy).2.symm.trans hs.2) (by omega) }
  next hs =>
    refine ⟨hx, ?_, rfl⟩
    by_cases hrun : s.heater.state = .run
    · have h4 : s.heater.level ≠ 4 := fun he => hs ⟨hrun, he⟩
      have := (hx.run hrun).2.1
      omega
    · rw [(hx.idle hrun).1]
      exact Nat.zero_le 3

theorem State.workQuiet_core {s : State} (h : HeaterCore s) :
    HeaterCore s.workQuiet ∧ (HeaterCause s → HeaterCause s.workQuiet) := by
  obtain ⟨hx, hcap, hgone⟩ := h
  simp only [State.workQuiet]
  split
  · exact ⟨⟨hx, hcap, hgone⟩, id⟩
  next hne =>
    obtain ⟨u, hu⟩ : ∃ u, u = ({ s with quiet := s.quietNow } : State).accountNotice := ⟨_, rfl⟩
    have hheater : u.heater = s.heater := by simp [hu]
    have h4 : u.timers.t4 = s.timers.t4 := by simp [hu]
    have hsense : u.sense = s.sense := by simp [hu]
    have hrst : u.rst.asserted = s.rst.asserted := by simp [hu]
    rw [← hu]
    have hux : u.heaterSound := by
      unfold State.heaterSound
      rw [hheater, h4, hsense]
      exact hx
    have hsound : ∀ {t : State}, t.timers.t4.running = u.heaterQuiet.timers.t4.running → t.sense = u.heaterQuiet.sense →
        t.heater = u.heaterQuiet.heater → t.heaterSound := fun ht hs hh => by
      unfold State.heaterSound
      rw [ht, hs, hh]
      exact (State.heaterQuiet_sound hux).1
    split
    · obtain ⟨-, hlevel, hcause⟩ := State.heaterQuiet_sound hux
      obtain ⟨t, ht⟩ : ∃ t, t = ((u.heaterQuiet.fridgeQuiet).cabQuietSet).heaterAttention.fridgeAttention := ⟨_, rfl⟩
      have hth : t.heater = u.heaterQuiet.heater := by simp [ht]
      have htp : t.heater.presented = s.heater.presented := by rw [hth, ← hheater]; simp
      have htr : t.rst.asserted = s.rst.asserted := by rw [← hrst]; simp [ht]
      rw [← ht]
      refine ⟨⟨hsound (by simp [ht]) (by simp [ht]) hth, fun _ => hth ▸ hlevel, fun ha => ?_⟩, fun hc ha hsat => ?_⟩
      · rw [htp]
        exact hgone (htr ▸ ha)
      · rw [hth, hcause, hheater] at hsat
        rw [htp]
        exact hc (htr ▸ ha) hsat
    next hq =>
      obtain ⟨t, ht⟩ : ∃ t, t = u.cabQuietClear.heaterAttention.fridgeAttention := ⟨_, rfl⟩
      have hth : t.heater = s.heater := by rw [← hheater]; simp [ht]
      have htr : t.rst.asserted = s.rst.asserted := by rw [← hrst]; simp [ht]
      have htq : t.quiet = s.quietNow := by simp [ht, hu]
      rw [← ht]
      unfold HeaterCore HeaterCause
      rw [hth, htr, htq, show t.timers.t4 = s.timers.t4 by rw [← h4]; simp [ht], show t.sense = s.sense by rw [← hsense]; simp [ht]]
      exact ⟨⟨hx, fun hq' => absurd hq' hq, hgone⟩, id⟩

/-! ### The pass -/

/-- What a presentation leaves of the heater. -/
def Heater.presentedWell (h k : Heater) (on hot : Bool) : Prop :=
  k.sound on hot ∧ (k.level ≤ 3 ∨ k.level = h.level) ∧
  ((h.cause = some .satisfied → h.presented.isSome = true) → k.cause = some .satisfied → k.presented.isSome = true)

theorem Heater.clear.present {h : Heater} (hc : h.clear) (p : Option Presented) : Heater.clear { h with presented := p } :=
  ⟨hc.level, hc.desired, hc.satisfy, hc.cause, hc.restart, hc.failed⟩

section
variable {s : State} {h : Heater} {p : Option Presented} (hx : h.sound s.timers.t4.running s.sense.ovht.level)
include hx

theorem State.heaterPresented_sound (hl : h.state ≠ .lockout) (hn : h.presented = none) (hp : p.isSome = true)
    (hs : s.heater = { h with presented := p }) :
    h.presentedWell s.heaterPresented.heater s.heaterPresented.timers.t4.running s.heaterPresented.sense.ovht.level := by
  have hstate : s.heater.state = h.state := by rw [hs]
  have hne : p ≠ none := Option.isSome_iff_ne_none.mp hp
  have hoff : h.state = .off ∨ h.state = .cooldown := (hx.unpresented hn).imp id fun hy => hy.resolve_right hl
  unfold State.heaterPresented
  rw [hstate]
  split
  next hst =>
    have hclear := (hx.clear (by rw [hst]; exact ⟨nofun, nofun, nofun⟩)).present p
    have hglow := hx.glow
    have hphase := hx.phase
    have htimer := hx.timer
    rw [hst] at hglow hphase htimer
    split
    next ho =>
      have hsound := hclear.sound (st := .off) (g := h.glow) (p := h.phase) (x := h.fuel) (on := s.timers.t4.running)
        (hot := s.sense.ovht.level) ⟨nofun, nofun, nofun⟩ hglow hphase htimer (fun _ => rfl) fun _ _ => ho
      have hsame : h.state = .off := hst
      rw [← hsame] at hsound
      rw [hs]
      exact ⟨hsound, .inr rfl, fun _ _ => hp⟩
    next =>
      rw [s.enterPreheat_does.1, s.enterPreheat_t4, hs]
      exact ⟨hclear.sound (x := h.fuel) ⟨nofun, nofun, nofun⟩ rfl rfl htimer (fun hn => absurd hn hne) nofun, .inr rfl,
        fun _ _ => hp⟩
  next hst =>
    rw [State.withHeater_heater, hs]
    refine ⟨?_, .inr rfl, fun _ _ => hp⟩
    exact
      { hx with
        restart := fun _ => ⟨hst, hp⟩, unpresented := fun hn => absurd hn hne
        locked := fun hy => absurd hy hl
        heldOff := fun hy => absurd (hst.symm.trans hy) nofun, restarting := fun _ _ _ => rfl }
  next h1 h2 => exact absurd hoff (not_or.mpr ⟨h1, h2⟩)

theorem State.heaterWithdrawn_sound (hp : h.presented ≠ none) (hs : s.heater = { h with presented := none }) :
    h.presentedWell s.heaterWithdrawn.heater s.heaterWithdrawn.timers.t4.running
      s.heaterWithdrawn.sense.ovht.level := by
  have hstate : s.heater.state = h.state := by rw [hs]
  have hout : h.state = .preheat ∨ h.state = .satisfied →
      h.presentedWell s.enterOff.heater s.enterOff.timers.t4.running s.enterOff.sense.ovht.level := fun hst => by
    have hclear := (hx.clear (by obtain hst | hst := hst <;> rw [hst] <;> exact ⟨nofun, nofun, nofun⟩)).present none
    have htimer : s.timers.t4.running = false := hx.timer.trans (by obtain hst | hst := hst <;> rw [hst] <;> rfl)
    rw [s.enterOff_does.1, s.enterOff_t4, hs]
    exact ⟨hclear.sound (x := h.fuel) ⟨nofun, nofun, nofun⟩ rfl rfl htimer (fun _ => rfl) fun _ hy => (nomatch hy),
      .inr rfl, fun _ hc => absurd (hclear.cause.symm.trans hc) nofun⟩
  have hcool : h.state.burning = true →
      h.presentedWell (s.enterCooldown .stopped).heater (s.enterCooldown .stopped).timers.t4.running
        (s.enterCooldown .stopped).sense.ovht.level := fun hst => by
    obtain ⟨hheater, h4, -⟩ := s.enterCooldown_does .stopped
    obtain ⟨-, hfew, hrestart⟩ := hx.burns hst
    rw [hheater, h4, hs]
    exact ⟨Heater.cooled (h := { h with presented := none }) hfew.le (fun he => absurd he hfew.ne)
      (fun hr => absurd (hrestart.symm.trans hr) nofun) nofun, .inl (Nat.zero_le 3), fun _ => nofun⟩
  unfold State.heaterWithdrawn
  rw [hstate]
  split
  next hst => exact hout (.inl hst)
  next hst => exact hcool (by rw [hst]; rfl)
  next hst => exact hcool (by rw [hst]; rfl)
  next hst => exact hcool (by rw [hst]; rfl)
  next hst => exact hout (.inr hst)
  next hst =>
    rw [State.withHeater_heater, hs]
    refine ⟨?_, .inr rfl, fun _ hc => ?_⟩
    · refine
        { hx with
          cause := ?_, third := fun he => (hx.third he).imp id fun hy => ⟨hst, ?_⟩, restart := nofun
          unpresented := fun _ => .inr (.inl hst), locked := fun hy => absurd (hst.symm.trans hy) nofun
          heldOff := fun hy => absurd (hst.symm.trans hy) nofun, restarting := fun _ => nofun }
      · show (if h.cause = some .satisfied then some .stopped else h.cause).isSome = decide (h.state = .cooldown)
        split
        · exact (decide_eq_true hst).symm
        · exact hx.cause
      · show (if h.cause = some .satisfied then some .stopped else h.cause) = some CooldownCause.failedStart ∨ _
        have hne : ¬h.cause = some .satisfied := by
          obtain hy | hy := hy.2 <;> rw [hy] <;> exact nofun
        show _ ∨ (if h.cause = some .satisfied then some .stopped else h.cause) = some .overheat
        rw [if_neg hne]
        exact hy.2
    · have hc : (if h.cause = some .satisfied then some .stopped else h.cause) = some CooldownCause.satisfied := hc
      split at hc
      · cases hc
      next hne => exact absurd hc hne
  next h1 h2 h3 h4 h5 h6 =>
    have hoff : h.state = .off := by
      cases hst : h.state with
      | off => rfl
      | preheat => exact absurd hst h1
      | ignition => exact absurd hst h2
      | proving => exact absurd hst h3
      | run => exact absurd hst h4
      | satisfied => exact absurd hst h5
      | cooldown => exact absurd hst h6
      | lockout => exact absurd (hx.locked hst) hp
    have hcause := hx.cause
    rw [hoff] at hcause
    rw [hs]
    refine ⟨?_, .inr rfl, fun _ hc => ?_⟩
    · exact
        { hx with
          restart := fun hr => absurd (hoff.symm.trans (hx.restart hr).1) nofun
          unpresented := fun _ => .inl hoff, locked := fun _ => rfl, heldOff := fun _ => nofun
          restarting := fun _ => nofun }
    · have hc : h.cause = some .satisfied := hc
      rw [hc] at hcause
      cases hcause

end

theorem State.presentHeater_sound {s : State} {p : Option Presented} (hx : s.heaterSound)
    (hl : s.heater.state = .lockout → p = none) :
    s.heater.presentedWell (s.presentHeater p).heater (s.presentHeater p).timers.t4.running
      (s.presentHeater p).sense.ovht.level := by
  have hset : (s.withHeater fun h => { h with presented := p }).heater = { s.heater with presented := p } := rfl
  simp only [State.presentHeater]
  split
  next hc =>
    simp only [Bool.and_eq_true, Option.isNone_iff_eq_none] at hc
    exact State.heaterPresented_sound hx (fun hs => absurd (hl hs) (Option.isSome_iff_ne_none.mp hc.2)) hc.1 hc.2 hset
  next hon =>
    split
    next hc =>
      simp only [Bool.and_eq_true, Option.isNone_iff_eq_none, Option.isSome_iff_ne_none] at hc
      exact State.heaterWithdrawn_sound hx hc.1 (by rw [hset, hc.2])
    next hoff =>
      have hsame : p = none ↔ s.heater.presented = none := by
        cases hs : s.heater.presented <;> cases p <;> simp_all
      refine ⟨hx.present hsame, .inr rfl, fun hc hy => ?_⟩
      have hsome := hc hy
      rw [Option.isSome_iff_ne_none] at hsome ⊢
      exact fun hn => hsome (hsame.mp hn)

/-- A pass works the heater by its presentation alone. -/
theorem State.pass_presentHeater {s : State} (hr : s.rst.asserted = false) :
    ∃ u : State, u.heater = s.heater ∧ u.timers.t4 = s.timers.t4 ∧ u.sense = s.sense ∧
      s.pass.heater = (u.presentHeater (presentedFor .heater (s.reading.run s.orders).orders)).heater ∧
      s.pass.timers.t4 = (u.presentHeater (presentedFor .heater (s.reading.run s.orders).orders)).timers.t4 ∧
      s.pass.sense = u.sense := by
  obtain ⟨v, hv⟩ : ∃ v : State, v =
      { s with
        orders := (s.reading.run s.orders).orders
        alloc := { s.alloc with committed := (s.reading.run s.orders).committed, usable := s.reading.usable
                                passMinute := s.reading.now } } := ⟨_, rfl⟩
  refine ⟨v.noticeIf ((s.reading.run s.orders).removed || (s.reading.run s.orders).changed) .order, ?_, ?_, ?_, ?_⟩
  · simp [hv]
  · simp [hv]
  · simp [hv]
  · have hpass : s.pass = (v.noticeIf ((s.reading.run s.orders).removed || (s.reading.run s.orders).changed) .order).presentAll
        (s.reading.run s.orders).orders := by
      rw [State.pass, if_neg (by simp [hr]), hv]
    rw [hpass]
    generalize State.noticeIf v _ _ = u
    simp [State.presentAll, State.presentLights]

/-- A LOCKOUT holds no order after a pass. -/
theorem State.pass_lockout {s : State} (hl : s.heater.state = .lockout) :
    presentedFor .heater (s.reading.run s.orders).orders = none :=
  Reading.presentedFor_unavailable (by simp [Reading.unavailable, s.reading_heater, hl]) _

theorem State.pass_core {s : State} (hr : s.rst.asserted = false) (h : HeaterCore s) :
    HeaterCore s.pass ∧ (HeaterCause s → HeaterCause s.pass) := by
  obtain ⟨hx, hcap, -⟩ := h
  obtain ⟨u, hheater, h4, hsense, kheater, k4, ksense⟩ := State.pass_presentHeater hr
  have hquiet : s.pass.quiet = s.quiet := by simp
  have hrst : s.pass.rst.asserted = false := by simpa using hr
  have hux : u.heaterSound := by
    unfold State.heaterSound
    rw [hheater, h4, hsense]
    exact hx
  have hsame : ∀ p, (u.presentHeater p).sense = u.sense := fun p => by simp
  obtain ⟨ht, hl, hc⟩ := State.presentHeater_sound hux (p := presentedFor .heater (s.reading.run s.orders).orders)
    fun hl => State.pass_lockout (hheater ▸ hl)
  rw [← kheater, ← k4, hsame, ← ksense] at ht
  rw [← kheater, hheater] at hl hc
  refine ⟨⟨ht, fun hq => ?_, fun ha => absurd (hrst.symm.trans ha) nofun⟩, fun hs _ => hc (hs hr)⟩
  have := hcap (hquiet ▸ hq)
  omega

/-- R158: the pass takes the presentation of a LOCKOUT just entered. -/
theorem State.pass_locked {s : State} (hr : s.rst.asserted = false) (hl : s.heater.state = .lockout) :
    s.pass.heater = { s.heater with presented := none } ∧ s.pass.timers.t4 = s.timers.t4 ∧ s.pass.sense = s.sense := by
  obtain ⟨u, hheater, h4, hsense, kheater, k4, ksense⟩ := State.pass_presentHeater hr
  rw [State.pass_lockout hl] at kheater k4
  have hkept : u.presentHeater none = u.withHeater fun h => { h with presented := none } := by
    simp [State.presentHeater, State.heaterWithdrawn, hheater, hl]
  rw [kheater, k4, ksense, hkept]
  exact ⟨by rw [State.withHeater_heater, hheater], h4, hsense⟩

end Sys2Proof.Machine
end

section
/-! PROOF. O59: every piece, and the two commands that leave the law to their end, keep the heater's law. -/
namespace Sys2Proof.Machine

theorem HeaterOp.core {c : Instr} {s t : State} (p : HeaterOp c s t) (hc : c ≠ .cooldownExpiry) (h : HeaterCore s) :
    HeaterCore t ∧ (HeaterCause s → HeaterCause t) := by
  have hframe := p.frame
  have htame : s.heaterTame t → HeaterCore t ∧ (HeaterCause s → HeaterCause t) := fun hm =>
    ⟨h.tame hm (by rw [hframe.only]) (by rw [hframe.only]), fun hs => hs.tame h.1 hm (by rw [hframe.only])⟩
  cases p with
  | preheatEnd => exact htame s.preheatExpiry_tame
  | ignitionEnd => exact htame s.ignitionExpiry_tame
  | provingEnd => exact htame s.provingExpiry_tame
  | cooldownEnd hx => exact absurd hx hc
  | clearCount => exact htame s.runClearsCount_tame
  | satisfied => exact htame s.satisfiedStop_tame
  | reading value fault => exact State.heaterReading_core h
  | flamePresent => exact htame s.flamePresent_tame
  | flameAbsent => exact htame s.flameAbsent_tame
  | setParams => exact htame (s.writeHeater_tame rfl (fun hx => { hx with }) rfl rfl)
  | unlock _ hs => exact htame (s.unlock_tame hs)
  | clearFuel b => exact htame (s.clearFuel_tame b)
  | second => exact htame s.secondHeater_tame
  | endReset moved =>
    obtain ⟨hx, -⟩ := h
    have hheater : (s.heaterEndReset moved).heater =
        { s.heater with
          phase := if s.heater.state = .cooldown then some s.heater.params.cooldown else s.heater.phase } := by
      simp [State.heaterEndReset, State.writeFan]
    have h4 : (s.heaterEndReset moved).timers.t4 = s.timers.t4 := by simp [State.heaterEndReset, State.writeFan]
    have hsense : (s.heaterEndReset moved).sense = s.sense := by simp [State.heaterEndReset]
    refine htame ⟨by rw [hheater], fun hx => ?_, fun _ => .inr (by rw [hheater]), fun _ hy => .inl (by rwa [hheater] at hy)⟩
    unfold State.heaterSound
    rw [hheater, h4, hsense]
    refine { hx with phase := ?_ }
    show (if s.heater.state = .cooldown then some s.heater.params.cooldown else s.heater.phase).isSome = s.heater.state.timed
    split
    next hs => rw [hs]; rfl
    next => exact hx.phase
  | settleCause => exact ⟨(s.settleCause_core h).1, fun _ => (s.settleCause_core h).2⟩

theorem HeaterCore.congr {s t : State} (h : HeaterCore s) (hh : t.heater = s.heater)
    (h4 : t.timers.t4.running = s.timers.t4.running) (ho : t.sense.ovht.level = s.sense.ovht.level)
    (hq : t.quiet = s.quiet) (hr : t.rst.asserted = true → s.rst.asserted = true) : HeaterCore t := by
  unfold HeaterCore
  rw [hh, h4, ho, hq]
  exact ⟨h.1, h.2.1, fun hx => h.2.2 (hr hx)⟩

theorem HeaterCause.congr {s t : State} (h : HeaterCause s) (hh : t.heater = s.heater)
    (hr : t.rst.asserted = s.rst.asserted) : HeaterCause t := by
  unfold HeaterCause
  rw [hh, hr]
  exact h

theorem Piece.heaterCore {c : Instr} {r s t : State} (p : Piece c r s t) (hc : c ≠ .cooldownExpiry) (h : HeaterCore s) :
    HeaterCore t ∧ (c ≠ .resetEnd → HeaterCause s → HeaterCause t) := by
  have hsame : ∀ {u : State}, u.heater = s.heater → u.timers.t4.running = s.timers.t4.running →
      u.sense.ovht.level = s.sense.ovht.level → u.quiet = s.quiet → u.rst.asserted = s.rst.asserted →
      HeaterCore u ∧ (c ≠ .resetEnd → HeaterCause s → HeaterCause u) := fun hh h4 ho hq hr =>
    ⟨h.congr hh h4 ho hq (by rw [hr]; exact id), fun _ hs => hs.congr hh hr⟩
  cases p with
  | mode m =>
    have hf := s.enterMode_frame m
    exact hsame (by rw [hf.only]; rfl) (by rw [hf.only]; rfl) (by rw [hf.only]; rfl) (by rw [hf.only]; rfl)
      (by rw [hf.only]; rfl)
  | sense x hx => exact hsame rfl rfl hx.1 rfl rfl
  | quiet => exact ⟨(State.workQuiet_core h).1, fun _ => (State.workQuiet_core h).2⟩
  | notice => exact hsame (by simp) (by simp) (by simp) (by simp) (by simp)
  | accountNotice => exact hsame (by simp) (by simp) (by simp) (by simp) (by simp)
  | raise => exact hsame (by simp) (by simp) (by simp) (by simp) (by simp)
  | remove => exact hsame (by simp) (by simp) (by simp) (by simp) (by simp)
  | warn hw =>
    have hf := hw.frame
    exact hsame (by rw [hf.only]) (by rw [hf.only]) (by rw [hf.only]) (by rw [hf.only]) (by rw [hf.only])
  | heater hp => exact ⟨(hp.core hc h).1, fun _ => (hp.core hc h).2⟩
  | lock hx => exact absurd hx hc
  | fridge hp =>
    have hf : s.fridgeFrame t := hp.frame
    exact hsame (by rw [hf.only]) (by rw [hf.only]) (by rw [hf.only]) (by rw [hf.only]) (by rw [hf.only])
  | stall rate =>
    have hf := s.tachReading_frame rate
    exact hsame (by rw [hf.only]) (by rw [hf.only]) (by rw [hf.only]) (by rw [hf.only]) (by rw [hf.only])
  | lights hl =>
    have hf : s.lightFrame t := hl.frame
    exact hsame (by rw [hf.only]) (by rw [hf.only]) (by rw [hf.only]) (by rw [hf.only]) (by rw [hf.only])
  | overheat held => exact ⟨(State.debounced_ovht_core h).1, fun _ => (State.debounced_ovht_core h).2⟩
  | coldRoom n hn hf hd =>
    have hf := State.tempWindow_c3_only hf hd
    exact hsame (by rw [hf]) (by rw [hf]) (by rw [hf]; rfl) (by rw [hf]) (by rw [hf])
  | period i =>
    have hf := s.periodEnd_only i
    obtain ⟨hx, hcap, hgone⟩ := h
    have hheater : (s.periodEnd i).heater = { s.heater with fuel := (s.periodEnd i).heater.fuel } := by
      conv_lhs => rw [hf]
    have hrest : (s.periodEnd i).sense = s.sense ∧ (s.periodEnd i).quiet = s.quiet ∧ (s.periodEnd i).rst = s.rst := by
      rw [hf]
      exact ⟨rfl, rfl, rfl⟩
    obtain ⟨hsense, hquiet, hrst⟩ := hrest
    have hrun : (s.periodEnd i).timers.t4.running = s.timers.t4.running := s.periodEnd_running i .t4
    unfold HeaterCore HeaterCause
    rw [hheater, hsense, hquiet, hrst, hrun]
    exact ⟨⟨{ hx with }, hcap, hgone⟩, fun _ => id⟩
  | release hx ha =>
    have hf := s.releasePresenter_only
    refine ⟨h.congr (by rw [hf]) (by rw [hf]) (by rw [hf]; rfl) (by rw [hf]) fun _ => ha, fun hn => absurd hx hn⟩
  | _ => exact hsame rfl rfl rfl rfl rfl

/-! ### The end of a cooldown -/

/-- What the end of a cooldown makes of a record that has not failed three times. -/
theorem Heater.sound.ended {h : Heater} {on hot : Bool} (hx : h.sound on hot) (hs : h.state = .cooldown) (hn : h.failed ≠ 3) :
    Heater.clear { h with cause := none, restart := false } ∧ on = false := by
  obtain ⟨hlevel, hdesired⟩ := hx.idle (by rw [hs]; exact nofun)
  refine ⟨⟨hlevel, hdesired, ?_, rfl, rfl, Nat.lt_of_le_of_ne hx.failed hn⟩, by rw [hx.timer, hs]; rfl⟩
  cases hy : h.satisfy with
  | none => rfl
  | some y => exact absurd (hs.symm.trans (hx.satisfy (by rw [hy]; rfl)).1) nofun

/-- R158: LOCKOUT, with its pass. -/
theorem State.enterLockout_heaterLaw {s : State} (hr : s.rst.asserted = false) (hs : s.heater.state = .cooldown)
    (h : HeaterLaw s) : HeaterLaw s.endCooldown.enterLockout := by
  obtain ⟨⟨hx, hcap, -⟩, -⟩ := (heaterLaw_iff s).mp h
  obtain ⟨hlevel, hdesired⟩ := hx.idle (by rw [hs]; exact nofun)
  obtain ⟨u, hu⟩ : ∃ u, u = ((s.lockHeater).raise .part .heaterLockout).notice .heater := ⟨_, rfl⟩
  have heq : s.endCooldown.enterLockout = u.pass := by rw [hu]; rfl
  have hheater : u.heater = { s.heater with cause := none, restart := false, state := .lockout, phase := none, glow := false } := by
    simp [hu, State.lockHeater, State.endCooldown, State.writeFan]
  have h4 : u.timers.t4.running = false := by
    have hoff : s.timers.t4.running = false := by rw [hx.timer, hs]; rfl
    simpa [hu, State.lockHeater, State.endCooldown, State.writeFan] using hoff
  have hur : u.rst.asserted = false := by simpa [hu, State.lockHeater, State.endCooldown] using hr
  obtain ⟨kheater, k4, ksense⟩ := State.pass_locked hur (by rw [hheater])
  have hnone : s.heater.satisfy = none := by
    cases hy : s.heater.satisfy with
    | none => rfl
    | some y => exact absurd (hs.symm.trans (hx.satisfy (by rw [hy]; rfl)).1) nofun
  rw [heq, heaterLaw_iff]
  unfold HeaterCore HeaterCause
  rw [kheater, k4, ksense, hheater, h4]
  refine ⟨⟨?_, fun _ => ?_, fun _ => rfl⟩, fun _ hc => nomatch hc⟩
  · exact
      { glow := rfl, timer := rfl, phase := rfl, cause := rfl, run := nofun, idle := fun _ => ⟨hlevel, hdesired⟩
        satisfy := fun hy => by rw [show s.heater.satisfy = none from hnone] at hy; cases hy
        failed := hx.failed, third := fun _ => .inl rfl, restart := nofun, unpresented := fun _ => .inr (.inr rfl)
        locked := fun _ => rfl, heldOff := nofun, restarting := nofun }
  · show s.heater.level ≤ 3
    rw [hlevel]
    exact Nat.zero_le 3

/-- R156, Table 31: the end of a cooldown by its lines. -/
theorem State.cooldownExpiry_heaterLaw {s : State} (hr : s.rst.asserted = false) (h : HeaterLaw s) :
    HeaterLaw s.cooldownExpiry := by
  have hlaw := h
  obtain ⟨⟨hx, hcap, hgone⟩, hcause⟩ := (heaterLaw_iff s).mp h
  simp only [State.cooldownExpiry]
  split
  · exact h
  next hs =>
    have hs : s.heater.state = .cooldown := not_not.mp hs
    split
    · exact State.enterLockout_heaterLaw hr hs hlaw
    next h1 =>
      split
      · exact State.enterLockout_heaterLaw hr hs hlaw
      next h2 =>
        have hfew : s.heater.failed ≠ 3 := fun he => by
          obtain hl | ⟨-, hl | hl⟩ := hx.third he
          · cases hs.symm.trans hl
          · exact h2 ⟨hl, he⟩
          · exact h1 hl
        obtain ⟨hclear, hon⟩ := hx.ended hs hfew
        have hmove : ∀ {t : State} (st : HeaterState) (g : Bool) (p : Option Nat),
            t.heater = { s.endCooldown.heater with state := st, glow := g, phase := p } → t.timers.t4 = s.timers.t4 →
            t.sense = s.sense → t.quiet = s.quiet → t.rst = s.rst → st.starts → g = st.glows → p.isSome = st.timed →
            st.burning = false → (s.heater.presented = none → st = .off) →
            (st = .off → s.heater.presented.isSome = true → s.sense.ovht.level = true) → HeaterLaw t := by
          intro t st g p hheater h4 hsense hquiet hrst hst hg hp hb hu ho
          rw [heaterLaw_iff]
          unfold HeaterCore HeaterCause
          rw [hheater, h4, hsense, hquiet, hrst]
          exact ⟨⟨hclear.sound (x := s.heater.fuel) hst hg hp (hon.trans hb.symm) hu ho, hcap, hgone⟩, fun _ hc => nomatch hc⟩
        have hoff := hx.glow
        rw [hs] at hoff
        split
        next h3 =>
          have hp := hcause hr h3
          refine hmove .satisfied s.heater.glow none ?_ ?_ ?_ ?_ ?_ ⟨nofun, nofun, nofun⟩ hoff rfl rfl
            (fun hn => absurd hn (Option.isSome_iff_ne_none.mp hp)) nofun
          · rw [State.enterSatisfied, State.heaterGo_heater]
            simp [State.writeFan, State.endCooldown]
          · simp [State.enterSatisfied, State.writeFan, State.endCooldown]
          · simp [State.enterSatisfied, State.endCooldown]
          · simp [State.enterSatisfied, State.endCooldown]
          · simp [State.enterSatisfied, State.endCooldown]
        next h3 =>
          split
          next h4 =>
            refine hmove .preheat true (some s.endCooldown.preheatLength) s.endCooldown.enterPreheat_does.1
              s.endCooldown.enterPreheat_t4 ?_ ?_ ?_ ⟨nofun, nofun, nofun⟩ rfl rfl rfl
              (fun hn => absurd hn (Option.isSome_iff_ne_none.mp (hx.restart h4.1).2)) nofun
            all_goals simp [State.endCooldown]
          next h4 =>
            refine hmove .off false none s.endCooldown.enterOff_does.1 s.endCooldown.enterOff_t4 ?_ ?_ ?_
              ⟨nofun, nofun, nofun⟩ rfl rfl rfl (fun _ => rfl) (fun _ hp => ?_)
            · simp [State.endCooldown]
            · simp [State.endCooldown]
            · simp [State.endCooldown]
            · have hlist : s.heater.cause = some .stopped ∨ (s.heater.cause = some .failedStart ∧ s.heater.failed < 3) := by
                have hsome := hx.cause
                rw [decide_eq_true hs] at hsome
                obtain ⟨x, hxc⟩ := Option.isSome_iff_exists.mp hsome
                cases x with
                | stopped => exact .inl hxc
                | failedStart => exact .inr ⟨hxc, Nat.lt_of_le_of_ne hx.failed hfew⟩
                | overheat => exact absurd hxc h1
                | satisfied => exact absurd hxc h3
              by_contra hno
              exact h4 ⟨hx.restarting hs hp hlist, by simpa [State.overheated] using hno⟩

/-! ### RESET -/

theorem State.settleCause_cause {s : State} (h : HeaterCore s.settleCause) : HeaterCause s.settleCause := by
  intro _ hc
  have hcool : s.heater.state = .cooldown := by
    have hsome := h.1.cause
    rw [hc] at hsome
    exact of_decide_eq_true hsome.symm
  have hc : (if s.heater.state = .cooldown ∧ s.heater.cause = some .satisfied ∧ s.heater.presented = none
      then some .stopped else s.heater.cause) = some CooldownCause.satisfied := hc
  show s.heater.presented.isSome = true
  split at hc
  · cases hc
  next hno =>
    by_contra hn
    exact hno ⟨hcool, hc, by simpa using hn⟩

theorem HeaterState.atReset_facts (a : HeaterState) :
    a.atReset.glows = false ∧ a.atReset.burning = false ∧ a.atReset.timed = decide (a.atReset = .cooldown) ∧
    a.atReset ≠ .run ∧ (a.atReset = .off ∨ a.atReset = .cooldown ∨ a.atReset = .lockout) := by
  cases a <;> exact ⟨rfl, rfl, rfl, nofun, by simp [HeaterState.atReset]⟩

theorem Heater.sound.causeAtReset {h : Heater} {on hot : Bool} (hx : h.sound on hot) :
    h.causeAtReset.isSome = decide (h.state.atReset = .cooldown) := by
  unfold Heater.causeAtReset
  cases hs : h.state with
  | cooldown =>
    have hc := hx.cause
    rw [hs] at hc
    exact hc
  | _ => rfl

/-- R165: RESET cools a burner and withdraws every order. -/
theorem State.assertReset_heaterLaw {s : State} (h : HeaterLaw s) : HeaterLaw s.assertReset := by
  obtain ⟨⟨hx, -, -⟩, -⟩ := (heaterLaw_iff s).mp h
  have hheater : s.assertReset.heater = s.heater.atReset := by simp [State.assertReset, State.quietPresenter]
  have h4 : s.assertReset.timers.t4.running = false := rfl
  rw [heaterLaw_iff]
  unfold HeaterCore HeaterCause
  rw [hheater, h4]
  obtain ⟨hglow, hburn, htimed, hrun, hshape⟩ := s.heater.state.atReset_facts
  refine ⟨⟨?_, fun _ => Nat.zero_le 3, fun _ => rfl⟩, nofun⟩
  exact
    { glow := hglow.symm, timer := hburn.symm
      phase := by
        show (if s.heater.state.atReset = .cooldown then some s.heater.params.cooldown else none).isSome = s.heater.state.atReset.timed
        rw [htimed]
        split
        next hc => rw [decide_eq_true hc]; rfl
        next hc => rw [decide_eq_false hc]; rfl
      cause := hx.causeAtReset
      run := fun hc => absurd hc hrun, idle := fun _ => ⟨rfl, rfl⟩, satisfy := nofun, failed := hx.failed
      third := fun he => by
        obtain hl | ⟨hc, hy⟩ := hx.third he
        · refine .inl ?_
          show s.heater.state.atReset = .lockout
          rw [hl]
          rfl
        · refine .inr ⟨?_, ?_⟩
          · show s.heater.state.atReset = .cooldown
            rw [hc]
            rfl
          · show s.heater.causeAtReset = _ ∨ s.heater.causeAtReset = _
            rw [Heater.causeAtReset, hc]
            exact hy
      restart := nofun, unpresented := fun _ => hshape, locked := fun _ => rfl, heldOff := fun _ => nofun
      restarting := fun _ => nofun }

theorem Runs.heaterCore {c : Instr} {r s : State} {b : Bool} (h : Runs c r b s) (hc : c ≠ .cooldownExpiry)
    (hr : HeaterCore r) : HeaterCore s := by
  induction h with
  | start => exact hr
  | calm _ p _ ih => exact (p.heaterCore hc ih).1
  | other _ p ih => exact (p.heaterCore hc ih).1
  | passed _ ha _ ih => exact (State.pass_core ha ih).1

theorem exec_heaterLaw {c : Instr} {s t : State} (h : exec c s = .next t) (hs : HeaterLaw s) : HeaterLaw t := by
  by_cases hcool : c = .cooldownExpiry
  · subst hcool
    cases h
    unfold State.outOfReset
    split
    · exact hs
    next hr => exact State.cooldownExpiry_heaterLaw (by simpa using hr) hs
  by_cases hend : c = .resetEnd
  · subst hend
    cases h
    split
    next ha =>
      have hcore := (Runs.endReset ha rfl).heaterCore hcool ((heaterLaw_iff s).mp hs).1
      exact (heaterLaw_iff _).mpr ⟨hcore, State.settleCause_cause hcore⟩
    next => exact hs
  · refine exec_keeps_of_pieces_of (P := HeaterLaw) (fun p hs => ?_) (fun hr hs => ?_) (fun s => ?_)
      (fun _ => State.assertReset_heaterLaw) h hs
    · rw [heaterLaw_iff] at hs ⊢
      exact ⟨(p.heaterCore hcool hs.1).1, (p.heaterCore hcool hs.1).2 hend hs.2⟩
    · rw [heaterLaw_iff] at hs ⊢
      exact ⟨(State.pass_core hr hs.1).1, (State.pass_core hr hs.1).2 hs.2⟩
    · rw [heaterLaw_iff]
      refine ⟨⟨?_, nofun, fun _ => rfl⟩, nofun⟩
      constructor <;> simp [State.reset, HeaterState.glows, HeaterState.burning, HeaterState.timed, Timer.cold]

/-- Settles O59: an operation of the heater moves its items together; the end of a cooldown and of a reset meet the law
with their last step. -/
theorem stepKeepsTheHeaterLaw : Obligations.StepKeepsTheHeaterLaw := by
  unfold Obligations.StepKeepsTheHeaterLaw
  intro s t h hs
  exact step_keeps (P := HeaterLaw) exec_heaterLaw (fun _ _ h => h) h hs

end Sys2Proof.Machine
end

section
/-! PROOF. O58: the warning presenter's law, on its record. -/
namespace Sys2Proof.Machine

/-- The law of one entry; `held` is RESET asserted. -/
structure Entry.lawful (e : Entry) (held : Bool) : Prop where
  pair : pairMatches e.source e.type = true
  bursts : e.bursts ≤ 65535
  due : ∀ n, e.due = some n → n ≤ 600
  quiet : e.state = .silenced ∨ e.state = .lampOnly → e.due = none
  waits : e.state = .queued → held = false → e.due ≠ none
  condition : e.state = .silenced → e.type.isEvent = false
  sounds : e.state = .presenting → e.type.interval ≠ none → e.due ≠ none
  below : e.state = .queued ∨ e.state = .presenting → e.atLimit = false
  falls : e.falling = true → e.state = .queued ∧ e.due = some 0

theorem Entry.legal_iff (s : State) (e : Entry) : e.legal s ↔ e.lawful s.rst.asserted := by
  constructor
  · rintro ⟨h1, h2, h3, h4, h5, h6, h7, h8, h9⟩
    exact ⟨h1, h2, h3, h4, h5, h6, h7, h8, h9⟩
  · rintro ⟨h1, h2, h3, h4, h5, h6, h7, h8, h9⟩
    exact ⟨h1, h2, h3, h4, h5, h6, h7, h8, h9⟩

/-- The chime sounds a burst that belongs to an entry of the pair. -/
def Chime.owns (c : Chime) (a : Source) (w : WarnType) : Prop := ∃ n snd, c = .sounding a w n snd true

/-- The law of the list and the chime; `still` is RESET or SELFTEST. -/
structure Warn.sound (w : Warn) (held still : Bool) : Prop where
  sorted : w.entries.Pairwise (fun a b => pairPlace a.source a.type < pairPlace b.source b.type)
  entries : ∀ e ∈ w.entries, e.lawful held
  presenting : ∀ e ∈ w.entries, e.state = .presenting → w.chime.owns e.source e.type
  owner : ∀ a t, w.chime.owns a t → ∃ e ∈ w.entries, e.source = a ∧ e.type = t ∧ (e.state = .presenting ∨ e.state = .silenced)
  idle : still = true → w.chime = .idle

/-- RESET or SELFTEST keeps the chime still. -/
def State.still (s : State) : Bool := s.rst.asserted || decide (s.port.mode = .selfTest)

/-- The lamp's law. -/
def State.lampRight (s : State) : Prop := s.warn.lamp = if s.rst.asserted then .off else lampOf s.warn.entries

def State.handedLegal (s : State) : Prop := ∀ h ∈ s.rst.heldWarnings, h.legal

theorem warnLaw_iff (s : State) :
    WarnLaw s ↔ s.warn.sound s.rst.asserted s.still ∧ s.handedLegal ∧ s.lampRight := by
  constructor
  · rintro ⟨h1, h2, h3, ⟨h4, h5⟩, h6, h7⟩
    refine ⟨⟨h1, fun e he => (e.legal_iff s).mp (h2 e he), h4, fun a t ⟨n, snd, h⟩ => h5 a t n snd h, fun h => h6 ?_⟩, h3, h7⟩
    simpa [State.still] using h
  · rintro ⟨⟨h1, h2, h4, h5, h6⟩, h3, h7⟩
    refine ⟨h1, fun e he => (e.legal_iff s).mpr (h2 e he), h3, ⟨h4, fun a t n snd h => h5 a t ⟨n, snd, h⟩⟩, fun h => h6 ?_, h7⟩
    simpa [State.still] using h

/-- Two pairs of the list stand in one place only when they are one pair. -/
theorem pairPlace_inj {a b : Source} {w v : WarnType} (hw : pairMatches a w = true) (hv : pairMatches b v = true)
    (h : pairPlace a w = pairPlace b v) : a = b ∧ w = v := by
  have hsev : ∀ t : WarnType, t.severity < 8 := by
    intro t
    cases t <;> decide
  have hindex : a.index = b.index := by
    have h1 := hsev w
    have h2 := hsev v
    unfold pairPlace at h
    omega
  have hseverity : w.severity = v.severity := by
    unfold pairPlace at h
    omega
  have hslot : ∀ i : Slot, i.index < 4 := fun i => by cases i <;> decide
  have hinj : ∀ i j : Slot, i.index = j.index → i = j := fun i j => by cases i <;> cases j <;> decide
  have hkind : a = b := by
    cases a with
    | part =>
      cases b with
      | part => rfl
      | slot j => exact absurd hindex (Nat.ne_of_gt (hslot j))
    | slot i =>
      cases b with
      | part => exact absurd hindex (Nat.ne_of_lt (hslot i))
      | slot j => rw [hinj i j hindex]
  refine ⟨hkind, ?_⟩
  have hkinds : w.ofAccount = v.ofAccount := by
    rw [← hkind] at hv
    cases a with
    | part => simpa [pairMatches] using (hw.trans hv.symm)
    | slot => exact hw.trans hv.symm
  revert hkinds hseverity
  cases w <;> cases v <;> decide

namespace Warn.sound

section
variable {w : Warn} {held still : Bool} (h : w.sound held still)
include h

theorem distinct : PairsDistinct w.entries := by
  refine h.sorted.imp fun hlt hp => ?_
  rw [hp.1, hp.2] at hlt
  exact absurd hlt (Nat.lt_irrefl _)

/-- A change of entries one by one that keeps the pairs and what belongs to the chime. -/
theorem map {held' still' : Bool} {f : Entry → Entry} (hf : ∀ e, (f e).source = e.source ∧ (f e).type = e.type)
    (hl : ∀ e ∈ w.entries, (f e).lawful held') (hp : ∀ e ∈ w.entries, (f e).state = .presenting → e.state = .presenting)
    (ho : ∀ e ∈ w.entries, e.state = .presenting ∨ e.state = .silenced →
      (f e).state = .presenting ∨ (f e).state = .silenced)
    (hi : still' = true → w.chime = .idle) : { w with entries := w.entries.map f }.sound held' still' where
  sorted := List.pairwise_map.mpr (h.sorted.imp fun hlt => by rwa [(hf _).1, (hf _).2, (hf _).1, (hf _).2])
  entries x hx := by
    obtain ⟨e, he, rfl⟩ := List.mem_map.mp hx
    exact hl e he
  presenting x hx hs := by
    obtain ⟨e, he, rfl⟩ := List.mem_map.mp hx
    rw [(hf e).1, (hf e).2]
    exact h.presenting e he (hp e he hs)
  owner a t hc := by
    obtain ⟨e, he, h1, h2, h3⟩ := h.owner a t hc
    exact ⟨f e, List.mem_map_of_mem he, (hf e).1.trans h1, (hf e).2.trans h2, ho e he h3⟩
  idle := hi

/-- A change of entries one by one that leaves none presenting, with the chime put out. -/
theorem quieten {held' still' : Bool} {f : Entry → Entry} (hf : ∀ e, (f e).source = e.source ∧ (f e).type = e.type)
    (hl : ∀ e ∈ w.entries, (f e).lawful held') (hp : ∀ e ∈ w.entries, (f e).state ≠ .presenting) :
    { w with chime := .idle, entries := w.entries.map f }.sound held' still' where
  sorted := List.pairwise_map.mpr (h.sorted.imp fun hlt => by rwa [(hf _).1, (hf _).2, (hf _).1, (hf _).2])
  entries x hx := by
    obtain ⟨e, he, rfl⟩ := List.mem_map.mp hx
    exact hl e he
  presenting x hx hs := by
    obtain ⟨e, he, rfl⟩ := List.mem_map.mp hx
    exact absurd hs (hp e he)
  owner a t hc := by
    obtain ⟨n, snd, hc⟩ := hc
    cases hc
  idle _ := rfl

/-- The lamp does not enter the law of the list. -/
theorem workLamp : w.workLamp.sound held still := ⟨h.sorted, h.entries, h.presenting, h.owner, h.idle⟩

end

end Warn.sound

/-! ### Entries -/

theorem interval_le (t : WarnType) (n : Nat) (h : t.interval = some n) : n ≤ 600 := by
  revert h
  cases t <;> simp [WarnType.interval] <;> omega

/-- An entry without an interval has sounded all its bursts after one. -/
theorem Entry.countBurst_atLimit {e : Entry} (h : e.type.interval = none) : e.countBurst.atLimit = true := by
  refine (Entry.atLimit_iff _).mpr ⟨1, limit_of_interval_none h, ?_⟩
  show 1 ≤ gain 65535 e.bursts
  unfold gain
  split <;> omega

namespace Entry.lawful

section
variable {e : Entry} {held : Bool} (h : e.lawful held)
include h

/-- R107: a burst counted in silence. -/
theorem silent (hr : e.ready = true) : e.silent.lawful held := by
  obtain ⟨hq, -, hfall⟩ := e.ready_iff.mp hr
  have hfalls : e.falling = true → False := fun hf => absurd (hfall.symm.trans hf) nofun
  rw [← e.countSilent_eq]
  simp only [Entry.countSilent]
  split
  · exact
      { pair := h.pair, bursts := gain_le _ _ h.bursts, due := nofun, quiet := fun _ => rfl, waits := nofun, condition := nofun
        sounds := nofun, below := fun hs => hs.elim nofun nofun, falls := fun hf => (hfalls hf).elim }
  next hl =>
    exact
      { pair := h.pair, bursts := gain_le _ _ h.bursts, due := interval_le _
        quiet := fun hs => hs.elim (fun hx => nomatch hq.symm.trans hx) fun hx => nomatch hq.symm.trans hx
        waits := fun _ _ hn => hl (Entry.countBurst_atLimit hn), condition := fun hs => (nomatch hq.symm.trans hs)
        sounds := fun hs => (nomatch hq.symm.trans hs), below := fun _ => Bool.not_eq_true _ ▸ hl
        falls := fun hf => (hfalls hf).elim }

/-- R108: a burst begins. -/
theorem taken (hr : e.ready = true) : e.taken.lawful held :=
  { pair := h.pair, bursts := h.bursts, due := interval_le _, quiet := fun hs => hs.elim nofun nofun, waits := nofun
    condition := nofun, sounds := fun _ hn => hn, below := fun _ => h.below (.inl (e.ready_iff.mp hr).1), falls := nofun }

/-- R111: a condition entry is SILENCED. -/
theorem silence (hv : e.type.isEvent = false) : e.silence.lawful held :=
  { pair := h.pair, bursts := h.bursts, due := nofun, quiet := fun _ => rfl, waits := nofun, condition := fun _ => hv
    sounds := nofun, below := fun hs => hs.elim nofun nofun, falls := nofun }

theorem fall : e.fall.lawful held := { h with falls := nofun }

/-- R109: a second of the countdown. -/
theorem second : e.second.lawful held := by
  unfold Entry.second
  split
  next hs =>
    exact
      { h with
        due := fun n hn => by
          obtain ⟨m, hm, rfl⟩ := Option.map_eq_some_iff.mp hn
          exact (Nat.sub_le m 1).trans (h.due m hm)
        quiet := fun hx => by
          show e.due.map _ = none
          rw [h.quiet hx]
          rfl
        waits := fun hx hh hn => h.waits hx hh (Option.map_eq_none_iff.mp hn)
        sounds := fun hx hi hn => h.sounds hx hi (Option.map_eq_none_iff.mp hn)
        falls := fun hf => by
          have hf : e.falling = true ∨ (e.state = .queued ∧ e.due = some 1) := by simpa using hf
          obtain hf | ⟨hq, hd⟩ := hf
          · obtain ⟨hq, hd⟩ := h.falls hf
            exact ⟨hq, by show e.due.map _ = _; rw [hd]; rfl⟩
          · exact ⟨hq, by show e.due.map _ = _; rw [hd]; rfl⟩ }
  next => exact h

/-- R108: the end of its burst. -/
theorem endBurst (hs : e.state = .presenting ∨ e.state = .silenced) : e.endBurst.lawful held := by
  have hfalls : e.falling = true → False := fun hf => by
    rw [(h.falls hf).1] at hs
    exact hs.elim nofun nofun
  simp only [Entry.endBurst]
  split
  next hp =>
    have hp : e.state = .presenting := hp
    split
    · exact
        { pair := h.pair, bursts := gain_le _ _ h.bursts, due := nofun, quiet := fun _ => rfl, waits := nofun
          condition := nofun, sounds := nofun, below := fun hs => hs.elim nofun nofun
          falls := fun hf => (hfalls hf).elim }
    next hl =>
      exact
        { pair := h.pair, bursts := gain_le _ _ h.bursts, due := h.due, quiet := fun hx => hx.elim nofun nofun
          waits := fun _ _ => h.sounds hp fun hn => hl (Entry.countBurst_atLimit hn), condition := nofun, sounds := nofun
          below := fun _ => Bool.not_eq_true _ ▸ hl, falls := fun hf => (hfalls hf).elim }
  next hp =>
    have hs : e.state = .silenced := hs.resolve_left hp
    exact
      { pair := h.pair, bursts := gain_le _ _ h.bursts, due := h.due, quiet := h.quiet
        waits := fun hx => (nomatch hs.symm.trans hx), condition := h.condition, sounds := fun hx => absurd hx hp
        below := fun hx => hx.elim (fun hy => nomatch hs.symm.trans hy) fun hy => nomatch hs.symm.trans hy
        falls := fun hf => (hfalls hf).elim }

/-- R108: the entry into SELFTEST sends it back due. -/
theorem requeueDue (hp : e.state = .presenting) : e.requeueDue.lawful held :=
  { pair := h.pair, bursts := h.bursts, due := fun n hn => by cases hn; omega
    quiet := fun hx => hx.elim nofun nofun, waits := nofun, condition := nofun, sounds := nofun
    below := fun _ => h.below (.inr hp), falls := nofun }

/-- R116: RESET sends it back. -/
theorem requeue (hp : e.state = .presenting) : e.requeue.lawful true :=
  { pair := h.pair, bursts := h.bursts, due := h.due
    quiet := fun hx => hx.elim nofun nofun, waits := nofun, condition := nofun, sounds := nofun
    below := fun _ => h.below (.inr hp), falls := fun hf => nomatch hp.symm.trans (h.falls hf).1 }

theorem heldBack : e.lawful true :=
  ⟨h.pair, h.bursts, h.due, h.quiet, nofun, h.condition, h.sounds, h.below, h.falls⟩

/-- R116: the end of RESET restarts its countdown. -/
theorem restart : e.restart.lawful false := by
  unfold Entry.restart
  split
  next hq =>
    exact
      { pair := h.pair, bursts := h.bursts
        due := fun n hn => by
          have hn : (if e.bursts = 0 then some 0 else e.type.interval) = some n := hn
          split at hn
          · cases hn
            omega
          · exact interval_le _ _ hn
        quiet := fun hs => hs.elim (fun hx => nomatch hq.symm.trans hx) fun hx => nomatch hq.symm.trans hx
        waits := fun _ _ hn => by
          have hn : (if e.bursts = 0 then some 0 else e.type.interval) = none := hn
          split at hn
          · cases hn
          next hb =>
            have hlimit : e.atLimit = true :=
              (Entry.atLimit_iff _).mpr ⟨1, limit_of_interval_none hn, Nat.one_le_iff_ne_zero.mpr hb⟩
            exact absurd (hlimit.symm.trans (h.below (.inl hq))) nofun
        condition := fun hs => (nomatch hq.symm.trans hs), sounds := fun hs => (nomatch hq.symm.trans hs)
        below := fun _ => h.below (.inl hq), falls := nofun }
  next hq => exact ⟨h.pair, h.bursts, h.due, h.quiet, fun hs => absurd hs hq, h.condition, h.sounds, h.below, h.falls⟩

end

end Entry.lawful

/-- R104: an entry as it is raised. -/
theorem atRaise_lawful {a : Source} {w : WarnType} (hp : pairMatches a w = true) (now : Nat) (held : Bool) :
    (Entry.atRaise a w now).lawful held :=
  { pair := hp, bursts := Nat.zero_le _, due := fun n hn => by cases hn; omega
    quiet := fun hx => hx.elim nofun nofun, waits := nofun, condition := nofun, sounds := nofun
    below := fun _ => by
      rw [← Bool.not_eq_true, Entry.atLimit_iff]
      rintro ⟨n, hn, hle⟩
      have hn : w.limit = some n := hn
      have hle : n ≤ 0 := hle
      revert hn hle
      cases w <;> simp [WarnType.limit] <;> omega
    falls := nofun }

/-! ### The list and the chime -/

namespace Warn.sound

section
variable {w : Warn} {held still : Bool} (h : w.sound held still)
include h

/-- R116: a raise of a pair that is not listed. -/
theorem raised {a : Source} {t : WarnType} (hp : pairMatches a t = true) (hn : hasPair a t w.entries = false) (now : Nat) :
    (w.raised a t now).sound held still := by
  have hne : ∀ e ∈ w.entries, ¬(e.source = a ∧ e.type = t) := fun e he hx => by
    have := hasPair_iff.mpr ⟨e, he, hx⟩
    exact absurd (hn.symm.trans this) nofun
  refine Warn.sound.workLamp ⟨?_, ?_, ?_, ?_, h.idle⟩
  · have hall : ∀ es : List Entry, es.Pairwise (fun a b => pairPlace a.source a.type < pairPlace b.source b.type) →
        (∀ e ∈ es, e ∈ w.entries) → (insertEntry (.atRaise a t now) es).Pairwise
          (fun a b => pairPlace a.source a.type < pairPlace b.source b.type) := by
      intro es
      induction es with
      | nil => exact fun _ _ => List.pairwise_singleton _ _
      | cons x xs ih =>
        intro hs hm
        obtain ⟨hx, hxs⟩ := List.pairwise_cons.mp hs
        have hplace : pairPlace a t ≠ pairPlace x.source x.type := fun he => by
          obtain ⟨h1, h2⟩ := pairPlace_inj hp (h.entries x (hm x (.head _))).pair he
          exact hne x (hm x (.head _)) ⟨h1.symm, h2.symm⟩
        unfold insertEntry
        split
        next hle =>
          have hlt : pairPlace a t < pairPlace x.source x.type := Nat.lt_of_le_of_ne hle hplace
          refine List.pairwise_cons.mpr ⟨fun y hy => ?_, hs⟩
          obtain rfl | hy := List.mem_cons.mp hy
          · exact hlt
          · exact hlt.trans (hx y hy)
        next hle =>
          refine List.pairwise_cons.mpr ⟨fun y hy => ?_, ih hxs fun e he => hm e (.tail _ he)⟩
          obtain rfl | hy := mem_insertEntry.mp hy
          · exact Nat.lt_of_not_le hle
          · exact hx y hy
    exact hall _ h.sorted fun e he => he
  · intro e he
    obtain rfl | he := mem_insertEntry.mp he
    · exact atRaise_lawful hp now held
    · exact h.entries e he
  · intro e he hs
    obtain rfl | he := mem_insertEntry.mp he
    · cases hs
    · exact h.presenting e he hs
  · intro b u hc
    obtain ⟨e, he, hx⟩ := h.owner b u hc
    exact ⟨e, mem_insertEntry.mpr (.inr he), hx⟩

/-- R117: a removal takes the burst of its pair away from it. -/
theorem dropped (a : Source) (t : WarnType) : (w.dropped a t).sound held still := by
  have howns : ∀ b u, (w.dropped a t).chime.owns b u ↔ w.chime.owns b u ∧ ¬(b = a ∧ u = t) := by
    intro b u
    constructor
    · rintro ⟨n, snd, hc⟩
      rw [Warn.dropped_chime] at hc
      split at hc
      · cases hc
      next b' u' n' snd' owned hw =>
        injection hc with h1 h2 h3 h4 h5
        subst h1 h2 h3 h4
        simp only [Bool.and_eq_true, Bool.not_eq_true', Bool.and_eq_false_iff, decide_eq_false_iff_not] at h5
        obtain ⟨rfl, h5⟩ := h5
        exact ⟨⟨_, _, hw⟩, fun hx => h5.elim (fun hy => hy hx.1) fun hy => hy hx.2⟩
    · rintro ⟨⟨n, snd, hc⟩, hx⟩
      obtain ⟨hd, -⟩ | ⟨-, h1, h2⟩ := Warn.dropped_sounding (a := a) (w := t) hc
      · exact ⟨n, snd, hd⟩
      · exact absurd ⟨h1, h2⟩ hx
  refine ⟨h.sorted.sublist List.filter_sublist, ?_, ?_, ?_, ?_⟩
  · exact fun e he => h.entries e (mem_dropped.mp he).1
  · exact fun e he hs => (howns _ _).mpr ⟨h.presenting e (mem_dropped.mp he).1 hs, (mem_dropped.mp he).2⟩
  · intro b u hc
    obtain ⟨hc, hx⟩ := (howns b u).mp hc
    obtain ⟨e, he, h1, h2, h3⟩ := h.owner b u hc
    exact ⟨e, mem_dropped.mpr ⟨he, fun hy => hx ⟨h1.symm.trans hy.1, h2.symm.trans hy.2⟩⟩, h1, h2, h3⟩
  · intro hs
    rw [Warn.dropped_chime, h.idle hs]

end

end Warn.sound

end Sys2Proof.Machine
end

section
/-! PROOF. O58: every piece keeps the warning presenter's law. -/
namespace Sys2Proof.Machine

/-! ### The test and the selection -/

theorem WarnLaw.congr {s t : State} (h : WarnLaw s) (hw : t.warn = s.warn) (hr : t.rst.asserted = s.rst.asserted)
    (hh : t.rst.heldWarnings = s.rst.heldWarnings) (hm : t.port.mode = s.port.mode) : WarnLaw t := by
  rw [warnLaw_iff] at h ⊢
  unfold State.still State.handedLegal State.lampRight at h ⊢
  rw [hw, hr, hh, hm]
  exact h

/-- The law of a state with another list and chime. -/
theorem WarnLaw.rewarn {s t : State} (h : WarnLaw s) (hw : t.warn.sound s.rst.asserted s.still)
    (hl : t.warn.lamp = if s.rst.asserted then .off else lampOf t.warn.entries) (hr : t.rst = s.rst)
    (hm : t.port.mode = s.port.mode) : WarnLaw t := by
  obtain ⟨-, hh, -⟩ := (warnLaw_iff s).mp h
  rw [warnLaw_iff]
  unfold State.still State.handedLegal State.lampRight at *
  rw [hr, hm]
  exact ⟨hw, hh, hl⟩

theorem State.silenced_warnLaw {s : State} (h : WarnLaw s) : WarnLaw s.silenced := by
  obtain ⟨hw, -, hl⟩ := (warnLaw_iff s).mp h
  have hstate : ∀ e : Entry, (e.state = .presenting ∨ e.state = .silenced) ∨ (s.testEntry e).state = .presenting →
      s.testEntry e = e := by
    intro e he
    unfold State.testEntry at he ⊢
    split
    next hr =>
      rw [if_pos hr] at he
      have hq := (e.ready_iff.mp hr.1).1
      obtain (he | he) | he := he
      · cases hq.symm.trans he
      · cases hq.symm.trans he
      · have hsilent : e.silent.state = .queued ∨ e.silent.state = .lampOnly := by
          unfold Entry.silent
          split
          · split
            · exact .inr rfl
            · exact .inl hq
          · exact .inl hq
        rw [he] at hsilent
        exact hsilent.elim nofun nofun
    next => rfl
  have hsound := hw.map (f := s.testEntry) (held' := s.rst.asserted) s.testEntry_pair (fun e he => ?_) (fun e _ hs => ?_)
    (fun e _ hs => ?_) hw.idle
  · exact h.rewarn hsound (hl.trans (by rw [← lampOf_tested]; rfl)) rfl rfl
  · unfold State.testEntry
    split
    next hr => exact (hw.entries e he).silent hr.1
    next => exact hw.entries e he
  · rwa [hstate e (.inr hs)] at hs
  · rwa [hstate e (.inl hs)]

theorem State.bursting_warnLaw {s : State} {e : Entry} (h : WarnLaw s) (hi : s.warn.chime = .idle) (hs : s.still = false)
    (he : e ∈ s.warn.entries) (hr : e.ready = true) : WarnLaw (s.bursting e) := by
  obtain ⟨hw, -, hl⟩ := (warnLaw_iff s).mp h
  have hquiet : ∀ x ∈ s.warn.entries, x.state ≠ .presenting := fun x hx hp => by
    obtain ⟨n, snd, hc⟩ := hw.presenting x hx hp
    cases hi.symm.trans hc
  have hlaw : ∀ x ∈ s.warn.entries, (e.takenFor x).lawful s.rst.asserted := fun x hx => by
    unfold Entry.takenFor
    split
    next hp =>
      rw [hw.distinct.eq hx he hp.1 hp.2]
      exact (hw.entries e he).taken hr
    next => exact hw.entries x hx
  refine h.rewarn ⟨?_, ?_, ?_, ?_, ?_⟩ ?_ rfl rfl
  · rw [State.bursting_entries]
    exact List.pairwise_map.mpr (hw.sorted.imp fun hlt => by
      rwa [(e.takenFor_pair _).1, (e.takenFor_pair _).2, (e.takenFor_pair _).1, (e.takenFor_pair _).2])
  · intro x hx
    obtain ⟨y, hy, rfl⟩ := List.mem_map.mp hx
    exact hlaw y hy
  · rw [State.bursting_entries]
    intro x hx hp
    obtain ⟨y, hy, rfl⟩ := List.mem_map.mp hx
    rw [(e.takenFor_pair y).1, (e.takenFor_pair y).2]
    unfold Entry.takenFor at hp
    split at hp
    next hpair =>
      rw [hpair.1, hpair.2]
      exact ⟨_, _, rfl⟩
    next => exact absurd hp (hquiet y hy)
  · rintro a t ⟨n, snd, hc⟩
    injection hc with h1 h2
    refine ⟨e.takenFor e, List.mem_map_of_mem he, (e.takenFor_pair e).1.trans h1, (e.takenFor_pair e).2.trans h2, .inl ?_⟩
    rw [Entry.takenFor, if_pos ⟨rfl, rfl⟩]
    rfl
  · exact fun hst => absurd (hs.symm.trans hst) nofun
  · show s.warn.lamp = _
    rw [State.bursting_entries, lampOf_takenFor he hr]
    exact hl

theorem State.still_iff (s : State) : s.still = false ↔ s.rst.asserted = false ∧ s.port.mode ≠ .selfTest := by
  simp [State.still]

theorem State.select_warnLaw {s : State} (h : WarnLaw s) : WarnLaw s.select := by
  by_cases hc : s.warn.chime ≠ .idle ∨ s.port.mode = .selfTest ∨ s.rst.asserted = true ∨
      ∀ e ∈ s.warn.entries, e.ready = true → s.suppressed e = true
  · rw [State.select_kept hc]
    exact h
  · push Not at hc
    obtain ⟨hi, hm, hr, e, he, hre, hse⟩ := hc
    have hr : s.rst.asserted = false := by simpa using hr
    obtain ⟨x, hx, hrx, -, -, heq⟩ := State.select_bursts hr hi hm ⟨e, he, hre, by simpa using hse⟩
    rw [heq]
    exact State.bursting_warnLaw h hi (s.still_iff.mpr ⟨hr, hm⟩) hx hrx

theorem State.settle_warnLaw {s : State} (h : WarnLaw s) : WarnLaw s.settle := by
  cases hr : s.rst.asserted with
  | true =>
    rw [State.settle, if_pos hr]
    exact h
  | false =>
    rw [State.settle_released hr]
    exact State.select_warnLaw (State.silenced_warnLaw h)

/-! ### Raises and removals -/

theorem workLamp_lamp (w : Warn) : w.workLamp.lamp = lampOf w.workLamp.entries := rfl

theorem State.addEntry_warnLaw {s : State} {a : Source} {w : WarnType} (hr : s.rst.asserted = false)
    (hp : pairMatches a w = true) (h : WarnLaw s) : WarnLaw (s.addEntry a w) := by
  cases hn : hasPair a w s.warn.entries with
  | true =>
    rw [State.addEntry_present hn]
    exact h
  | false =>
    obtain ⟨hw, -, -⟩ := (warnLaw_iff s).mp h
    rw [State.addEntry_eq hn]
    have hraised : WarnLaw (s.setWarn (s.warn.raised a w s.clock.minute)) :=
      h.rewarn (hw.raised hp hn _) (by rw [hr]; rfl) rfl rfl
    exact hraised.congr (by simp) (by simp) (by simp) (by simp)

theorem State.dropEntry_warnLaw {s : State} {a : Source} {w : WarnType} (hr : s.rst.asserted = false) (h : WarnLaw s) :
    WarnLaw (s.dropEntry a w) := by
  cases hn : hasPair a w s.warn.entries with
  | false =>
    rw [State.dropEntry_absent hn]
    exact h
  | true =>
    obtain ⟨hw, -, -⟩ := (warnLaw_iff s).mp h
    rw [State.dropEntry_eq hn]
    exact h.rewarn (hw.dropped a w) (by rw [hr]; rfl) rfl rfl

/-- What RESET holds is held in order. -/
theorem WarnLaw.hold {s : State} (h : WarnLaw s) {x : Handed} (hx : x.legal) :
    WarnLaw { s with rst := { s.rst with heldWarnings := s.rst.heldWarnings ++ [x] } } := by
  rw [warnLaw_iff] at h ⊢
  refine ⟨h.1, fun y hy => ?_, h.2.2⟩
  obtain hy | hy := List.mem_append.mp hy
  · exact h.2.1 y hy
  · rw [List.mem_singleton.mp hy]
    exact hx

theorem State.raise_warnLaw {s : State} {a : Source} {w : WarnType} (hp : pairMatches a w = true) (h : WarnLaw s) :
    WarnLaw (s.raise a w) := by
  cases hr : s.rst.asserted with
  | true =>
    rw [State.raise, if_pos hr]
    exact h.hold hp
  | false =>
    rw [State.raise_released a w hr]
    split
    · exact h
    · exact State.settle_warnLaw (State.addEntry_warnLaw hr hp h)

theorem State.remove_warnLaw {s : State} {a : Source} {w : WarnType} (hp : pairMatches a w = true) (h : WarnLaw s) :
    WarnLaw (s.remove a w) := by
  cases hr : s.rst.asserted with
  | true =>
    rw [State.remove, if_pos hr]
    exact h.hold hp
  | false =>
    rw [State.remove, if_neg (by simp [hr])]
    exact State.dropEntry_warnLaw hr h

/-! ### The presenter's operations -/

/-- A change of the entries one by one that keeps the pairs, what is SILENCED and what belongs to the chime. -/
theorem WarnLaw.mapEntries {s : State} (h : WarnLaw s) {f : Entry → Entry}
    (hf : ∀ e, (f e).source = e.source ∧ (f e).type = e.type) (hl : ∀ e : Entry, e.lawful s.rst.asserted → (f e).lawful s.rst.asserted)
    (hs : ∀ e, (f e).state = e.state) : WarnLaw { s with warn := { s.warn with entries := s.warn.entries.map f } } := by
  obtain ⟨hw, -, hlamp⟩ := (warnLaw_iff s).mp h
  refine h.rewarn (hw.map hf (fun e he => hl e (hw.entries e he)) (fun e _ hp => by rwa [hs] at hp)
    (fun e _ hp => by rwa [hs]) hw.idle) ?_ rfl rfl
  show s.warn.lamp = if s.rst.asserted then .off else lampOf (s.warn.entries.map f)
  rw [lampOf_map (fun e => (hf e).2) _ fun e _ => by rw [hs]]
  exact hlamp

/-- The chime's tone moves, its owner stays. -/
theorem WarnLaw.retone {s : State} (h : WarnLaw s) {a : Source} {t : WarnType} {n m : Nat} {x y owned : Bool}
    (hc : s.warn.chime = .sounding a t n x owned) :
    WarnLaw { s with warn := { s.warn with chime := .sounding a t m y owned } } := by
  obtain ⟨hw, -, hlamp⟩ := (warnLaw_iff s).mp h
  have howns : ∀ b u, Chime.owns (.sounding a t m y owned) b u ↔ s.warn.chime.owns b u := by
    intro b u
    rw [hc]
    constructor
    · rintro ⟨k, snd, he⟩
      injection he with h1 h2 h3 h4 h5
      subst h1 h2 h5
      exact ⟨n, x, rfl⟩
    · rintro ⟨k, snd, he⟩
      injection he with h1 h2 h3 h4 h5
      subst h1 h2 h5
      exact ⟨m, y, rfl⟩
  refine h.rewarn ⟨hw.sorted, hw.entries, fun e he hp => (howns _ _).mpr (hw.presenting e he hp),
    fun b u ho => hw.owner b u ((howns b u).mp ho), fun hs => ?_⟩ hlamp rfl rfl
  cases hc.symm.trans (hw.idle hs)

theorem WarnLaw.writeT7 {s : State} (h : WarnLaw s) (on per : Nat) : WarnLaw (s.writeTimer .t7 on per) := by
  rw [State.writeT7_eq]
  exact h.congr rfl rfl rfl rfl

theorem State.toneEnd_warnLaw {s : State} (h : WarnLaw s) : WarnLaw s.toneEnd := by
  unfold State.toneEnd
  split
  · exact h
  next hc => exact (h.retone hc).writeT7 _ _
  next hc =>
    split
    · exact (h.retone hc).writeT7 _ _
    · exact h

theorem Entry.endBurst_pair (e : Entry) : e.endBurst.source = e.source ∧ e.endBurst.type = e.type := by
  rw [e.endBurst_eq]
  split
  · split
    · split <;> exact ⟨rfl, rfl⟩
    · exact ⟨rfl, rfl⟩
  · exact ⟨rfl, rfl⟩

theorem Entry.endBurst_state (e : Entry) :
    e.endBurst.state ≠ .presenting ∧ (e.endBurst.state = .silenced ↔ e.state = .silenced) := by
  rw [e.endBurst_eq]
  split
  next hp =>
    split
    · split <;> exact ⟨nofun, by simp [hp]⟩
    · exact ⟨nofun, by simp [hp]⟩
  next hp => exact ⟨hp, Iff.rfl⟩

theorem State.endOfBurst_warnLaw {s : State} (h : WarnLaw s) : WarnLaw s.endOfBurst := by
  cases hc : s.warn.chime with
  | idle =>
    rw [State.endOfBurst, hc]
    exact h
  | sounding a t n snd owned =>
    cases snd with
    | true =>
      rw [State.endOfBurst, hc]
      exact h
    | false =>
      by_cases hn : n ≤ 1
      · rw [State.endOfBurst_eq hc hn]
        refine State.select_warnLaw ?_
        obtain ⟨hw, -, hlamp⟩ := (warnLaw_iff s).mp h
        have hf : ∀ e : Entry, (if owned = true ∧ e.source = a ∧ e.type = t then e.endBurst else e).source = e.source ∧
            (if owned = true ∧ e.source = a ∧ e.type = t then e.endBurst else e).type = e.type := by
          intro e
          split
          · exact e.endBurst_pair
          · exact ⟨rfl, rfl⟩
        refine h.rewarn (hw.quieten hf (fun e he => ?_) fun e he => ?_) ?_ rfl rfl
        · split
          next hp =>
            obtain ⟨x, hx, h1, h2, hs⟩ := hw.owner a t ⟨n, false, by rw [hc, hp.1]⟩
            rw [hw.distinct.eq he hx (hp.2.1.trans h1.symm) (hp.2.2.trans h2.symm)]
            exact (hw.entries x hx).endBurst hs
          next => exact hw.entries e he
        · split
          · exact e.endBurst_state.1
          next hp =>
            intro hs
            obtain ⟨k, y, ho⟩ := hw.presenting e he hs
            injection hc.symm.trans ho with h1 h2 h3 h4 h5
            exact hp ⟨h5, h1.symm, h2.symm⟩
        · show s.warn.lamp = if s.rst.asserted then .off else lampOf (s.warn.entries.map _)
          rw [lampOf_map (fun e => (hf e).2) _ fun e _ => ?_]
          · exact hlamp
          · split
            · exact e.endBurst_state.2
            · rfl
      · have hkept : s.endOfBurst = s := by
          unfold State.endOfBurst
          rw [hc]
          exact if_neg hn
        rw [hkept]
        exact h

theorem State.acknowledge_warnLaw {s : State} {e : Entry} (hr : s.rst.asserted = false) (h : WarnLaw s) : WarnLaw (s.acknowledge e) := by
  cases hv : e.type.isEvent with
  | true =>
    rw [State.acknowledge, if_pos hv]
    exact State.dropEntry_warnLaw hr h
  | false =>
    by_cases hs : e.state = .silenced
    · rw [State.acknowledge, if_neg (by simp [hv]), if_pos hs]
      exact h
    · obtain ⟨hw, -, -⟩ := (warnLaw_iff s).mp h
      rw [State.acknowledge_condition hv hs]
      refine h.rewarn (Warn.sound.workLamp (hw.map (fun x => ?_) (fun x hx => ?_) (fun x _ hp => ?_) (fun x _ hp => ?_)
        hw.idle)) (by rw [hr]; rfl) rfl rfl
      · split <;> exact ⟨rfl, rfl⟩
      · split
        next hp => exact (hw.entries x hx).silence (hp.2 ▸ hv)
        next => exact hw.entries x hx
      · split at hp
        · cases hp
        · exact hp
      · split
        · exact .inr rfl
        · exact hp

theorem WarnOp.warnLaw {s t : State} (p : WarnOp s t) (h : WarnLaw s) : WarnLaw t := by
  cases p with
  | settle => exact State.settle_warnLaw h
  | countdownZero =>
    unfold State.countdownZero
    split
    · exact h
    · exact State.settle_warnLaw (h.mapEntries (fun _ => ⟨rfl, rfl⟩) (fun _ hx => hx.fall) fun _ => rfl)
  | acknowledge e _ hr => exact State.acknowledge_warnLaw hr h
  | toneEnd => exact State.toneEnd_warnLaw h
  | endOfBurst => exact State.endOfBurst_warnLaw h
  | flash =>
    obtain ⟨hw, -, hlamp⟩ := (warnLaw_iff s).mp h
    exact h.rewarn ⟨hw.sorted, hw.entries, hw.presenting, hw.owner, hw.idle⟩ hlamp rfl rfl
  | second =>
    refine h.mapEntries (fun e => ?_) (fun _ hx => hx.second) fun e => ?_
    · simp
    · simp

/-- A burst cut off goes back to its entry. -/
theorem State.cutBurst_warn {s : State} {back : Entry → Entry} {held : Bool} {still : Bool} (h : WarnLaw s)
    (hf : ∀ e, (back e).source = e.source ∧ (back e).type = e.type)
    (hs : ∀ e, (back e).state = .queued)
    (hl : ∀ e : Entry, e.lawful s.rst.asserted → e.state = .presenting → (back e).lawful held)
    (hk : ∀ e : Entry, e.lawful s.rst.asserted → e.lawful held) :
    (s.cutBurst back).warn.sound held still ∧ lampOf (s.cutBurst back).warn.entries = lampOf s.warn.entries ∧
    (s.cutBurst back).warn.lamp = s.warn.lamp := by
  obtain ⟨hw, -, hlamp⟩ := (warnLaw_iff s).mp h
  unfold State.cutBurst
  split
  next hc =>
    refine ⟨⟨hw.sorted, fun e he => hk e (hw.entries e he), hw.presenting, hw.owner, fun _ => hc⟩, rfl, rfl⟩
  next a t n snd owned hc =>
    have hpair : ∀ e : Entry, (if e.isPair a t = true then if e.state = .presenting then back e else e else e).source = e.source ∧
        (if e.isPair a t = true then if e.state = .presenting then back e else e else e).type = e.type := by
      intro e
      split
      · split
        · exact hf e
        · exact ⟨rfl, rfl⟩
      · exact ⟨rfl, rfl⟩
    refine ⟨hw.quieten hpair (fun e he => ?_) fun e he => ?_, lampOf_map (fun e => (hpair e).2) _ fun e he => ?_, rfl⟩
    · split
      · dsimp only
        split
        next hp => exact hl e (hw.entries e he) hp
        next => exact hk e (hw.entries e he)
      · exact hk e (hw.entries e he)
    · split
      · dsimp only
        split
        · rw [hs]
          exact nofun
        next hp => exact hp
      next hp =>
        intro hx
        obtain ⟨k, y, ho⟩ := hw.presenting e he hx
        injection hc.symm.trans ho with h1 h2
        exact hp ((e.isPair_iff a t).mpr ⟨h1.symm, h2.symm⟩)
    · split
      · split
        next hp => simp [hs, hp]
        next => rfl
      · rfl

end Sys2Proof.Machine
end

section
/-! PROOF. O58: the pieces, RESET and its release keep the warning presenter's law. -/
namespace Sys2Proof.Machine

theorem State.enterMode_warnLaw {s : State} {m : PartMode} (h : WarnLaw s) : WarnLaw (s.enterMode m) := by
  obtain ⟨hw, hh, hl⟩ := (warnLaw_iff s).mp h
  have hrst : (s.enterMode m).rst = s.rst := s.enterMode_rst m
  by_cases hm : m = .selfTest
  · obtain ⟨hcut, hlamp, hkept⟩ := State.cutBurst_warn (held := s.rst.asserted) (still := (s.enterMode m).still) h
      (back := Entry.requeueDue) (fun _ => ⟨rfl, rfl⟩) (fun _ => rfl) (fun e he hp => he.requeueDue hp) fun e he => he
    have hwarn : (s.enterMode m).warn = (s.cutBurst Entry.requeueDue).warn := by
      simp only [State.enterMode, if_pos hm, State.cutBurst, State.withPort]
      split <;> rfl
    rw [warnLaw_iff]
    unfold State.lampRight at hl
    unfold State.handedLegal State.lampRight
    rw [hrst, hwarn, hkept, hlamp]
    exact ⟨hcut, hh, hl⟩
  · have heq : s.enterMode m = s.withPort (fun p => { p with mode := m }) := by rw [State.enterMode, if_neg hm]
    rw [heq, warnLaw_iff]
    refine ⟨⟨hw.sorted, hw.entries, hw.presenting, hw.owner, fun hs => hw.idle ?_⟩, hh, hl⟩
    have hasserted : s.rst.asserted = true := by simpa [State.still, State.withPort, hm] using hs
    simp [State.still, hasserted]

/-- What RESET held enters or leaves the list at its end, with no burst begun. -/
theorem State.applyHeld_sound {s : State} {hs : List Handed} (hl : ∀ h ∈ hs, h.legal) {held still : Bool}
    (h : s.warn.sound held still) : (s.applyHeld hs).warn.sound held still := by
  induction hs generalizing s with
  | nil => exact h
  | cons x xs ih =>
    have hx := hl x (.head _)
    cases x with
    | raise a w =>
      refine ih (fun y hy => hl y (.tail _ hy)) ?_
      cases hn : hasPair a w s.warn.entries with
      | true => rwa [State.addEntry_present hn]
      | false =>
        rw [State.addEntry_eq hn]
        have hwarn : ((s.setWarn (s.warn.raised a w s.clock.minute)).notice .warning).warn = s.warn.raised a w s.clock.minute := by
          simp [State.setWarn]
        rw [hwarn]
        exact h.raised hx hn _
    | remove a w =>
      refine ih (fun y hy => hl y (.tail _ hy)) ?_
      cases hn : hasPair a w s.warn.entries with
      | false => rwa [State.dropEntry_absent hn]
      | true =>
        rw [State.dropEntry_eq hn]
        exact h.dropped a w

theorem Entry.restart_pair (e : Entry) : e.restart.source = e.source ∧ e.restart.type = e.type ∧ e.restart.state = e.state := by
  unfold Entry.restart
  split <;> exact ⟨rfl, rfl, rfl⟩

/-- R116: the end of RESET. -/
theorem State.releasePresenter_warnLaw {s : State} (ha : s.rst.asserted = true) (h : WarnLaw s) :
    WarnLaw s.releasePresenter := by
  obtain ⟨hw, hh, -⟩ := (warnLaw_iff s).mp h
  have hstart : s.releaseReset.warn.sound true true :=
    ⟨hw.sorted, fun e he => (hw.entries e he).heldBack, hw.presenting, hw.owner, fun _ => hw.idle (by simp [State.still, ha])⟩
  have happly := State.applyHeld_sound (s := s.releaseReset) hh hstart
  have hrst : s.releasePresenter.rst = s.releaseReset.rst := State.applyHeld_rst _ _
  have hrestart : s.releasePresenter.warn.sound false s.releasePresenter.still :=
    Warn.sound.workLamp (happly.map (fun e => ⟨e.restart_pair.1, e.restart_pair.2.1⟩)
      (fun e he => (happly.entries e he).restart) (fun e _ hp => e.restart_pair.2.2 ▸ hp)
      (fun e _ hp => by rwa [e.restart_pair.2.2]) fun _ => happly.idle rfl)
  rw [warnLaw_iff]
  unfold State.handedLegal State.lampRight
  rw [hrst]
  exact ⟨hrestart, nofun, rfl⟩

/-- R116: the assertion of RESET. -/
theorem State.assertReset_warnLaw {s : State} (h : WarnLaw s) : WarnLaw s.assertReset := by
  obtain ⟨hcut, -, -⟩ := State.cutBurst_warn (held := true) (still := true) h
    (back := Entry.requeue) (fun _ => ⟨rfl, rfl⟩) (fun _ => rfl) (fun e he hp => he.requeue hp) fun e he => he.heldBack
  rw [warnLaw_iff]
  exact ⟨⟨hcut.sorted, hcut.entries, hcut.presenting, hcut.owner, fun _ => hcut.idle rfl⟩, nofun, rfl⟩

theorem State.workMonitor_warnLaw {s : State} {os : List Order} (h : WarnLaw s) : WarnLaw (s.workMonitor os) := by
  unfold State.workMonitor
  split
  · exact h.congr rfl rfl rfl rfl
  · have hgone : WarnLaw (s.withFridge fun f => { f with monitored := none, warmRun := none }) := h.congr rfl rfl rfl rfl
    dsimp only
    split
    · exact State.remove_warnLaw rfl hgone
    · exact hgone

theorem State.pass_warnLaw {s : State} (h : WarnLaw s) : WarnLaw s.pass := by
  simp only [State.pass]
  split
  · exact h
  · refine State.workMonitor_warnLaw (h.congr ?_ ?_ ?_ ?_)
    all_goals simp [State.presentLights]

theorem Piece.warnLaw {c : Instr} {r s t : State} (p : Piece c r s t) (h : WarnLaw s) : WarnLaw t := by
  cases p with
  | port p hp => exact h.congr rfl rfl rfl hp.1
  | mode m => exact State.enterMode_warnLaw h
  | notice => exact h.congr (by simp) (by simp) (by simp) (by simp)
  | accountNotice => exact h.congr (by simp) (by simp) (by simp) (by simp)
  | quiet => exact h.congr (by simp) (by simp) (by simp) (by simp)
  | raise a w hp => exact State.raise_warnLaw hp h
  | remove a w hp => exact State.remove_warnLaw hp h
  | warn hw => exact hw.warnLaw h
  | heater hh =>
    have hf := hh.frame
    exact h.congr (by rw [hf.only]) (by rw [hf.only]) (by rw [hf.only]) hf.noticed.mode
  | lock => exact h.congr rfl rfl rfl rfl
  | fridge hp =>
    have hf : s.fridgeFrame t := hp.frame
    exact h.congr (by rw [hf.only]) (by rw [hf.only]) (by rw [hf.only]) hf.noticed.mode
  | stall rate =>
    have hf := s.tachReading_frame rate
    exact h.congr (by rw [hf.only]) (by rw [hf.only]) (by rw [hf.only]) hf.noticed.mode
  | lights hl =>
    have hf : s.lightFrame t := hl.frame
    exact h.congr (by rw [hf.only]) (by rw [hf.only]) (by rw [hf.only]) (by rw [hf.only])
  | overheat held =>
    have hf := s.debounced_ovht_only held
    refine h.congr (by rw [hf]) (by rw [hf]) (by rw [hf]) ?_
    obtain hx | hx := s.debounced_ovht held
    · rw [hx]
    · exact hx.noticed.mode
  | coldRoom n hn hf hd =>
    have heq := State.tempWindow_c3_only hf hd
    exact h.congr (by rw [heq]) (by rw [heq]) (by rw [heq])
      ((State.tempWindow_c3_faulted_frame hf hd).noticed.mode.trans (by simp [State.takeTemp]))
  | period i =>
    have hf := s.periodEnd_only i
    exact h.congr (by rw [hf]) (by rw [hf]) (by rw [hf]) (by rw [hf])
  | release _ ha => exact State.releasePresenter_warnLaw ha h
  | _ => exact h.congr rfl rfl rfl rfl

/-- Settles O58: the presenter's operations keep the law of each entry, the chime's owner and the lamp. -/
theorem stepKeepsTheWarningLaw : Obligations.StepKeepsTheWarningLaw := by
  unfold Obligations.StepKeepsTheWarningLaw
  intro s t h hs
  refine step_keeps (P := WarnLaw) (fun h hs => ?_) (fun _ _ h => h) h hs
  refine exec_keeps_of_pieces (P := WarnLaw) Piece.warnLaw (fun _ => State.pass_warnLaw) (fun s => ?_)
    (fun _ => State.assertReset_warnLaw) h hs
  rw [warnLaw_iff]
  exact ⟨⟨.nil, nofun, nofun, fun _ _ hc => (nomatch hc), fun _ => rfl⟩, nofun, rfl⟩

end Sys2Proof.Machine
end

section
/-! PROOF. O56: the loads' presentations and the law of the four light channels. -/
namespace Sys2Proof.Machine

/-! ### Presentations -/

theorem State.pass_presents {s : State} (hr : s.rst.asserted = false) : PresentationLaw s.pass := by
  obtain ⟨-, -, -, h, -⟩ := s.pass_spec hr
  exact h

theorem Runs.presents {c : Instr} {r s : State} {b : Bool} (h : Runs c r b s) (hr : PresentationLaw r) :
    b = true → PresentationLaw s := by
  induction h with
  | start => exact fun _ => hr
  | calm _ _ hc ih =>
    intro hb load
    rw [hc.presented, hc.orders]
    exact ih hb load
  | other => exact nofun
  | passed _ ha => exact fun _ => State.pass_presents ha

theorem State.assertReset_presents (s : State) : PresentationLaw s.assertReset := by
  intro load
  have hnone : presentedFor load s.assertReset.orders = none := by
    have horders : s.assertReset.orders = s.orders.map Order.heldBack := by simp [State.assertReset, State.quietPresenter]
    rw [presentedFor, horders]
    have hfind : (s.orders.map Order.heldBack).find? (fun o => decide (o.load = load) && decide (o.state = .active)) = none := by
      rw [List.find?_eq_none]
      intro o ho
      obtain ⟨p, -, rfl⟩ := List.mem_map.mp ho
      unfold Order.heldBack
      split
      · simp
      next h => simp [h]
    rw [hfind]
    rfl
  rw [hnone]
  cases load <;> rfl

theorem exec_presents {c : Instr} {s t : State} (h : exec c s = .next t) (hs : PresentationLaw s) : PresentationLaw t := by
  by_cases hc : c = .coldStart
  · subst hc
    cases h
    intro load
    cases load <;> rfl
  by_cases hr : c = .resetAssert
  · subst hr
    cases h
    unfold State.outOfReset
    split
    · exact hs
    · exact s.assertReset_presents
  · exact (exec_runs h hc hr).presents hs rfl

/-! ### A fade's duties -/

/-- R181: a fade's duties lie between its ends. -/
theorem fadeDuty_between (a b k n : Nat) (hk : k ≤ n) :
    min a b ≤ fadeDuty a b k n ∧ fadeDuty a b k n ≤ max a b := by
  have hdiv : ∀ d : Nat, d * k / n ≤ d := fun d => by
    obtain rfl | hn := Nat.eq_zero_or_pos n
    · rw [Nat.div_zero]
      exact Nat.zero_le d
    · exact Nat.div_le_of_le_mul (by rw [Nat.mul_comm n d]; exact Nat.mul_le_mul_left d hk)
  unfold fadeDuty
  obtain ⟨d, rfl⟩ | ⟨d, rfl⟩ : (∃ d, b = a + d) ∨ ∃ d, a = b + d := by
    obtain h | h := Nat.le_total a b
    · exact .inl ⟨b - a, by omega⟩
    · exact .inr ⟨a - b, by omega⟩
  · have hcast : (((a + d : Nat) : Int) - (a : Int)) * (k : Int) = ((d * k : Nat) : Int) := by push_cast; ring
    rw [hcast, ← Int.ofNat_tdiv]
    have := hdiv d
    generalize d * k / n = q at this ⊢
    omega
  · have hcast : (((b : Nat) : Int) - ((b + d : Nat) : Int)) * (k : Int) = -((d * k : Nat) : Int) := by push_cast; ring
    rw [hcast, Int.neg_tdiv, ← Int.ofNat_tdiv]
    have := hdiv d
    generalize d * k / n = q at this ⊢
    omega

/-- R181: a fade ends at its target. -/
theorem fadeDuty_end (a b n : Nat) (hn : 0 < n) : fadeDuty a b n n = b := by
  unfold fadeDuty
  rw [Int.mul_tdiv_cancel _ (by omega)]
  omega

/-! ### One channel -/

/-- What drives the lamp. -/
def Timer.output (t : Timer) : Nat := if t.running then (if t.pending then t.shadowOn else t.onCmp) else 0

/-- The law of one channel, over what its timer gives and the duty its target comes to. -/
structure Channel.lit (c : Channel) (out eff : Nat) : Prop where
  presented : ∀ p, c.presented = some p → ∀ level fade, p.target = .light level fade → c.target = level ∧ c.fadeTime = fade
  unpresented : c.presented = none → c.target = 0 ∧ c.fadeTime = 1
  effective : c.effective = eff
  pursued : c.pursued = c.effective
  fade : ∀ f, c.fade = some f → f.taken < f.steps
  duty : c.duty = out

theorem LightId.legal_iff (s : State) (i : LightId) :
    LightId.legal s i ↔ (s.channel i).lit (s.timers.get i.timer).output (s.effectiveOf i (s.channel i).target) := by
  constructor
  · rintro ⟨h1, h2, h3, h4, h5, h6⟩
    exact ⟨h1, h2, h3, h4, h5, h6⟩
  · rintro ⟨h1, h2, h3, h4, h5, h6⟩
    exact ⟨h1, h2, h3, h4, h5, h6⟩

/-- The duties of a channel and its fade stay at or below a cap. -/
def Channel.within (c : Channel) (cap : Nat) : Prop :=
  c.duty ≤ cap ∧ ∀ f, c.fade = some f → f.from_ ≤ cap ∧ f.to_ ≤ cap

theorem Channel.pursue_steps {c : Channel} (hf : ∀ f, c.fade = some f → f.taken < f.steps) (e n : Nat) :
    (c.pursue e n).effective = e ∧ (c.pursue e n).pursued = e ∧ (∀ f, (c.pursue e n).fade = some f → f.taken < f.steps) ∧
    (c.pursue e n).target = c.target ∧ (c.pursue e n).fadeTime = c.fadeTime := by
  unfold Channel.pursue
  split
  next he => exact ⟨rfl, he.symm, hf, rfl, rfl⟩
  next =>
    split
    · exact ⟨rfl, rfl, nofun, rfl, rfl⟩
    next hn => exact ⟨rfl, rfl, fun f hx => by cases hx; exact Nat.pos_of_ne_zero hn, rfl, rfl⟩

theorem Channel.pursue_within {c : Channel} {e cap : Nat} (h : c.within cap) (he : e ≤ cap) (n : Nat) :
    (c.pursue e n).within cap := by
  unfold Channel.pursue
  split
  · exact h
  · split
    · exact ⟨he, nofun⟩
    · exact ⟨h.1, fun f hx => by cases hx; exact ⟨h.1, he⟩⟩

theorem Channel.heldTo_steps {c : Channel} (cap : Nat) :
    (c.heldTo cap).effective = min c.target cap ∧ (c.heldTo cap).pursued = min c.target cap ∧
    (∀ f, (c.heldTo cap).fade = some f → f.taken < f.steps) ∧ (c.heldTo cap).target = c.target ∧
    (c.heldTo cap).fadeTime = c.fadeTime ∧ (c.heldTo cap).presented = c.presented := by
  unfold Channel.heldTo
  split
  next hn =>
    obtain ⟨h1, h2, h3, h4, h5⟩ := Channel.pursue_steps (c := { c with duty := min c.duty cap })
      (fun f hx => nomatch hn.symm.trans hx) (min c.target cap) (c.fadeTime * 100)
    exact ⟨h1, h2, h3, h4, h5, Channel.pursue_presented _ _ _⟩
  next f hf =>
    split
    next ht => exact ⟨rfl, rfl, fun g hg => by cases hg; exact Nat.sub_pos_of_lt ht, rfl, rfl, rfl⟩
    next => exact ⟨rfl, rfl, nofun, rfl, rfl, rfl⟩

theorem Channel.heldTo_within (c : Channel) (cap : Nat) : (c.heldTo cap).within cap := by
  unfold Channel.heldTo
  split
  next hn =>
    exact Channel.pursue_within (c := { c with duty := min c.duty cap })
      ⟨Nat.min_le_right _ _, fun f hx => nomatch hn.symm.trans hx⟩ (Nat.min_le_right _ _) _
  next =>
    split
    · exact ⟨Nat.min_le_right _ _, fun g hg => by cases hg; exact ⟨Nat.min_le_right _ _, Nat.min_le_right _ _⟩⟩
    · exact ⟨Nat.min_le_right _ _, nofun⟩

theorem Timer.given.output {t : Timer} {on per : Nat} (h : t.given on per) : t.output = on := by
  obtain ⟨hr, hs, -, ho⟩ := h
  unfold Timer.output
  rw [if_pos hr]
  split
  · exact hs
  next hp => exact (ho (by simpa using hp)).1

/-- A lamp driven afresh shows its duty. -/
theorem State.lampDriven.duty {s t : State} {i : LightId} (h : s.lampDriven t i)
    (hs : (s.channel i).duty = (s.timers.get i.timer).output) : (t.channel i).duty = (t.timers.get i.timer).output := by
  by_cases hd : (t.channel i).duty = (s.channel i).duty
  · rw [h.1 hd, hd, hs]
  · exact (h.2 hd).output.symm

/-! ### The operations -/

theorem LightLaw.congr {s t : State} (h : LightLaw s) (hl : t.lights = s.lights) (hq : t.quiet = s.quiet)
    (ht : ∀ i : LightId, (t.timers.get i.timer).output = (s.timers.get i.timer).output) : LightLaw t := by
  obtain ⟨hall, hcab⟩ := h
  have hc : ∀ i, t.channel i = s.channel i := fun i => State.channel_congr hl i
  refine ⟨fun i => ?_, ?_⟩
  · have hi := (LightId.legal_iff s i).mp (hall i)
    rw [LightId.legal_iff, hc, ht]
    have heff : t.effectiveOf i = s.effectiveOf i := by
      unfold State.effectiveOf
      rw [hl, hq]
    rw [heff]
    exact hi
  · unfold CabLightLaw
    rw [hc, hl, hq]
    exact hcab

theorem State.fadeStep_does (s : State) (i : LightId) {f : Fade} (hf : (s.channel i).fade = some f) :
    (s.fadeStep i).channel i =
      { s.channel i with
        fade := if f.steps ≤ f.taken + 1 then none else some { f with taken := f.taken + 1 }
        duty := fadeDuty f.from_ f.to_ (f.taken + 1) f.steps } ∧
    s.lampDriven (s.fadeStep i) i := by
  obtain ⟨u, hu⟩ : ∃ u, u = s.setChannel i
      { s.channel i with fade := if f.steps ≤ f.taken + 1 then none else some { f with taken := f.taken + 1 } } := ⟨_, rfl⟩
  have heq : s.fadeStep i = u.setDuty i (fadeDuty f.from_ f.to_ (f.taken + 1) f.steps) := by
    unfold State.fadeStep
    rw [hf, hu]
  have hc : u.channel i =
      { s.channel i with fade := if f.steps ≤ f.taken + 1 then none else some { f with taken := f.taken + 1 } } := by
    rw [hu, State.channel_setChannel, if_pos rfl]
  have ht : u.timers = s.timers := by rw [hu]; simp
  obtain ⟨hchannel, hdriven⟩ := u.setDuty_does i (fadeDuty f.from_ f.to_ (f.taken + 1) f.steps)
  rw [heq]
  refine ⟨by rw [hchannel, hc], ?_⟩
  unfold State.lampDriven at hdriven ⊢
  rw [hc, ht] at hdriven
  exact hdriven

theorem State.fadeStep_others (s : State) {i j : LightId} (h : i ≠ j) :
    (s.fadeStep i).channel j = s.channel j ∧ (s.fadeStep i).timers.get j.timer = s.timers.get j.timer := by
  unfold State.fadeStep
  split
  · exact ⟨rfl, rfl⟩
  · obtain ⟨h1, h2⟩ := State.setDuty_others (s.setChannel i { s.channel i with fade := _ }) i j _ h
    rw [h1, h2, State.channel_setChannel, if_neg h]
    exact ⟨rfl, by simp⟩

theorem State.fadeStep_lightLaw {s : State} {i : LightId} (h : LightLaw s) : LightLaw (s.fadeStep i) := by
  obtain ⟨hall, hcab⟩ := h
  have hframe := s.fadeStep_frame i
  have hcap : (s.fadeStep i).lights.quietCap = s.lights.quietCap := by
    simp
  have hquiet : (s.fadeStep i).quiet = s.quiet := by rw [hframe.only]
  have heff : ∀ j, (s.fadeStep i).effectiveOf j = s.effectiveOf j := fun j => by
    unfold State.effectiveOf
    rw [hcap, hquiet]
  cases hf : (s.channel i).fade with
  | none =>
    rw [State.fadeStep, hf]
    exact ⟨hall, hcab⟩
  | some f =>
    obtain ⟨hc, hd⟩ := s.fadeStep_does i hf
    have hi := (LightId.legal_iff s i).mp (hall i)
    have htaken := hi.fade f hf
    have hto : f.to_ = (s.channel i).effective := by
      have hp := hi.pursued
      unfold Channel.pursued at hp
      rw [hf] at hp
      exact hp
    refine ⟨fun j => ?_, fun hq => ?_⟩
    · rw [LightId.legal_iff, heff]
      by_cases hij : i = j
      · subst hij
        have hduty := hd.duty hi.duty
        refine ⟨?_, ?_, ?_, ?_, ?_, hduty⟩
        all_goals rw [hc]
        · exact hi.presented
        · exact hi.unpresented
        · exact hi.effective
        · show Channel.pursued _ = (s.channel i).effective
          unfold Channel.pursued
          dsimp only
          split
          next g hg =>
            split at hg
            · cases hg
            · cases hg
              exact hto
          next hg =>
            split at hg
            next hle =>
              have hk : f.taken + 1 = f.steps := by omega
              rw [hk, fadeDuty_end _ _ _ (by omega), hto]
            next => cases hg
        · intro g hg
          dsimp only at hg
          split at hg
          · cases hg
          · cases hg
            show f.taken + 1 < f.steps
            omega
      · obtain ⟨hcj, htj⟩ := s.fadeStep_others hij
        rw [hcj, htj]
        exact (LightId.legal_iff s j).mp (hall j)
    · have hwithin : (s.channel .cabLight).within s.lights.quietCap := hcab (hquiet ▸ hq)
      rw [hcap]
      show ((s.fadeStep i).channel .cabLight).within s.lights.quietCap
      by_cases hij : i = .cabLight
      · subst hij
        obtain ⟨hfrom, hto⟩ := hwithin.2 f hf
        have hbetween := (fadeDuty_between f.from_ f.to_ (f.taken + 1) f.steps (by omega)).2
        rw [hc]
        refine ⟨hbetween.trans (Nat.max_le.mpr ⟨hfrom, hto⟩), fun g hg => ?_⟩
        dsimp only at hg
        split at hg
        · cases hg
        · cases hg
          exact ⟨hfrom, hto⟩
      · rw [(s.fadeStep_others hij).1]
        exact hwithin

/-- CAB_LIGHT worked afresh, the other channels as they were. -/
theorem LightLaw.cabWorked {s t : State} {q : Bool} {cap : Nat} (h : ∀ i, LightId.legal s i)
    (hq : t.quiet = q) (hcap : t.lights.quietCap = cap)
    (hothers : ∀ i, i ≠ .cabLight → t.channel i = s.channel i ∧ t.timers.get i.timer = s.timers.get i.timer)
    (hd : s.lampDriven t .cabLight)
    (hp : (t.channel .cabLight).presented = (s.channel .cabLight).presented)
    (ht : (t.channel .cabLight).target = (s.channel .cabLight).target)
    (hf : (t.channel .cabLight).fadeTime = (s.channel .cabLight).fadeTime)
    (he : (t.channel .cabLight).effective = if q then min (s.channel .cabLight).target cap else (s.channel .cabLight).target)
    (hpur : (t.channel .cabLight).pursued = (t.channel .cabLight).effective)
    (hfade : ∀ f, (t.channel .cabLight).fade = some f → f.taken < f.steps)
    (hw : q = true → (t.channel .cabLight).within cap) : LightLaw t := by
  refine ⟨fun i => ?_, fun hx => ?_⟩
  · by_cases hi : i = .cabLight
    · subst hi
      have hc := (LightId.legal_iff s .cabLight).mp (h .cabLight)
      rw [LightId.legal_iff]
      refine ⟨?_, ?_, ?_, hpur, hfade, hd.duty hc.duty⟩
      · rw [hp, ht, hf]
        exact hc.presented
      · rw [hp, ht, hf]
        exact hc.unpresented
      · rw [he, ht]
        simp [State.effectiveOf, hq, hcap]
    · obtain ⟨hci, hti⟩ := hothers i hi
      have hc := (LightId.legal_iff s i).mp (h i)
      rw [LightId.legal_iff, hci, hti]
      have heff : t.effectiveOf i = s.effectiveOf i := by
        unfold State.effectiveOf
        simp [hi]
      rw [heff]
      exact hc
  · rw [hcap]
    exact hw (hq ▸ hx)

end Sys2Proof.Machine
end

section
/-! PROOF. O56: the pieces keep the law of the four light channels. -/
namespace Sys2Proof.Machine

/-! ### What leaves the lights and their timers alone -/

theorem LightLaw.of {s t : State} (h : LightLaw s) (lights : t.lights = s.lights := by simp)
    (quiet : t.quiet = s.quiet := by simp) (t0 : t.timers.t0 = s.timers.t0 := by simp)
    (t1 : t.timers.t1 = s.timers.t1 := by simp) (t2 : t.timers.t2 = s.timers.t2 := by simp)
    (t3 : t.timers.t3 = s.timers.t3 := by simp) : LightLaw t := by
  refine h.congr lights quiet fun i => ?_
  cases i
  · exact congrArg Timer.output t0
  · exact congrArg Timer.output t1
  · exact congrArg Timer.output t2
  · exact congrArg Timer.output t3

theorem State.lampDriven_congr {s s' t t' : State} {i : LightId} (h : s'.lampDriven t' i) (hs : s'.lights = s.lights)
    (hst : s'.timers.get i.timer = s.timers.get i.timer) (ht : t'.lights = t.lights)
    (htt : t'.timers.get i.timer = t.timers.get i.timer) : s.lampDriven t i := by
  simp only [State.lampDriven, State.channel_congr hs, State.channel_congr ht, hst, htt] at h
  exact h

/-! ### CAB_LIGHT and the quiet flag -/

theorem State.cabQuietSet_others (s : State) {j : LightId} (h : .cabLight ≠ j) :
    s.cabQuietSet.channel j = s.channel j ∧ s.cabQuietSet.timers.get j.timer = s.timers.get j.timer := by
  have hset : ∀ x, (s.setChannel .cabLight x).channel j = s.channel j ∧
      (s.setChannel .cabLight x).timers.get j.timer = s.timers.get j.timer := fun x => by
    rw [State.channel_setChannel, if_neg h]
    exact ⟨rfl, by simp⟩
  simp only [State.cabQuietSet]
  have hstart := hset { s.channel .cabLight with effective := min (s.channel .cabLight).target s.lights.quietCap }
  generalize s.setChannel .cabLight _ = u at hstart ⊢
  have hheld : ∀ b : Prop, [Decidable b] → ∀ d,
      (if b then u.setDuty .cabLight d else u).channel j = s.channel j ∧
      (if b then u.setDuty .cabLight d else u).timers.get j.timer = s.timers.get j.timer := fun b _ d => by
    split
    · obtain ⟨h1, h2⟩ := State.setDuty_others u .cabLight j d h
      exact ⟨h1.trans hstart.1, h2.trans hstart.2⟩
    · exact hstart
  have hthen := hheld (u.lights.quietCap < (s.channel .cabLight).duty) u.lights.quietCap
  generalize (if u.lights.quietCap < (s.channel .cabLight).duty then u.setDuty .cabLight u.lights.quietCap else u) = v
    at hthen ⊢
  have hfade : ∀ d n, (v.beginFade .cabLight d n).channel j = s.channel j ∧
      (v.beginFade .cabLight d n).timers.get j.timer = s.timers.get j.timer := fun d n => by
    obtain ⟨h1, h2⟩ := State.beginFade_others v .cabLight j d n h
    exact ⟨h1.trans hthen.1, h2.trans hthen.2⟩
  split
  · exact hfade _ _
  · split
    · exact hthen
    · exact hfade _ _

theorem State.cabQuietClear_others (s : State) {j : LightId} (h : .cabLight ≠ j) :
    s.cabQuietClear.channel j = s.channel j ∧ s.cabQuietClear.timers.get j.timer = s.timers.get j.timer := by
  simp only [State.cabQuietClear]
  split
  · rw [State.channel_setChannel, if_neg h]
    exact ⟨rfl, by simp⟩
  · obtain ⟨h1, h2⟩ := State.beginFade_others
      (s.setChannel .cabLight { s.channel .cabLight with effective := (s.channel .cabLight).target }) .cabLight j
      (s.channel .cabLight).target ((s.channel .cabLight).fadeTime * 100) h
    rw [h1, h2, State.channel_setChannel, if_neg h]
    exact ⟨rfl, by simp⟩

/-- R183: CAB_LIGHT held down to the cap, from a state whose own cap or quiet flag may be another. -/
theorem LightLaw.cabQuietSet {s u : State} (h : ∀ i, LightId.legal s i) (hq : u.quiet = true)
    (hc : ∀ i, u.channel i = s.channel i) (ht : ∀ i : LightId, u.timers.get i.timer = s.timers.get i.timer) :
    LightLaw u.cabQuietSet := by
  obtain ⟨hchannel, hdriven⟩ := u.cabQuietSet_does
  obtain ⟨he, hp, hf, htarget, htime, hpresented⟩ := Channel.heldTo_steps (c := u.channel .cabLight) u.lights.quietCap
  refine LightLaw.cabWorked (s := s) (q := true) (cap := u.lights.quietCap) h (by simpa using hq) (by simp)
    (fun i hi => ?_) ?_ ?_ ?_ ?_ ?_ ?_ ?_ ?_
  · obtain ⟨h1, h2⟩ := u.cabQuietSet_others (Ne.symm hi)
    exact ⟨h1.trans (hc i), h2.trans (ht i)⟩
  · unfold State.lampDriven at hdriven ⊢
    rw [hc, ht] at hdriven
    exact hdriven
  all_goals rw [hchannel]
  · rw [hpresented, hc]
  · rw [htarget, hc]
  · rw [htime, hc]
  · rw [he, hc]
    rfl
  · rw [he, hp]
  · exact hf
  · exact fun _ => Channel.heldTo_within _ _

theorem LightLaw.cabQuietClear {s u : State} (h : ∀ i, LightId.legal s i) (hq : u.quiet = false)
    (hc : ∀ i, u.channel i = s.channel i) (ht : ∀ i : LightId, u.timers.get i.timer = s.timers.get i.timer) :
    LightLaw u.cabQuietClear := by
  obtain ⟨hchannel, hdriven⟩ := u.cabQuietClear_does
  have hlit := (LightId.legal_iff s .cabLight).mp (h .cabLight)
  rw [← hc .cabLight] at hlit
  obtain ⟨he, hp, hf, htarget, htime⟩ := Channel.pursue_steps hlit.fade (u.channel .cabLight).target
    ((u.channel .cabLight).fadeTime * 100)
  refine LightLaw.cabWorked (s := s) (q := false) (cap := u.lights.quietCap) h (by simpa using hq) (by simp)
    (fun i hi => ?_) ?_ ?_ ?_ ?_ ?_ ?_ ?_ nofun
  · obtain ⟨h1, h2⟩ := u.cabQuietClear_others (Ne.symm hi)
    exact ⟨h1.trans (hc i), h2.trans (ht i)⟩
  · unfold State.lampDriven at hdriven ⊢
    rw [hc, ht] at hdriven
    exact hdriven
  all_goals rw [hchannel]
  · rw [Channel.pursue_presented, hc]
  · rw [htarget, hc]
  · rw [htime, hc]
  · rw [he, hc]
    rfl
  · rw [he, hp]
  · exact hf

theorem State.workQuiet_lightLaw {s : State} (h : LightLaw s) : LightLaw s.workQuiet := by
  have hnotices : ∀ {u : State}, LightLaw u → LightLaw u.heaterAttention.fridgeAttention := fun hu => hu.of
  simp only [State.workQuiet]
  split
  · exact h
  · split
    next hq =>
      refine hnotices (LightLaw.cabQuietSet h.1 (by simpa using hq) (fun i => State.channel_congr (by simp) i) fun i => ?_)
      cases i <;> simp [LightId.timer, Timers.get]
    next hq =>
      refine hnotices (LightLaw.cabQuietClear h.1 (by simpa using hq) (fun i => State.channel_congr (by simp) i) fun i => ?_)
      cases i <;> simp [LightId.timer, Timers.get]

/-! ### LSET -/

theorem Timer.setPolarity_output (x : Timer) (p : Polarity) : (x.setPolarity p).output = x.output := by
  unfold Timer.setPolarity Timer.output
  split
  · simp
  · simp

/-- A write that leaves each channel's law as it was. -/
theorem LightLaw.rewritten {s t : State} (h : LightLaw s) (hq : t.quiet = s.quiet)
    (hcap : t.lights.quietCap = s.lights.quietCap)
    (hc : ∀ i, ∃ p d, t.channel i = { s.channel i with polarity := p, fullDraw := d })
    (ht : ∀ i : LightId, (t.timers.get i.timer).output = (s.timers.get i.timer).output) : LightLaw t := by
  obtain ⟨hall, hcab⟩ := h
  refine ⟨fun i => ?_, ?_⟩
  · obtain ⟨p, d, hi⟩ := hc i
    obtain ⟨h1, h2, h3, h4, h5, h6⟩ := (LightId.legal_iff s i).mp (hall i)
    have heff : t.effectiveOf i = s.effectiveOf i := by
      unfold State.effectiveOf
      rw [hcap, hq]
    rw [LightId.legal_iff, ht, heff, hi]
    exact ⟨h1, h2, h3, h4, h5, h6⟩
  · obtain ⟨p, d, hi⟩ := hc .cabLight
    unfold CabLightLaw
    rw [hi, hcap, hq]
    exact hcab

theorem State.setPolarity_lightLaw {s : State} (i : LightId) (p : Polarity) (h : LightLaw s) :
    LightLaw (s.setPolarity i p) := by
  refine h.rewritten rfl (by simp [State.setPolarity, State.setTimer]) (fun j => ?_) (fun j => ?_)
  · have hj : (s.setPolarity i p).channel j = (s.setChannel i { s.channel i with polarity := p }).channel j := rfl
    rw [hj, State.channel_setChannel]
    split
    next hij => exact ⟨p, (s.channel j).fullDraw, by rw [hij]⟩
    next => exact ⟨_, _, rfl⟩
  · have htimers : (s.setPolarity i p).timers = s.timers.set i.timer ((s.timers.get i.timer).setPolarity p) := by
      simp [State.setPolarity, State.setTimer]
    rw [htimers, Timers.get_set]
    split
    next hij => rw [Timer.setPolarity_output, hij]
    next => rfl

theorem State.setDraws_lightLaw {s : State} (a b c d : Nat) (h : LightLaw s) :
    LightLaw { s with lights := s.lights.setDraws a b c d } := by
  refine h.rewritten rfl rfl (fun i => ?_) fun _ => rfl
  cases i
  · exact ⟨_, a, rfl⟩
  · exact ⟨_, b, rfl⟩
  · exact ⟨_, c, rfl⟩
  · exact ⟨_, d, rfl⟩

theorem State.setQuietCap_lightLaw {s : State} (cap : Nat) (h : LightLaw s) : LightLaw (s.setQuietCap cap) := by
  have hc : ∀ i, ({ s with lights := { s.lights with quietCap := cap } } : State).channel i = s.channel i :=
    fun i => by cases i <;> rfl
  simp only [State.setQuietCap]
  split
  next hq => exact LightLaw.cabQuietSet h.1 hq.1 hc fun _ => rfl
  next hq =>
    by_cases hcap : cap = s.lights.quietCap
    · subst hcap
      exact h
    · have hoff : s.quiet ≠ true := fun hon => hq ⟨hon, hcap⟩
      refine ⟨fun i => ?_, fun hon => absurd hon hoff⟩
      have heff : ({ s with lights := { s.lights with quietCap := cap } } : State).effectiveOf i = s.effectiveOf i := by
        unfold State.effectiveOf
        simp [hoff]
      rw [LightId.legal_iff, hc, heff]
      exact (LightId.legal_iff s i).mp (h.1 i)

theorem State.setLights_lightLaw {s : State} (l : LightSettings) (h : LightLaw s) : LightLaw (s.setLights l) := by
  have hpolarity := State.setPolarity_lightLaw .nightLight l.polNight (State.setPolarity_lightLaw .cabLight l.polCab
    (State.setPolarity_lightLaw .readB l.polB (State.setPolarity_lightLaw .readA l.polA h)))
  exact State.setQuietCap_lightLaw _ (State.setDraws_lightLaw _ _ _ _ hpolarity)

/-! ### The pass and the periods -/

theorem State.presentLights_lightLaw {s : State} (os : List Order) (h : LightLaw s) : LightLaw (s.presentLights os) := by
  obtain ⟨hall, hcab⟩ := h
  have heff : ∀ i, (s.presentLights os).effectiveOf i = s.effectiveOf i := fun i => by
    unfold State.effectiveOf
    simp
  refine ⟨fun i => ?_, fun hq => ?_⟩
  · have hlit := (LightId.legal_iff s i).mp (hall i)
    obtain ⟨hc, hd⟩ := s.presentLights_does os i
    have hduty := hd.duty hlit.duty
    rw [LightId.legal_iff, heff]
    rw [hc] at hduty ⊢
    obtain ⟨he, hp, hf, htarget, htime⟩ := Channel.pursue_steps
      (c := { s.channel i with
        presented := presentedFor i.load os, target := (targetOf (presentedFor i.load os)).1
        fadeTime := (targetOf (presentedFor i.load os)).2 })
      hlit.fade (s.effectiveOf i (targetOf (presentedFor i.load os)).1) ((targetOf (presentedFor i.load os)).2 * 100)
    refine ⟨fun p hpres level fade htar => ?_, fun hnone => ?_, ?_, ?_, hf, hduty⟩
    · rw [Channel.pursue_presented] at hpres
      have hpres : presentedFor i.load os = some p := hpres
      rw [htarget, htime]
      simp [hpres, targetOf, Presented.light, htar]
    · rw [Channel.pursue_presented] at hnone
      have hnone : presentedFor i.load os = none := hnone
      rw [htarget, htime]
      simp [hnone, targetOf]
    · rw [he, htarget]
    · rw [hp, he]
  · obtain ⟨hc, -⟩ := s.presentLights_does os .cabLight
    have hon : s.quiet = true := by simpa using hq
    rw [show (s.presentLights os).lights.quietCap = s.lights.quietCap by simp, hc]
    have hwithin : Channel.within { s.channel .cabLight with
        presented := presentedFor LightId.cabLight.load os, target := (targetOf (presentedFor LightId.cabLight.load os)).1
        fadeTime := (targetOf (presentedFor LightId.cabLight.load os)).2 } s.lights.quietCap := hcab hon
    refine Channel.pursue_within hwithin ?_ _
    simp only [State.effectiveOf, hon, and_self, if_true]
    exact Nat.min_le_right _ _

theorem State.workMonitor_lightLaw {s : State} (os : List Order) (h : LightLaw s) : LightLaw (s.workMonitor os) :=
  h.of

theorem State.pass_lightLaw {s : State} (h : LightLaw s) : LightLaw s.pass := by
  simp only [State.pass]
  split
  · exact h
  · have hbefore : ∀ {u : State}, LightLaw u → ∀ os, LightLaw (u.presentAll os) := fun hu os => by
      refine State.workMonitor_lightLaw os (State.presentLights_lightLaw os ?_)
      exact hu.of
    exact hbefore h.of _

theorem Timer.endPeriod_output (x : Timer) : x.endPeriod.output = x.output := by
  unfold Timer.endPeriod Timer.output
  cases x.running <;> rfl

theorem State.periodEnd_lightLaw {s : State} (i : TimerId) (h : LightLaw s) : LightLaw (s.periodEnd i) := by
  have hset : LightLaw (s.setTimer i (s.timers.get i).endPeriod) := by
    refine h.congr rfl rfl fun j => ?_
    have htimers : (s.setTimer i (s.timers.get i).endPeriod).timers = s.timers.set i (s.timers.get i).endPeriod := rfl
    rw [htimers, Timers.get_set]
    split
    next hij => rw [Timer.endPeriod_output, hij]
    next => rfl
  simp only [State.periodEnd]
  split
  · split
    · exact hset
    · exact hset
  · exact h

/-! ### The law is kept -/

theorem Piece.lightLaw {c : Instr} {r s t : State} (p : Piece c r s t) (h : LightLaw s) : LightLaw t := by
  cases p with
  | lights hl =>
    cases hl with
    | fadeStep i => exact s.fadeStep_lightLaw h
    | setLights l => exact s.setLights_lightLaw l h
  | quiet => exact s.workQuiet_lightLaw h
  | period i => exact s.periodEnd_lightLaw i h
  | mode m =>
    have hf := s.enterMode_frame m
    rw [hf.only]
    exact h.of rfl rfl rfl rfl rfl rfl
  | notice => exact h.of
  | accountNotice => exact h.of
  | raise => exact h.of
  | remove => exact h.of
  | warn hw =>
    rw [hw.frame.only]
    exact h.of rfl rfl rfl rfl rfl rfl
  | heater hh =>
    rw [hh.frame.only]
    exact h.of rfl rfl rfl rfl rfl rfl
  | fridge hf =>
    have hframe : s.fridgeFrame t := hf.frame
    rw [hframe.only]
    exact h.of rfl rfl rfl rfl rfl rfl
  | stall rate =>
    rw [(s.tachReading_frame rate).only]
    exact h.of rfl rfl rfl rfl rfl rfl
  | overheat held =>
    rw [s.debounced_ovht_only held]
    exact h.of rfl rfl rfl rfl rfl rfl
  | coldRoom n hn hf hd =>
    rw [State.tempWindow_c3_only hf hd]
    exact h.of rfl rfl rfl rfl rfl rfl
  | release =>
    rw [s.releasePresenter_only]
    exact h.of rfl rfl rfl rfl rfl rfl
  | lock => exact h.of rfl rfl rfl rfl rfl rfl
  | draws d => exact State.setDraws_lightLaw _ _ _ _ (h.of rfl rfl rfl rfl rfl rfl)
  | _ => exact h

/-- R180: with every channel at its reset value and its timer stopped the law holds. -/
theorem LightLaw.stopped {s : State} (hq : s.quiet = true → (s.channel .cabLight).fade = none)
    (hc : ∀ i, (s.channel i).presented = none ∧ (s.channel i).target = 0 ∧ (s.channel i).fadeTime = 1 ∧
      (s.channel i).effective = 0 ∧ (s.channel i).fade = none ∧ (s.channel i).duty = 0)
    (ht : ∀ i : LightId, (s.timers.get i.timer).running = false) : LightLaw s := by
  refine ⟨fun i => ?_, fun hon => ?_⟩
  · obtain ⟨h1, h2, h3, h4, h5, h6⟩ := hc i
    rw [LightId.legal_iff]
    refine ⟨fun p hp => (nomatch h1.symm.trans hp), fun _ => ⟨h2, h3⟩, ?_, ?_, fun f hf => (nomatch h5.symm.trans hf), ?_⟩
    · rw [h4, h2]
      unfold State.effectiveOf
      split
      · exact (Nat.zero_min _).symm
      · rfl
    · rw [h4, Channel.pursued, h5]
      exact h6
    · rw [h6, Timer.output, ht i]
      rfl
  · rw [(hc .cabLight).2.2.2.2.2]
    exact ⟨Nat.zero_le _, fun f hf => (nomatch (hq hon).symm.trans hf)⟩

theorem State.assertReset_lightLaw (s : State) : LightLaw s.assertReset := by
  refine LightLaw.stopped (fun _ => rfl) (fun i => ?_) fun i => ?_
  · cases i <;> exact ⟨rfl, rfl, rfl, rfl, rfl, rfl⟩
  · cases i <;> rfl

/-- Settles O56: a pass presents what the table makes ACTIVE, and each write of a channel drives its lamp. -/
theorem stepKeepsPresentationsAndLights : Obligations.StepKeepsPresentationsAndLights := by
  unfold Obligations.StepKeepsPresentationsAndLights
  refine ⟨fun s t h hs => ?_, fun s t h hs => ?_⟩
  · exact step_keeps (P := PresentationLaw) exec_presents (fun _ _ h => h) h hs
  · refine step_keeps (P := LightLaw) (fun h hs => ?_) (fun _ _ h => h) h hs
    refine exec_keeps_of_pieces (P := LightLaw) Piece.lightLaw (fun _ => State.pass_lightLaw) (fun s => ?_)
      (fun _ _ => State.assertReset_lightLaw _) h hs
    refine LightLaw.stopped (fun _ => rfl) (fun i => ?_) fun i => ?_
    · cases i <;> exact ⟨rfl, rfl, rfl, rfl, rfl, rfl⟩
    · cases i <;> rfl

end Sys2Proof.Machine
end

section
/-! PROOF. O55: the bound on the committed charge, and what a pass makes of the order table. -/
namespace Sys2Proof.Machine

/-! ### The committed charge (R45) -/

/-- R44, R45: a walk whose essential candidates come first commits no more than they do, or than the budget allows. -/
theorem Reading.walk_bound (r : Reading) (hm : r.mode ≠ .workshop) :
    ∀ (cs : List Order) (sum : Nat), (cs.map Order.key).Nodup → cs.Pairwise (fun a b => a.cls.rank ≤ b.cls.rank) →
      (r.walk sum cs).1 ≤
        max (sum + r.admittedSum (r.walk sum cs).2 (cs.filter (fun o => decide (o.cls = .essential))))
          (r.usable + r.keepMargin)
  | [], sum, _, _ => Nat.le_max_left _ _
  | o :: os, sum, hn, hp => by
    obtain ⟨ho, hn⟩ := List.nodup_cons.mp hn
    obtain ⟨hfirst, hp⟩ := List.pairwise_cons.mp hp
    have hrest := fun x => r.walk_bound hm os x hn hp
    rw [Reading.walk]
    split
    next hadm =>
      have hkeys : r.admittedSum (o.key :: (r.walk (sum + r.forecast o) os).2) (os.filter (fun o => decide (o.cls = .essential))) =
          r.admittedSum (r.walk (sum + r.forecast o) os).2 (os.filter (fun o => decide (o.cls = .essential))) := by
        refine r.admittedSum_congr fun p hp => ?_
        have hne : p.key ≠ o.key := fun h => ho (h ▸ List.mem_map_of_mem (List.mem_of_mem_filter hp))
        simp [hne]
      have hsum := hrest (sum + r.forecast o)
      by_cases hess : o.cls = .essential
      · have hcons : r.admittedSum (o.key :: (r.walk (sum + r.forecast o) os).2)
            ((o :: os).filter (fun o => decide (o.cls = .essential))) =
            r.forecast o + r.admittedSum (r.walk (sum + r.forecast o) os).2 (os.filter (fun o => decide (o.cls = .essential))) := by
          rw [← hkeys]
          simp [Reading.admittedSum, hess]
        dsimp only
        rw [hcons]
        omega
      · have hnone : os.filter (fun o => decide (o.cls = .essential)) = [] := by
          rw [List.filter_eq_nil_iff]
          intro p hp' he
          have hrank := hfirst p hp'
          rw [of_decide_eq_true he] at hrank
          cases hc : o.cls with
          | essential => exact hess hc
          | comfort => simp [hc, OrderClass.rank] at hrank
          | convenience => simp [hc, OrderClass.rank] at hrank
        rw [hnone] at hsum
        have hzero : r.admittedSum (r.walk (sum + r.forecast o) os).2 [] = 0 := rfl
        have hfits : sum + r.forecast o ≤ r.usable + r.keepMargin := by
          rw [Reading.admits_iff] at hadm
          rcases hadm with hw | ⟨-, he | ⟨-, hle⟩⟩
          · exact absurd hw hm
          · exact absurd he hess
          · rw [r.usable_eq]
            split at hle <;> omega
        dsimp only
        omega
    next =>
      by_cases hess : o.cls = .essential
      · have hno : o.key ∉ (r.walk sum os).2 := fun h => ho (r.walk_admitted_subset _ _ _ h)
        have hcons : r.admittedSum (r.walk sum os).2 ((o :: os).filter (fun o => decide (o.cls = .essential))) =
            r.admittedSum (r.walk sum os).2 (os.filter (fun o => decide (o.cls = .essential))) := by
          simp [Reading.admittedSum, hess, hno]
        rw [hcons]
        exact hrest sum
      · have hcons : (o :: os).filter (fun o => decide (o.cls = .essential)) = os.filter (fun o => decide (o.cls = .essential)) := by
          simp [hess]
        rw [hcons]
        exact hrest sum

/-- Every admitted essential candidate is an ACTIVE order with its forecast. -/
theorem Reading.admittedSum_le_share (r : Reading) {os : List Order} (hn : (os.map Order.key).Nodup) :
    r.admittedSum (r.walk 0 (r.candidates os)).2 ((r.candidates os).filter (fun o => decide (o.cls = .essential))) ≤
      essentialShare (os.map (r.settleOrder ((r.candidates os).map Order.key) (r.walk 0 (r.candidates os)).2)) := by
  obtain ⟨ks, hks⟩ : ∃ ks, ks = (r.walk 0 (r.candidates os)).2 := ⟨_, rfl⟩
  obtain ⟨cs, hcs⟩ : ∃ cs, cs = (r.candidates os).map Order.key := ⟨_, rfl⟩
  rw [← hks, ← hcs]
  have hcnodup : (r.candidates os).Nodup := (r.candidates_keys os hn).of_map
  have hsub : List.Subperm
      (((r.candidates os).filter (fun o => decide (o.cls = .essential))).filter (fun o => decide (o.key ∈ ks)))
      (os.filter (fun o => decide (r.settleState cs ks o = .active) && decide (o.cls = .essential))) := by
    refine List.subperm_of_subset ((hcnodup.filter _).filter _) fun c hc => ?_
    obtain ⟨hc, hk⟩ := List.mem_filter.mp hc
    obtain ⟨hc, he⟩ := List.mem_filter.mp hc
    obtain ⟨load, hload⟩ := (r.mem_candidates os c).mp hc
    obtain ⟨hmem, -, helig, hun⟩ := Reading.candidate_spec hload
    refine List.mem_filter.mpr ⟨hmem, ?_⟩
    have hactive := (r.settleState_active cs ks c).mpr
      ⟨⟨helig, hun⟩, hcs ▸ List.mem_map_of_mem hc, of_decide_eq_true hk⟩
    simp [hactive, of_decide_eq_true he]
  have hshare : essentialShare (os.map (r.settleOrder cs ks)) =
      ((os.filter (fun o => decide (r.settleState cs ks o = .active) && decide (o.cls = .essential))).map r.forecast).sum := by
    unfold essentialShare
    rw [List.filter_map, List.map_map]
    refine congrArg List.sum (List.map_congr_left fun o ho => ?_)
    obtain ⟨-, hkeep⟩ := List.mem_filter.mp ho
    have hactive : r.settleState cs ks o = .active := of_decide_eq_true (Bool.and_eq_true_iff.mp hkeep).1
    obtain ⟨-, hk, -⟩ := (r.settleState_active cs ks o).mp hactive
    simp [Reading.settleOrder, hk]
  rw [hshare]
  obtain ⟨l, hperm, hlist⟩ := hsub
  have hsum : ((((r.candidates os).filter (fun o => decide (o.cls = .essential))).filter (fun o => decide (o.key ∈ ks))).map
      r.forecast).sum = (l.map r.forecast).sum := (hperm.symm.map _).sum_eq
  unfold Reading.admittedSum
  rw [hsum]
  exact (hlist.map _).sum_le_sum (fun _ _ => Nat.zero_le _)

theorem Reading.run_committed (r : Reading) {os : List Order} (hn : (os.map Order.key).Nodup) (hm : r.mode ≠ .workshop) :
    (r.run os).committed ≤ max (essentialShare (r.run os).orders) (r.usable + r.keepMargin) := by
  have hl := r.resolved_keys hn
  have hbound := r.walk_bound hm (r.candidates (r.resolved os)) 0 (r.candidates_keys _ hl)
    ((r.candidates_ranked _ hl).imp fun h => h.1)
  have hshare := r.admittedSum_le_share hl
  have hcommitted : (r.run os).committed = (r.walk 0 (r.candidates (r.resolved os))).1 := rfl
  have horders : (r.run os).orders = (r.resolved os).map
    (r.settleOrder ((r.candidates (r.resolved os)).map Order.key) (r.walk 0 (r.candidates (r.resolved os))).2) := rfl
  rw [hcommitted, horders]
  omega

/-! ### A pass and the order table -/

theorem pairwise_keys_nodup {os : List Order} (h : os.Pairwise (fun a b => a.key < b.key)) : (os.map Order.key).Nodup :=
  List.pairwise_map.mpr (h.imp Nat.ne_of_lt)

theorem State.pass_committed {s : State} (hr : s.rst.asserted = false) (ho : OrderLaw s) : CommittedLaw s.pass := by
  obtain ⟨horders, halloc, -, -, -, -, -, -, -, -, -, -, hport, -⟩ := s.pass_spec hr
  intro hm
  have hmode : s.pass.port.mode = s.port.mode := by simp
  have hbound := s.reading.run_committed (pairwise_keys_nodup ho.1) (fun hw => hm (hmode.trans hw))
  rw [horders, halloc]
  have husable : s.reading.usable = s.charge.usable := rfl
  rw [← husable]
  exact hbound

theorem State.fridgeWorked.fault {s t : State} (h : s.fridgeWorked t) (ht : t.fridge.state = .fault) :
    s.fridge.state = .fault := by
  obtain ⟨-, h⟩ := h
  obtain ⟨hsame, hgiven, htaken⟩ := h _ rfl
  have hback : ∀ {f : Fridge}, t.fridge = f → f.state = s.fridge.state → s.fridge.state = .fault := fun he hf =>
    (hf.symm.trans (he ▸ rfl)).trans ht
  cases hp : s.fridge.presented with
  | none =>
    cases hq : t.fridge.presented with
    | none => exact hback (hsame (by rw [hp, hq])).1 rfl
    | some q =>
      obtain ⟨hstart, hidle, helse⟩ := hgiven hp (by rw [hq]; exact nofun)
      by_cases hoff : s.fridge.state = .off
      · by_cases hs : s.fridgeStarts
        · rw [(hstart hoff hs).1] at ht
          cases ht
        · rw [hidle hoff hs] at ht
          cases ht
      · exact hback (helse hoff) rfl
  | some q =>
    cases hq : t.fridge.presented with
    | some _ => exact hback (hsame (by rw [hp, hq]; rfl)).1 rfl
    | none =>
      obtain ⟨hidle, hturning, helse⟩ := htaken (by rw [hp]; exact nofun) hq
      by_cases hi : s.fridge.state = .idle
      · rw [hidle hi] at ht
        cases ht
      · cases hturns : s.fridge.state.turning with
        | true =>
          rw [(hturning hturns).1] at ht
          cases ht
        | false => exact hback (helse hi hturns) rfl

theorem State.pass_active {s : State} (hr : s.rst.asserted = false) (ho : OrderLaw s) : ActiveLaw s.pass := by
  obtain ⟨horders, -, -, -, -, -, -, hfridge, -⟩ := s.pass_spec hr
  have hfirst := candidateIsFirst
  unfold Obligations.CandidateIsFirst at hfirst
  have hspec := hfirst.2 s.reading s.orders (pairwise_keys_nodup ho.1)
  rw [ActiveLaw, horders]
  refine ⟨fun a ha b hb hac hbc hl => ?_, fun hl o ho' hload hac => ?_, fun hf o ho' hload hac => ?_⟩
  · obtain ⟨-, -, -, hone⟩ := (hspec a ha).2 hac
    exact (hone b hb hbc hl.symm).symm
  · obtain ⟨-, hout, -⟩ := (hspec o ho').2 hac
    refine hout ⟨hload, ?_⟩
    obtain h | ⟨-, h | h⟩ | ⟨-, h⟩ := s.pass_drifts
    · exact h.symm.trans hl
    all_goals cases hl.symm.trans h
  · obtain ⟨-, -, hout, -⟩ := (hspec o ho').2 hac
    exact hout ⟨hload, hfridge.fault hf⟩

/-! ### The order table's law -/

theorem OrderLaw.of {s t : State} (h : OrderLaw s) (orders : t.orders = s.orders := by simp)
    (accounts : t.accounts = s.accounts := by simp) (held : t.rst.heldWakes = s.rst.heldWakes := by simp)
    (mode : t.port.mode = s.port.mode := by simp) : OrderLaw t := by
  unfold OrderLaw Order.anchorFits State.account at h ⊢
  rw [orders, accounts, held, mode]
  exact h

/-- A table that is a part of the old one, each order with its key, load, origin, target and start. -/
theorem OrderLaw.thinned {s t : State} (h : OrderLaw s) (f : Order → Order)
    (hf : ∀ o, f o = { f o with key := o.key, load := o.load, origin := o.origin, target := o.target, start := o.start })
    {os : List Order} (hos : os.Sublist s.orders) (ht : t.orders = os.map f)
    (haccounts : ∀ i, (t.account i).isSome = (s.account i).isSome) (hheld : t.rst.heldWakes = s.rst.heldWakes)
    (hmode : t.port.mode = s.port.mode) : OrderLaw t := by
  obtain ⟨h1, h2, h3, h4, h5⟩ := h
  have hkey : ∀ o, (f o).key = o.key := fun o => by rw [hf o]
  refine ⟨?_, ?_, ?_, ?_, fun hm => ?_⟩
  · rw [ht, List.pairwise_map]
    simp only [hkey]
    exact h1.sublist hos
  · rw [ht, List.length_map]
    exact hos.length_le.trans h2
  · rw [ht]
    rintro _ ho
    obtain ⟨o, hmem, rfl⟩ := List.mem_map.mp ho
    obtain ⟨k1, k2, k3⟩ := h3 o (hos.subset hmem)
    rw [hf o]
    refine ⟨k1, k2, ?_⟩
    unfold Order.anchorFits at k3 ⊢
    dsimp only
    split
    next i _ _ hstart =>
      rw [hstart] at k3
      rw [haccounts]
      exact k3
    next => trivial
  · rw [hheld]
    exact h4
  · rw [hmode] at hm
    have hnil := h5 hm
    rw [hnil] at hos
    rw [ht, List.eq_nil_of_sublist_nil hos]
    rfl

theorem State.pass_orderLaw {s : State} (hr : s.rst.asserted = false) (h : OrderLaw s) : OrderLaw s.pass := by
  obtain ⟨horders, -⟩ := s.pass_spec hr
  have hrun : (s.reading.run s.orders).orders = (s.orders.filter (fun o => !s.reading.expired o)).map
      (fun o => s.reading.settleOrder ((s.reading.candidates (s.reading.resolved s.orders)).map Order.key)
        (s.reading.walk 0 (s.reading.candidates (s.reading.resolved s.orders))).2 (s.reading.resolve o)) := by
    simp only [Reading.run, Reading.resolved, List.map_map]
    rfl
  refine h.thinned _ (fun o => ?_) List.filter_sublist (horders.trans hrun) (fun i => ?_) ?_ ?_
  · rfl
  · simp [State.account]
  · simp
  · simp

theorem insertOrder_length_le {o : Order} {os : List Order} (h : os.Pairwise (fun a b => a.key < b.key))
    (ho : ∃ p ∈ os, p.key = o.key) : (insertOrder o os).length ≤ os.length := by
  induction os with
  | nil =>
    obtain ⟨p, hp, -⟩ := ho
    cases hp
  | cons q os ih =>
    obtain ⟨hq, hos⟩ := List.pairwise_cons.mp h
    obtain ⟨p, hp, hk⟩ := ho
    unfold insertOrder
    split
    next hlt =>
      obtain rfl | hp := List.mem_cons.mp hp
      · omega
      · have := hq p hp
        omega
    next =>
      split
      · exact Nat.le_refl _
      next hne =>
        obtain rfl | hp := List.mem_cons.mp hp
        · exact absurd hk.symm hne
        · exact Nat.succ_le_succ (ih hos ⟨p, hp, hk⟩)

theorem OrderLaw.enter {s : State} (h : OrderLaw s) {o : Order} (ho : s.admitsOrder o) :
    OrderLaw { s with orders := insertOrder o s.orders } := by
  obtain ⟨h1, h2, h3, h4, h5⟩ := h
  obtain ⟨hkey, htarget, hanchor, hplace⟩ := ho
  refine ⟨insertOrder_pairwise h1, ?_, fun p hp => ?_, h4, fun hm => ?_⟩
  · by_cases hin : ∃ p ∈ s.orders, p.key = o.key
    · exact (insertOrder_length_le h1 hin).trans h2
    · obtain hin' | ⟨hroom, -⟩ := hplace
      · exact absurd hin' hin
      · push Not at hin
        have hlen := insertOrder_length hin
        show (insertOrder o s.orders).length ≤ 24
        omega
  · obtain rfl | ⟨hp, -⟩ := (mem_insertOrder h1 p).mp hp
    · exact ⟨hkey, htarget, hanchor⟩
    · exact h3 p hp
  · obtain ⟨p, hp, -⟩ | ⟨-, hserved⟩ := hplace
    · rw [h5 hm] at hp
      cases hp
    · obtain hm | hm := hm <;> obtain hserved | hserved := hserved <;> cases hm.symm.trans hserved

end Sys2Proof.Machine
end

section
/-! PROOF. O55: the pieces keep the order table's law, and a pass the laws that rest on it. -/
namespace Sys2Proof.Machine

/-- The order table's law with the figures that wake orders come from. -/
def State.orderly (s : State) : Prop := OrderLaw s ∧ s.figured

theorem State.orderly.of {s t : State} (h : s.orderly) (orders : t.orders = s.orders := by simp)
    (accounts : t.accounts = s.accounts := by simp) (held : t.rst.heldWakes = s.rst.heldWakes := by simp)
    (mode : t.port.mode = s.port.mode := by simp) : t.orderly :=
  ⟨h.1.of orders accounts held mode, h.2.congr accounts⟩

/-- With no order in the table, the mode is free. -/
theorem OrderLaw.empty {s t : State} (h : OrderLaw s) (hs : t.orders = [])
    (held : ∀ w ∈ t.rst.heldWakes, w ∈ s.rst.heldWakes) : OrderLaw t := by
  obtain ⟨-, -, -, h4, -⟩ := h
  refine ⟨?_, ?_, ?_, fun w hw => h4 w (held w hw), fun _ => hs⟩
  · rw [hs]
    exact .nil
  · rw [hs]
    exact Nat.zero_le _
  · rw [hs]
    exact fun o ho => (List.not_mem_nil ho).elim

theorem State.orderly.mode {s : State} (h : s.orderly) (m : PartMode)
    (hm : s.port.mode = .uninit ∨ s.port.mode = .selfTest ∨ s.orders = []) : (s.enterMode m).orderly := by
  have hnil : s.orders = [] := by
    obtain hm | hm | hm := hm
    · exact h.1.2.2.2.2 (.inl hm)
    · exact h.1.2.2.2.2 (.inr hm)
    · exact hm
  have hf := (s.enterMode_frame m).only
  refine ⟨h.1.empty ?_ ?_, h.2.congr ?_⟩
  all_goals rw [hf]
  · exact hnil
  · exact fun w hw => hw
  · rfl

theorem State.orderly.accounts {s : State} (h : s.orderly) {p : PerSlot (Option Account)} (hp : s.accountsSet p) :
    State.orderly { s with accounts := p } := by
  obtain ⟨⟨h1, h2, h3, h4, h5⟩, hfig⟩ := h
  refine ⟨⟨h1, h2, fun o ho => ?_, h4, h5⟩, hp.1 hfig⟩
  obtain ⟨k1, k2, k3⟩ := h3 o ho
  refine ⟨k1, k2, ?_⟩
  unfold Order.anchorFits at k3 ⊢
  split
  next i a x hstart =>
    rw [hstart] at k3
    obtain ⟨hsome, hx⟩ := k3
    obtain hp | hno := hp.2 i hsome
    · exact ⟨hp, hx⟩
    · exact absurd (hno o ho) (by simp [Order.anchoredTo, hstart])
  next => trivial

theorem State.orderly.stepClock {s : State} (h : s.orderly) (m : Nat) : (s.stepClock m).orderly := by
  have haccount : ∀ i, (s.stepClock m).account i =
      (s.account i).map (Account.shift ((m : Int) - (s.clock.minute : Int))) := fun i => by cases i <;> rfl
  refine ⟨h.1.thinned (Order.shift ((m : Int) - (s.clock.minute : Int))) (fun o => rfl) (.refl _) rfl (fun i => ?_)
    rfl rfl, fun i a ha => ?_⟩
  · rw [haccount, Option.isSome_map]
  · rw [haccount] at ha
    obtain ⟨b, hb, rfl⟩ := Option.map_eq_some_iff.mp ha
    exact h.2 i b hb

theorem State.orderly.release {s : State} (h : s.orderly) : s.releasePresenter.orderly := by
  have hmode : s.releasePresenter.port.mode = if s.port.mode = .selfTest then .uninit else s.port.mode :=
    (State.applyHeld_mode s.releaseReset s.rst.heldWarnings).trans rfl
  have hframe := s.releasePresenter_only
  obtain ⟨⟨h1, h2, h3, h4, h5⟩, hfig⟩ := h
  have horders : s.releasePresenter.orders = s.orders := by rw [hframe]
  have haccounts : s.releasePresenter.accounts = s.accounts := by rw [hframe]
  have hheld : s.releasePresenter.rst.heldWakes = [] := by rw [hframe]; rfl
  refine ⟨⟨?_, ?_, ?_, ?_, fun hm => ?_⟩, hfig.congr haccounts⟩
  · rw [horders]
    exact h1
  · rw [horders]
    exact h2
  · unfold Order.anchorFits State.account at h3 ⊢
    rw [horders, haccounts]
    exact h3
  · rw [hheld]
    exact nofun
  · rw [horders]
    rw [hmode] at hm
    split at hm
    next hself => exact h5 (.inr hself)
    next => exact h5 hm

theorem Piece.orderly {c : Instr} {r s t : State} (p : Piece c r s t) (hr : ∀ w ∈ r.rst.heldWakes, w.figured)
    (h : s.orderly) : t.orderly := by
  cases p with
  | port p hp => exact h.of rfl rfl rfl hp.1
  | mode m _ hm => exact h.mode m hm
  | stepClock m => exact h.stepClock m
  | enter o ho => exact ⟨h.1.enter (ho hr h.1 h.2), h.2.congr rfl⟩
  | dropOrders os hos => exact ⟨h.1.thinned id (fun _ => rfl) hos (List.map_id _).symm (fun _ => rfl) rfl rfl, h.2.congr rfl⟩
  | accounts p hp => exact h.accounts hp
  | holdWake w ha hw =>
    obtain ⟨⟨h1, h2, h3, h4, h5⟩, hfig⟩ := h
    refine ⟨⟨h1, h2, h3, fun x hx => ?_, h5⟩, hfig.congr rfl⟩
    obtain hx | hx := List.mem_append.mp hx
    · exact h4 x hx
    · obtain rfl := List.mem_singleton.mp hx
      exact hw hfig
  | release => exact h.release
  | notice => exact h.of
  | accountNotice => exact h.of
  | quiet => exact h.of
  | raise => exact h.of
  | remove => exact h.of
  | warn hw =>
    rw [hw.frame.only]
    exact h.of rfl rfl rfl rfl
  | heater hh =>
    have hmode := hh.frame.noticed.mode
    rw [hh.frame.only]
    exact h.of rfl rfl rfl hmode
  | fridge hf =>
    have hframe : s.fridgeFrame t := hf.frame
    have hmode := hframe.noticed.mode
    rw [hframe.only]
    exact h.of rfl rfl rfl hmode
  | stall rate =>
    have hmode := (s.tachReading_frame rate).noticed.mode
    rw [(s.tachReading_frame rate).only]
    exact h.of rfl rfl rfl hmode
  | lights hl =>
    have hframe : s.lightFrame t := hl.frame
    rw [hframe.only]
    exact h.of rfl rfl rfl rfl
  | overheat held =>
    obtain heq | hframe := s.debounced_ovht held
    · rw [heq]
      exact h
    · have hmode := hframe.noticed.mode
      rw [s.debounced_ovht_only held]
      exact h.of rfl rfl rfl hmode
  | coldRoom n hn hf hd =>
    have hmode := (State.tempWindow_c3_faulted_frame hf hd).noticed.mode
    rw [State.tempWindow_c3_only hf hd]
    exact h.of rfl rfl rfl (hmode.trans (by simp [State.takeTemp]))
  | period i =>
    rw [s.periodEnd_only i]
    exact h.of rfl rfl rfl rfl
  | lock => exact h.of rfl rfl rfl rfl
  | _ => exact h.of rfl rfl rfl rfl

theorem State.pass_orderly {s : State} (hr : s.rst.asserted = false) (h : s.orderly) : s.pass.orderly :=
  ⟨State.pass_orderLaw hr h.1, h.2.congr (by simp)⟩

theorem ActiveLaw.calm {s t : State} (h : ActiveLaw s) (hc : s.calm t) : ActiveLaw t := by
  obtain ⟨h1, h2, h3⟩ := h
  rw [ActiveLaw, hc.orders]
  exact ⟨h1, fun hl => h2 (hc.lockout hl), fun hf => h3 (hc.fault hf)⟩

theorem CommittedLaw.calm {s t : State} (h : CommittedLaw s) (hc : s.calm t) : CommittedLaw t := by
  rw [CommittedLaw, hc.orders, hc.committed, hc.usable, hc.keepMargin, hc.mode]
  exact h

/-- After the last piece that moves the table, the loads' availability or the budget, a pass settles them. -/
theorem Runs.orderly {c : Instr} {r s : State} {b : Bool} (h : Runs c r b s) (hr : r.orderly)
    (hlaws : ActiveLaw r ∧ CommittedLaw r) : s.orderly ∧ (b = true → ActiveLaw s ∧ CommittedLaw s) := by
  have hheld : ∀ w ∈ r.rst.heldWakes, w.figured := hr.1.2.2.2.1
  induction h with
  | start => exact ⟨hr, fun _ => hlaws⟩
  | calm _ p hc ih => exact ⟨p.orderly hheld ih.1, fun hb => ⟨(ih.2 hb).1.calm hc, (ih.2 hb).2.calm hc⟩⟩
  | other _ p ih => exact ⟨p.orderly hheld ih.1, nofun⟩
  | passed _ ha d ih =>
    exact ⟨State.pass_orderly ha ih.1, fun _ => ⟨State.pass_active ha ih.1.1, State.pass_committed ha ih.1.1⟩⟩

theorem Order.heldBack_inactive (o : Order) : o.heldBack.state ≠ .active := by
  unfold Order.heldBack
  split
  · exact nofun
  next h => exact h

theorem State.assertReset_orders {s : State} (h : OrderLaw s) :
    OrderLaw s.assertReset ∧ ActiveLaw s.assertReset ∧ CommittedLaw s.assertReset := by
  have horders : s.assertReset.orders = s.orders.map Order.heldBack := by simp [State.assertReset, State.quietPresenter]
  have haccounts : s.assertReset.accounts = s.accounts := by simp [State.assertReset, State.quietPresenter]
  have hmode : s.assertReset.port.mode = s.port.mode := by simp [State.assertReset, State.quietPresenter, Port.atReset]
  have hinactive : ∀ o ∈ s.assertReset.orders, o.state ≠ .active := fun o ho => by
    rw [horders] at ho
    obtain ⟨p, -, rfl⟩ := List.mem_map.mp ho
    exact p.heldBack_inactive
  refine ⟨?_, ⟨fun a ha _ _ hac => absurd hac (hinactive a ha), fun _ o ho _ => hinactive o ho,
    fun _ o ho _ => hinactive o ho⟩, fun _ => Nat.zero_le _⟩
  have hkept : OrderLaw { s.assertReset with rst := { s.assertReset.rst with heldWakes := s.rst.heldWakes } } := by
    refine h.thinned Order.heldBack (fun o => ?_) (.refl _) horders (fun i => ?_) rfl hmode
    · unfold Order.heldBack
      split <;> rfl
    · exact congrArg (fun p => Option.isSome (PerSlot.get p i)) haccounts
  obtain ⟨h1, h2, h3, -, h5⟩ := hkept
  exact ⟨h1, h2, h3, nofun, h5⟩

theorem exec_orderly {c : Instr} {s t : State} (h : exec c s = .next t) (hs : s.orderly ∧ ActiveLaw s ∧ CommittedLaw s) :
    t.orderly ∧ ActiveLaw t ∧ CommittedLaw t := by
  by_cases hc : c = .coldStart
  · subst hc
    cases h
    have hnone : ∀ o : Order, o ∉ ({ State.reset with sense := s.sense.powerUp, pending := s.pending } : State).orders :=
      fun _ => List.not_mem_nil
    exact ⟨⟨⟨.nil, Nat.zero_le _, fun o ho => absurd ho (hnone o), fun _ hw => (List.not_mem_nil hw).elim, fun _ => rfl⟩,
      fun i a ha => by cases i <;> cases ha⟩,
      ⟨fun a ha => absurd ha (hnone a), fun _ o ho => absurd ho (hnone o), fun _ o ho => absurd ho (hnone o)⟩,
      fun _ => Nat.zero_le _⟩
  by_cases hr : c = .resetAssert
  · subst hr
    cases h
    unfold State.outOfReset
    split
    · exact hs
    · obtain ⟨h1, h2⟩ := State.assertReset_orders hs.1.1
      exact ⟨⟨h1, hs.1.2.congr (by simp [State.assertReset, State.quietPresenter])⟩, h2⟩
  · obtain ⟨h1, h2⟩ := (exec_runs h hc hr).orderly hs.1 hs.2
    exact ⟨h1, h2 rfl⟩

/-- Settles O55: the table keeps its law piece by piece, and what a piece unsettles the pass after it settles. -/
theorem stepKeepsTheOrderLaws : Obligations.StepKeepsTheOrderLaws := by
  unfold Obligations.StepKeepsTheOrderLaws
  rintro s t h haccounts hs
  have hfigured : s.figured := fun i a ha => by
    obtain ⟨-, hrange, hstaged, -⟩ := haccounts.1 i a ha
    have hof : ∀ {x : Settings}, x.inRange → x.figured := fun ⟨_, _, _, _, _, _, _, _, _, _, _, hl, _, hr⟩ => ⟨hl, hr⟩
    exact ⟨hof hrange, fun x hx => hof (hstaged x hx)⟩
  have hkept := step_keeps (P := fun s => s.orderly ∧ ActiveLaw s ∧ CommittedLaw s) exec_orderly (fun _ _ h => h) h
    ⟨⟨hs.1, hfigured⟩, hs.2⟩
  exact ⟨hkept.1.1, hkept.2⟩

end Sys2Proof.Machine
end

section
/-! PROOF. What the rest accounts' operations make of the account of their slot (R72 to R81, R87 and R90), for O25 to
O30, O44, O53 and O57. -/
namespace Sys2Proof.Machine

/-- The account of a slot written, and every other slot left as it was. -/
def State.wrote (s : State) (i : Slot) (a : Account) (t : State) : Prop :=
  t.account i = some a ∧ ∀ j, j ≠ i → t.account j = s.account j

section
variable {s t u : State} {i : Slot} {a b : Account}

theorem State.wrote.trans (h : s.wrote i a u) (k : u.wrote i b t) : s.wrote i b t :=
  ⟨k.1, fun j hj => (k.2 j hj).trans (h.2 j hj)⟩

theorem State.wrote.kept (h : s.wrote i a u) (ht : t.accounts = u.accounts) : s.wrote i a t := by
  unfold State.wrote State.account at h ⊢
  rw [ht]
  exact h

theorem State.wrote.refl (h : s.account i = some a) : s.wrote i a s := ⟨h, fun _ _ => rfl⟩

theorem State.wrote.of_accounts (h : s.wrote i a t) (hs : u.accounts = s.accounts) : u.wrote i a t := by
  unfold State.wrote State.account at h ⊢
  rw [hs]
  exact h

theorem State.setAccount_wrote (s : State) (i : Slot) (a : Account) : s.wrote i a (s.setAccount i a) := by
  refine ⟨?_, fun j hj => ?_⟩ <;> simp only [State.account, State.setAccount, PerSlot.get_set]
  · exact if_pos trivial
  · exact if_neg hj

/-- Two writes of the same slot come to the last one. -/
theorem State.wrote.accounts_eq (h : s.wrote i a t) : t.accounts = s.accounts.set i (some a) := by
  have hget : ∀ j, t.accounts.get j = (s.accounts.set i (some a)).get j := fun j => by
    rw [PerSlot.get_set]
    split
    next hij => exact hij ▸ h.1
    next hij => exact h.2 j hij
  have h0 := hget .s0
  have h1 := hget .s1
  have h2 := hget .s2
  have h3 := hget .s3
  cases ht : t.accounts
  cases hs : s.accounts.set i (some a)
  rw [ht, hs] at h0 h1 h2 h3
  simp only [PerSlot.get] at h0 h1 h2 h3
  rw [h0, h1, h2, h3]

theorem State.updAccount_some (f : Account → Account) (h : s.account i = some a) : s.updAccount i f = s.setAccount i (f a) := by
  rw [State.updAccount, h]

theorem State.updAccount_none (f : Account → Account) (h : s.account i = none) : s.updAccount i f = s := by
  rw [State.updAccount, h]

theorem State.updAccount_wrote (f : Account → Account) (h : s.account i = some a) : s.wrote i (f a) (s.updAccount i f) := by
  rw [State.updAccount_some f h]
  exact s.setAccount_wrote i (f a)

theorem State.accountGo_wrote (st : AccountState) (h : s.account i = some a) :
    s.wrote i { a with state := st } (s.accountGo i st) :=
  (State.updAccount_wrote (fun a => { a with state := st }) h).kept (by simp [State.accountGo])

/-- R87: the break of an account that is not DRIVING is not complete. -/
theorem State.breakDone_iff (s : State) (a : Account) :
    s.breakDone a = true ↔ a.state = .driving ∧ s.sense.motion ≠ .moving ∧ a.settings.pause * 60 ≤ a.breakSeconds := by
  simp [State.breakDone, and_assoc]

theorem State.testBreak_wrote (h : s.account i = some a) :
    s.wrote i (if s.breakDone a then { a with contSeconds := 0 } else a) (s.testBreak i) := by
  simp only [State.testBreak, h]
  split
  · exact (s.setAccount_wrote i _).kept (by simp)
  · exact .refl h

theorem Account.applied_none (h : a.staged = none) : a.applied = a := by
  cases a
  cases h
  rfl

theorem State.applyStaged_none (h : s.account i = some a) (ht : a.staged = none) : s.applyStaged i = s := by
  simp only [State.applyStaged, h, ht]

theorem State.applyStaged_some {x : Settings} (h : s.account i = some a) (ht : a.staged = some x) :
    s.applyStaged i = ((((s.setAccount i a.applied).testDriving i).testBreak i).accountNotice) := by
  simp only [State.applyStaged, h, ht, Account.applied, Option.getD_some]

/-- R90: the staged settings applied to an account that is not DRIVING. -/
theorem State.applyStaged_wrote (h : s.account i = some a) (hd : a.state ≠ .driving) :
    s.wrote i a.applied (s.applyStaged i) := by
  cases ht : a.staged with
  | none =>
    rw [State.applyStaged_none h ht, Account.applied_none ht]
    exact .refl h
  | some x =>
    have hset := s.setAccount_wrote i a.applied
    have htested : s.wrote i a.applied ((s.setAccount i a.applied).testDriving i) := hset.kept (by simp)
    have hbreak : State.breakDone ((s.setAccount i a.applied).testDriving i) a.applied = false := by
      rw [Bool.eq_false_iff, Ne, State.breakDone_iff]
      exact fun hb => hd hb.1
    have hbroken := State.testBreak_wrote htested.1
    rw [hbreak] at hbroken
    rw [State.applyStaged_some h ht]
    exact (htested.trans hbroken).kept (by simp)

theorem State.fireRestDone_wrote :
    s.wrote i { a.restDone with restEnd := some (.fixed s.clock.minute) } (s.fireRestDone i a) := by
  have hfirst : s.wrote i a.restDone ((s.setAccount i a.restDone).testDriving i) :=
    (s.setAccount_wrote i a.restDone).kept (by simp)
  have hclock : ((s.setAccount i a.restDone).testDriving i).clock = s.clock := by simp
  simp only [State.fireRestDone]
  rw [hclock]
  exact (hfirst.trans (State.setAccount_wrote _ i _)).kept (by simp)

theorem State.testRestDone_wrote (h : s.account i = some a) :
    s.wrote i (if a.restDue then { a.restDone with restEnd := some (.fixed s.clock.minute) } else a) (s.testRestDone i) := by
  simp only [State.testRestDone, h]
  split
  · exact State.fireRestDone_wrote
  · exact .refl h

/-- R73, R76, R81: what the start of a segment makes of an account. -/
theorem Account.started_eq (a : Account) (now : Nat) :
    (if (({ a with state := .resting } : Account).applied.startSegment now).restDue then
        { (({ a with state := .resting } : Account).applied.startSegment now).restDone with restEnd := some (.fixed now) }
      else ({ a with state := .resting } : Account).applied.startSegment now) = a.started now := by
  have hcredited : (({ a with state := .resting } : Account).applied.startSegment now).credited = a.accumulated := by
    simp only [Account.credited, Account.startSegment, Account.applied, Account.segMinutes]
    split <;> simp
  have hdue : (({ a with state := .resting } : Account).applied.startSegment now).restDue = true ↔
      a.rested = false ∧ a.applied.settings.rest ≤ a.accumulated := by
    simp only [Account.restDue, hcredited]
    simp [Account.startSegment, Account.applied]
  unfold Account.started
  by_cases hfires : a.rested = false ∧ a.applied.settings.rest ≤ a.accumulated
  · rw [if_pos (hdue.mpr hfires)]
    dsimp only
    rw [if_pos hfires]
    rfl
  · rw [if_neg (fun h => hfires (hdue.mp h))]
    dsimp only
    rw [if_neg hfires]
    rfl

theorem State.startSegment_wrote (h : s.account i = some a) : s.wrote i (a.started s.clock.minute) (s.startSegment i) := by
  have hresting := State.updAccount_wrote (fun a => { a with state := .resting }) h
  have happlied := hresting.trans (State.applyStaged_wrote hresting.1 (by simp))
  have hstarted := happlied.trans (State.updAccount_wrote (fun a => a.startSegment s.clock.minute) happlied.1)
  have hdone := hstarted.trans (State.testRestDone_wrote hstarted.1)
  have hclock : (((s.updAccount i (fun a => { a with state := .resting })).applyStaged i).updAccount i
      (fun a => a.startSegment s.clock.minute)).clock = s.clock := by simp
  rw [hclock, Account.started_eq] at hdone
  exact hdone

theorem Account.closeSegment_eq (a : Account) : a.closeSegment = a.closed := by
  unfold Account.closeSegment Account.closed Account.segMinutes Account.expectedEnd
  cases a.restEnd with
  | none => rfl
  | some e => cases e <;> rfl

theorem State.closeSegment_wrote (h : s.account i = some a) : s.wrote i a.closed (s.closeSegment i) := by
  have hset := s.setAccount_wrote i a.closed
  simp only [State.closeSegment, h, Account.closeSegment_eq]
  split
  · exact hset.kept (by simp)
  · exact hset

theorem State.closeIfResting_wrote (h : s.account i = some a) :
    s.wrote i (if a.state = .resting then a.closed else a) (s.closeIfResting i) := by
  simp only [State.closeIfResting, h]
  split
  · exact State.closeSegment_wrote h
  · exact .refl h

theorem State.finishRest_wrote (h : s.account i = some a) (hd : a.state ≠ .driving) :
    s.wrote i a.applied (s.finishRest i) :=
  (State.applyStaged_wrote h hd).kept (by simp [State.finishRest])

/-- R72: an account whose FIXED REST_END a new declaration has cleared. -/
def Account.unfixed (a : Account) : Account := { a with restEnd := if a.fixedEnd then none else a.restEnd }

theorem State.unfixed_standstill (s : State) (i : Slot) :
    (s.updAccount i Account.unfixed).standstill = s.standstill := by simp [State.standstill]

theorem State.declareRest_eq (s : State) (i : Slot) :
    s.declareRest i =
      (if s.standstill then ((s.updAccount i Account.unfixed).startSegment i).accountNotice
       else (s.updAccount i Account.unfixed).accountGo i .restWait).workQuiet.settle := by
  rw [← State.unfixed_standstill s i]
  rfl

theorem State.declareRest_wrote (h : s.account i = some a) :
    s.wrote i (if s.standstill then a.unfixed.started s.clock.minute else { a.unfixed with state := .restWait })
      (s.declareRest i) := by
  have hcleared := State.updAccount_wrote Account.unfixed h
  have hclock : (s.updAccount i Account.unfixed).clock = s.clock := by simp
  rw [State.declareRest_eq]
  split
  · have hstarted := hcleared.trans (State.startSegment_wrote hcleared.1)
    rw [hclock] at hstarted
    exact hstarted.kept (by simp)
  · exact (hcleared.trans (State.accountGo_wrote .restWait hcleared.1)).kept (by simp)

theorem State.endRest_wrote (h : s.account i = some a) :
    s.wrote i { (if a.state = .resting then a.closed else a).applied with state := .idle } (s.endRest i) := by
  have hclosed := State.closeIfResting_wrote h
  have hidle := hclosed.trans (State.accountGo_wrote .idle hclosed.1)
  have hfinished := hidle.trans (State.finishRest_wrote hidle.1 (by simp))
  exact hfinished.kept (by simp [State.endRest])

theorem State.declareWheel_wrote (h : s.account i = some a) (hd : a.state ≠ .driving) :
    s.wrote i
      { (if a.declared then (if a.state = .resting then a.closed else a).applied else a).newDuty with state := .driving }
      (s.declareWheel i a) := by
  have hleft : s.wrote i (if a.declared then (if a.state = .resting then a.closed else a).applied else a)
      (if a.declared then (s.closeIfResting i).finishRest i else s) := by
    split
    · have hclosed := State.closeIfResting_wrote h
      refine hclosed.trans (State.finishRest_wrote hclosed.1 ?_)
      split
      · exact hd
      · exact hd
    · exact .refl h
  have hduty := hleft.trans (State.updAccount_wrote Account.newDuty hleft.1)
  have hdriving := hduty.trans (State.accountGo_wrote .driving hduty.1)
  exact hdriving.kept (by simp [State.declareWheel])

/-! ### The standstill condition -/

theorem State.movesAccount_iff (s : State) (a : Account) :
    s.movesAccount a = true ↔
      (s.standstill = true ∧ a.state = .restWait) ∨ (s.standstill = false ∧ a.state = .resting) := by
  unfold State.movesAccount
  cases s.standstill <;> simp

/-- R70, R71: what the standstill condition makes of an account. -/
def State.movedTo (s : State) (a : Account) : Account :=
  if s.movesAccount a then
    (if s.standstill then a.started s.clock.minute else { a.closed with state := .restWait })
  else a

theorem State.moveAccount_wrote (h : s.account i = some a) : s.wrote i (s.movedTo a) (s.moveAccount i) := by
  simp only [State.moveAccount, State.movedTo, h]
  split
  · split
    · exact (State.startSegment_wrote h).kept (by simp)
    · have hclosed := State.closeSegment_wrote h
      exact hclosed.trans (State.accountGo_wrote .restWait hclosed.1)
  · exact .refl h

theorem State.moveAccount_none (h : s.account i = none) : s.moveAccount i = s := by
  simp only [State.moveAccount, h]

theorem State.moveAccount_account (s : State) (i j : Slot) :
    (s.moveAccount i).account j = if i = j then (s.account j).map s.movedTo else s.account j := by
  cases h : s.account i with
  | none =>
    rw [State.moveAccount_none h]
    split
    next hij => rw [← hij, h]; rfl
    next => rfl
  | some a =>
    obtain ⟨hi, hothers⟩ := State.moveAccount_wrote h
    split
    next hij => rw [← hij, hi, h]; rfl
    next hij => exact hothers j (Ne.symm hij)

theorem State.movedTo_congr (hc : t.clock = s.clock) (hs : t.standstill = s.standstill) : t.movedTo = s.movedTo := by
  funext a
  unfold State.movedTo State.movesAccount
  rw [hc, hs]

theorem State.moveAccount_movedTo (s : State) (i : Slot) : (s.moveAccount i).movedTo = s.movedTo :=
  State.movedTo_congr (by simp) (by simp [State.standstill])

theorem State.moveAccounts_account (s : State) (j : Slot) : s.moveAccounts.account j = (s.account j).map s.movedTo := by
  unfold State.moveAccounts
  cases j <;> simp [State.moveAccount_account, State.moveAccount_movedTo]

theorem State.movedTo_same (h : s.movesAccount a = false) : s.movedTo a = a := by
  simp [State.movedTo, h]

theorem State.workStandstill_account (s : State) (j : Slot) :
    s.workStandstill.account j = (s.account j).map s.movedTo := by
  unfold State.workStandstill
  split
  next hnone =>
    cases ha : s.account j with
    | none => rfl
    | some a => exact congrArg some (State.movedTo_same (State.slotsWhere_isEmpty.mp hnone j a ha)).symm
  next =>
    rw [← State.moveAccounts_account]
    unfold State.account
    simp

/-- The accounts of a standstill worked afresh are those of `accountMoved`. -/
theorem State.accountMoved_of (h : t.account i = (s.account i).map s.movedTo) : s.accountMoved i t := by
  refine ⟨fun a ha => ?_, fun hn => by rw [h, hn]; rfl⟩
  rw [h, ha]
  refine ⟨fun hs hst => ?_, fun hs hst => ?_, fun h1 h2 => ?_⟩
  · have hm := (s.movesAccount_iff a).mpr (.inl ⟨hs, hst⟩)
    simp [State.movedTo, hm, hs]
  · have hm := (s.movesAccount_iff a).mpr (.inr ⟨hs, hst⟩)
    simp [State.movedTo, hm, hs]
  · refine congrArg some (State.movedTo_same ?_)
    rw [Bool.eq_false_iff, Ne, State.movesAccount_iff]
    exact fun hm => hm.elim (fun k => h1 k.1 k.2) (fun k => h2 k.1 k.2)

end

end Sys2Proof.Machine
end

section
/-! PROOF. O57: the operations on the rest accounts keep the accounts' law. -/
namespace Sys2Proof.Machine

/-! ### The parts of the law -/

/-- The accounts' law but for the standstill condition and the quiet flag: each account legal, no two alike. -/
def State.accountsApart (s : State) : Prop :=
  (∀ i a, s.account i = some a → a.legal) ∧
  ∀ i j a b, s.account i = some a → s.account j = some b → i ≠ j →
    a.tag ≠ b.tag ∧ (a.bunk ≠ .noBunk → a.bunk ≠ b.bunk) ∧ ¬(a.state = .driving ∧ b.state = .driving)

/-- R70, R71: a declared rest stands as the standstill condition does. -/
def State.accountsStand (s : State) : Prop :=
  ∀ i a, s.account i = some a →
    (a.state = .resting → s.standstill = true) ∧ (a.state = .restWait → s.standstill = false)

theorem accountLaw_iff (s : State) :
    AccountLaw s ↔ s.accountsApart ∧ s.accountsStand ∧ s.quiet = s.quietNow := by
  constructor
  · rintro ⟨h1, h2, h3, h4⟩
    exact ⟨⟨h1, h2⟩, h3, h4⟩
  · rintro ⟨⟨h1, h2⟩, h3, h4⟩
    exact ⟨h1, h2, h3, h4⟩

section
variable {s t u : State} {i : Slot} {a b : Account}

theorem State.accountsApart.of (h : s.accountsApart) (ht : t.accounts = s.accounts) : t.accountsApart := by
  unfold State.accountsApart State.account at h ⊢
  rw [ht]
  exact h

theorem State.accountsStand.of (h : s.accountsStand) (ht : t.accounts = s.accounts) (hs : t.standstill = s.standstill) :
    t.accountsStand := by
  unfold State.accountsStand State.account at h ⊢
  rw [ht, hs]
  exact h

theorem State.standstill_congr (transport : t.transport = s.transport) (motion : t.sense.motion = s.sense.motion)
    (brake : t.sense.pbrake.level = s.sense.pbrake.level) : t.standstill = s.standstill := by
  unfold State.standstill
  rw [transport, motion, brake]

theorem State.quietNow_congr (h : t.accounts = s.accounts) : t.quietNow = s.quietNow := by
  unfold State.quietNow
  rw [State.slotsWhere_congr h]

theorem AccountLaw.of (h : AccountLaw s) (accounts : t.accounts = s.accounts := by simp)
    (quiet : t.quiet = s.quiet := by simp) (transport : t.transport = s.transport := by simp)
    (motion : t.sense.motion = s.sense.motion := by simp)
    (brake : t.sense.pbrake.level = s.sense.pbrake.level := by simp) : AccountLaw t := by
  rw [accountLaw_iff] at h ⊢
  obtain ⟨h1, h2, h3⟩ := h
  exact ⟨h1.of accounts, h2.of accounts (State.standstill_congr transport motion brake),
    by rw [quiet, h3, State.quietNow_congr accounts]⟩

/-! ### One account written -/

/-- A write of one slot, by the account that stood there. -/
structure Account.follows (a b : Account) : Prop where
  legal : a.legal → b.legal
  tag : b.tag = a.tag
  bunk : b.bunk = a.bunk
  driving : b.state = .driving → a.state = .driving

theorem State.accountsApart.wrote (h : s.accountsApart) (hw : s.wrote i b t) (hb : b.legal)
    (hapart : ∀ j c, j ≠ i → s.account j = some c → b.tag ≠ c.tag ∧ (b.bunk ≠ .noBunk → b.bunk ≠ c.bunk) ∧
      ¬(b.state = .driving ∧ c.state = .driving)) : t.accountsApart := by
  obtain ⟨hlegal, hpairs⟩ := h
  obtain ⟨hi, hothers⟩ := hw
  refine ⟨fun j c hc => ?_, fun j k c d hc hd hjk => ?_⟩
  · by_cases hj : j = i
    · subst hj
      obtain rfl := Option.some.inj (hi.symm.trans hc)
      exact hb
    · rw [hothers j hj] at hc
      exact hlegal j c hc
  · by_cases hj : j = i
    · subst hj
      obtain rfl := Option.some.inj (hi.symm.trans hc)
      rw [hothers k (Ne.symm hjk)] at hd
      exact hapart k d (Ne.symm hjk) hd
    · rw [hothers j hj] at hc
      by_cases hk : k = i
      · subst hk
        obtain rfl := Option.some.inj (hi.symm.trans hd)
        obtain ⟨htag, hbunk, hdrive⟩ := hapart j c hj hc
        exact ⟨htag.symm, fun hn he => hbunk (he ▸ hn) he.symm, fun hboth => hdrive hboth.symm⟩
      · rw [hothers k hk] at hd
        exact hpairs j k c d hc hd hjk

theorem State.accountsApart.followed (h : s.accountsApart) (ha : s.account i = some a) (hf : a.follows b)
    (hw : s.wrote i b t) : t.accountsApart := by
  refine h.wrote hw (hf.legal (h.1 i a ha)) fun j c hj hc => ?_
  obtain ⟨htag, hbunk, hdrive⟩ := h.2 i j a c ha hc (Ne.symm hj)
  rw [hf.tag, hf.bunk]
  exact ⟨htag, hbunk, fun hboth => hdrive ⟨hf.driving hboth.1, hboth.2⟩⟩

theorem State.accountsStand.wrote (h : s.accountsStand) (hw : s.wrote i b t) (hs : t.standstill = s.standstill)
    (hrest : b.state = .resting → s.standstill = true) (hwait : b.state = .restWait → s.standstill = false) :
    t.accountsStand := by
  obtain ⟨hi, hothers⟩ := hw
  intro j c hc
  rw [hs]
  by_cases hj : j = i
  · subst hj
    obtain rfl := Option.some.inj (hi.symm.trans hc)
    exact ⟨hrest, hwait⟩
  · rw [hothers j hj] at hc
    exact h j c hc

/-- An account that counts for the quiet flag (R91). -/
def Account.hushes (a : Account) : Bool := a.inBunk && a.declared

theorem State.quietNow_iff (s : State) : s.quietNow = true ↔ ∃ i a, s.account i = some a ∧ a.hushes = true := by
  have hempty := State.slotsWhere_isEmpty (s := s) (p := fun a => a.inBunk && a.declared)
  unfold State.quietNow
  rw [Bool.not_eq_true', ← Bool.not_eq_true, hempty]
  push Not
  refine exists_congr fun i => exists_congr fun a => and_congr_right fun _ => ?_
  exact Bool.ne_false_iff

theorem State.quietNow_of (h : ∀ j, (t.account j).elim false Account.hushes = (s.account j).elim false Account.hushes) :
    t.quietNow = s.quietNow := by
  have hiff : ∀ r : State, r.quietNow = true ↔ ∃ j, (r.account j).elim false Account.hushes = true := fun r => by
    rw [State.quietNow_iff]
    refine exists_congr fun j => ?_
    cases r.account j <;> simp
  rw [Bool.eq_iff_iff, hiff, hiff]
  simp only [h]

theorem State.quietNow_wrote (ha : s.account i = some a) (hw : s.wrote i b t) (hh : b.hushes = a.hushes) :
    t.quietNow = s.quietNow := by
  refine State.quietNow_of fun j => ?_
  by_cases hj : j = i
  · subst hj
    rw [hw.1, ha]
    exact hh
  · rw [hw.2 j hj]

/-! ### Every account written -/

theorem State.accountsApart.mapped {f : Account → Account} (h : s.accountsApart) (hf : ∀ a : Account, a.follows (f a))
    (ht : ∀ j, t.account j = (s.account j).map f) : t.accountsApart := by
  obtain ⟨hlegal, hpairs⟩ := h
  have hback : ∀ {j c}, t.account j = some c → ∃ a, s.account j = some a ∧ f a = c := fun hc => by
    rw [ht] at hc
    exact Option.map_eq_some_iff.mp hc
  refine ⟨fun j c hc => ?_, fun j k c d hc hd hjk => ?_⟩
  · obtain ⟨a, ha, rfl⟩ := hback hc
    exact (hf a).legal (hlegal j a ha)
  · obtain ⟨a, ha, rfl⟩ := hback hc
    obtain ⟨b, hb, rfl⟩ := hback hd
    obtain ⟨htag, hbunk, hdrive⟩ := hpairs j k a b ha hb hjk
    rw [(hf a).tag, (hf b).tag, (hf a).bunk, (hf b).bunk]
    exact ⟨htag, hbunk, fun hboth => hdrive ⟨(hf a).driving hboth.1, (hf b).driving hboth.2⟩⟩

theorem State.quietNow_mapped {f : Account → Account} (hf : ∀ a, (f a).hushes = a.hushes)
    (ht : ∀ j, t.account j = (s.account j).map f) : t.quietNow = s.quietNow := by
  refine State.quietNow_of fun j => ?_
  rw [ht]
  cases s.account j with
  | none => rfl
  | some a => exact hf a

/-- A write of every account that leaves its state, its tag and its bunk. -/
theorem AccountLaw.mapped {f : Account → Account} (h : AccountLaw s) (hf : ∀ a : Account, a.follows (f a))
    (hstate : ∀ a, (f a).state = a.state) (ht : ∀ j, t.account j = (s.account j).map f)
    (quiet : t.quiet = s.quiet := by simp) (transport : t.transport = s.transport := by simp)
    (motion : t.sense.motion = s.sense.motion := by simp)
    (brake : t.sense.pbrake.level = s.sense.pbrake.level := by simp) : AccountLaw t := by
  rw [accountLaw_iff] at h ⊢
  obtain ⟨h1, h2, h3⟩ := h
  refine ⟨h1.mapped hf ht, fun j c hc => ?_, ?_⟩
  · rw [ht] at hc
    obtain ⟨a, ha, rfl⟩ := Option.map_eq_some_iff.mp hc
    rw [hstate, State.standstill_congr transport motion brake]
    exact h2 j a ha
  · rw [quiet, h3]
    refine (State.quietNow_mapped (fun a => ?_) ht).symm
    unfold Account.hushes Account.inBunk Account.declared
    rw [(hf a).bunk, hstate]

/-- A write of one account that leaves its state, its tag and its bunk. -/
theorem AccountLaw.wrote (h : AccountLaw s) (ha : s.account i = some a) (hf : a.follows b) (hstate : b.state = a.state)
    (hw : s.wrote i b t) (quiet : t.quiet = s.quiet := by simp) (transport : t.transport = s.transport := by simp)
    (motion : t.sense.motion = s.sense.motion := by simp)
    (brake : t.sense.pbrake.level = s.sense.pbrake.level := by simp) : AccountLaw t := by
  rw [accountLaw_iff] at h ⊢
  obtain ⟨h1, h2, h3⟩ := h
  have hstand := State.standstill_congr transport motion brake
  refine ⟨h1.followed ha hf hw, h2.wrote hw hstand ?_ ?_, ?_⟩
  · rw [hstate]
    exact (h2 i a ha).1
  · rw [hstate]
    exact (h2 i a ha).2
  · rw [quiet, h3]
    refine (State.quietNow_wrote ha hw ?_).symm
    unfold Account.hushes Account.inBunk Account.declared
    rw [hf.bunk, hstate]

/-! ### What the operations write is legal -/

theorem Account.expectedEnd_congr (h : b.restEnd = a.restEnd) : b.expectedEnd = a.expectedEnd := by
  unfold Account.expectedEnd
  rw [h]

theorem Account.follows.refl (a : Account) : a.follows a := ⟨id, rfl, rfl, id⟩

theorem Account.follows.trans {c : Account} (h : a.follows b) (k : b.follows c) : a.follows c :=
  ⟨fun ha => k.legal (h.legal ha), k.tag.trans h.tag, k.bunk.trans h.bunk, fun hc => h.driving (k.driving hc)⟩

/-- R80, R81: an account whose required rest is credited. -/
def Account.restedNow (a : Account) (now : Nat) : Account := { a.restDone with restEnd := some (.fixed now) }

theorem Account.restedNow_follows (a : Account) (now : Nat) : a.follows (a.restedNow now) := by
  refine ⟨?_, rfl, rfl, id⟩
  rintro ⟨h1, h2, h3, h4, h5, h6, h7, h8, -, -, -, -⟩
  refine ⟨h1, h2, h3, h4, h5, h6, h7, h8, Nat.zero_le _, Nat.zero_le _, Nat.zero_le _, ?_⟩
  exact iff_of_false Bool.false_ne_true fun h => Bool.noConfusion h.2

theorem Account.moveOff_follows (a : Account) : a.follows a.moveOff := by
  unfold Account.moveOff
  split
  · refine ⟨?_, rfl, rfl, id⟩
    rintro ⟨h1, h2, h3, h4, h5, h6, h7, h8, h9, -, h11, h12⟩
    exact ⟨h1, h2, h3, h4, h5, h6, h7, h8, h9, Nat.zero_le _, h11, h12⟩
  · exact .refl a

theorem Account.breakTaken_follows (a : Account) : a.follows { a with contSeconds := 0 } := by
  refine ⟨?_, rfl, rfl, id⟩
  rintro ⟨h1, h2, h3, h4, h5, h6, h7, h8, -, h10, h11, h12⟩
  exact ⟨h1, h2, h3, h4, h5, h6, h7, h8, Nat.zero_le _, h10, h11, h12⟩

theorem gain_bound {cap x : Nat} (h : x ≤ cap) : gain cap x ≤ cap := by
  unfold gain
  split <;> omega

theorem Account.second_follows (m : Motion) (a : Account) : a.follows (a.second m) := by
  unfold Account.second
  split
  next hs =>
    refine ⟨?_, rfl, rfl, id⟩
    rintro ⟨h1, h2, h3, h4, h5, h6, h7, h8, h9, h10, h11, h12⟩
    exact ⟨h1, h2, h3, h4, gain_bound h5, fun hn => absurd hs hn, h7, h8, h9, h10, h11, h12⟩
  next =>
    split
    · refine ⟨?_, rfl, rfl, id⟩
      rintro ⟨h1, h2, h3, h4, h5, h6, h7, h8, h9, h10, h11, h12⟩
      exact ⟨h1, h2, h3, h4, h5, h6, h7, h8, gain_bound h9, Nat.zero_le _, gain_bound h11, h12⟩
    · refine ⟨?_, rfl, rfl, id⟩
      rintro ⟨h1, h2, h3, h4, h5, h6, h7, h8, h9, h10, h11, h12⟩
      exact ⟨h1, h2, h3, h4, h5, h6, h7, h8, h9, gain_bound h10, h11, h12⟩
  next => exact .refl a

theorem Account.second_state (m : Motion) (a : Account) : (a.second m).state = a.state := by
  unfold Account.second
  split
  · rfl
  · split <;> rfl
  · rfl

theorem Account.moveOff_state (a : Account) : a.moveOff.state = a.state := by
  unfold Account.moveOff
  split <;> rfl

theorem Account.shift_follows (x : Int) (a : Account) : a.follows (a.shift x) := by
  have hend : (a.shift x).expectedEnd = a.expectedEnd := by
    unfold Account.shift Account.expectedEnd
    cases a.restEnd with
    | none => rfl
    | some e => cases e <;> rfl
  refine ⟨?_, rfl, rfl, id⟩
  rintro ⟨h1, h2, h3, h4, h5, h6, h7, h8, h9, h10, h11, h12⟩
  exact ⟨h1, h2, h3, h4, h5, h6, h7, h8, h9, h10, h11, hend ▸ h12⟩

theorem Account.unfixed_follows (a : Account) : a.follows a.unfixed := by
  have hend : a.unfixed.expectedEnd = a.expectedEnd := by
    unfold Account.unfixed Account.expectedEnd Account.fixedEnd
    cases a.restEnd with
    | none => rfl
    | some e => cases e <;> rfl
  refine ⟨?_, rfl, rfl, id⟩
  rintro ⟨h1, h2, h3, h4, h5, h6, h7, h8, h9, h10, h11, h12⟩
  exact ⟨h1, h2, h3, h4, h5, h6, h7, h8, h9, h10, h11, hend ▸ h12⟩

theorem Account.legal.applied (h : a.legal) : a.applied.settings.inRange := by
  obtain ⟨-, h2, h3, -⟩ := h
  unfold Account.applied
  cases ha : a.staged with
  | none => exact h2
  | some x => exact h3 x ha

theorem Account.started_follows (a : Account) (now : Nat) : a.follows (a.started now) := by
  have hbase : ∀ {e : Option RestEnd}, e = (if a.rested then a.restEnd else
      some (.expected (holdMinute ((now : Int) +
        (max (a.applied.settings.rest - a.accumulated) a.applied.settings.segment : Nat))))) →
      a.legal → ({ a.applied with state := .resting, segSeconds := 0, restStart := some now, restEnd := e } : Account).legal := by
    rintro e rfl ha
    have hset := ha.applied
    obtain ⟨h1, -, -, -, -, -, h7, h8, h9, h10, h11, h12⟩ := ha
    refine ⟨h1, hset, nofun, nofun, Nat.zero_le _, fun _ => rfl, h7, h8, h9, h10, h11, ?_⟩
    cases hr : a.rested with
    | true =>
      have hend : a.expectedEnd = false := by
        rw [Bool.eq_false_iff]
        exact fun h => Bool.noConfusion (hr.symm.trans (h12.mp h).2)
      refine iff_of_false ?_ fun h => Bool.noConfusion (hr.symm.trans h.2)
      rw [Account.expectedEnd_congr (a := a) (by simp), hend]
      exact Bool.false_ne_true
    | false => exact iff_of_true rfl ⟨rfl, hr⟩
  unfold Account.started
  dsimp only
  split
  · exact ⟨fun ha => (Account.restedNow_follows _ now).legal (hbase rfl ha), rfl, rfl, nofun⟩
  · exact ⟨hbase rfl, rfl, rfl, nofun⟩

/-- R74, R78: a segment closed, the account then in another state than RESTING. -/
theorem Account.closed_legal {st : AccountState} (ha : a.legal) (hs : st ≠ .resting)
    (hst : a.staged.isSome = true → st = .restWait) : ({ a.closed with state := st } : Account).legal := by
  obtain ⟨h1, h2, h3, h4, h5, h6, h7, h8, h9, h10, h11, h12⟩ := ha
  refine ⟨h1, h2, h3, fun hx => ?_, Nat.zero_le _, fun _ => rfl, fun m hm => ?_, ?_, h9, h10, h11, ?_⟩
  · rw [show st = .restWait from hst hx]
    rfl
  · obtain rfl := Option.some.inj hm
    omega
  · show (if _ then _ else _) ≤ 2880
    split
    · exact Nat.min_le_right _ _
    · exact h8
  · refine iff_of_false ?_ fun h => hs h.1
    show ¬Account.expectedEnd { a with restEnd := if a.expectedEnd then none else a.restEnd } = true
    cases he : a.expectedEnd with
    | true => exact Bool.false_ne_true
    | false =>
      rw [Account.expectedEnd_congr (a := a) (by simp), he]
      exact Bool.false_ne_true

theorem State.movedTo_follows (s : State) (a : Account) : a.follows (s.movedTo a) := by
  unfold State.movedTo
  split
  next hm =>
    split
    · exact a.started_follows _
    · exact ⟨fun ha => Account.closed_legal ha nofun fun _ => rfl, rfl, rfl, nofun⟩
  next => exact .refl a

/-! ### The standstill condition worked afresh -/

theorem Account.started_state (a : Account) (now : Nat) : (a.started now).state = .resting := by
  unfold Account.started
  dsimp only
  split <;> rfl

theorem Account.started_bunk (a : Account) (now : Nat) : (a.started now).bunk = a.bunk := (a.started_follows now).bunk

theorem State.movedTo_hushes (s : State) (a : Account) : (s.movedTo a).hushes = a.hushes := by
  unfold Account.hushes Account.inBunk
  rw [(s.movedTo_follows a).bunk]
  congr 1
  unfold State.movedTo
  split
  next hm =>
    have hdeclared : a.declared = true := by
      obtain ⟨-, h⟩ | ⟨-, h⟩ := (s.movesAccount_iff a).mp hm <;> simp [Account.declared, h]
    rw [hdeclared]
    split
    · simp [Account.declared, Account.started_state]
    · rfl
  next => rfl

/-- R70, R71: once the accounts have met the condition afresh their law holds again. -/
theorem AccountLaw.moved (h : s.accountsApart) (hq : s.quiet = s.quietNow)
    (ht : ∀ j, t.account j = (s.account j).map s.movedTo) (quiet : t.quiet = s.quiet)
    (hstand : t.standstill = s.standstill) : AccountLaw t := by
  rw [accountLaw_iff]
  refine ⟨h.mapped s.movedTo_follows ht, fun j c hc => ?_, ?_⟩
  · rw [ht] at hc
    obtain ⟨a, ha, rfl⟩ := Option.map_eq_some_iff.mp hc
    rw [hstand]
    have hiff := s.movesAccount_iff a
    unfold State.movedTo
    cases hs : s.standstill with
    | true =>
      refine ⟨fun _ => rfl, fun hw => ?_⟩
      split at hw
      · simp [Account.started_state] at hw
      next hm => exact absurd (hiff.mpr (.inl ⟨hs, hw⟩)) hm
    | false =>
      refine ⟨fun hr => ?_, fun _ => rfl⟩
      split at hr
      · cases hr
      next hm => exact absurd (hiff.mpr (.inr ⟨hs, hr⟩)) hm
  · rw [quiet, hq]
    exact (State.quietNow_mapped s.movedTo_hushes ht).symm

theorem State.workStandstill_accountLaw (h : s.accountsApart) (hq : s.quiet = s.quietNow) : AccountLaw s.workStandstill :=
  .moved h hq s.workStandstill_account (by simp) (by simp [State.standstill])

theorem State.motionChanged_accountLaw (h : s.accountsApart) (hq : s.quiet = s.quietNow) : AccountLaw s.motionChanged := by
  unfold State.motionChanged
  dsimp only
  split
  · have hget : ∀ j, ({ s with accounts := s.accounts.mapSome Account.moveOff } : State).account j =
        (s.account j).map Account.moveOff := fun j => PerSlot.get_mapSome _ _ j
    refine State.workStandstill_accountLaw (h.mapped Account.moveOff_follows hget) ?_
    refine hq.trans (State.quietNow_mapped (fun a => ?_) hget).symm
    unfold Account.hushes Account.inBunk Account.declared
    rw [a.moveOff_follows.bunk, a.moveOff_state]
  · exact State.workStandstill_accountLaw h hq

end

end Sys2Proof.Machine
end

section
/-! PROOF. O57: the operations of the accounts' requests and counters keep the accounts' law. -/
namespace Sys2Proof.Machine

section
variable {s t u : State} {i : Slot} {a b : Account}

theorem State.workQuiet_quiet (s : State) : s.workQuiet.quiet = s.quietNow := by
  simp only [State.workQuiet]
  split
  next h => exact h.symm
  · split
    · simp
    · simp

/-- The law once the quiet flag has been worked. -/
theorem AccountLaw.settled (h1 : t.accountsApart) (h2 : t.accountsStand) (hq : t.quiet = u.quietNow)
    (ha : t.accounts = u.accounts) : AccountLaw t :=
  (accountLaw_iff t).mpr ⟨h1, h2, hq.trans (State.quietNow_congr ha.symm)⟩

/-! ### The counters -/

theorem State.testBreak_accountLaw (h : AccountLaw s) (i : Slot) : AccountLaw (s.testBreak i) := by
  cases ha : s.account i with
  | none =>
    simp only [State.testBreak, ha]
    exact h
  | some a =>
    have hw := State.testBreak_wrote ha
    split at hw
    · exact h.wrote ha a.breakTaken_follows rfl hw
    · exact h.wrote ha (.refl a) rfl hw

theorem State.takeRestDone_accountLaw (h : AccountLaw s) (i : Slot) : AccountLaw (s.takeRestDone i) := by
  cases ha : s.account i with
  | none =>
    simp only [State.takeRestDone, ha]
    exact h
  | some a =>
    simp only [State.takeRestDone, ha]
    split
    · have hw : s.wrote i (a.restedNow s.clock.minute) ((s.fireRestDone i a).settle).pass :=
        State.fireRestDone_wrote.kept (by simp)
      exact h.wrote ha (a.restedNow_follows _) rfl hw
    · exact h

theorem State.forSlots_accountLaw {f : State → Slot → State} (hf : ∀ {u : State} (i : Slot), AccountLaw u → AccountLaw (f u i))
    (is : List Slot) (h : AccountLaw s) : AccountLaw (s.forSlots f is) := by
  induction is generalizing s with
  | nil => exact h
  | cons i is ih => exact ih (hf i h)

theorem State.testDrivers_accountLaw (h : AccountLaw s) : AccountLaw s.testDrivers :=
  State.forSlots_accountLaw (fun _ hu => hu.of) _ h

theorem State.dueInLoads_accountLaw (h : AccountLaw s) : AccountLaw s.dueInLoads := by
  unfold State.dueInLoads State.minOffAtSecond
  split
  · exact h.of
  · exact h.of

theorem State.minuteExpiry_accountLaw (h : AccountLaw s) : AccountLaw s.minuteExpiry :=
  h.of (by simp [State.minuteExpiry, State.chargeAttention]) (by simp [State.minuteExpiry, State.chargeAttention])
    (by simp [State.minuteExpiry, State.chargeAttention]) (by simp [State.minuteExpiry, State.chargeAttention])
    (by simp [State.minuteExpiry, State.chargeAttention])

theorem State.outOfReset_accountLaw {f : State → State} (h : AccountLaw s)
    (hf : s.rst.asserted = false → AccountLaw (f s)) : AccountLaw (s.outOfReset f) := by
  cases hr : s.rst.asserted with
  | true =>
    rw [State.outOfReset_asserted f hr]
    exact h
  | false =>
    rw [State.outOfReset_released f hr]
    exact hf hr

theorem State.countdownZero_accountLaw (h : AccountLaw s) : AccountLaw s.countdownZero := by
  have hf := (WarnOp.countdownZero (s := s)).frame.only
  rw [hf]
  exact h.of rfl rfl rfl rfl rfl

theorem State.takeDue_accountLaw (minute : Bool) (h : AccountLaw s) : AccountLaw (s.takeDue minute) := by
  simp only [State.takeDue]
  refine State.outOfReset_accountLaw ?_ fun _ => State.dueInLoads_accountLaw ?_
  all_goals
    refine State.testDrivers_accountLaw (State.forSlots_accountLaw (fun i hu => State.testBreak_accountLaw hu i) _
      (State.forSlots_accountLaw (fun i hu => State.takeRestDone_accountLaw hu i) _ ?_))
    split
    · exact State.minuteExpiry_accountLaw (State.countdownZero_accountLaw h)
    · exact State.countdownZero_accountLaw h

theorem State.secondHeldOut_accountLaw (h : AccountLaw s) : AccountLaw s.secondHeldOut :=
  h.mapped (Account.second_follows s.sense.motion) (Account.second_state s.sense.motion)
    (fun j => PerSlot.get_mapSome _ _ j) rfl rfl rfl rfl

theorem State.stepClock_accountLaw (h : AccountLaw s) (m : Nat) : AccountLaw (s.stepClock m) :=
  h.mapped (Account.shift_follows ((m : Int) - (s.clock.minute : Int))) (fun _ => rfl)
    (fun j => PerSlot.get_mapSome _ _ j) rfl rfl rfl rfl

/-! ### The declarations -/

theorem Account.legal.unstaged (h : a.legal) (hd : a.declared = false) : a.staged = none := by
  obtain ⟨-, -, -, h4, -⟩ := h
  cases hs : a.staged with
  | none => rfl
  | some x => exact absurd (h4 (by rw [hs]; rfl)) (by rw [hd]; exact Bool.false_ne_true)

theorem Account.legal.unexpected (h : a.legal) (hs : a.state ≠ .resting) : a.expectedEnd = false := by
  obtain ⟨-, -, -, -, -, -, -, -, -, -, -, h12⟩ := h
  rw [Bool.eq_false_iff]
  exact fun he => hs (h12.mp he).1

theorem Account.undeclared_state (h : a.declared = false) : a.state ≠ .restWait ∧ a.state ≠ .resting := by
  simpa [Account.declared] using h

/-- A change of state that leaves the rest of an account as it was. -/
theorem Account.legal.go {st : AccountState} (h : a.legal) (ha : a.state ≠ .resting) (hs : st ≠ .resting)
    (hst : a.staged.isSome = true → st = .restWait) : ({ a with state := st } : Account).legal := by
  have hnone := h.unexpected ha
  obtain ⟨h1, h2, h3, h4, h5, h6, h7, h8, h9, h10, h11, -⟩ := h
  refine ⟨h1, h2, h3, fun hx => ?_, h5, fun _ => h6 ha, h7, h8, h9, h10, h11,
    iff_of_false (fun he => ?_) fun hr => hs hr.1⟩
  · rw [show st = .restWait from hst hx]
    rfl
  · exact Bool.noConfusion (hnone.symm.trans ((Account.expectedEnd_congr rfl).symm.trans he))

theorem Account.applied_legal {st : AccountState} (h : a.legal) (ha : a.state ≠ .resting) (hs : st ≠ .resting) :
    ({ a.applied with state := st } : Account).legal := by
  have hset := h.applied
  have hnone := h.unexpected ha
  obtain ⟨h1, -, -, -, h5, h6, h7, h8, h9, h10, h11, -⟩ := h
  refine ⟨h1, hset, nofun, nofun, h5, fun _ => h6 ha, h7, h8, h9, h10, h11, iff_of_false (fun he => ?_) fun hr => hs hr.1⟩
  exact Bool.noConfusion (hnone.symm.trans ((Account.expectedEnd_congr rfl).symm.trans he))

/-- What leaves a declared rest: the segment closed, the staged settings applied. -/
def Account.restLeft (a : Account) : Account := (if a.state = .resting then a.closed else a).applied

theorem Account.restLeft_legal {st : AccountState} (h : a.legal) (hs : st ≠ .resting) :
    ({ a.restLeft with state := st } : Account).legal := by
  unfold Account.restLeft
  split
  · exact Account.applied_legal (a := { a.closed with state := .restWait }) (Account.closed_legal h nofun fun _ => rfl)
      nofun hs
  next ha => exact Account.applied_legal h ha hs

theorem Account.restLeft_tag (a : Account) : a.restLeft.tag = a.tag ∧ a.restLeft.bunk = a.bunk := by
  unfold Account.restLeft
  split <;> exact ⟨rfl, rfl⟩

theorem State.declareRest_accountLaw (h : AccountLaw s) (ha : s.account i = some a) (hd : a.declared = false) (x : Bool) :
    AccountLaw ((s.declareRest i).passIf x) := by
  obtain ⟨h1, h2, -⟩ := (accountLaw_iff s).mp h
  have hlegal := h1.1 i a ha
  have hw := State.declareRest_wrote ha
  have hwrote : s.wrote i _ ((s.declareRest i).passIf x) := hw.kept (by simp)
  have hfollows : a.follows (if s.standstill then a.unfixed.started s.clock.minute else { a.unfixed with state := .restWait }) := by
    split
    · exact a.unfixed_follows.trans (a.unfixed.started_follows _)
    · refine ⟨fun hl => ?_, rfl, rfl, nofun⟩
      exact (a.unfixed_follows.legal hl).go (Account.undeclared_state hd).2 nofun fun _ => rfl
  have hstate : (if s.standstill then a.unfixed.started s.clock.minute else { a.unfixed with state := .restWait }).state =
      if s.standstill then .resting else .restWait := by
    split
    · exact Account.started_state _ _
    · rfl
  have hstand : ((s.declareRest i).passIf x).standstill = s.standstill := State.standstill_congr (by simp) (by simp) (by simp)
  have hquiet : (s.declareRest i).quiet = (s.declareRest i).quietNow := by
    rw [State.declareRest_eq, (State.settle_keeps _).2.2.2.2.2.2.1, State.workQuiet_quiet]
    exact State.quietNow_congr (by simp)
  refine .settled (u := s.declareRest i) (h1.followed ha hfollows hwrote) (h2.wrote hwrote hstand ?_ ?_)
    ((by simp : _ = (s.declareRest i).quiet).trans hquiet) (by simp)
  · rw [hstate]
    intro hr
    split at hr
    next hs => exact hs
    next => cases hr
  · rw [hstate]
    intro hr
    split at hr
    next => cases hr
    next hs => simpa using hs

theorem State.endRest_accountLaw (h : AccountLaw s) (ha : s.account i = some a) : AccountLaw (s.endRest i) := by
  obtain ⟨h1, h2, -⟩ := (accountLaw_iff s).mp h
  have hw := State.endRest_wrote ha
  have hfollows : a.follows { a.restLeft with state := .idle } :=
    ⟨fun hl => Account.restLeft_legal hl nofun, a.restLeft_tag.1, a.restLeft_tag.2, nofun⟩
  refine .settled (u := (((s.closeIfResting i).accountGo i .idle).finishRest i).workQuiet.settle)
    (h1.followed ha hfollows hw) (h2.wrote hw (State.standstill_congr (by simp) (by simp) (by simp)) nofun nofun) ?_
    (by simp [State.endRest])
  rw [State.quietNow_congr (s := ((s.closeIfResting i).accountGo i .idle).finishRest i) (by simp)]
  simp [State.endRest, State.workQuiet_quiet]

theorem Account.newDuty_legal (h : a.legal) (hs : a.state ≠ .resting) : a.newDuty.legal := by
  unfold Account.newDuty
  split
  next =>
    have hnone := h.unexpected hs
    obtain ⟨h1, h2, h3, h4, h5, h6, h7, -, h9, h10, h11, -⟩ := h
    refine ⟨h1, h2, h3, h4, h5, h6, h7, Nat.zero_le _, h9, h10, h11, iff_of_false (fun he => ?_) fun hr => hs hr.1⟩
    exact Bool.noConfusion (hnone.symm.trans ((Account.expectedEnd_congr rfl).symm.trans he))
  next => exact h

theorem Account.newDuty_go (a : Account) (st : AccountState) :
    ({ a.newDuty with state := st } : Account) = Account.newDuty { a with state := st } := by
  unfold Account.newDuty
  split <;> rfl

theorem State.declareWheel_accountLaw (h : AccountLaw s) (ha : s.account i = some a) (hd : a.state ≠ .driving)
    (hrole : ∀ j c, s.account j = some c → c.state ≠ .driving) : AccountLaw (s.declareWheel i a) := by
  obtain ⟨h1, h2, -⟩ := (accountLaw_iff s).mp h
  have hlegal := h1.1 i a ha
  obtain ⟨x, hx, hxl, htag, hbunk⟩ : ∃ x, x = (if a.declared then a.restLeft else a) ∧
      ({ x with state := .driving } : Account).legal ∧ x.tag = a.tag ∧ x.bunk = a.bunk := by
    refine ⟨_, rfl, ?_⟩
    split
    · exact ⟨Account.restLeft_legal hlegal nofun, a.restLeft_tag.1, a.restLeft_tag.2⟩
    next hn =>
      have hun : a.declared = false := by simpa using hn
      have hstaged := hlegal.unstaged hun
      exact ⟨hlegal.go (Account.undeclared_state hun).2 nofun (by simp [hstaged]), rfl, rfl⟩
  have hw : s.wrote i { x.newDuty with state := .driving } (s.declareWheel i a) := hx ▸ State.declareWheel_wrote ha hd
  have hduty : x.newDuty.tag = x.tag ∧ x.newDuty.bunk = x.bunk := by
    unfold Account.newDuty
    split <;> exact ⟨rfl, rfl⟩
  have hnew : ({ x.newDuty with state := .driving } : Account).legal := by
    rw [Account.newDuty_go]
    exact Account.newDuty_legal hxl nofun
  refine .settled (u := s.declareWheel i a) (h1.wrote hw hnew fun j c hj hc => ?_)
    (h2.wrote hw (State.standstill_congr (by simp) (by simp) (by simp)) nofun nofun) ?_ rfl
  · obtain ⟨k1, k2, -⟩ := h1.2 i j a c ha hc (Ne.symm hj)
    refine ⟨?_, ?_, fun hboth => hrole j c hc hboth.2⟩
    · rw [show ({ x.newDuty with state := .driving } : Account).tag = a.tag from hduty.1.trans htag]
      exact k1
    · rw [show ({ x.newDuty with state := .driving } : Account).bunk = a.bunk from hduty.2.trans hbunk]
      exact k2
  · unfold State.declareWheel
    simp only [State.passIf_keeps, State.settle_keeps, State.workQuiet_quiet]
    exact State.quietNow_congr (by simp)

end

end Sys2Proof.Machine
end

section
/-! PROOF. O57: the requests and the events keep the accounts' law. -/
namespace Sys2Proof.Machine

@[simp] theorem State.refuse_state (s : State) (o : OutcomeCode) : (s.refuse o).1 = s := rfl

section
variable {s t u : State} {i : Slot} {a b : Account}

theorem State.changeMode_accountLaw (h : AccountLaw s) (m : PartMode) : AccountLaw (s.changeMode m) := by
  have hmode : AccountLaw (s.enterMode m) := by
    have hf := (s.enterMode_frame m).only
    rw [hf]
    exact h.of rfl rfl rfl rfl rfl
  exact hmode.of (by simp [State.changeMode, State.enterMode]) (by simp [State.changeMode, State.enterMode])
    (by simp [State.changeMode, State.enterMode]) (by simp [State.changeMode, State.enterMode])
    (by simp [State.changeMode, State.enterMode])

theorem reqInit_accountLaw (h : AccountLaw s) (mode : Option InitMode) (x : Option Bool) :
    AccountLaw (reqInit mode x s).1 := by
  have hport : ∀ p, AccountLaw (s.withPort p) := fun p => h.of rfl rfl rfl rfl rfl
  simp only [reqInit]
  split
  · split
    · exact h
    · split
      · exact State.changeMode_accountLaw (hport _) _
      · exact State.changeMode_accountLaw h _
  · exact h

theorem reqShut_accountLaw (h : AccountLaw s) : AccountLaw (reqShut s).1 := by
  have hport : ∀ p, AccountLaw (({ s with orders := [] } : State).withPort p) := fun p => h.of rfl rfl rfl rfl rfl
  simp only [reqShut]
  split
  · exact h
  · exact State.changeMode_accountLaw (hport _) _

theorem reqOplace_accountLaw (h : AccountLaw s) (x : PlaceArg) : AccountLaw (reqOplace x s).1 := by
  simp only [reqOplace]
  repeat' split
  all_goals exact h.of

theorem reqOamend_accountLaw (h : AccountLaw s) (x : AmendArg) : AccountLaw (reqOamend x s).1 := by
  simp only [reqOamend]
  repeat' split
  all_goals exact h.of

theorem reqOlook_accountLaw (h : AccountLaw s) (key : Byte) : AccountLaw (reqOlook key s).1 := by
  simp only [reqOlook, State.withOrder]
  repeat' split
  all_goals exact h.of

theorem reqOretire_accountLaw (h : AccountLaw s) (key : Byte) : AccountLaw (reqOretire key s).1 := by
  simp only [reqOretire, State.withOrder]
  repeat' split
  all_goals exact h.of

theorem reqOlist_accountLaw (h : AccountLaw s) : AccountLaw (reqOlist s).1 := by
  simp only [reqOlist]
  split
  all_goals exact h.of

theorem reqCset_accountLaw (h : AccountLaw s) (x y z : Nat) : AccountLaw (reqCset x y z s).1 := by
  simp only [reqCset, State.takePulse, State.testReserve, State.chargeAttention]
  repeat' split
  all_goals exact h.of

theorem reqCsync_accountLaw (h : AccountLaw s) (x : Word32) : AccountLaw (reqCsync x s).1 := by
  simp only [reqCsync, State.takePulse, State.testReserve, State.chargeAttention]
  exact h.of

theorem reqWack_accountLaw (h : AccountLaw s) (x : Option Source) (y : Option WarnType) : AccountLaw (reqWack x y s).1 := by
  simp only [reqWack]
  repeat' split
  all_goals exact h.of

theorem reqHset_accountLaw (h : AccountLaw s) (x : HeaterArg) : AccountLaw (reqHset x s).1 := by
  simp only [reqHset]
  repeat' split
  all_goals exact h.of

theorem reqHclear_accountLaw (h : AccountLaw s) (x : Option Bool) : AccountLaw (reqHclear x s).1 := by
  simp only [reqHclear, State.leaveLockout, State.clearFuel]
  repeat' split
  all_goals exact h.of

theorem reqFclear_accountLaw (h : AccountLaw s) : AccountLaw (reqFclear s).1 := by
  simp only [reqFclear]
  repeat' split
  all_goals exact h.of

theorem reqLset_accountLaw (h : AccountLaw s) (x : LightArg) : AccountLaw (reqLset x s).1 := by
  simp only [reqLset]
  split
  · exact h
  · rw [(s.setLights_frame _).only]
    exact h.of rfl rfl rfl rfl rfl

/-! ### The requests on the accounts -/

theorem withAccount_accountLaw {n : Nat} {f : Slot → Account → State × Reply} (h : AccountLaw s)
    (hf : ∀ i a, s.account i = some a → AccountLaw (f i a).1) : AccountLaw (s.withAccount n f).1 := by
  unfold State.withAccount
  split
  · exact h
  · split
    · exact h
    next ha => exact hf _ _ ha

theorem openedAccount_legal {tag : Nat} (ht : tag ≠ 0) (b : Bunk) : (openedAccount tag b).legal := by
  refine ⟨Nat.one_le_iff_ne_zero.mpr ht, ?_, nofun, nofun, Nat.zero_le _, fun _ => rfl, nofun, Nat.zero_le _,
    Nat.zero_le _, Nat.zero_le _, Nat.zero_le _, iff_of_false Bool.false_ne_true (nofun)⟩
  simp [openedAccount, Settings.default, Settings.inRange]

theorem reqAopen_accountLaw (h : AccountLaw s) (n : Nat) (tag : Word32) (bunk : Option Bunk) :
    AccountLaw (reqAopen n tag bunk s).1 := by
  simp only [reqAopen]
  split
  next i b _ =>
    split
    · exact h
    next htag =>
      split
      · exact h
      next hfree =>
        have hnone : s.account i = none := by simpa using hfree
        split
        · exact h
        next hheld =>
          split
          · exact h
          next hbunk =>
            obtain ⟨h1, h2, h3⟩ := (accountLaw_iff s).mp h
            have hw := s.setAccount_wrote i (openedAccount tag.toNat b)
            rw [State.tagHeld_iff] at hheld
            rw [State.bunkHeld_iff] at hbunk
            push Not at hheld hbunk
            refine (accountLaw_iff _).mpr ⟨h1.wrote hw (openedAccount_legal htag b) fun j c hj hc => ?_,
              h2.wrote hw rfl nofun nofun, ?_⟩
            · exact ⟨fun he => hheld j c hc he.symm, fun hb he => hbunk hb j c hc he.symm, fun hboth => by cases hboth.1⟩
            · refine h3.trans (State.quietNow_of fun j => ?_).symm
              by_cases hj : j = i
              · subst hj
                rw [hw.1, hnone]
                exact Bool.and_false _
              · rw [hw.2 j hj]
  next => exact h

theorem settingsArg_inRange (x : SettingsArg) (w : Bool) : (x.store w).inRange := by
  have hclamp : ∀ lo hi n, lo ≤ hi → lo ≤ clampNat lo hi n ∧ clampNat lo hi n ≤ hi := fun lo hi n hle => by
    unfold clampNat
    repeat' split
    all_goals omega
  have hrest := hclamp 60 1440 x.rest (by omega)
  have hsegment := hclamp 15 (clampNat 60 1440 x.rest) x.segment (by omega)
  exact ⟨hrest.1, hrest.2, hsegment.1, hsegment.2, (hclamp 60 600 x.drive (by omega)).1,
    (hclamp 60 600 x.drive (by omega)).2, (hclamp 0 60 x.lead (by omega)).2, (hclamp 15 120 x.pause (by omega)).1,
    (hclamp 15 120 x.pause (by omega)).2, (hclamp 60 900 x.daily (by omega)).1, (hclamp 60 900 x.daily (by omega)).2,
    (hclamp 0 1000 x.wakeLevel (by omega)).2, (hclamp 1 30 x.wakeRamp (by omega)).1,
    (hclamp 1 30 x.wakeRamp (by omega)).2⟩

theorem Account.takeSettings_legal {x : Settings} (h : a.legal) (hx : x.inRange) (b : Bunk) : (a.takeSettings b x).legal := by
  obtain ⟨h1, h2, h3, h4, h5, h6, h7, h8, h9, h10, h11, h12⟩ := h
  unfold Account.takeSettings
  split
  next hd => exact ⟨h1, h2, fun t ht => Option.some.inj ht ▸ hx, fun _ => hd, h5, h6, h7, h8, h9, h10, h11, h12⟩
  next => exact ⟨h1, hx, h3, h4, h5, h6, h7, h8, h9, h10, h11, h12⟩

theorem Account.takeSettings_kept (a : Account) (b : Bunk) (x : Settings) :
    (a.takeSettings b x).tag = a.tag ∧ (a.takeSettings b x).bunk = b ∧ (a.takeSettings b x).state = a.state := by
  unfold Account.takeSettings
  split <;> exact ⟨rfl, rfl, rfl⟩

/-- R95: the settings written, before the break is tested. -/
theorem State.takeSettings_accountLaw {x : Settings} (h : AccountLaw s) (ha : s.account i = some a) (hx : x.inRange)
    (hb : b.bunk = a.bunk ∨ (a.declared = false ∧ (b.bunk ≠ .noBunk → ∀ j c, s.account j = some c → c.bunk ≠ b.bunk)))
    (he : b = a.takeSettings b.bunk x) : AccountLaw (s.setAccount i b) := by
  obtain ⟨h1, h2, h3⟩ := (accountLaw_iff s).mp h
  have hw := s.setAccount_wrote i b
  have hkept := a.takeSettings_kept b.bunk x
  rw [← he] at hkept
  obtain ⟨htag, -, hstate⟩ := hkept
  refine (accountLaw_iff _).mpr ⟨h1.wrote hw (he ▸ Account.takeSettings_legal (h1.1 i a ha) hx _) fun j c hj hc => ?_,
    h2.wrote hw rfl ?_ ?_, ?_⟩
  · obtain ⟨k1, k2, k3⟩ := h1.2 i j a c ha hc (Ne.symm hj)
    rw [htag, hstate]
    refine ⟨k1, fun hn => ?_, k3⟩
    obtain hsame | ⟨-, hfree⟩ := hb
    · rw [hsame] at hn ⊢
      exact k2 hn
    · exact fun heq => hfree hn j c hc heq.symm
  · rw [hstate]
    exact (h2 i a ha).1
  · rw [hstate]
    exact (h2 i a ha).2
  · refine h3.trans (State.quietNow_wrote ha hw ?_).symm
    unfold Account.hushes Account.inBunk Account.declared
    rw [hstate]
    obtain hsame | ⟨hd, -⟩ := hb
    · rw [hsame]
    · unfold Account.declared at hd
      rw [hd]
      simp

theorem reqAset_accountLaw (h : AccountLaw s) (n : Nat) (bunk : Option Bunk) (x : SettingsArg) :
    AccountLaw (reqAset n bunk x s).1 := by
  simp only [reqAset]
  split
  next i b w _ _ =>
    split
    · exact h
    next a ha =>
      split
      · exact h
      next hstate =>
        split
        · exact h
        next htaken =>
          have hkept := a.takeSettings_kept b (x.store w)
          have hset : AccountLaw (s.setAccount i (a.takeSettings b (x.store w))) := by
            refine State.takeSettings_accountLaw h ha (settingsArg_inRange x w) ?_ (by rw [hkept.2.1])
            rw [hkept.2.1]
            by_cases hb : b = a.bunk
            · exact .inl hb
            · refine .inr ⟨?_, fun hn j c hc heq => htaken ⟨hb, (s.bunkHeld_iff b).mpr ⟨hn, j, c, hc, heq⟩⟩⟩
              cases hd : a.declared with
              | false => rfl
              | true => exact absurd ⟨hd, hb⟩ hstate
          show AccountLaw (s.setSettings i a b (x.store w))
          unfold State.setSettings
          dsimp only
          split
          · exact hset.of
          · exact State.testBreak_accountLaw (hset.of) i
  next => exact h

theorem reqAdeclRest_accountLaw (h : AccountLaw s) (n : Nat) : AccountLaw (reqAdeclRest n s).1 := by
  refine withAccount_accountLaw h fun i a ha => ?_
  split
  · exact h
  next hd => exact State.declareRest_accountLaw h ha (by simpa using hd) _

theorem reqAdeclEnd_accountLaw (h : AccountLaw s) (n : Nat) : AccountLaw (reqAdeclEnd n s).1 := by
  refine withAccount_accountLaw h fun i a ha => ?_
  split
  · exact State.endRest_accountLaw h ha
  · exact h

theorem reqAdeclWheel_accountLaw (h : AccountLaw s) (n : Nat) : AccountLaw (reqAdeclWheel n s).1 := by
  refine withAccount_accountLaw h fun i a ha => ?_
  split
  · exact h
  next hd =>
    split
    · exact h
    next hrole =>
      rw [State.roleHeld_iff] at hrole
      push Not at hrole
      exact State.declareWheel_accountLaw h ha hd hrole

theorem reqAdeclRelease_accountLaw (h : AccountLaw s) (n : Nat) : AccountLaw (reqAdeclRelease n s).1 := by
  refine withAccount_accountLaw h fun i a ha => ?_
  split
  next hd =>
    obtain ⟨h1, h2, h3⟩ := (accountLaw_iff s).mp h
    have hlegal := h1.1 i a ha
    have hundeclared : a.declared = false := by simp [Account.declared, hd]
    have hstaged := hlegal.unstaged hundeclared
    have hw : s.wrote i { a with state := .idle } (s.accountGo i .idle).settle :=
      (State.accountGo_wrote .idle ha).kept (by simp)
    have hfollows : a.follows { a with state := .idle } :=
      ⟨fun hl => hl.go (by rw [hd]; exact nofun) nofun (by simp [hstaged]), rfl, rfl, nofun⟩
    refine (accountLaw_iff _).mpr ⟨h1.followed ha hfollows hw,
      h2.wrote hw (State.standstill_congr (by simp) (by simp) (by simp)) nofun nofun, ?_⟩
    have hquiet : ((s.accountGo i .idle).settle).quiet = s.quiet := by simp
    refine hquiet.trans (h3.trans (State.quietNow_wrote ha hw ?_).symm)
    unfold Account.hushes
    rw [hundeclared]
    rfl
  next => exact h

theorem reqAretire_accountLaw (h : AccountLaw s) (n : Nat) : AccountLaw (reqAretire n s).1 := by
  refine withAccount_accountLaw h fun i a ha => ?_
  obtain ⟨⟨hlegal, hpairs⟩, hstand, -⟩ := (accountLaw_iff s).mp h
  obtain ⟨t, ht⟩ : ∃ t, t = ((((((s.orphan i).dropSource i).emptySlot i).workQuiet)).settle).pass := ⟨_, rfl⟩
  have haccounts : t.accounts = s.accounts.set i none := by
    rw [ht]
    simp [State.emptySlot, State.dropSource, State.orphan]
  have hback : ∀ {j c}, t.account j = some c → s.account j = some c := fun {j c} hc => by
    rw [State.account, haccounts, PerSlot.get_set] at hc
    split at hc
    · cases hc
    · exact hc
  have hstill : t.standstill = s.standstill := by
    refine State.standstill_congr ?_ ?_ ?_ <;> rw [ht] <;> simp [State.emptySlot, State.dropSource, State.orphan]
  show AccountLaw (((((s.orphan i).dropSource i).emptySlot i).workQuiet.settle).pass)
  rw [← ht]
  refine .settled (u := ((s.orphan i).dropSource i).emptySlot i)
    ⟨fun j c hc => hlegal j c (hback hc), fun j k c d hc hd => hpairs j k c d (hback hc) (hback hd)⟩
    (fun j c hc => ?_) ?_ ?_
  · rw [hstill]
    exact hstand j c (hback hc)
  · rw [ht]
    simp [State.workQuiet_quiet]
  · rw [ht]
    simp

theorem reqXmode_accountLaw (h : AccountLaw s) (x : Option Bool) : AccountLaw (reqXmode x s).1 := by
  obtain ⟨h1, -, h3⟩ := (accountLaw_iff s).mp h
  unfold reqXmode
  split
  · exact h
  · exact State.workStandstill_accountLaw (h1.of rfl) h3

theorem reqSset_accountLaw (h : AccountLaw s) (n : Nat) : AccountLaw (reqSset n s).1 := by
  obtain ⟨h1, -, h3⟩ := (accountLaw_iff s).mp h
  simp only [reqSset, State.setSettle]
  split
  · exact State.motionChanged_accountLaw (h1.of rfl) h3
  · exact h.of rfl rfl rfl rfl rfl

theorem reqTset_accountLaw (h : AccountLaw s) (m : Word32) : AccountLaw (reqTset m s).1 := by
  have hstep := State.stepClock_accountLaw h m.toNat
  show AccountLaw (s.stepClock m.toNat).pass
  exact hstep.of

end

end Sys2Proof.Machine
end

section
/-! PROOF. O57: every command keeps the accounts' law. -/
namespace Sys2Proof.Machine

section
variable {s t u : State} {i : Slot} {a b : Account}

theorem Sense.drawnOn_motion (x : Sense) : x.drawnOn.motion = x.motion ∧ x.drawnOn.pbrake = x.pbrake := by
  unfold Sense.drawnOn
  split <;> exact ⟨rfl, rfl⟩

theorem requestWork_accountLaw_of_ne (h : AccountLaw s) (c : Instr) (hne : ∀ bytes, c ≠ .unknownRequest (.frame bytes)) :
    AccountLaw (requestWork c s).1 := by
  cases c with
  | init mode x => exact reqInit_accountLaw h mode x
  | shut => exact reqShut_accountLaw h
  | oplace x => exact reqOplace_accountLaw h x
  | oamend x => exact reqOamend_accountLaw h x
  | olook key => exact reqOlook_accountLaw h key
  | oretire key => exact reqOretire_accountLaw h key
  | olist => exact reqOlist_accountLaw h
  | tset m => exact reqTset_accountLaw h m
  | bset x y =>
    have hset : AccountLaw (s.setBudget (clampNat 30 1440 x) (clampNat 0 20000 y)) := h.of rfl rfl rfl rfl rfl
    show AccountLaw (s.setBudget (clampNat 30 1440 x) (clampNat 0 20000 y)).pass
    exact hset.of
  | plan x =>
    have hset : AccountLaw (s.setDraws (PlanArg.store x)) := h.of rfl rfl rfl rfl rfl
    show AccountLaw (s.setDraws (PlanArg.store x)).pass
    exact hset.of
  | cset x y z => exact reqCset_accountLaw h x y z
  | csync x => exact reqCsync_accountLaw h x
  | aopen n tag bunk => exact reqAopen_accountLaw h n tag bunk
  | aset n bunk x => exact reqAset_accountLaw h n bunk x
  | alook n => exact withAccount_accountLaw h fun _ _ _ => h
  | adeclRest n => exact reqAdeclRest_accountLaw h n
  | adeclEnd n => exact reqAdeclEnd_accountLaw h n
  | adeclWheel n => exact reqAdeclWheel_accountLaw h n
  | adeclRelease n => exact reqAdeclRelease_accountLaw h n
  | aretire n => exact reqAretire_accountLaw h n
  | xmode x => exact reqXmode_accountLaw h x
  | wack x y => exact reqWack_accountLaw h x y
  | hset x => exact reqHset_accountLaw h x
  | hclear x => exact reqHclear_accountLaw h x
  | fset n =>
    have hset : AccountLaw (s.withFridge (fun f => { f with minOff := clampNat 120 600 n })) := h.of
    show AccountLaw ((s.withFridge (fun f => { f with minOff := clampNat 120 600 n })).endRestIfDue).fridgeAttention
    exact hset.of
  | fclear => exact reqFclear_accountLaw h
  | lset x => exact reqLset_accountLaw h x
  | sset n => exact reqSset_accountLaw h n
  | slook =>
    exact h.of rfl rfl rfl s.sense.drawnOn_motion.1 (congrArg Input.level s.sense.drawnOn_motion.2)
  | unknownRequest arg =>
    cases arg with
    | frame bytes => exact absurd rfl (hne bytes)
    | undeclared => exact h
  | _ => exact h.of rfl rfl rfl rfl rfl

theorem requestWork_accountLaw (h : AccountLaw s) (c : Instr) : AccountLaw (requestWork c s).1 := by
  by_cases hframe : ∃ bytes, c = .unknownRequest (.frame bytes)
  · obtain ⟨bytes, rfl⟩ := hframe
    show AccountLaw (reqFrame bytes s).1
    cases hb : frameRequest bytes with
    | none =>
      rw [reqFrame_failed hb]
      exact h
    | some i =>
      rw [reqFrame_spelled hb]
      obtain ⟨heq, hne⟩ | heq := spelledRequest_eq i
      · rw [heq]
        exact requestWork_accountLaw_of_ne h i hne
      · rw [heq]
        exact h
  · exact requestWork_accountLaw_of_ne h c fun bytes hb => hframe ⟨bytes, hb⟩

theorem State.takeFrame_accountLaw {f : State → State × Reply} (h : AccountLaw s)
    (hf : ∀ {u : State}, AccountLaw u → AccountLaw (f u).1) : AccountLaw (s.takeFrame f) := by
  have hin : AccountLaw s.inFrame := h.of
  cases hr : s.rst.asserted with
  | true =>
    rw [State.takeFrame_asserted s f hr]
    exact h
  | false =>
    by_cases hm : s.port.mode = .selfTest
    · rw [State.takeFrame_selfTest s f hr hm]
      exact hin.of
    · rw [State.takeFrame_served s f ⟨hr, hm⟩]
      exact (hf hin).of

theorem State.longPress_accountLaw (h : AccountLaw s) (side : Side) : AccountLaw (s.longPress side) := by
  unfold State.longPress
  split
  · exact h
  · split
    · exact h
    next i a ha =>
      split
      · exact State.endRest_accountLaw h ha
      next hd => exact State.declareRest_accountLaw h ha (by simpa using hd) _

theorem Sense.setPress_motion (x : Sense) (side : Side) (p : Press) :
    (x.setPress side p).motion = x.motion ∧ (x.setPress side p).pbrake = x.pbrake := by
  cases side <;> exact ⟨rfl, rfl⟩

theorem State.setPress_accountLaw (h : AccountLaw s) (side : Side) (p : Press) :
    AccountLaw { s with sense := s.sense.setPress side p } :=
  h.of rfl rfl rfl (Sense.setPress_motion _ _ _).1 (congrArg Input.level (Sense.setPress_motion _ _ _).2)

theorem State.shortPress_accountLaw (h : AccountLaw s) (side : Side) : AccountLaw (s.shortPress side) := by
  unfold State.shortPress State.toggleManual
  repeat' split
  all_goals exact h.of

theorem State.released_accountLaw (h : AccountLaw s) (side : Side) (held : Nat) : AccountLaw (s.released side held) := by
  unfold State.released
  split
  · dsimp only
    split
    · exact State.shortPress_accountLaw (State.setPress_accountLaw h side _) side
    · exact State.setPress_accountLaw h side _
  · exact State.setPress_accountLaw h side _
  · exact State.setPress_accountLaw h side _
  · exact h

theorem State.pressed_accountLaw (h : AccountLaw s) (side : Side) : AccountLaw (s.pressed side) := by
  unfold State.pressed
  split
  · exact State.setPress_accountLaw h side _
  · exact h

theorem State.debounced_accountLaw (h : AccountLaw s) (i : DigitalIn) (held : Nat) : AccountLaw (s.debounced i held) := by
  obtain ⟨h1, -, h3⟩ := (accountLaw_iff s).mp h
  unfold State.debounced
  split
  · unfold State.levelChanged
    cases i with
    | pbrake => exact State.workStandstill_accountLaw (h1.of rfl) h3
    | flame =>
      have hset : AccountLaw { s with sense := s.sense.setInput .flame (s.sense.input .flame).expire } :=
        h.of rfl rfl rfl rfl rfl
      dsimp only
      split <;> exact hset.of
    | ovht =>
      have hset : AccountLaw { s with sense := s.sense.setInput .ovht (s.sense.input .ovht).expire } :=
        h.of rfl rfl rfl rfl rfl
      dsimp only
      split <;> exact hset.of
    | btnA =>
      have hset : AccountLaw { s with sense := s.sense.setInput .btnA (s.sense.input .btnA).expire } :=
        h.of rfl rfl rfl rfl rfl
      dsimp only
      split
      · exact State.pressed_accountLaw hset .a
      · exact State.released_accountLaw hset .a held
    | btnB =>
      have hset : AccountLaw { s with sense := s.sense.setInput .btnB (s.sense.input .btnB).expire } :=
        h.of rfl rfl rfl rfl rfl
      dsimp only
      split
      · exact State.pressed_accountLaw hset .b
      · exact State.released_accountLaw hset .b held
  · exact h

theorem Sense.motionStep_brake (x : Sense) (n : Nat) : (x.motionStep n).pbrake = x.pbrake := by
  unfold Sense.motionStep
  repeat' split
  all_goals rfl

theorem State.vspdWindow_accountLaw (h : AccountLaw s) (n : Nat) : AccountLaw (s.vspdWindow n) := by
  obtain ⟨h1, -, h3⟩ := (accountLaw_iff s).mp h
  simp only [State.vspdWindow]
  split
  next hm => exact h.of rfl rfl rfl hm (congrArg Input.level (Sense.motionStep_brake _ _))
  next => exact State.motionChanged_accountLaw (h1.of rfl) h3

theorem Sense.setTemp_motion (x : Sense) (i : TempId) (d : TempChannel) :
    (x.setTemp i d).motion = x.motion ∧ (x.setTemp i d).pbrake = x.pbrake := by
  cases i <;> exact ⟨rfl, rfl⟩

theorem State.tempWindow_accountLaw (h : AccountLaw s) (i : TempId) (n : Nat) : AccountLaw (s.tempWindow i n) := by
  have hset : AccountLaw { s with sense := s.sense.setTemp i ((s.sense.temp i).window n) } :=
    h.of rfl rfl rfl (Sense.setTemp_motion _ _ _).1 (congrArg Input.level (Sense.setTemp_motion _ _ _).2)
  simp only [State.tempWindow, State.presentTemp]
  split <;> exact hset.of

theorem Sense.endWait_motion (x : Sense) (side : Side) :
    (x.endWait side).motion = x.motion ∧ (x.endWait side).pbrake = x.pbrake := by
  unfold Sense.endWait
  split
  · exact ⟨rfl, rfl⟩
  · cases side <;> exact ⟨rfl, rfl⟩

theorem guardedEvent_accountLaw (h : AccountLaw s) {c : Instr} {event : State → State} (he : guardedEvent c = some event) :
    AccountLaw (event s) := by
  cases c with
  | frameStart => cases he; exact h.of
  | resetAssert =>
    cases he
    refine h.of ?_ ?_ ?_ ?_ ?_ <;> simp [State.assertReset, State.quietPresenter, Sense.atReset, Input.atReset]
  | toneEnd =>
    cases he
    rw [(WarnOp.toneEnd (s := s)).frame.only]
    exact h.of rfl rfl rfl rfl rfl
  | endOfBurst =>
    cases he
    rw [(WarnOp.endOfBurst (s := s)).frame.only]
    exact h.of rfl rfl rfl rfl rfl
  | wlampFlashPhase =>
    cases he
    dsimp only
    split
    · exact h.of rfl rfl rfl rfl rfl
    · exact h
  | selftestEnd failed =>
    cases he
    have hport : ∀ {u : State} p, AccountLaw u → AccountLaw (u.withPort p) := fun p hu => hu.of rfl rfl rfl rfl rfl
    have hpart : ∀ p, AccountLaw ((s.withPort p).notice .part) := fun p => (hport p h).of
    dsimp only
    unfold State.selftestEnd
    split
    · exact h
    · split
      · exact State.changeMode_accountLaw (hpart _) _
      · exact State.changeMode_accountLaw (hpart _) _
  | wakeWaitExpiry => cases he; exact h.of rfl rfl rfl rfl rfl
  | preheatExpiry =>
    cases he
    rw [(HeaterOp.preheatEnd (s := s) rfl).frame.only]
    exact h.of rfl rfl rfl rfl rfl
  | ignitionLimitExpiry =>
    cases he
    rw [(HeaterOp.ignitionEnd (c := .nop) (s := s)).frame.only]
    exact h.of rfl rfl rfl rfl rfl
  | provingExpiry =>
    cases he
    rw [(HeaterOp.provingEnd (s := s) rfl).frame.only]
    exact h.of rfl rfl rfl rfl rfl
  | cooldownExpiry =>
    cases he
    simp only [State.cooldownExpiry, State.endCooldown, State.enterLockout, State.enterSatisfied]
    repeat' split
    all_goals exact h.of
  | heaterRunClearsCount => cases he; exact h.of
  | satisfiedStop => cases he; exact h.of
  | minOffEnd => cases he; exact h.of
  | fixedCycleOnEnd => cases he; exact h.of
  | fixedCycleOffEnd => cases he; exact h.of
  | fridgeRunClearsStalls => cases he; exact h.of
  | warmRunComplete => cases he; exact h.of
  | fadeStep i => cases he; exact h.of
  | vspdWindowEnd n => cases he; exact State.vspdWindow_accountLaw h _
  | tempWindowEnd i n => cases he; exact State.tempWindow_accountLaw h i _
  | tachWindowEnd n =>
    cases he
    have hset : AccountLaw { s with sense := { s.sense with tachRate := heldCount n } } := h.of rfl rfl rfl rfl rfl
    exact hset.of (by simp [State.tachWindow]) (by simp [State.tachWindow]) (by simp [State.tachWindow])
      (by simp [State.tachWindow]) (by simp [State.tachWindow])
  | debounceExpiry i held => cases he; exact State.debounced_accountLaw h i held
  | longPress side =>
    cases he
    dsimp only
    split
    · exact State.longPress_accountLaw (State.setPress_accountLaw h side _) side
    · exact h
  | pressClassifierWaitEnd =>
    cases he
    refine h.of rfl rfl rfl ?_ ?_
    · exact (Sense.endWait_motion _ _).1.trans (Sense.endWait_motion _ _).1
    · exact congrArg Input.level ((Sense.endWait_motion _ _).2.trans (Sense.endWait_motion _ _).2)
  | unknownRequest arg => cases arg <;> cases he
  | _ => cases he

theorem State.placeHeld_accountLaw (h : AccountLaw s) (ws : List HeldWake) : AccountLaw (s.placeHeld ws) := by
  induction ws generalizing s with
  | nil => exact h
  | cons w ws ih => exact ih h.of

theorem State.endReset_accountLaw (h : AccountLaw s) : AccountLaw s.endReset := by
  have htested : AccountLaw s.testAllDriving :=
    h.of (by simp [State.testAllDriving]) (by simp [State.testAllDriving]) (by simp [State.testAllDriving])
      (by simp [State.testAllDriving]) (by simp [State.testAllDriving])
  have hreleased : AccountLaw s.testAllDriving.releasePresenter := by
    rw [State.releasePresenter_only]
    exact htested.of rfl rfl rfl rfl rfl
  have hsettled : AccountLaw s.testAllDriving.releasePresenter.settle := hreleased.of
  have hplaced : AccountLaw ((s.testAllDriving.releasePresenter.settle.placeHeld s.testAllDriving.rst.heldWakes).noticeIf
      s.testAllDriving.rst.accountNotice .account) := 
    (State.placeHeld_accountLaw hsettled s.testAllDriving.rst.heldWakes).of
  obtain ⟨u, hu⟩ : ∃ u, u = (s.testAllDriving.releasePresenter.settle.placeHeld s.testAllDriving.rst.heldWakes).noticeIf
      s.testAllDriving.rst.accountNotice .account := ⟨_, rfl⟩
  rw [← hu] at hplaced
  have hloads : AccountLaw ((u.heaterEndReset s.testAllDriving.rst.heaterMoved).fridgeEndReset
      s.testAllDriving.rst.fridgeMoved) := by
    refine hplaced.of ?_ ?_ ?_ ?_ ?_ <;> simp [State.heaterEndReset, State.fridgeEndReset]
  obtain ⟨v, hv⟩ : ∃ v, v = (u.heaterEndReset s.testAllDriving.rst.heaterMoved).fridgeEndReset
      s.testAllDriving.rst.fridgeMoved := ⟨_, rfl⟩
  rw [← hv] at hloads
  have hcharged : AccountLaw (v.noticeIf v.charge.attention .charge) := hloads.of
  have hend : s.endReset = (((v.noticeIf v.charge.attention .charge).moveAccounts.settle).pass).settleCause := by
    rw [hv, hu]
    rfl
  rw [hend]
  obtain ⟨w, hw⟩ : ∃ w, w = v.noticeIf v.charge.attention .charge := ⟨_, rfl⟩
  rw [← hw] at hcharged ⊢
  obtain ⟨h1, -, h3⟩ := (accountLaw_iff w).mp hcharged
  refine .moved h1 h3 (fun j => ?_) (by simp [State.settleCause]) ?_
  · rw [← State.moveAccounts_account]
    simp [State.account, State.settleCause]
  · exact State.standstill_congr (by simp [State.settleCause]) (by simp [State.settleCause]) (by simp [State.settleCause])

theorem Sense.setInput_brake (x : Sense) (i : DigitalIn) (v : Input) (hv : v.level = (x.input i).level) :
    (x.setInput i v).motion = x.motion ∧ (x.setInput i v).pbrake.level = x.pbrake.level := by
  cases i with
  | pbrake => exact ⟨rfl, hv⟩
  | _ => exact ⟨rfl, rfl⟩

theorem Input.move_level (x : Input) (level : Bool) : (x.move level).level = x.level := by
  unfold Input.move
  split <;> rfl

theorem freeEvent_accountLaw (h : AccountLaw s) {c : Instr} {event : State → State} (he : freeEvent c = some event) :
    AccountLaw (event s) := by
  cases c with
  | coldStart =>
    cases he
    have hnone : ∀ i, ({ State.reset with sense := s.sense.powerUp, pending := s.pending } : State).account i = none :=
      fun i => by cases i <;> rfl
    refine ⟨fun i a ha => ?_, fun i j a b ha => ?_, fun i a ha => ?_, rfl⟩
    all_goals
      rw [hnone] at ha
      cases ha
  | resetEnd =>
    cases he
    dsimp only
    split
    · exact State.endReset_accountLaw h
    · exact h
  | timebaseSecond whole =>
    cases he
    have hloads : AccountLaw (s.secondHeldOut.outOfReset State.secondLoads) :=
      State.outOfReset_accountLaw (State.secondHeldOut_accountLaw h) fun _ => by
        refine (State.secondHeldOut_accountLaw h).of ?_ ?_ ?_ ?_ ?_ <;> simp [State.secondLoads]
    dsimp only
    split
    · exact State.takeDue_accountLaw _ hloads
    · exact State.testDrivers_accountLaw hloads
  | minuteExpiry => cases he; exact State.minuteExpiry_accountLaw h
  | restDone i => cases he; exact State.takeRestDone_accountLaw h i
  | breakComplete i => cases he; exact State.testBreak_accountLaw h i
  | countdownZero => cases he; exact State.countdownZero_accountLaw h
  | wakePulseEnd => cases he; exact h.of rfl rfl rfl rfl rfl
  | wakeSpacingExpiry => cases he; exact h.of rfl rfl rfl rfl rfl
  | endOfPeriod i =>
    cases he
    dsimp only
    rw [s.periodEnd_only i]
    exact h.of rfl rfl rfl rfl rfl
  | qchgPulse =>
    cases he
    refine h.of ?_ ?_ ?_ ?_ ?_ <;> simp [State.takePulse, State.testReserve, State.chargeAttention]
  | qdisPulse =>
    cases he
    refine h.of ?_ ?_ ?_ ?_ ?_ <;> simp [State.takePulse, State.testReserve, State.chargeAttention]
  | pinChange i level =>
    cases he
    dsimp only
    split
    · obtain ⟨hm, hb⟩ := s.sense.setInput_brake i { s.sense.input i with pin := level } rfl
      exact h.of rfl rfl rfl hm hb
    · obtain ⟨hm, hb⟩ := s.sense.setInput_brake i _ ((s.sense.input i).move_level level)
      exact h.of rfl rfl rfl hm hb
  | unknownRequest arg => cases arg <;> cases he
  | _ => cases he

end

/-- Settles O57: each operation writes a legal account in its own slot, and the quiet flag is worked after a change. -/
theorem stepKeepsTheAccountLaw : Obligations.StepKeepsTheAccountLaw := by
  unfold Obligations.StepKeepsTheAccountLaw
  intro s t h hs
  refine step_keeps (P := AccountLaw) (fun h hs => ?_) (fun _ _ h => h) h hs
  obtain ⟨-, rfl⟩ | ⟨event, he, rfl⟩ | ⟨event, he, rfl⟩ := exec_cases h
  · exact State.takeFrame_accountLaw hs fun hu => requestWork_accountLaw hu _
  · exact State.outOfReset_accountLaw hs fun _ => guardedEvent_accountLaw hs he
  · exact freeEvent_accountLaw hs he

end Sys2Proof.Machine
end

section
/-! PROOF. O19, O22 and O23: the clock's step and the charge account. -/
namespace Sys2Proof.Machine

/-! ### O19: TSET -/

theorem State.inFrame_stepClock (s : State) (m : Nat) : s.inFrame.stepClock m = (s.stepClock m).inFrame := by
  unfold State.inFrame State.stepClock
  split <;> rfl

/-- R84: a step moves every present anchor. -/
theorem Account.shift_eq (x : Int) (a : Account) :
    a.shift x =
      { a with
        restStart := a.restStart.map (fun m => holdMinute (m + x))
        restEnd :=
          match a.restEnd with
          | none => none
          | some (.expected m) => some (.expected (holdMinute (m + x)))
          | some (.fixed m) => some (.fixed (holdMinute (m + x))) } := by
  unfold Account.shift shiftMinute
  cases a.restEnd with
  | none => cases a.restStart <;> rfl
  | some e => cases e <;> cases a.restStart <;> rfl

theorem Order.shift_eq (x : Int) (o : Order) :
    o.shift x =
      { o with placedAt := holdMinute (o.placedAt + x), admittedAt := o.admittedAt.map (fun m => holdMinute (m + x)) } := by
  unfold Order.shift shiftMinute
  cases o.admittedAt <;> rfl

/-- Settles O19. -/
theorem tsetStepsTheClock : Obligations.TsetStepsTheClock := by
  unfold Obligations.TsetStepsTheClock
  rintro m s hs step rfl
  refine ⟨_, rfl, ?_⟩
  have hstep := State.takeFrame_pass (work := s.stepClock m.toNat) (f := reqTset m)
    (r := done (.step ((m.toNat : Int) - s.clock.minute))) hs hs.1 ?_
  · refine ⟨hstep.1, ?_⟩
    have hafter := hstep.2
    have hmap : s.accounts.mapSome (Account.shift ((m.toNat : Int) - s.clock.minute)) = s.accounts.mapSome _ :=
      congrArg s.accounts.mapSome (funext fun a => a.shift_eq _)
    have horders : s.orders.map (Order.shift ((m.toNat : Int) - s.clock.minute)) = s.orders.map _ :=
      congrArg s.orders.map (funext fun o => o.shift_eq _)
    dsimp only [State.stepClock] at hafter
    rw [hmap, horders] at hafter
    exact hafter
  · unfold reqTset
    rw [State.inFrame_stepClock]
    simp

/-! ### Conditions worked while RESET is asserted -/

theorem handedPresence_append (a : Source) (w : WarnType) (b : Bool) (hs : List Handed) (x : Handed) :
    handedPresence a w b (hs ++ [x]) = handedPresence a w (handedPresence a w b hs) [x] := by
  induction hs generalizing b with
  | nil => rfl
  | cons y ys ih => cases y <;> exact ih _

/-- R116: what a condition worked while RESET is asserted hands on. -/
def handed (a : Source) (w : WarnType) (listed holds : Bool) : List Handed :=
  if holds = listed then [] else if holds then [.raise a w] else [.remove a w]

section
variable {s : State} (ha : s.rst.asserted = true)
include ha

theorem State.workCondition_asserted (a : Source) (w : WarnType) (x : Bool) :
    s.workCondition a w x =
      { s with rst := { s.rst with heldWarnings := s.rst.heldWarnings ++ handed a w (s.listed a w) x } } := by
  have hkeep : s = { s with rst := { s.rst with heldWarnings := s.rst.heldWarnings ++ [] } } := by
    rw [List.append_nil]
  unfold State.workCondition State.raise State.remove handed
  rw [ha]
  cases x <;> cases s.listed a w
  · exact hkeep
  · rfl
  · rfl
  · exact hkeep

theorem State.listed_workCondition (a b : Source) (w v : WarnType) (x : Bool) :
    (s.workCondition a w x).listed b v = if b = a ∧ v = w then x else s.listed b v := by
  have hold : ∀ hs, ({ s with rst := { s.rst with heldWarnings := s.rst.heldWarnings ++ hs } } : State).listed b v =
      handedPresence b v (hasPair b v s.warn.entries) (s.rst.heldWarnings ++ hs) := fun _ => rfl
  have hpair : (decide (a = b) && decide (w = v)) = decide (b = a ∧ v = w) := by
    rw [← Bool.decide_and]
    exact decide_eq_decide.mpr (and_congr eq_comm eq_comm)
  rw [State.workCondition_asserted ha, hold, handed]
  by_cases hx : x = s.listed a w
  · rw [if_pos hx, List.append_nil]
    split
    next hp => rw [hx, hp.1, hp.2]; rfl
    next => rfl
  · rw [if_neg hx]
    cases x with
    | true =>
      rw [if_pos rfl, handedPresence_append]
      simp only [handedPresence, hpair]
      by_cases hp : b = a ∧ v = w
      · simp [hp]
      · simp only [hp, decide_false, Bool.or_false, if_false]
        rfl
    | false =>
      rw [if_neg Bool.false_ne_true, handedPresence_append]
      simp only [handedPresence, hpair]
      by_cases hp : b = a ∧ v = w
      · simp [hp]
      · simp only [hp, decide_false, Bool.not_false, Bool.and_true, if_false]
        rfl

end

/-! ### The reserve test -/

theorem Charge.atReserve_iff (x : Charge) : x.atReserve = true ↔ x.synced = true ∧ x.count ≤ x.reserve := by
  rw [Charge.atReserve, Bool.and_eq_true, decide_eq_true_iff, Charge.usable_eq, Nat.sub_eq_zero_iff_le]

theorem Charge.attention_iff (x : Charge) : x.attention = true ↔ x.synced = false ∨ x.count ≤ x.reserve := by
  simp [Charge.attention, Charge.usable_eq, Nat.sub_eq_zero_iff_le]

theorem State.takePulse_eq (s : State) (x : Charge) :
    s.takePulse x =
      ((({ s with charge := x } : State).workCondition .part .chargeReserve x.atReserve).noticeIf
        (decide (x.atReserve ≠ s.listed .part .chargeReserve)) .charge).noticeIf x.attention .charge := by
  simp only [State.takePulse, State.testReserve, State.chargeAttention]
  have hcharge : ∀ u : State, ((({ s with charge := x } : State).workCondition .part .chargeReserve x.atReserve).noticeIf
      (decide (x.atReserve ≠ ({ s with charge := x } : State).listed .part .chargeReserve)) .charge).charge = x := by
    simp
  rw [hcharge s]
  rfl

theorem State.listed_released {s : State} (hr : s.rst.asserted = false) (hh : HeldLaw s) (a : Source) (w : WarnType) :
    s.listed a w = hasPair a w s.warn.entries := by
  rw [State.listed, (hh hr).1]
  rfl

theorem State.takePulse_only (s : State) (x : Charge) :
    s.takePulse x =
      { s with
        charge := x, warn := (s.takePulse x).warn, timers := { s.timers with t7 := (s.takePulse x).timers.t7 }
        port := (s.takePulse x).port, rst := (s.takePulse x).rst } := by
  rw [State.takePulse_eq]
  apply State.ext <;> simp only [State.noticeIf_keeps, State.workCondition_keeps]
  apply Timers.ext <;> simp

theorem State.addEntry_inByte (s : State) (a : Source) (w : WarnType) {m : Notice} (hm : m ≠ .warning) :
    m.inByte (s.addEntry a w).port.flags = m.inByte s.port.flags := by
  unfold State.addEntry
  split
  · rfl
  · rw [State.notice_inByte]
    simp [Ne.symm hm]

theorem State.raise_inByte (s : State) (a : Source) (w : WarnType) {m : Notice} (hm : m ≠ .warning) :
    m.inByte (s.raise a w).port.flags = m.inByte s.port.flags := by
  unfold State.raise
  repeat' split
  · rfl
  · rfl
  · simp [State.addEntry_inByte s a w hm]

/-- R199: a condition that is worked sets no notice but WARNING. -/
theorem State.workCondition_inByte (s : State) (a : Source) (w : WarnType) (x : Bool) {m : Notice} (hm : m ≠ .warning) :
    m.inByte (s.workCondition a w x).port.flags = m.inByte s.port.flags := by
  unfold State.workCondition
  repeat' split
  · exact s.raise_inByte a w hm
  · simp
  · rfl

theorem State.takePulse_sameList (s : State) (x : Charge) :
    (({ s with charge := x } : State).workCondition .part .chargeReserve x.atReserve).sameList (s.takePulse x) := by
  rw [State.takePulse_eq]
  refine State.noticed.sameList ?_ (by simp) (by simp) (by simp) (by simp) (by simp)
  exact State.noticeIf_noticed _ _ (State.noticeIf_noticed _ _ (.refl _))

theorem State.takePulse_listKept {s u : State} {x : Charge} (hr : s.rst.asserted = false) (hs : s.sameList u) :
    State.listKept { s with charge := x } [(.part, .chargeReserve)] (u.takePulse x) :=
  State.workCondition_listKept (s := { s with charge := x }) (u := { u with charge := x }) hr
    ⟨hs.asserted, hs.clock, hs.quiet, hs.accounts, hs.warn, hs.t7, hs.port⟩ (u.takePulse_sameList x)

theorem State.takePulse_released {s : State} (x : Charge) (hr : s.rst.asserted = false) :
    (s.takePulse x).rst = s.rst ∧ s.listKept [(.part, .chargeReserve)] (s.takePulse x) ∧
    s.port.settingsKept (s.takePulse x).port ∧
    (HeldLaw s →
      (hasPair .part .chargeReserve (s.takePulse x).warn.entries = true ↔ x.synced = true ∧ x.count ≤ x.reserve) ∧
      (Notice.charge.inByte (s.takePulse x).port.flags = true ↔
        Notice.charge.inByte s.port.flags = true ∨
        hasPair .part .chargeReserve (s.takePulse x).warn.entries ≠ hasPair .part .chargeReserve s.warn.entries ∨
        x.synced = false ∨ x.count ≤ x.reserve)) := by
  have hwork : ({ s with charge := x } : State).rst.asserted = false := hr
  have hsame := s.takePulse_sameList x
  have hport : s.port.settingsKept (s.takePulse x).port :=
    State.noticed.flagsKept (s := s) (by
      rw [State.takePulse_eq]
      exact State.noticeIf_noticed _ _ (State.noticeIf_noticed _ _ (State.workCondition_noticed _ _ _ ⟨rfl, [], rfl, fun _ => rfl⟩)))
  refine ⟨?_, ?_, hport, fun hh => ⟨?_, ?_⟩⟩
  · rw [State.takePulse_eq]
    simp [State.workCondition_rst hwork]
  · exact State.workCondition_listKept (s := s) (u := { s with charge := x }) hr ⟨rfl, rfl, rfl, rfl, rfl, rfl, .refl _⟩ hsame
  · have hpair := hasPair_workCondition hwork (hh hr).1 .part .part .chargeReserve .chargeReserve x.atReserve
    rw [if_pos ⟨rfl, rfl⟩, Charge.atReserve_iff] at hpair
    rw [hsame.warn]
    exact hpair
  · have hpair := hasPair_workCondition hwork (hh hr).1 .part .part .chargeReserve .chargeReserve x.atReserve
    rw [if_pos ⟨rfl, rfl⟩, ← hsame.warn] at hpair
    have hafter : hasPair .part .chargeReserve (s.takePulse x).warn.entries = x.atReserve := Bool.eq_iff_iff.mpr hpair
    have hlisted := State.listed_released hr hh .part .chargeReserve
    rw [hafter, State.takePulse_eq, State.noticeIf_inByte, State.noticeIf_inByte,
      State.workCondition_inByte _ _ _ _ (by decide), hlisted]
    simp [hr, or_assoc, ← Charge.attention_iff]

/-! ### O22: the pulses -/

theorem Charge.divide_content (x : Charge) (n : Nat) :
    (x.divide n).count * 3600 + (x.divide n).residue = n ∧ (x.divide n).residue < 3600 := by
  constructor
  · show n / 3600 * 3600 + n % 3600 = n
    omega
  · exact Nat.mod_lt _ (by omega)

/-- R53, R54: a charge pulse adds its weight, up to a full count. -/
theorem Charge.charge_content {x : Charge} :
    x.charge.count * 3600 + x.charge.residue = min (x.count * 3600 + x.residue + x.weight) (x.capacity * 3600) ∧
    x.charge.residue < 3600 ∧
    x.charge = { x with count := x.charge.count, residue := x.charge.residue } := by
  unfold Charge.charge
  split
  next h =>
    obtain ⟨h1, h2⟩ := x.divide_content (x.content + x.weight)
    unfold Charge.content at h h1 h2 ⊢
    exact ⟨by omega, h2, rfl⟩
  next h =>
    unfold Charge.content at h
    exact ⟨by dsimp only; omega, Nat.zero_lt_succ _, rfl⟩

/-- R53, R55: a discharge pulse takes its weight away, down to nothing. -/
theorem Charge.discharge_content {x : Charge} :
    x.discharge.count * 3600 + x.discharge.residue = x.count * 3600 + x.residue - x.weight ∧
    x.discharge.residue < 3600 ∧
    x.discharge = { x with count := x.discharge.count, residue := x.discharge.residue } := by
  unfold Charge.discharge
  split
  next h =>
    obtain ⟨h1, h2⟩ := x.divide_content (x.content - x.weight)
    unfold Charge.content at h h1 h2 ⊢
    exact ⟨by omega, h2, rfl⟩
  next h =>
    unfold Charge.content at h
    exact ⟨by dsimp only; omega, Nat.zero_lt_succ _, rfl⟩

theorem State.takePulse_asserted {s : State} (x : Charge) (ha : s.rst.asserted = true) :
    (s.takePulse x).warn = s.warn ∧ (s.takePulse x).port = s.port ∧ (s.takePulse x).timers = s.timers ∧
    (s.takePulse x).listed .part .chargeReserve = x.atReserve ∧
    (s.takePulse x).rst =
      { s.rst with
        heldWarnings := s.rst.heldWarnings ++ handed .part .chargeReserve (s.listed .part .chargeReserve) x.atReserve } := by
  have hwork : ({ s with charge := x } : State).rst.asserted = true := ha
  have hlisted := State.listed_workCondition hwork .part .part .chargeReserve .chargeReserve x.atReserve
  rw [if_pos ⟨rfl, rfl⟩] at hlisted
  have hquiet : s.takePulse x = ({ s with charge := x } : State).workCondition .part .chargeReserve x.atReserve := by
    rw [State.takePulse_eq]
    have hstill : ∀ {u : State}, u.rst.asserted = true → ∀ b n, u.noticeIf b n = u := fun hu b n => by
      unfold State.noticeIf State.notice
      rw [hu]
      simp
    rw [hstill (by simpa using ha), hstill (by simpa using ha)]
  rw [hquiet, hlisted]
  rw [State.workCondition_asserted hwork]
  exact ⟨rfl, rfl, rfl, rfl, rfl⟩

/-- R58, R59, R61, R116, R125: a pulse's reserve test, out of reset and while it is asserted. -/
theorem State.takePulse_worked {s u : State} {x : Charge} (hu : u = { s with sense := u.sense }) (hh : HeldLaw s) :
    s.chargeWorked (u.takePulse x) := by
  have hrst : u.rst = s.rst := by rw [hu]
  have hport : u.port = s.port := by rw [hu]
  have hwarn : u.warn = s.warn := by rw [hu]
  have htimers : u.timers = s.timers := by rw [hu]
  have hlist : u.listed .part .chargeReserve = s.listed .part .chargeReserve := by rw [hu]; rfl
  have hcharge : (u.takePulse x).charge = x := by rw [State.takePulse_only]
  refine ⟨?_, ?_, fun ha => ?_, fun hr => ?_⟩
  · have honly := u.takePulse_only x
    generalize u.takePulse x = t at honly
    rw [honly]
    rw [hu]
  · have hnoticed : u.noticed (u.takePulse x) := by
      rw [State.takePulse_eq]
      exact State.noticeIf_noticed _ _ (State.noticeIf_noticed _ _ (State.workCondition_noticed _ _ _ ⟨rfl, [], rfl, fun _ => rfl⟩))
    exact hport ▸ hnoticed.flagsKept
  · obtain ⟨h1, h2, h3, h4, h5⟩ := State.takePulse_asserted (s := u) x (by rw [hrst]; exact ha)
    refine ⟨h1.trans hwarn, h2.trans hport, h3.trans htimers, ?_, ?_⟩
    · rw [h4, hcharge, Charge.atReserve_iff]
    · rw [h5, h4, hrst, hlist]
      rfl
  · obtain ⟨h1, h2, -, h4⟩ := State.takePulse_released (s := u) x (by rw [hrst]; exact hr)
    obtain ⟨h5, h6⟩ := h4 (by rw [HeldLaw, hrst]; exact hh)
    rw [hwarn, hport] at h6
    refine ⟨h1.trans hrst, by rw [hcharge]; exact h5, ?_, by rw [hcharge]; exact h6⟩
    rw [hu] at h2 ⊢
    exact h2

theorem Charge.addTally_eq {x y : Charge} (h : y = { x with count := y.count, residue := y.residue }) (w : Int) :
    y.addTally w =
      { x with
        count := (y.addTally w).count, residue := (y.addTally w).residue
        tally := holdInt 2147483647 (x.tally + w) } := by
  obtain ⟨n, r, rfl⟩ : ∃ n r, y = { x with count := n, residue := r } := ⟨_, _, h⟩
  rfl

theorem holdInt_gain {a w : Int} (ha : -2147483647 ≤ a) (hw : 0 ≤ w) : holdInt 2147483647 (a + w) = min (a + w) 2147483647 := by
  rw [holdInt, clampInt_eq (by omega)]
  omega

theorem holdInt_loss {a w : Int} (ha : a ≤ 2147483647) (hw : 0 ≤ w) :
    holdInt 2147483647 (a + -w) = max (a - w) (-2147483647) := by
  rw [holdInt, clampInt_eq (by omega)]
  omega

/-- Settles O22. -/
theorem pulsesMoveTheCharge : Obligations.PulsesMoveTheCharge := by
  unfold Obligations.PulsesMoveTheCharge
  intro s hc hh
  obtain ⟨-, -, -, -, -, -, -, -, h9, h10, -⟩ := hc
  refine ⟨⟨_, rfl, ?_⟩, ⟨_, rfl, ?_⟩⟩
  · obtain ⟨h1, h2, h3⟩ := s.charge.charge_content
    rw [State.takePulse_only]
    refine ⟨h1, ?_, h2, rfl, ?_⟩
    · have htally := Charge.addTally_eq (x := s.charge) h3 s.charge.weight
      rw [holdInt_gain h9 (by omega)] at htally
      exact htally
    · rw [← State.takePulse_only]
      exact State.takePulse_worked rfl hh
  · obtain ⟨h1, h2, h3⟩ := s.charge.discharge_content
    rw [State.takePulse_only]
    refine ⟨h1, ?_, h2, rfl, ?_⟩
    · have htally := Charge.addTally_eq (x := s.charge) h3 (-(s.charge.weight : Int))
      rw [holdInt_loss h10 (by omega)] at htally
      exact htally
    · rw [← State.takePulse_only]
      exact State.takePulse_worked rfl hh

end Sys2Proof.Machine
end

section
/-! PROOF. What a pass and a frame's end leave alone; O23. -/
namespace Sys2Proof.Machine

/-! ### The flags a pass may set -/

section
variable (s : State) {n : Notice} (h : n ≠ .heater)
include h

theorem State.heaterGo_otherFlag (st : HeaterState) : n.inByte (s.heaterGo st).port.flags = n.inByte s.port.flags := by
  simp [State.heaterGo, State.notice_inByte, Ne.symm h]

theorem State.enterPreheat_otherFlag : n.inByte s.enterPreheat.port.flags = n.inByte s.port.flags := by
  simp [State.enterPreheat, State.heaterGo_otherFlag _ h]

theorem State.enterOff_otherFlag : n.inByte s.enterOff.port.flags = n.inByte s.port.flags := by
  simp [State.enterOff, State.heaterGo_otherFlag _ h]

theorem State.enterCooldown_otherFlag (x : CooldownCause) :
    n.inByte (s.enterCooldown x).port.flags = n.inByte s.port.flags := by
  simp [State.enterCooldown, State.heaterGo_otherFlag _ h]

theorem State.heaterPresented_otherFlag : n.inByte s.heaterPresented.port.flags = n.inByte s.port.flags := by
  simp only [State.heaterPresented]
  repeat' split
  all_goals simp [State.enterPreheat_otherFlag _ h]

theorem State.heaterWithdrawn_otherFlag : n.inByte s.heaterWithdrawn.port.flags = n.inByte s.port.flags := by
  simp only [State.heaterWithdrawn]
  split <;> simp [State.enterOff_otherFlag _ h, State.enterCooldown_otherFlag _ h]

theorem State.presentHeater_otherFlag (p : Option Presented) :
    n.inByte (s.presentHeater p).port.flags = n.inByte s.port.flags := by
  simp only [State.presentHeater]
  repeat' split
  all_goals simp [State.heaterPresented_otherFlag _ h, State.heaterWithdrawn_otherFlag _ h]

end

/-- R199: a pass sets no flag but ORDER, HEATER and FRIDGE. -/
theorem State.pass_otherFlag (s : State) {n : Notice} (ho : n ≠ .order) (hh : n ≠ .heater) (hf : n ≠ .fridge) :
    n.inByte s.pass.port.flags = n.inByte s.port.flags := by
  simp only [State.pass]
  split
  · rfl
  · simp [State.presentAll, State.presentHeater_otherFlag _ hh, hf, State.noticeIf_inByte, Ne.symm ho]

/-! ### The pairs a pass may take out -/

theorem hasPair_mem {a : Source} {w : WarnType} {es : List Entry} :
    hasPair a w es = true ↔ ∃ e ∈ es, e.source = a ∧ e.type = w := by
  simp [hasPair, Entry.isPair]

theorem State.afterPass.hasPair {s t : State} (h : s.afterPass t) {a : Source} {w : WarnType}
    (hw : (a, w) ≠ (.part, .fridgeWarm)) : hasPair a w t.warn.entries = hasPair a w s.warn.entries := by
  obtain ⟨-, -, -, -, hmem, -⟩ := h
  rw [Bool.eq_iff_iff, hasPair_mem, hasPair_mem]
  refine exists_congr fun e => and_congr_left fun he => hmem e ?_
  rw [Bool.eq_false_iff]
  intro hpair
  simp only [Entry.isPair, Bool.and_eq_true, decide_eq_true_eq] at hpair
  exact hw (by rw [← he.1, ← he.2, hpair.1, hpair.2])

/-! ### A frame's end after a pass -/

theorem State.closeFrame_flags (s : State) (r : Reply) :
    (s.closeFrame r).port.flags = s.port.flags ∧ s.port.settingsKept (s.closeFrame r).port := by
  simp [State.closeFrame, Port.settingsKept]

theorem State.afterPass.closeFrame {s t : State} (h : s.afterPass t) (r : Reply) : s.afterPass (t.closeFrame r) := by
  obtain ⟨hflags, hkept⟩ := t.closeFrame_flags r
  obtain ⟨h1, h2, h3, h4, h5, h6, h7, h8, h9, h10, h11, h12, h13, h14⟩ := h
  refine ⟨h1, h2, by rw [hflags]; exact h3, h4, h5, h6, ?_, ?_, h9, h10, h11, h12, h13.trans hkept, h14⟩
  · unfold State.heaterWorked at h7 ⊢
    rw [hflags]
    exact h7
  · unfold State.fridgeWorked at h8 ⊢
    rw [hflags]
    exact h8

/-- A served request that runs a pass over `v`. -/
theorem State.takeFrame_after {s v : State} {f : State → State × Reply} {r : Reply} (h : s.serves)
    (hv : v.rst.asserted = false) (hf : f s.inFrame = (v.pass, r)) :
    (s.takeFrame f).answers r ∧ v.afterPass (s.takeFrame f) ∧ s.takeFrame f = v.pass.closeFrame r := by
  rw [State.takeFrame_served s f h, hf]
  exact ⟨State.closeFrame_answers _ r, (State.pass_spec v hv).closeFrame r, rfl⟩

theorem State.inFrame_settingsKept (s : State) : s.port.settingsKept s.inFrame.port := by
  obtain ⟨h, -⟩ := s.inFrame_portKept
  exact h

/-- A frame's beginning leaves the list as it was. -/
theorem State.inFrame_sameList (s : State) : s.sameList s.inFrame :=
  ⟨by simp, by simp, by simp, by simp, by simp, by simp, s.inFrame_settingsKept⟩

/-- A served request that works a state of its own, with what its presenter then does, and runs a pass over it. -/
theorem State.takeFrame_thenPass {s work v : State} {f : State → State × Reply} {r : Reply}
    {moved : List (Source × WarnType)} (h : s.serves) (hf : f s.inFrame = (v.pass, r))
    (hv : v = { work with warn := v.warn, timers := { work.timers with t7 := v.timers.t7 }, port := v.port })
    (hrst : v.rst.asserted = false) (hport : work.port.settingsKept v.port) (hlist : work.listKept moved v) :
    (s.takeFrame f).answers r ∧ work.thenPass moved (s.takeFrame f) := by
  obtain ⟨hans, hpass, -⟩ := State.takeFrame_after h hrst hf
  exact ⟨hans, v, hv, hport, hlist, hpass⟩

/-! ### O23: the charge account's requests -/

/-- R59 to R64: a request that writes the charge account, tests the reserve and runs a pass. -/
theorem State.takeFrame_charge {s : State} {c : Charge} {f : State → State × Reply} {r : Reply} (h : s.serves)
    (hf : f s.inFrame = ((s.inFrame.takePulse c).pass, r)) :
    (s.takeFrame f).answers r ∧ State.thenPass { s with charge := c } [(.part, .chargeReserve)] (s.takeFrame f) ∧
    (HeldLaw s →
      (hasPair .part .chargeReserve (s.takeFrame f).warn.entries = true ↔ c.synced = true ∧ c.count ≤ c.reserve) ∧
      (Notice.charge.inByte (s.takeFrame f).port.flags = true ↔
        Notice.charge.inByte s.port.flags = true ∨
        hasPair .part .chargeReserve (s.takeFrame f).warn.entries ≠ hasPair .part .chargeReserve s.warn.entries ∨
        c.synced = false ∨ c.count ≤ c.reserve)) := by
  have hr : s.inFrame.rst.asserted = false := by simpa using h.1
  obtain ⟨hrst, -, hport, hlaw⟩ := State.takePulse_released c hr
  have hlist : State.listKept { s with charge := c } [(.part, .chargeReserve)] (s.inFrame.takePulse c) :=
    State.takePulse_listKept h.1 s.inFrame_sameList
  have honly := s.inFrame.takePulse_only c
  have hafter := State.takeFrame_after h (hrst ▸ hr) hf
  have hpulse := State.takeFrame_thenPass (work := { s with charge := c }) h hf ?_ (hrst ▸ hr)
    (s.inFrame_settingsKept.trans hport) hlist
  · refine ⟨hpulse.1, hpulse.2, fun hh => ?_⟩
    have hheld : HeldLaw s.inFrame := by
      rw [HeldLaw, s.inFrame_eq]
      exact hh
    obtain ⟨hpair, hflag⟩ := hlaw hheld
    obtain ⟨-, hpass, heq⟩ := hafter
    have hkept := hpass.hasPair (a := .part) (w := .chargeReserve) (by decide)
    have hflags : Notice.charge.inByte (s.takeFrame f).port.flags =
        Notice.charge.inByte (s.inFrame.takePulse c).port.flags := by
      rw [heq, (State.closeFrame_flags _ r).1, State.pass_otherFlag _ (by decide) (by decide) (by decide)]
    have hstart := s.inFrame_portKept.2
    have hwarn : s.inFrame.warn = s.warn := by simp
    rw [hkept, hflags]
    rw [hstart, hwarn] at hflag
    exact ⟨hpair, hflag⟩
  · generalize s.inFrame.takePulse c = v at honly hrst
    rw [s.inFrame_eq] at honly hrst
    rw [hrst] at honly
    exact honly

theorem csetOk_iff {capacity reserve weight : Nat} :
    csetOk capacity reserve weight = true ↔
      10000 ≤ capacity ∧ capacity ≤ 1000000 ∧ 1 ≤ weight ∧ weight ≤ 36000 ∧ reserve < capacity := by
  simp [csetOk, and_assoc]

/-- Settles O23. -/
theorem csetAndCsyncSetTheAccount : Obligations.CsetAndCsyncSetTheAccount := by
  unfold Obligations.CsetAndCsyncSetTheAccount
  refine ⟨fun capacity reserve weight s hs => ⟨fun h => ?_, fun h1 h2 h3 h4 h5 c hc => ?_⟩, fun x s hs => ?_⟩
  · have hbad : csetOk capacity reserve weight = false := by
      rw [Bool.eq_false_iff, ne_eq, csetOk_iff]
      omega
    exact refuses_of (f := reqCset capacity reserve weight) hs rfl (by simp [reqCset, hbad])
  · have hok : csetOk capacity reserve weight = true := csetOk_iff.mpr ⟨h1, h2, h3, h4, h5⟩
    have hcount : (if capacity < s.charge.count then capacity else s.charge.count) = min s.charge.count capacity := by
      split <;> omega
    have hconf : s.charge.configure capacity reserve weight = c := by rw [hc, Charge.configure, hcount]
    exact ⟨_, rfl, State.takeFrame_charge hs (f := reqCset capacity reserve weight) (by simp [reqCset, hok, hconf])⟩
  · obtain ⟨h1, h2, h3⟩ := State.takeFrame_charge (c := s.charge.sync x.toNat) hs (f := reqCsync x)
      (r := doneIf (decide (s.charge.capacity < x.toNat)) (.synced (min x.toNat s.charge.capacity))) (by simp [reqCsync]; rfl)
    refine ⟨_, rfl, h1, h2, fun hh => ?_⟩
    simpa [Charge.sync] using h3 hh

end Sys2Proof.Machine
end

section
/-! PROOF. The refrigerator's requests and counters: O39 to O41. -/
namespace Sys2Proof.Machine

/-! ### What a change of the refrigerator's state moves -/

theorem State.fridgeFrame.moves {s t : State} (h : s.fridgeFrame t) : s.fridgeMoves t := ⟨h.only, h.noticed.flagsKept⟩

section
variable {s : State} (hr : s.rst.asserted = false)
include hr

theorem State.enterStart_on : s.compressorOn s.enterStart :=
  ⟨s.enterStart_does.1, s.enterStart_does.2, s.enterStart_frame.moves, State.fridgeGo_flag _ _ (by simpa using hr)⟩

theorem State.stopToRest_off : s.compressorOff .rest s.fridge.stalls s.stopToRest :=
  ⟨s.stopToRest_does.1, s.stopToRest_does.2, s.stopToRest_frame.moves, State.fridgeGo_flag _ _ (by simpa using hr)⟩

theorem State.stall_flag : Notice.fridge.inByte s.stall.port.flags = true := by
  simp only [State.stall]
  split <;> exact State.fridgeGo_flag _ _ (by simpa using hr)

end

/-- R168: an IDLE fridge starts its compressor exactly when it may. -/
theorem State.startTest_idle {s : State} (hs : s.fridge.state = .idle) :
    (s.fridgeStarts → s.startTest = s.enterStart) ∧ (¬s.fridgeStarts → s.startTest = s) := by
  unfold State.startTest State.fridgeStarts
  rw [if_neg (not_not.mpr hs)]
  cases hf : s.sense.fridgeT.fault
  · refine ⟨fun h => ?_, fun h => ?_⟩ <;> simp_all
  · refine ⟨fun h => ?_, fun h => ?_⟩ <;> simp_all

theorem State.startTest_other {s : State} (hs : s.fridge.state ≠ .idle) : s.startTest = s := if_pos hs

/-- R172: the end of REST. -/
theorem State.endRestPhase_over {s : State} (hr : s.rst.asserted = false) : s.restOver s.endRestPhase := by
  unfold State.endRestPhase
  cases hp : s.fridge.presented with
  | none =>
    refine ⟨(s.fridgeGo_frame .off).moves, s.fridgeGo_flag .off hr, fun _ => s.fridgeGo_fridge .off,
      fun h => absurd hp h, fun h => absurd hp h⟩
  | some p =>
    have hsome : s.fridge.presented ≠ none := by rw [hp]; exact nofun
    have hflag : Notice.fridge.inByte s.enterIdle.port.flags = true :=
      State.startTest_flag _ (by simpa using hr) (s.fridgeGo_flag .idle hr)
    refine ⟨s.enterIdle_frame.moves, hflag, fun h => absurd h hsome, fun _ h => ?_, fun _ h => s.enterIdle_does.2 h⟩
    exact ⟨(s.enterIdle_does.1 h).1, (s.enterIdle_does.1 h).2, s.enterIdle_frame.moves, hflag⟩

theorem State.endRestIfDue_over {s : State} (hr : s.rst.asserted = false) (hs : s.fridge.state = .rest)
    (hm : s.fridge.minOff ≤ s.fridge.offSeconds) : s.restOver s.endRestIfDue := by
  rw [State.endRestIfDue, if_pos ⟨hs, hm⟩]
  exact State.endRestPhase_over hr

/-! ### The port beside it -/

section
variable {s t : State} {p q : Port} (hp : s.port.settingsKept p) (hq : t.port.settingsKept q)
include hp hq

theorem State.fridgeMoves.ports (h : State.fridgeMoves { s with port := p } t) : s.fridgeMoves { t with port := q } :=
  ⟨by rw [h.1], (hp.trans h.2).trans hq⟩

theorem State.compressorOn.ports (h : State.compressorOn { s with port := p } t) : s.compressorOn { t with port := q } :=
  ⟨h.1, h.2.1, h.2.2.1.ports hp hq, hq.flag .fridge h.2.2.2⟩

theorem State.restOver.ports (h : State.restOver { s with port := p } t) : s.restOver { t with port := q } := by
  obtain ⟨hmoves, hflag, hnone, hon, hidle⟩ := h
  exact ⟨hmoves.ports hp hq, hq.flag .fridge hflag, hnone, fun h k => (hon h k).ports hp hq, hidle⟩

end

theorem State.closeFrame_eq (s : State) (r : Reply) : s.closeFrame r = { s with port := (s.closeFrame r).port } := by
  apply State.ext <;> simp

/-- A REST is left to its counter and a FAULT to FCLEAR, whatever is presented. -/
theorem State.fridgeWorked.state_kept {s t : State} (h : s.fridgeWorked t)
    (hs : s.fridge.state = .rest ∨ s.fridge.state = .fault) : t.fridge.state = s.fridge.state := by
  obtain ⟨-, h⟩ := h
  obtain ⟨hsame, hgiven, htaken⟩ := h _ rfl
  have hoff : s.fridge.state ≠ .off := by obtain hs | hs := hs <;> rw [hs] <;> exact nofun
  have hidle : s.fridge.state ≠ .idle := by obtain hs | hs := hs <;> rw [hs] <;> exact nofun
  have hturns : s.fridge.state.turning = false := by obtain hs | hs := hs <;> rw [hs] <;> rfl
  cases hp : s.fridge.presented with
  | none =>
    cases hq : t.fridge.presented with
    | none => rw [(hsame (by rw [hp, hq])).1]
    | some q => rw [(hgiven hp (by rw [hq]; exact nofun)).2.2 hoff]
  | some p =>
    cases hq : t.fridge.presented with
    | none => rw [(htaken (by rw [hp]; exact nofun) hq).2.2 hidle hturns]
    | some q => rw [(hsame (by rw [hp, hq]; rfl)).1]

/-- A state that what came before a pass left, with what its presenter did, is followed by that pass. -/
theorem State.thenPass_of {work v : State} {moved : List (Source × WarnType)}
    (hv : v = { work with warn := v.warn, timers := { work.timers with t7 := v.timers.t7 }, port := v.port })
    (hrst : v.rst.asserted = false) (hport : work.port.settingsKept v.port) (hlist : work.listKept moved v) :
    work.thenPass moved v.pass := ⟨v, hv, hport, hlist, State.pass_spec v hrst⟩

theorem State.afterPass.flag {s t : State} (h : s.afterPass t) {n : Notice} (hn : n.inByte s.port.flags = true) :
    n.inByte t.port.flags = true := by
  obtain ⟨-, -, -, -, -, -, -, -, -, -, -, -, hport, -⟩ := h
  exact hport.flag n hn

/-! ### O39: FSET and FCLEAR -/

/-- Settles O39. -/
theorem fsetAndFclearAct : Obligations.FsetAndFclearAct := by
  unfold Obligations.FsetAndFclearAct
  intro s hs
  have hframe := s.inFrame_settingsKept
  refine ⟨fun seconds m hm u hu => ?_, fun hne => ?_, fun hf => ?_⟩
  · obtain ⟨w, hw⟩ : ∃ w : State, w = s.inFrame.withFridge (fun f => { f with minOff := m }) := ⟨_, rfl⟩
    have hwu : w = { u with port := s.inFrame.port } := by rw [hw, hu, s.inFrame_eq]; rfl
    have hwr : w.rst.asserted = false := by rw [hwu, hu]; exact hs.1
    have hreq : reqFset seconds s.inFrame =
        (w.endRestIfDue.fridgeAttention, doneIf (decide (m ≠ seconds)) (.minOff m w.endRestIfDue.fridgeAttention.fridge.state)) := by
      rw [hw, hm]
      rfl
    have hserve := State.takeFrame_served s (reqFset seconds) hs
    rw [hreq] at hserve
    have hport : ∀ r, w.endRestIfDue.port.settingsKept (w.endRestIfDue.fridgeAttention.closeFrame r).port := fun r =>
      (w.endRestIfDue.fridgeAttention_frame.noticed.flagsKept).trans (State.closeFrame_flags _ r).2
    have heq : ∀ r, w.endRestIfDue.fridgeAttention.closeFrame r =
        { w.endRestIfDue with port := (w.endRestIfDue.fridgeAttention.closeFrame r).port } := fun r => by
      apply State.ext <;> simp
    refine ⟨fun hn => ?_, fun hr hd => ?_⟩
    · have hstill : w.endRestIfDue = w := if_neg (by rw [hwu, hu]; exact hn)
      rw [hstill] at hserve hport heq
      refine ⟨_, rfl, ?_, ?_, ?_⟩
      · rw [hserve]
        have hstate : w.fridgeAttention.fridge.state = s.fridge.state := by simp [hwu, hu]
        rw [hstate]
        exact State.closeFrame_answers _ _
      · rw [hserve, heq, hwu]
      · rw [hserve]
        have hkept := hport (doneIf (decide (m ≠ seconds)) (.minOff m w.fridgeAttention.fridge.state))
        rw [show u.port = s.port by rw [hu]]
        rw [show w.port = s.inFrame.port by rw [hwu]] at hkept
        exact hframe.trans hkept
    · have hover : State.restOver { u with port := s.inFrame.port } w.endRestIfDue := by
        have := State.endRestIfDue_over hwr (by rw [hwu, hu]; exact hr) (by rw [hwu, hu]; exact hd)
        rwa [← hwu]
      refine ⟨_, rfl, ?_, ?_⟩
      · rw [hserve]
        simpa using State.closeFrame_answers w.endRestIfDue.fridgeAttention _
      · rw [hserve, heq]
        exact hover.ports (by rw [show u.port = s.port by rw [hu]]; exact hframe) (hport _)
  · exact refuses_of (f := reqFclear) hs rfl (by simp [reqFclear, hne])
  · obtain ⟨v, hv⟩ : ∃ v : State, v = (s.inFrame.withFridge (fun f => { f with stalls := 0 })).fridgeGo .rest := ⟨_, rfl⟩
    have hreq : reqFclear s.inFrame = (v.pass.endRestIfDue, done (.fridgeState v.pass.endRestIfDue.fridge.state)) := by
      have hstate : s.inFrame.fridge.state = .fault := by simpa using hf
      rw [reqFclear, if_neg (not_not.mpr hstate), hv]
    have hserve := State.takeFrame_served s reqFclear hs
    rw [hreq] at hserve
    have hstart : s.inFrame.rst.asserted = false := by simpa using hs.1
    have hvr : v.rst.asserted = false := by simpa [hv] using hs.1
    have hnoticed : s.inFrame.noticed v := by
      rw [hv]
      exact State.fridgeGo_noticed _ (State.withFridge_noticed _ (.refl _))
    have hflag : Notice.fridge.inByte v.port.flags = true := by
      rw [hv]
      exact State.fridgeGo_flag _ _ (by simpa using hs.1)
    have hafter := State.pass_spec v hvr
    have hthen : State.thenPass { s with fridge := { s.fridge with state := .rest, stalls := 0 } } [] v.pass := by
      refine State.thenPass_of ?_ hvr (hframe.trans hnoticed.flagsKept) ?_
      · have honly : v = { s.inFrame with fridge := v.fridge, port := v.port } := by
          rw [hv]
          apply State.ext <;> simp
        have hfridge : v.fridge = { s.fridge with state := .rest, stalls := 0 } := by
          rw [hv, State.fridgeGo_fridge]
          simp
        rw [honly, s.inFrame_eq, hfridge]
      · refine State.sameList.listKept ⟨?_, ?_, ?_, ?_, ?_, ?_, hframe.trans hnoticed.flagsKept⟩ [] <;>
          simp [hv]
    have hrest : v.fridge.state = .rest := by rw [hv, State.fridgeGo_fridge]
    obtain ⟨-, -, -, -, -, -, -, hworked, -⟩ := id hafter
    have hbr : v.pass.rst.asserted = false := by simpa using hvr
    have hclose := (State.closeFrame_flags v.pass.endRestIfDue (done (.fridgeState v.pass.endRestIfDue.fridge.state))).2
    have hbrest := (hworked.state_kept (.inl hrest)).trans hrest
    refine ⟨_, rfl, ?_, v.pass, hthen, hbrest, ?_, fun hd => ?_, fun hn => ?_⟩
    · rw [hserve]
      exact State.closeFrame_answers _ _
    · rw [hserve]
      exact hclose.flag .fridge ((v.pass.endRestIfDue_frame.noticed.flagsKept).flag .fridge (hafter.flag hflag))
    · rw [hserve, State.closeFrame_eq]
      exact (State.endRestIfDue_over hbr hbrest hd).ports (.refl _) hclose
    · have hstill : v.pass.endRestIfDue = v.pass := if_neg (by omega)
      rw [hserve, hstill, State.closeFrame_eq]

/-! ### O40: the counters -/

theorem State.warmRunComplete_does {s : State} (hr : s.rst.asserted = false) (hw : s.fridge.warmRun = some 1200) :
    State.presenterOnly { s with fridge := { s.fridge with warmRun := none } } [(.part, .fridgeWarm)] s.warmRunComplete ∧
    hasPair .part .fridgeWarm s.warmRunComplete.warn.entries = true ∧
    (s.fridge.state = .fault → Notice.fridge.inByte s.warmRunComplete.port.flags = true) := by
  obtain ⟨w, hwork⟩ : ∃ w : State, w = { s with fridge := { s.fridge with warmRun := none } } := ⟨_, rfl⟩
  have hwr : w.rst.asserted = false := by rw [hwork]; exact hr
  have heq : s.warmRunComplete = (w.raise .part .fridgeWarm).fridgeAttention := by
    rw [State.warmRunComplete, if_pos hw, hwork]
    rfl
  have hnoticed : w.noticed (w.raise .part .fridgeWarm).fridgeAttention :=
    State.fridgeAttention_noticed (State.raise_noticed _ _ (.refl w))
  rw [← hwork, heq]
  refine ⟨⟨?_, hnoticed.flagsKept, ?_⟩, ?_, fun hf => ?_⟩
  · have hrst := raise_rst hwr .part .fridgeWarm
    apply State.ext <;> simp [hrst]
    apply Timers.ext <;> simp
  · refine State.raise_listKept hwr (.refl w) ?_
    exact State.noticed.sameList (State.fridgeAttention_noticed (.refl _)) (by simp) (by simp) (by simp) (by simp) (by simp)
  · have hpair := (hasPair_raise hwr .part .part .fridgeWarm .fridgeWarm).mpr (.inr ⟨rfl, rfl⟩)
    simpa using hpair
  · rw [State.fridgeAttention, State.noticeIf_inByte]
    simp [hwork, hf, hr]

/-- Settles O40. -/
theorem fridgeCountersFallDue : Obligations.FridgeCountersFallDue := by
  unfold Obligations.FridgeCountersFallDue
  intro s hr
  have hmin : exec .minOffEnd s = .next s.minOffEnd := exec_released (c := .minOffEnd) rfl hr
  have hon : exec .fixedCycleOnEnd s = .next s.fixedCycleOnEnd := exec_released (c := .fixedCycleOnEnd) rfl hr
  have hoff : exec .fixedCycleOffEnd s = .next s.fixedCycleOffEnd := exec_released (c := .fixedCycleOffEnd) rfl hr
  have hclear : exec .fridgeRunClearsStalls s = .next s.runClearsStalls :=
    exec_released (c := .fridgeRunClearsStalls) rfl hr
  have hwarm : exec .warmRunComplete s = .next s.warmRunComplete := exec_released (c := .warmRunComplete) rfl hr
  rw [hmin, hon, hoff, hclear, hwarm]
  refine ⟨fun hs hd => ⟨_, rfl, ?_⟩, fun hs hf hd => ⟨_, rfl, ?_⟩, fun h1 h2 => ?_, fun hs hf hd => ⟨_, rfl, ?_⟩,
    fun h => ?_, fun hs hf hd => ⟨_, rfl, ?_⟩, fun h => ?_, fun hs hd => ?_, fun h => ?_,
    fun h => ⟨_, rfl, State.warmRunComplete_does hr h⟩, fun h => ?_⟩
  · have heq : s.minOffEnd = s.endRestIfDue := by simp [State.minOffEnd, hs]
    rw [heq]
    exact State.endRestIfDue_over hr hs hd
  · have heq : s.minOffEnd = s.startTest := by simp [State.minOffEnd, hs, hf]
    rw [heq, (State.startTest_idle hs).1 hd]
    exact State.enterStart_on hr
  · unfold State.minOffEnd
    split
    · rw [State.endRestIfDue, if_neg h1]
    next hs =>
      split
      · rfl
      next hf => rw [(State.startTest_idle hs).2 fun hd => h2 ⟨hs, Bool.eq_false_iff.mpr hf, hd⟩]
    · rfl
  · rw [State.fixedCycleOnEnd, if_pos ⟨(FridgeState.turning_iff _).mp hs, hf, hd⟩]
    exact State.stopToRest_off hr
  · rw [State.fixedCycleOnEnd, if_neg fun ⟨hs, hf, hd⟩ => h ⟨(FridgeState.turning_iff _).mpr hs, hf, hd⟩]
  · have heq : s.fixedCycleOffEnd = s.startTest := if_pos hf
    rw [heq, (State.startTest_idle hs).1 (.inl ⟨hf, hd⟩)]
    exact State.enterStart_on hr
  · unfold State.fixedCycleOffEnd
    split
    next hf =>
      by_cases hs : s.fridge.state = .idle
      · rw [(State.startTest_idle hs).2]
        rintro (⟨-, hd⟩ | ⟨hn, -⟩)
        · exact h ⟨hs, hf, hd⟩
        · exact Bool.noConfusion (hf.symm.trans hn)
      · rw [State.startTest_other hs]
    · rfl
  · rw [State.runClearsStalls, if_pos ⟨hs, hd⟩]
    rfl
  · rw [State.runClearsStalls, if_neg (by tauto)]
  · rw [State.warmRunComplete, if_neg h]

/-! ### O41: the tach window -/

theorem gain_eq {n x : Nat} (h : x < n) : gain n x = x + 1 := by
  unfold gain
  split <;> omega

theorem State.fridgeAttention_none {s : State} (h : s.fridge.state ≠ .fault) : s.fridgeAttention = s := by
  simp [State.fridgeAttention, State.noticeIf, h]

/-- R175: a stall short of the third one. -/
theorem State.stall_off {s : State} (hr : s.rst.asserted = false) (hn : s.fridge.stalls < 2) :
    s.compressorOff .rest (s.fridge.stalls + 1) s.stall := by
  obtain ⟨hfridge, h6⟩ := s.stall_does
  rw [gain_eq (by omega), if_neg (by omega)] at hfridge
  exact ⟨hfridge, h6, s.stall_frame.moves, State.stall_flag hr⟩

/-- R11: no order of an unavailable load is ACTIVE or WAITING after a pass. -/
theorem Reading.run_unavailable {r : Reading} {load : Load} (h : r.unavailable load = true) {os : List Order} {o : Order}
    (ho : o ∈ (r.run os).orders) (hl : o.load = load) : o.state ≠ .active ∧ o.state ≠ .waiting := by
  simp only [Reading.run, List.mem_map] at ho
  obtain ⟨p, -, rfl⟩ := ho
  have hstate : ∀ cs ks, r.settleState cs ks p ≠ .active ∧ r.settleState cs ks p ≠ .waiting := fun cs ks => by
    unfold Reading.settleState
    rw [show p.load = load from hl, h]
    split <;> exact ⟨nofun, nofun⟩
  exact hstate _ _

theorem State.stall_timers (s : State) : s.stall.timers = { s.timers with t6 := s.timers.t6.halt } := by
  simp only [State.stall]
  split <;> rw [State.fridgeGo_timers] <;> rfl

/-- R175: the third stall, with its pass. -/
theorem State.stall_faults {s : State} (hr : s.rst.asserted = false) (hn : s.fridge.stalls = 2) :
    s.stall.fridge.state = .fault ∧
    State.thenPass
      { s with
        fridge :=
          { s.fridge with
            state := .fault, compressor := false, speed := 0, offSeconds := 0, onSeconds := none
            startWindows := none, lowWindows := none, runSeconds := none, stalls := 3 }
        timers := { s.timers with t6 := s.timers.t6.halt } }
      [] s.stall.pass ∧
    Notice.fridge.inByte s.stall.pass.port.flags = true ∧
    ∀ o ∈ s.stall.pass.orders, o.load = .fridge → o.state ≠ .active ∧ o.state ≠ .waiting := by
  obtain ⟨hfridge, -⟩ := s.stall_does
  rw [gain_eq (by omega), hn, if_pos rfl] at hfridge
  have hstall : s.stall.rst.asserted = false := by simpa using hr
  have hafter := State.pass_spec _ hstall
  have hkept := s.stall_frame.noticed.flagsKept
  have honly := s.stall_frame.only
  have hstate : s.stall.fridge.state = .fault := by rw [hfridge]
  refine ⟨hstate, State.thenPass_of ?_ hstall hkept ?_, hafter.flag (State.stall_flag hr), fun o ho => ?_⟩
  · rw [← s.stall_timers] at *
    generalize s.stall = t at *
    rw [honly, hfridge]
  · refine State.sameList.listKept ⟨?_, ?_, ?_, ?_, ?_, ?_, hkept⟩ [] <;> simp
  · rw [hafter.1] at ho
    exact Reading.run_unavailable (by simp [Reading.unavailable, State.reading_fridge, hstate]) ho

/-- Settles O41. -/
theorem tachWindowFindsStalls : Obligations.TachWindowFindsStalls := by
  unfold Obligations.TachWindowFindsStalls
  intro edges s hr rate hrate u hu
  have hexec : exec (.tachWindowEnd edges) s = .next (s.tachWindow rate) := by
    rw [hrate]
    exact exec_released (c := .tachWindowEnd edges) rfl hr
  have hur : u.rst.asserted = false := by rw [hu]; exact hr
  have hfridge : u.fridge = s.fridge := by rw [hu]
  have htimers : u.timers = s.timers := by rw [hu]
  have hwindow : s.tachWindow rate =
      (u.tachReading rate).passIf (decide ((u.tachReading rate).fridge.state = .fault) && decide (s.fridge.state ≠ .fault)) := by
    rw [hu]
    rfl
  have hstay : (u.tachReading rate).fridge.state ≠ .fault → s.tachWindow rate = u.tachReading rate := fun h => by
    rw [hwindow, decide_eq_false h]
    rfl
  rw [hexec]
  have hstart : s.fridge.state = .start → u.tachReading rate =
      if 20 ≤ rate then u.enterFridgeRun
      else if 10 ≤ s.fridge.startWindows.getD 0 + 1 then u.stall
      else u.withFridge (fun f => { f with startWindows := some (s.fridge.startWindows.getD 0 + 1) }) := fun hs => by
    simp [State.tachReading, State.fridgeAttention_none (s := u) (by rw [hfridge, hs]; exact nofun), hfridge, hs]
  have hrun : s.fridge.state = .run → u.tachReading rate =
      if 5 ≤ (if rate < 15 then s.fridge.lowWindows.getD 0 + 1 else 0) then u.stall
      else u.withFridge (fun f =>
        { f with lowWindows := some (if rate < 15 then s.fridge.lowWindows.getD 0 + 1 else 0) }) := fun hs => by
    simp [State.tachReading, State.fridgeAttention_none (s := u) (by rw [hfridge, hs]; exact nofun), hfridge, hs]
  refine ⟨fun hs h => ?_, fun hs h hn => ?_, fun hs h => ?_, fun hs h hn => ?_, fun h => ?_, fun h => ?_⟩
  · have heq : u.tachReading rate = u.enterFridgeRun := by rw [hstart hs, if_pos h]
    have hdoes : u.enterFridgeRun.fridge =
        { s.fridge with state := .run, startWindows := none, lowWindows := some 0, runSeconds := some 0 } := by
      rw [State.enterFridgeRun, State.fridgeGo_fridge, ← hfridge]
      rfl
    rw [hstay (by rw [heq, hdoes]; exact nofun), heq]
    refine ⟨_, rfl, ?_, State.fridgeGo_flag _ _ (by simpa using hur), ?_, hdoes⟩
    · exact State.fridgeFrame.moves ((State.withFridge_frame _ _ rfl).trans (State.fridgeGo_frame _ _))
    · rw [State.enterFridgeRun, State.fridgeGo_timers, ← htimers]
      rfl
  · have heq := hstart hs
    rw [if_neg (by omega), if_neg (by omega)] at heq
    rw [hstay (by rw [heq]; simp [State.withFridge, hfridge, hs]), heq, State.withFridge, hfridge]
  · have heq := hrun hs
    rw [if_neg (show ¬rate < 15 by omega), if_neg (by omega)] at heq
    rw [hstay (by rw [heq]; simp [State.withFridge, hfridge, hs]), heq, State.withFridge, hfridge]
  · have heq := hrun hs
    rw [if_pos (show rate < 15 from h), if_neg (by omega)] at heq
    rw [hstay (by rw [heq]; simp [State.withFridge, hfridge, hs]), heq, State.withFridge, hfridge]
  · have heq : u.tachReading rate = u.stall := by
      obtain ⟨hs, h1, h2⟩ | ⟨hs, h1, h2⟩ := h
      · rw [hstart hs, if_neg (by omega), if_pos (by omega)]
      · rw [hrun hs, if_pos h1, if_pos (by omega)]
    refine ⟨fun hn => ?_, fun hn => ?_⟩
    · have hoff := State.stall_off hur (by rw [hfridge]; exact hn)
      rw [hfridge] at hoff
      rw [hstay (by rw [heq, hoff.1]; exact nofun), heq]
      exact ⟨_, rfl, hoff⟩
    · obtain ⟨hfault, hthen, hflag, horders⟩ := State.stall_faults hur (by rw [hfridge]; exact hn)
      have hne : s.fridge.state ≠ .fault := by
        obtain ⟨hs, -⟩ | ⟨hs, -⟩ := h <;> rw [hs] <;> exact nofun
      have hpass : s.tachWindow rate = u.stall.pass := by
        rw [hwindow, heq, decide_eq_true hfault, decide_eq_true hne]
        rfl
      refine ⟨_, rfl, ?_, ?_, ?_, ?_⟩
      · obtain ⟨-, -, -, -, -, -, -, hworked, -⟩ := State.pass_spec u.stall (by simpa using hur)
        rw [hpass, hworked.state_kept (.inr hfault), hfault]
      · rw [hpass]; exact hflag
      · rw [hpass]; exact horders
      · rw [hpass, ← hfridge, ← htimers]
        exact hthen
  · have heq : u.tachReading rate = u.fridgeAttention := by
      have hne : u.fridgeAttention.fridge.state.turning = false := by simpa [hfridge] using h
      unfold State.tachReading
      dsimp only
      split
      next hs => rw [hs] at hne; cases hne
      next hs => rw [hs] at hne; cases hne
      next => rfl
    have hidle : s.tachWindow rate = u.fridgeAttention := by
      have hboth : (decide ((u.tachReading rate).fridge.state = .fault) && decide (s.fridge.state ≠ .fault)) = false := by
        rw [heq]
        simp [hfridge]
      rw [hwindow, hboth, heq]
      rfl
    refine ⟨_, rfl, ?_, ?_, fun hf => ?_⟩
    · rw [hidle]
      apply State.ext <;> simp
    · rw [hidle]
      exact u.fridgeAttention_frame.noticed.flagsKept
    · rw [hidle, State.fridgeAttention, State.noticeIf_inByte]
      simp [hfridge, hf, hur]

end Sys2Proof.Machine
end

section
/-! PROOF. The heater's requests and the end of its cooldown: O35 and O37. -/
namespace Sys2Proof.Machine

theorem heaterArg_store (a : HeaterArg) :
    a.store =
      { preheat := clampNat 20 90 a.preheat, ignition := clampNat 60 180 a.ignition
        cooldown := clampNat 120 300 a.cooldown, startRate := clampNat 20 300 a.startRate
        rate1 := clampNat 20 300 a.rate1, rate2 := clampNat 20 300 a.rate2, rate3 := clampNat 20 300 a.rate3
        rate4 := clampNat 20 300 a.rate4, pulseWidth := clampNat 20 50 a.pulseWidth
        fan1 := min a.fan1 1000, fan2 := min a.fan2 1000, fan3 := min a.fan3 1000, fan4 := min a.fan4 1000 } := by
  simp only [Sys2Proof.HeaterArg.store, clampNat_zero]

/-! ### O35: HSET and HCLEAR -/

/-- R163: LOCKOUT left from a state whose port alone may differ, up to the pass that follows. -/
theorem State.leaveLockout_does {s work v : State} {p : Port} {clear : Bool} (hr : s.rst.asserted = false)
    (hp : s.port.settingsKept p)
    (hwork : work = { s with heater := { s.heater with state := .off, failed := 0, fuel := if clear then 0 else s.heater.fuel } })
    (hv : v = ({ s with port := p } : State).leaveLockout.clearFuel clear) :
    v = { work with warn := v.warn, timers := { work.timers with t7 := v.timers.t7 }, port := v.port } ∧
    work.port.settingsKept v.port ∧ Notice.heater.inByte v.port.flags = true ∧
    hasPair .part .heaterLockout v.warn.entries = false ∧ work.listKept [(.part, .heaterLockout)] v := by
  obtain ⟨b, hb⟩ : ∃ b : State, b = { s with port := p } := ⟨_, rfl⟩
  obtain ⟨u, hu⟩ : ∃ u, u = (b.withHeater (fun h => { h with failed := 0 })).heaterGo .off := ⟨_, rfl⟩
  rw [← hb] at hv
  have hbr : b.rst.asserted = false := by rw [hb]; exact hr
  have hnoticed : b.noticed u := by
    rw [hu]
    exact State.heaterGo_noticed _ (State.withHeater_noticed _ (.refl b))
  have hur : u.rst.asserted = false := hnoticed.1.trans hbr
  have hport : s.port.settingsKept u.port := by
    have h := hnoticed.flagsKept
    rw [show b.port = p by rw [hb]] at h
    exact hp.trans h
  have hsame : s.sameList u := ⟨hur.trans hr.symm, by simp [hu, hb], by simp [hu, hb], by simp [hu, hb], by simp [hu, hb],
    by simp [hu, hb], hport⟩
  have hclear : v = { u.remove .part .heaterLockout with heater := v.heater } := by
    rw [hv, hu]
    cases clear <;> rfl
  have hkept : u.port.settingsKept v.port := by
    rw [hclear]
    exact (State.remove_noticed _ _ (.refl u)).flagsKept
  have hgo : Notice.heater.inByte u.port.flags = true := by
    rw [hu]
    exact State.heaterGo_flag _ _ (by simpa using hbr)
  have hheater : v.heater = work.heater := by
    rw [hv, hwork]
    cases clear <;> simp [State.clearFuel, State.withHeater, State.leaveLockout, State.heaterGo_heater, hb]
  have hrst : (u.remove .part .heaterLockout).rst = s.rst := by
    rw [State.remove_rst hur, hu, hb]
    simp
  have hwport : work.port = s.port := by rw [hwork]
  refine ⟨?_, hwport ▸ hport.trans hkept, hkept.flag .heater hgo, ?_, ?_⟩
  · obtain ⟨t, ht⟩ : ∃ t, t = u.remove .part .heaterLockout := ⟨_, rfl⟩
    rw [← ht] at hclear hrst
    have honly : t = { s with warn := t.warn, heater := t.heater, timers := { s.timers with t7 := t.timers.t7 }, port := t.port } := by
      apply State.ext
      case rst => exact hrst
      all_goals simp [ht, hu, hb]
    rw [hheater, honly] at hclear
    rw [hclear, hwork]
  · rw [hclear, Bool.eq_false_iff, ne_eq]
    exact fun h => ((hasPair_remove hur _ _ _ _).mp h).2 ⟨rfl, rfl⟩
  · rw [hwork]
    refine State.remove_listKept (s := s) hr hsame ?_
    rw [hclear]
    exact ⟨rfl, rfl, rfl, rfl, rfl, rfl, .refl _⟩

/-- Settles O35. -/
theorem hsetAndHclearAct : Obligations.HsetAndHclearAct := by
  unfold Obligations.HsetAndHclearAct
  intro s hs
  refine ⟨fun a h1 h2 => ?_, fun a hst x hx => ?_, ?_, fun clear => ⟨fun h ho => ?_, fun h hc => ?_, fun h hc => ?_,
    fun h ho => ?_⟩⟩
  · exact refuses_of (f := reqHset a) hs rfl (by simp [reqHset, h1, h2])
  · rw [← heaterArg_store] at hx
    obtain ⟨w, hw⟩ : ∃ w : State, w = s.inFrame.withHeater (fun h => { h with params := x }) := ⟨_, rfl⟩
    have hreq : reqHset a s.inFrame = (w.heaterAttention, doneIf (decide (x ≠ a.raw)) (.heaterParams x)) := by
      have hframe : s.inFrame.heater.state = .off ∨ s.inFrame.heater.state = .lockout := by simpa using hst
      rw [reqHset, if_pos hframe, hw, hx]
    have hserve := State.takeFrame_served s (reqHset a) hs
    rw [hreq] at hserve
    refine ⟨_, rfl, ?_, ?_, ?_⟩
    · rw [hserve]
      exact State.closeFrame_answers _ _
    · rw [hserve, State.closeFrame_eq, State.heaterAttention, State.noticeIf_eq, hw, s.inFrame_eq]
      rfl
    · rw [hserve]
      have hattention : w.port.settingsKept w.heaterAttention.port := (State.heaterAttention_noticed (.refl w)).flagsKept
      rw [show w.port = s.inFrame.port by rw [hw]; rfl] at hattention
      exact (s.inFrame_settingsKept.trans hattention).trans (State.closeFrame_flags _ _).2
  · exact refuses_of (f := reqHclear none) hs rfl rfl
  · exact refuses_of (f := reqHclear (some clear)) hs rfl (by simp [reqHclear, h, State.overheated, ho])
  · exact refuses_of (f := reqHclear (some clear)) hs rfl (by simp [reqHclear, h, hc])
  · refine writes_of (f := reqHclear (some clear)) hs rfl ?_
    rw [State.inFrame_of_port (s := s) (t := { s with heater := { s.heater with fuel := 0 } }) rfl, s.inFrame_eq, hc]
    simp [reqHclear, h, State.clearFuel, State.clearedReply, State.withHeater]
  · obtain ⟨v, hv⟩ : ∃ v : State, v = s.inFrame.leaveLockout.clearFuel clear := ⟨_, rfl⟩
    have hfr : s.inFrame.rst.asserted = false := by simpa using hs.1
    obtain ⟨hwork, hport, hflag, hpair, hlist⟩ :=
      State.leaveLockout_does (v := v) (clear := clear) hs.1 s.inFrame_settingsKept rfl (by rw [hv, s.inFrame_eq])
    have hreq : reqHclear (some clear) s.inFrame = (v.pass, v.pass.clearedReply) := by
      simp [reqHclear, h, State.overheated, ho, hv]
    have hvr : v.rst.asserted = false := by rw [hwork]; exact hs.1
    obtain ⟨-, hpass, heq⟩ := State.takeFrame_after hs hvr hreq
    obtain ⟨hans, hthen⟩ := State.takeFrame_thenPass hs hreq hwork hvr hport hlist
    refine ⟨_, rfl, ?_, hpass.flag hflag, fun hh => ?_, hthen⟩
    · obtain ⟨-, -, -, -, -, -, -, -, -, -, -, ⟨-, hfuel, -⟩, -⟩ := hpass
      have hreply : v.pass.clearedReply =
          done (.heaterCleared (s.takeFrame (reqHclear (some clear))).heater.state (if clear then 0 else s.heater.fuel)) := by
        have hheater : (s.takeFrame (reqHclear (some clear))).heater = v.pass.heater := by rw [heq]; simp
        have hwfuel : v.heater.fuel = if clear then 0 else s.heater.fuel := by rw [hwork]
        rw [State.clearedReply, ← hwfuel, ← hfuel, hheater]
      rw [← hreply]
      exact hans
    · rw [hpass.hasPair (by decide), hpair]

/-! ### O37: the end of a cooldown -/

/-- R158: LOCKOUT, with its warning and its pass. -/
theorem State.enterLockout_does {s : State} (hr : s.rst.asserted = false) :
    State.thenPass s.lockHeater [(.part, .heaterLockout)] s.endCooldown.enterLockout ∧
    s.endCooldown.enterLockout.heater.state = .lockout ∧
    s.endCooldown.enterLockout.heater.presented = presentedFor .heater s.endCooldown.enterLockout.orders ∧
    (∀ o ∈ s.endCooldown.enterLockout.orders, o.load = .heater → o.state ≠ .active ∧ o.state ≠ .waiting) ∧
    Notice.heater.inByte s.endCooldown.enterLockout.port.flags = true ∧
    hasPair .part .heaterLockout s.endCooldown.enterLockout.warn.entries = true := by
  obtain ⟨w, hw⟩ : ∃ w, w = s.lockHeater := ⟨_, rfl⟩
  obtain ⟨v, hv⟩ : ∃ v, v = (w.raise .part .heaterLockout).notice .heater := ⟨_, rfl⟩
  have heq : s.endCooldown.enterLockout = v.pass := by rw [hv, hw]; rfl
  have hwr : w.rst.asserted = false := by rw [hw]; simpa [State.lockHeater, State.endCooldown] using hr
  have hnoticed : w.noticed v := by
    rw [hv]
    exact State.notice_noticed _ (State.raise_noticed _ _ (.refl w))
  have hraised : (w.raise .part .heaterLockout).sameList v := by
    rw [hv]
    exact State.noticed.sameList (State.notice_noticed _ (.refl _)) (by simp) (by simp) (by simp) (by simp) (by simp)
  have hvr : v.rst.asserted = false := hnoticed.1.trans hwr
  have hstate : v.heater.state = .lockout := by
    rw [hv, hw]
    simp [State.lockHeater, State.writeFan]
  have hlocked := (State.pass_locked hvr hstate).1
  have hafter := State.pass_spec v hvr
  have hpair : hasPair .part .heaterLockout v.warn.entries = true := by
    rw [hraised.warn]
    exact (hasPair_raise hwr _ _ _ _).mpr (.inr ⟨rfl, rfl⟩)
  rw [heq, ← hw]
  refine ⟨State.thenPass_of ?_ hvr hnoticed.flagsKept (State.raise_listKept hwr (.refl w) hraised), ?_, ?_, fun o ho hl => ?_,
    ?_, ?_⟩
  · have hrst : v.rst = w.rst := by rw [hv]; simpa using State.raise_rst hwr _ _
    apply State.ext
    case rst => exact hrst
    case timers => apply Timers.ext <;> simp [hv]
    all_goals simp [hv]
  · rw [hlocked]
    exact hstate
  · exact hafter.2.2.2.1 .heater
  · rw [hafter.1] at ho
    exact Reading.run_unavailable (by simp [Reading.unavailable, State.reading_heater, hstate]) ho hl
  · refine hafter.flag ?_
    rw [hv, State.notice_inByte]
    simp [hwr]
  · rw [hafter.hasPair (by decide), hpair]

theorem State.enterSatisfied_moves {s : State} (hr : s.rst.asserted = false) :
    s.heaterMoves s.enterSatisfied ∧ s.enterSatisfied.timers.t5.given 0 1000 ∧
    s.enterSatisfied.heater = { s.heater with state := .satisfied, phase := none } := by
  have hnoticed : s.noticed s.enterSatisfied :=
    State.heaterGo_noticed _ (State.writeFan_noticed _ (State.withHeater_noticed _ (.refl s)))
  refine ⟨⟨?_, hnoticed.flagsKept, State.heaterGo_flag _ _ (by simpa using hr)⟩, ?_, ?_⟩
  · apply State.eq_of_heaterOnly <;> simp [State.enterSatisfied]
  · rw [State.enterSatisfied, State.heaterGo_timers]
    exact State.writeFan_given _ _
  · rw [State.enterSatisfied, State.heaterGo_heater]
    simp [State.writeFan]

/-- Settles O37. -/
theorem cooldownEndsByTable31 : Obligations.CooldownEndsByTable31 := by
  unfold Obligations.CooldownEndsByTable31
  intro s hr u hu
  have hexec : exec .cooldownExpiry s = .next s.cooldownExpiry := exec_released (c := .cooldownExpiry) rfl hr
  have hend : s.endCooldown = u := by rw [hu]; rfl
  have hur : u.rst.asserted = false := by rw [hu]; exact hr
  rw [hexec]
  refine ⟨fun hs => by rw [State.cooldownExpiry, if_pos hs], fun hs => ⟨fun hc => ?_, fun h1 h2 => ⟨fun hc => ?_,
    fun hc hp => ?_, fun hc hp => ?_⟩⟩⟩
  · have heq : s.cooldownExpiry = s.endCooldown.enterLockout := by
      rw [State.cooldownExpiry, if_neg (not_not.mpr hs)]
      obtain hc | hc := hc
      · rw [if_pos hc]
      · rw [if_neg (by rw [hc.1]; exact nofun), if_pos hc]
    obtain ⟨hthen, hstate, hpres, horders, hflag, hpair⟩ := State.enterLockout_does hr
    rw [heq]
    refine ⟨_, rfl, ?_, hstate, hpres, horders, hflag, fun _ => hpair⟩
    rw [hu]
    exact hthen
  all_goals
    have heq : s.cooldownExpiry =
        if s.heater.cause = some .satisfied then u.enterSatisfied
        else if s.heater.restart = true ∧ s.sense.ovht.level = false then u.enterPreheat else u.enterOff := by
      rw [State.cooldownExpiry, if_neg (not_not.mpr hs), if_neg h1, if_neg h2, hend]
      rfl
  · rw [heq, if_pos hc]
    exact ⟨_, rfl, State.enterSatisfied_moves hur⟩
  · rw [heq, if_neg hc, if_pos hp]
    exact ⟨_, rfl, State.enterPreheat_preheated hur⟩
  · rw [heq, if_neg hc, if_neg hp]
    refine ⟨_, rfl, State.enterOff_moves hur, ?_, ?_⟩
    · rw [State.enterOff, State.heaterGo_timers]
      exact State.writeFan_given _ _
    · rw [State.enterOff, State.heaterGo_heater]
      simp [State.writeFan]

end Sys2Proof.Machine
end

section
/-! PROOF. The temperature windows and the C3 reading: O45 and O47. -/
namespace Sys2Proof.Machine

/-! ### The C3 reading in its two parts -/

/-- R168, R174: the first part of a C3 reading: the cooling call, the warm run and FRIDGE_WARM. -/
def State.coldCall (s : State) (value : Int) (fault faulted : Bool) : State :=
  let a := s.fridgeAttention.withFridge (fun f => { f with call := f.workCall value fault })
  if fault then (if faulted then a.withFridge (fun f => { f with warmRun := none }) else a) else a.workWarm value

/-- R168, R169, R173: the second part: the compressor. -/
def State.coldAct (s : State) (value : Int) (fault faulted : Bool) : State :=
  if fault then (if faulted then s.c3Faults else s)
  else
    match s.fridge.state, s.fridge.presented with
    | .idle, _ => s.startTest
    | .run, some p => s.c3InRun p.setpoint value
    | _, _ => s

theorem State.fridgeReading_eq (s : State) (value : Int) (fault faulted : Bool) :
    s.fridgeReading value fault faulted = (s.coldCall value fault faulted).coldAct value fault faulted := by
  cases fault <;> cases faulted <;> rfl

/-- R174: the warm run after a reading. -/
def Fridge.warmAfter (f : Fridge) (value : Int) (fault faulted : Bool) : Option Nat :=
  if fault then (if faulted then none else f.warmRun)
  else
    match f.monitored with
    | none => f.warmRun
    | some x => if x + 80 ≤ value then some (f.warmRun.getD 0) else none

/-- R174: whether a reading ends FRIDGE_WARM. -/
def Fridge.coolEnough (f : Fridge) (value : Int) (fault : Bool) : Prop :=
  fault = false ∧ ∃ x, f.monitored = some x ∧ value < x + 40

theorem State.dropEntry_gone (s : State) : s.warn.fridgeWarmGone (s.dropEntry .part .fridgeWarm).warn := by
  unfold State.dropEntry
  split
  next hp =>
    refine ⟨fun h => ?_, fun _ => ⟨rfl, ?_, rfl, ?_, ?_, ?_⟩⟩
    · have hgone := hasPair_erasePair .part .fridgeWarm s.warn.entries
      simp only [Warn.workLamp] at h
      rw [hgone, hp] at h
      cases h
    · cases s.warn.chime <;> rfl
    all_goals simp only [Warn.workLamp]; intro h; simp only [h]
    by_cases k : s.warn.lamp = .flashing <;> simp [k]
  next => exact ⟨fun _ => rfl, fun h => absurd rfl h⟩

/-- R174: what a valid reading makes of the warm run and of FRIDGE_WARM. -/
theorem State.workWarm_does {s : State} (hr : s.rst.asserted = false) (value : Int) :
    (s.workWarm value).fridge = { s.fridge with warmRun := s.fridge.warmAfter value false false } ∧
    s.workWarm value = { s with fridge := (s.workWarm value).fridge, warn := (s.workWarm value).warn } ∧
    s.warn.fridgeWarmGone (s.workWarm value).warn ∧
    (s.listed .part .fridgeWarm = hasPair .part .fridgeWarm s.warn.entries →
      (hasPair .part .fridgeWarm (s.workWarm value).warn.entries = true ↔
        hasPair .part .fridgeWarm s.warn.entries = true ∧ ¬s.fridge.coolEnough value false)) := by
  unfold Fridge.warmAfter Fridge.coolEnough
  cases hm : s.fridge.monitored with
  | none =>
    have heq : s.workWarm value = s := by simp [State.workWarm, hm]
    rw [heq]
    exact ⟨rfl, rfl, ⟨fun _ => rfl, fun h => absurd rfl h⟩, fun _ => by simp⟩
  | some x =>
    obtain ⟨w, hw⟩ : ∃ w : State, w = s.withFridge (fun f =>
        { f with
          warmRun :=
            if x + 80 ≤ value then
              (match f.warmRun with
               | some n => some n
               | none => some 0)
            else none }) := ⟨_, rfl⟩
    have hfridge : w.fridge = { s.fridge with warmRun := if x + 80 ≤ value then some (s.fridge.warmRun.getD 0) else none } := by
      rw [hw]
      cases hrun : s.fridge.warmRun <;> simp [State.withFridge, hrun]
    have honly : w = { s with fridge := w.fridge } := by rw [hw]; rfl
    have hwr : w.rst.asserted = false := by rw [honly]; exact hr
    have hwarn : w.warn = s.warn := by rw [honly]
    have hlisted : w.listed .part .fridgeWarm = s.listed .part .fridgeWarm := by rw [honly]; rfl
    have heq : s.workWarm value =
        if value < x + 40 ∧ w.listed .part .fridgeWarm = true then w.remove .part .fridgeWarm else w := by
      rw [hw, State.workWarm, hm] <;> rfl
    dsimp only
    rw [heq, if_neg Bool.false_ne_true, ← hfridge, hlisted]
    split
    next hd =>
      rw [State.remove_released w _ _ hwr]
      refine ⟨by simp, ?_, hwarn ▸ w.dropEntry_gone, fun hl => ?_⟩
      · apply State.ext <;> simp
        all_goals rw [honly]
      · have hno := w.hasPair_dropEntry .part .fridgeWarm
        simp [hno, hd.1]
    next hd =>
      refine ⟨rfl, by rw [hwarn]; exact honly, hwarn ▸ ⟨fun _ => rfl, fun h => absurd rfl h⟩, fun hl => ?_⟩
      rw [hl] at hd
      rw [hwarn]
      grind

section
variable {s : State} (hr : s.rst.asserted = false) (value : Int) (fault faulted : Bool)
include hr

theorem State.coldCall_does :
    (s.coldCall value fault faulted).fridge =
      { s.fridge with
        call := s.fridge.workCall value fault, warmRun := s.fridge.warmAfter value fault faulted } ∧
    s.coldCall value fault faulted =
      { s with
        fridge := (s.coldCall value fault faulted).fridge, warn := (s.coldCall value fault faulted).warn
        port := (s.coldCall value fault faulted).port } ∧
    s.port.settingsKept (s.coldCall value fault faulted).port ∧
    s.warn.fridgeWarmGone (s.coldCall value fault faulted).warn ∧
    (s.listed .part .fridgeWarm = hasPair .part .fridgeWarm s.warn.entries →
      (hasPair .part .fridgeWarm (s.coldCall value fault faulted).warn.entries = true ↔
        hasPair .part .fridgeWarm s.warn.entries = true ∧ ¬s.fridge.coolEnough value fault)) ∧
    (s.fridge.state = .fault → Notice.fridge.inByte (s.coldCall value fault faulted).port.flags = true) ∧
    ∀ n : Notice, n ≠ .fridge → n.inByte (s.coldCall value fault faulted).port.flags = n.inByte s.port.flags := by
  obtain ⟨a, ha⟩ : ∃ a : State, a = s.fridgeAttention.withFridge (fun f => { f with call := f.workCall value fault }) :=
    ⟨_, rfl⟩
  have honly : a = { s with fridge := a.fridge, port := a.port } := by
    rw [ha]
    apply State.ext <;> simp
  have hfridge : a.fridge = { s.fridge with call := s.fridge.workCall value fault } := by
    rw [ha]
    simp
  have hport : s.port.settingsKept a.port := by
    rw [ha]
    exact (State.withFridge_noticed _ (State.fridgeAttention_noticed (.refl s))).flagsKept
  have hflag : s.fridge.state = .fault → Notice.fridge.inByte a.port.flags = true := fun hf => by
    rw [ha]
    simp [State.fridgeAttention, State.noticeIf_inByte, hf, hr]
  have hother : ∀ n : Notice, n ≠ .fridge → n.inByte a.port.flags = n.inByte s.port.flags := fun n hn => by
    rw [ha]
    simp [State.fridgeAttention, State.noticeIf_inByte, Ne.symm hn]
  have hwarn : a.warn = s.warn := by rw [honly]
  have hself : s.warn.fridgeWarmGone s.warn := ⟨fun _ => rfl, fun h => absurd rfl h⟩
  have har : a.rst.asserted = false := by rw [honly]; exact hr
  unfold State.coldCall
  dsimp only
  rw [← ha]
  cases fault with
  | true =>
    cases faulted with
    | true =>
      simp only [if_true]
      refine ⟨?_, ?_, hport, hwarn ▸ hself, fun _ => by simp [hwarn, Fridge.coolEnough], hflag, hother⟩
      · simp [hfridge, Fridge.warmAfter]
      · rw [honly]
        rfl
    | false =>
      simp only [if_true, Bool.false_eq_true, if_false]
      refine ⟨?_, by rw [hwarn]; exact honly, hport, hwarn ▸ hself, fun _ => by simp [hwarn, Fridge.coolEnough], hflag, hother⟩
      simp [hfridge, Fridge.warmAfter]
  | false =>
    obtain ⟨h1, h2, h3, h4⟩ := State.workWarm_does har value
    rw [if_neg Bool.false_ne_true]
    have hwport : (a.workWarm value).port = a.port := by rw [h2]
    have hlisted : a.listed .part .fridgeWarm = s.listed .part .fridgeWarm := by rw [honly]; rfl
    have hcool : a.fridge.coolEnough value false ↔ s.fridge.coolEnough value false := by
      rw [hfridge]
      rfl
    rw [hwport]
    refine ⟨?_, ?_, hport, hwarn ▸ h3, fun hl => ?_, hflag, hother⟩
    · rw [h1, hfridge]
      rfl
    · rw [h2, honly]
    · rw [h4 (by rw [hlisted, hl, hwarn]), hwarn, hcool]

end

/-! ### What the compressor makes of a reading -/

section
variable {s t : State} {p q : Port} (hp : s.port.settingsKept p) (hq : t.port.settingsKept q)
include hp hq

theorem State.compressorOff.ports {st : FridgeState} {n : Nat} (h : State.compressorOff { s with port := p } st n t) :
    s.compressorOff st n { t with port := q } :=
  ⟨h.1, h.2.1, h.2.2.1.ports hp hq, hq.flag .fridge h.2.2.2⟩

end

theorem State.coldAct_frame (s : State) (value : Int) (fault faulted : Bool) :
    s.fridgeFrame (s.coldAct value fault faulted) := by
  unfold State.coldAct
  split
  · split
    · exact s.c3Faults_frame
    · exact .refl s
  · split
    · exact s.startTest_frame
    · exact s.c3InRun_frame _ _
    · exact .refl s

theorem State.setSpeed_does (s : State) (v : Nat) :
    (s.setSpeed v).fridge = { s.fridge with speed := v } ∧
    (s.fridge.speed ≠ v → (s.setSpeed v).timers.t6.given (speedDuty v) 1000) := by
  unfold State.setSpeed
  split
  next h => exact ⟨by rw [← h], fun hn => absurd h hn⟩
  next h =>
    exact ⟨by simp, fun _ => Timer.write_given s.timers.t6 _ _⟩

theorem State.fixedCycleOnEnd_flag (s : State) {n : Notice} (hn : n ≠ .fridge) :
    n.inByte s.fixedCycleOnEnd.port.flags = n.inByte s.port.flags := by
  unfold State.fixedCycleOnEnd
  split <;> simp [hn]

theorem State.coldAct_otherFlag (s : State) (value : Int) (fault faulted : Bool) {n : Notice} (hn : n ≠ .fridge) :
    n.inByte (s.coldAct value fault faulted).port.flags = n.inByte s.port.flags := by
  unfold State.coldAct State.c3Faults State.c3InRun
  repeat' split
  all_goals simp [hn, State.fixedCycleOnEnd_flag _ hn]

/-! ### O45: the windows -/

theorem State.windowed_only (s : State) (i : TempId) (n : Nat) :
    s.windowed i n =
      { s with sense := s.sense.setTemp i ((s.sense.temp i).window n), port := (s.windowed i n).port } := by
  apply State.ext <;> simp [State.windowed]

theorem State.windowed_port (s : State) (i : TempId) (n : Nat) : s.port.settingsKept (s.windowed i n).port :=
  (State.noticeIf_noticed (s := { s with sense := s.sense.setTemp i ((s.sense.temp i).window n) }) _ _ (.refl _)).flagsKept

/-- R121: SENSOR is set by a fault that there was or that there is. -/
theorem State.windowed_sensor {s : State} (hr : s.rst.asserted = false) (i : TempId) (n : Nat) :
    Notice.sensor.inByte (s.windowed i n).port.flags = true ↔
      Notice.sensor.inByte s.port.flags = true ∨ (s.sense.temp i).fault = true ∨ ((s.sense.temp i).window n).fault = true := by
  rw [State.windowed, State.noticeIf_inByte]
  simp [hr]

/-- R119, R120: the classes of a count. -/
theorem tempOfCount_eq (n : Nat) :
    tempOfCount n = if n < 900 ∨ 2100 < n then none else some (max (-500) (min 500 ((n : Int) - 1500))) := by
  unfold tempOfCount
  repeat' split
  all_goals first | rfl | omega | (congr 1; omega)

theorem TempChannel.window_eq (c : TempChannel) (n : Nat) :
    c.window n =
      if n < 900 ∨ 2100 < n then { c with fault := true, count := n, validRun := 0 }
      else if c.fault = false then { c with value := max (-500) (min 500 ((n : Int) - 1500)), count := n }
      else if 2 ≤ c.validRun then
        { value := max (-500) (min 500 ((n : Int) - 1500)), fault := false, count := n, validRun := 3 }
      else { c with count := n, validRun := c.validRun + 1 } := by
  unfold TempChannel.window
  rw [tempOfCount_eq]
  by_cases h : n < 900 ∨ 2100 < n
  · rw [if_pos h, if_pos h]
  · rw [if_neg h, if_neg h]

/-- R151, R154: a C2 reading sets no flag but HEATER. -/
theorem State.heaterReading_otherFlag (s : State) (value : Int) (fault : Bool) {n : Notice} (hn : n ≠ .heater) :
    n.inByte (s.heaterReading value fault).port.flags = n.inByte s.port.flags := by
  have hattention : n.inByte s.heaterAttention.port.flags = n.inByte s.port.flags := by
    simp [State.heaterAttention, State.noticeIf_inByte, Ne.symm hn]
  simp only [State.heaterReading]
  split
  · simp [State.c2InRun, State.workSatisfy, hattention]
  · unfold State.c2InSatisfied
    split <;> simp [State.enterPreheat_otherFlag _ hn, hattention]
  · exact hattention

/-- Settles O45. -/
theorem tempWindowMovesItsChannel : Obligations.TempWindowMovesItsChannel := by
  unfold Obligations.TempWindowMovesItsChannel
  intro i edges s hr n hn c hc v hv d hd
  rw [hv, ← TempChannel.window_eq] at hd
  obtain ⟨b, hb⟩ : ∃ b, b = s.windowed i n := ⟨_, rfl⟩
  have hexec : exec (.tempWindowEnd i edges) s = .next (b.presentTemp i d.value d.fault (!c.fault && d.fault)) := by
    rw [exec_tempWindow hr, hb, hd, hc, hn]
  have honly := s.windowed_only i n
  have hport := s.windowed_port i n
  have hsensor := State.windowed_sensor hr i n
  rw [← hb, ← hc, ← hd] at honly
  rw [← hb] at hport
  rw [← hb, ← hc, ← hd] at hsensor
  have hbr : b.rst.asserted = false := by rw [honly]; exact hr
  refine ⟨_, hexec, ?_⟩
  cases i with
  | c2 =>
    obtain ⟨t, ht⟩ : ∃ t, t = b.presentTemp .c2 d.value d.fault (!c.fault && d.fault) := ⟨_, rfl⟩
    have hframe : b.heaterFrame t := by
      rw [ht]
      exact b.heaterReading_frame _ _
    have hflag : Notice.sensor.inByte t.port.flags = Notice.sensor.inByte b.port.flags := by
      rw [ht]
      exact b.heaterReading_otherFlag _ _ (by decide)
    rw [← ht, hflag]
    have htonly := hframe.only
    have hkept := hport.trans hframe.noticed.flagsKept
    generalize b.port = pb at *
    rw [honly] at htonly
    exact ⟨by rw [htonly], hsensor, by rw [htonly], hkept, fun h => absurd rfl h, fun _ => by rw [htonly]; exact ⟨rfl, rfl, rfl⟩⟩
  | c3 =>
    obtain ⟨m, hm⟩ : ∃ m, m = b.coldCall d.value d.fault (!c.fault && d.fault) := ⟨_, rfl⟩
    obtain ⟨t, ht⟩ : ∃ t, t = b.presentTemp .c3 d.value d.fault (!c.fault && d.fault) := ⟨_, rfl⟩
    obtain ⟨-, hmonly, hmport, -, -, -, hmflag⟩ := State.coldCall_does hbr d.value d.fault (!c.fault && d.fault)
    have hact : t = m.coldAct d.value d.fault (!c.fault && d.fault) := by
      rw [ht, hm, ← State.fridgeReading_eq]
      rfl
    have hframe : m.fridgeFrame t := by
      rw [hact]
      exact m.coldAct_frame _ _ _
    rw [← hm] at hmonly hmport hmflag
    have hflag : Notice.sensor.inByte t.port.flags = Notice.sensor.inByte b.port.flags := by
      rw [hact, State.coldAct_otherFlag _ _ _ _ (by decide), hmflag _ (by decide)]
    rw [← ht, hflag]
    have htonly := hframe.only
    have hkept := (hport.trans hmport).trans hframe.noticed.flagsKept
    generalize b.port = pb at *
    rw [honly] at hmonly
    rw [hmonly] at htonly
    exact ⟨by rw [htonly], hsensor, by rw [htonly], hkept, fun _ => by rw [htonly]; exact ⟨rfl, rfl, rfl⟩, fun h => absurd rfl h⟩
  | c4 =>
    obtain ⟨t, ht⟩ : ∃ t, t = b.presentTemp .c4 d.value d.fault (!c.fault && d.fault) := ⟨_, rfl⟩
    have htonly : t = { b with port := t.port } := by
      rw [ht]
      exact State.noticeIf_eq _ _ _
    have hflag : Notice.sensor.inByte t.port.flags = Notice.sensor.inByte b.port.flags := by
      rw [ht]
      simp [State.presentTemp, State.heaterAttention, State.noticeIf_inByte]
    have hkept : s.port.settingsKept t.port := by
      rw [ht]
      exact hport.trans (State.heaterAttention_noticed (.refl b)).flagsKept
    rw [← ht, hflag]
    generalize b.port = pb at *
    rw [honly] at htonly
    exact ⟨by rw [htonly], hsensor, by rw [htonly], hkept, fun _ => by rw [htonly]; exact ⟨rfl, rfl, rfl⟩,
      fun _ => by rw [htonly]; exact ⟨rfl, rfl, rfl⟩⟩

/-! ### O47: the C3 reading -/

theorem runSpeed_eq (difference : Int) (quiet : Bool) :
    runSpeed difference quiet =
      if quiet then 1 else if 50 ≤ difference then 3 else if 30 ≤ difference then 2 else 1 := rfl

theorem speedDuty_eq (v : Nat) (h : v = 1 ∨ v = 2 ∨ v = 3) :
    speedDuty v = if v = 1 then 400 else if v = 2 then 700 else 1000 := by
  obtain rfl | rfl | rfl := h <;> rfl

section
variable {s : State} (value : Int)

theorem State.coldAct_resting (fault faulted : Bool)
    (hs : s.fridge.state = .off ∨ s.fridge.state = .rest ∨ s.fridge.state = .fault) :
    s.coldAct value fault faulted = s := by
  unfold State.coldAct State.c3Faults
  obtain hs | hs | hs := hs <;> rw [hs] <;> cases fault <;> cases faulted <;> rfl

theorem State.coldAct_idle {fault faulted : Bool} (hs : s.fridge.state = .idle) (h : fault = false ∨ faulted = true) :
    s.coldAct value fault faulted = s.startTest := by
  unfold State.coldAct State.c3Faults
  rw [hs]
  obtain rfl | rfl := h
  · rfl
  · cases fault <;> rfl

theorem State.coldAct_faulted (hs : s.fridge.state.turning = true) :
    s.coldAct value true true = (s.setSpeed 1).fixedCycleOnEnd := by
  unfold State.coldAct State.c3Faults
  obtain hs | hs := (FridgeState.turning_iff _).mp hs <;> rw [hs] <;> rfl

theorem State.coldAct_start (faulted : Bool) (hs : s.fridge.state = .start) : s.coldAct value false faulted = s := by
  unfold State.coldAct
  rw [hs]
  rfl

theorem State.coldAct_run (faulted : Bool) (hs : s.fridge.state = .run) :
    s.coldAct value false faulted =
      match s.fridge.presented with
      | none => s
      | some p => s.c3InRun p.setpoint value := by
  unfold State.coldAct
  rw [hs]
  cases s.fridge.presented <;> rfl

end

/-- R175: the speed falls to 1 before a fixed cycle ends, which leaves nothing of it. -/
theorem State.setSpeed_off {s : State} (hr : s.rst.asserted = false) (v : Nat) :
    s.compressorOff .rest s.fridge.stalls (s.setSpeed v).stopToRest := by
  have hrun : (s.setSpeed v).rst.asserted = false := by simpa using hr
  obtain ⟨hfridge, h6, -, hflag⟩ := State.stopToRest_off hrun
  rw [(s.setSpeed_does v).1] at hfridge
  exact ⟨hfridge, h6, ((s.setSpeed_frame v).trans (State.stopToRest_frame _)).moves, hflag⟩

/-- Settles O47. -/
theorem fridgeReadingDrivesTheFridge : Obligations.FridgeReadingDrivesTheFridge := by
  unfold Obligations.FridgeReadingDrivesTheFridge
  intro edges s hr hh t hexec d hd set hset monitored hmonitored call hcall warm hwarm u hu
  obtain ⟨b, hb⟩ : ∃ b, b = s.windowed .c3 (min edges 65535) := ⟨_, rfl⟩
  obtain ⟨e, he⟩ : ∃ e, e = (s.sense.temp .c3).window (min edges 65535) := ⟨_, rfl⟩
  obtain ⟨m, hm⟩ : ∃ m, m = b.coldCall e.value e.fault (!s.sense.fridgeT.fault && e.fault) := ⟨_, rfl⟩
  have hact : t = m.coldAct e.value e.fault (!s.sense.fridgeT.fault && e.fault) := by
    rw [exec_tempWindow hr, ← hb, ← he] at hexec
    rw [hm, ← State.fridgeReading_eq]
    cases hexec
    rfl
  have honly := s.windowed_only .c3 (min edges 65535)
  have hport := s.windowed_port .c3 (min edges 65535)
  rw [← hb, ← he] at honly
  rw [← hb] at hport
  have hbr : b.rst.asserted = false := by rw [honly]; exact hr
  obtain ⟨hmfridge, hmonly, hmport, hgone, hpair, hattention, -⟩ :=
    State.coldCall_does hbr e.value e.fault (!s.sense.fridgeT.fault && e.fault)
  rw [← hm] at hmfridge hmonly hmport hgone hpair hattention
  have hframe : m.fridgeFrame t := by
    rw [hact]
    exact m.coldAct_frame _ _ _
  have hbwarn : b.warn = s.warn := by rw [honly]
  have hbfridge : b.fridge = s.fridge := by rw [honly]
  have htwarn : t.warn = m.warn := by rw [hframe.only]
  have htsense : t.sense = m.sense := by rw [hframe.only]
  have hmsense : m.sense = b.sense := by rw [hmonly]
  have hde : d = e := by
    rw [hd, htsense, hmsense, honly]
    rfl
  subst hde
  have hufridge : m.fridge = u.fridge := by
    rw [hmfridge, hbfridge, hu, hcall, hset, hwarm, hmonitored]
    unfold Fridge.workCall Fridge.callSetpoint Fridge.warmAfter
    cases hdf : d.fault <;> cases hsf : s.sense.fridgeT.fault <;> rfl
  have hmu : m = { u with port := m.port } := by
    have husense : u.sense = m.sense := by rw [hu]; exact htsense
    have huwarn : u.warn = m.warn := by rw [hu]; exact htwarn
    have huonly : u = { s with sense := u.sense, warn := u.warn, fridge := u.fridge } := by rw [hu]
    rw [← hufridge, husense, huwarn] at huonly
    rw [huonly, hmonly, honly]
  have htimers : m.timers = s.timers := by rw [hmonly, honly]
  have hmr : m.rst.asserted = false := by rw [hmonly]; exact hbr
  have hup : u.port.settingsKept m.port := by
    rw [show u.port = s.port by rw [hu]]
    exact hport.trans hmport
  have hstill : t = m → t.fridge = u.fridge ∧ t.timers = s.timers := fun h => by rw [h]; exact ⟨hufridge, htimers⟩
  have hstate : m.fridge.state = s.fridge.state := by rw [hmfridge, hbfridge]
  have hoff : ∀ {x : State}, m.compressorOff .rest m.fridge.stalls x → u.compressorOff .rest s.fridge.stalls x := fun {x} h => by
    have hstalls : m.fridge.stalls = s.fridge.stalls := by rw [hmfridge, hbfridge]
    rw [hstalls, hmu] at h
    exact h.ports hup (.refl _)
  have hmove : ∀ {x : State}, m.compressorOn x → u.compressorOn x := fun {x} h => by
    rw [hmu] at h
    exact h.ports hup (.refl _)
  have hstarts : u.fridgeStarts ↔ m.fridgeStarts := by rw [hmu]; exact Iff.rfl
  have hidle : s.fridge.state = .idle → t = m.startTest →
      (u.fridgeStarts → u.compressorOn t) ∧ (¬u.fridgeStarts → t.fridge = u.fridge ∧ t.timers = s.timers) := fun hs ht => by
    obtain ⟨h1, h2⟩ := State.startTest_idle (hstate.trans hs)
    refine ⟨fun h => ?_, fun h => hstill ?_⟩
    · rw [ht, h1 (hstarts.mp h)]
      exact hmove (State.enterStart_on hmr)
    · rw [ht, h2 fun hm => h (hstarts.mpr hm)]
  refine ⟨?_, fun hs => hstill ?_, fun hs => ?_, ?_, fun hs hf => hidle hs ?_, fun hs hf hold => ?_, fun hf hold => hstill ?_,
    fun hs hf => hstill ?_, fun hs hf hn => hstill ?_, fun x hx hs hf => ?_⟩
  · have hlisted : b.listed .part .fridgeWarm = hasPair .part .fridgeWarm b.warn.entries :=
      State.listed_released hbr (by rw [HeldLaw, honly]; exact hh) _ _
    rw [htwarn, hpair hlisted, hbwarn, hbfridge, hmonitored]
    rfl
  · rw [hact, State.coldAct_resting _ _ _ (by rw [hstate]; exact hs)]
  · exact hframe.noticed.flagsKept.flag .fridge (hattention (by rw [hbfridge, hs]))
  · rw [htwarn, ← hbwarn]
    exact hgone
  · refine hact.trans (State.coldAct_idle _ (hstate.trans hs) ?_)
    cases hdf : d.fault with
    | false => exact .inl rfl
    | true => exact .inr (by rw [hf.resolve_left (by rw [hdf]; exact nofun)]; rfl)
  · rw [hf, hold, Bool.not_false, Bool.true_and, State.coldAct_faulted _ (by rw [hstate]; exact hs)] at hact
    have hwhen : (m.setSpeed 1).fridge = { m.fridge with speed := 1 } := (m.setSpeed_does 1).1
    have hturns : (m.setSpeed 1).fridge.state = .start ∨ (m.setSpeed 1).fridge.state = .run := by
      rw [hwhen]
      exact (FridgeState.turning_iff _).mp (by rw [hstate]; exact hs)
    have hcold : (m.setSpeed 1).sense.fridgeT.fault = true := by
      have hkept : (m.setSpeed 1).sense = m.sense := by simp
      rw [hkept, ← htsense, ← hd]
      exact hf
    have hseconds : (m.setSpeed 1).fridge.onSeconds = s.fridge.onSeconds := by rw [hwhen, hmfridge, hbfridge]
    refine ⟨fun h => ?_, fun h => ?_⟩
    · rw [State.fixedCycleOnEnd, if_pos ⟨hturns, hcold, by rw [hseconds]; exact h⟩] at hact
      rw [hact]
      exact hoff (State.setSpeed_off hmr 1)
    · rw [State.fixedCycleOnEnd, if_neg (by rw [hseconds]; omega)] at hact
      rw [hact, hwhen, hufridge]
      refine ⟨rfl, fun hn => (m.setSpeed_does 1).2 ?_⟩
      rw [hmfridge, hbfridge]
      exact hn
  · rw [hact, hf, hold]
    rfl
  · rw [hact, hf, State.coldAct_start _ _ (hstate.trans hs)]
  · have hp : m.fridge.presented = none := by
      rw [hset, if_neg (by rw [hs]; exact nofun)] at hn
      rw [hmfridge, hbfridge]
      exact Option.map_eq_none_iff.mp hn
    rw [hact, hf, State.coldAct_run _ _ (hstate.trans hs), hp]
  · obtain ⟨p, hp, hpx⟩ : ∃ p, m.fridge.presented = some p ∧ p.setpoint = x := by
      rw [hset, if_neg (by rw [hs]; exact nofun)] at hx
      rw [hmfridge, hbfridge]
      exact Option.map_eq_some_iff.mp hx
    rw [hf, State.coldAct_run _ _ (hstate.trans hs), hp] at hact
    have hact : t = m.c3InRun p.setpoint d.value := hact
    rw [hpx] at hact
    refine ⟨fun h => ?_, fun h v hv => ?_⟩
    · rw [hact, State.c3InRun, if_pos h]
      exact hoff (State.stopToRest_off hmr)
    · have hquiet : m.quiet = s.quiet := by rw [hmonly, honly]
      have hspeed : runSpeed (d.value - x) m.quiet = v := by rw [hquiet, hv, runSpeed_eq]
      have hthree : v = 1 ∨ v = 2 ∨ v = 3 := by
        rw [hv]
        repeat' split
        all_goals simp
      rw [hact, State.c3InRun, if_neg (by omega), hspeed, (m.setSpeed_does v).1, hufridge, ← speedDuty_eq v hthree]
      refine ⟨rfl, fun hn => (m.setSpeed_does v).2 ?_⟩
      rw [hmfridge, hbfridge]
      exact hn

end Sys2Proof.Machine
end

section
/-! PROOF. The light settings and the fade steps: O43. -/
namespace Sys2Proof.Machine

/-! ### A fade's duty, as a number that may not fall below 0 -/

theorem fadeDuty_int (a b k n : Nat) (hk : k ≤ n) :
    (fadeDuty a b k n : Int) = a + Int.tdiv (((b : Int) - a) * k) n := by
  unfold fadeDuty
  apply Int.toNat_of_nonneg
  obtain ⟨d, rfl⟩ | ⟨d, rfl⟩ : (∃ d, b = a + d) ∨ ∃ d, a = b + d := by
    obtain h | h := Nat.le_total a b
    · exact .inl ⟨b - a, by omega⟩
    · exact .inr ⟨a - b, by omega⟩
  · have hcast : (((a + d : Nat) : Int) - (a : Int)) * (k : Int) = ((d * k : Nat) : Int) := by push_cast; ring
    rw [hcast, ← Int.ofNat_tdiv]
    generalize d * k / n = q
    omega
  · have hcast : (((b : Nat) : Int) - ((b + d : Nat) : Int)) * (k : Int) = -((d * k : Nat) : Int) := by push_cast; ring
    have hdiv : d * k / n ≤ d := by
      obtain rfl | hn := Nat.eq_zero_or_pos n
      · rw [Nat.div_zero]
        exact Nat.zero_le d
      · exact Nat.div_le_of_le_mul (by rw [Nat.mul_comm n d]; exact Nat.mul_le_mul_left d hk)
    rw [hcast, Int.neg_tdiv, ← Int.ofNat_tdiv]
    generalize d * k / n = q at hdiv ⊢
    omega

/-! ### The polarities of the timers -/

/-- Each timer keeps its polarity and the one that waits. -/
def Timers.samePolarity (b c : Timers) : Prop :=
  ∀ i, (c.get i).polarity = (b.get i).polarity ∧ (c.get i).shadowPol = (b.get i).shadowPol

theorem Timers.samePolarity.refl (b : Timers) : b.samePolarity b := fun _ => ⟨rfl, rfl⟩

theorem Timers.samePolarity.trans {a b c : Timers} (h : a.samePolarity b) (k : b.samePolarity c) : a.samePolarity c :=
  fun i => ⟨(k i).1.trans (h i).1, (k i).2.trans (h i).2⟩

theorem Timers.samePolarity_set {b : Timers} {i : TimerId} {t : Timer} (hp : t.polarity = (b.get i).polarity)
    (hs : t.shadowPol = (b.get i).shadowPol) : b.samePolarity (b.set i t) := fun j => by
  rw [Timers.get_set]
  split
  next h => rw [← h]; exact ⟨hp, hs⟩
  next => exact ⟨rfl, rfl⟩

theorem Timer.write_polarity (t : Timer) (on per : Nat) :
    (t.write on per).polarity = t.polarity ∧ (t.write on per).shadowPol = t.shadowPol := by
  unfold Timer.write
  split <;> exact ⟨rfl, rfl⟩

theorem State.setDuty_polarity (s : State) (i : LightId) (d : Nat) : s.timers.samePolarity (s.setDuty i d).timers := by
  have hwrite : ∀ u : State, ∀ j on per, u.timers.samePolarity (u.writeTimer j on per).timers := fun u j on per => by
    obtain ⟨h1, h2⟩ := (u.timers.get j).write_polarity on per
    have htimers : (u.writeTimer j on per).timers = u.timers.set j ((u.timers.get j).write on per) := by
      unfold State.writeTimer
      dsimp only
      split <;> rfl
    rw [htimers]
    exact Timers.samePolarity_set h1 h2
  unfold State.setDuty
  split
  · exact .refl _
  · have h := hwrite (s.setChannel i { s.channel i with duty := d }) i.timer d 1000
    rwa [show (s.setChannel i { s.channel i with duty := d }).timers = s.timers by simp] at h

theorem State.beginFade_polarity (s : State) (i : LightId) (d n : Nat) :
    s.timers.samePolarity (s.beginFade i d n).timers := by
  unfold State.beginFade
  split
  · have h := State.setDuty_polarity (s.setChannel i { s.channel i with fade := none }) i d
    rwa [show (s.setChannel i { s.channel i with fade := none }).timers = s.timers by simp] at h
  · rw [show ∀ c, (s.setChannel i c).timers = s.timers by simp]
    exact .refl _

theorem State.cabQuietSet_polarity (s : State) : s.timers.samePolarity s.cabQuietSet.timers := by
  simp only [State.cabQuietSet]
  have hset : ∀ c, (s.setChannel .cabLight c).timers = s.timers := by simp
  have hstart := hset { s.channel .cabLight with effective := min (s.channel .cabLight).target s.lights.quietCap }
  generalize s.setChannel .cabLight _ = u at hstart ⊢
  have hthen : s.timers.samePolarity
      (if u.lights.quietCap < (s.channel .cabLight).duty then u.setDuty .cabLight u.lights.quietCap else u).timers := by
    rw [← hstart]
    split
    · exact u.setDuty_polarity _ _
    · exact .refl _
  generalize (if u.lights.quietCap < (s.channel .cabLight).duty then u.setDuty .cabLight u.lights.quietCap else u) = v
    at hthen ⊢
  split
  · exact hthen.trans (v.beginFade_polarity _ _ _)
  · split
    · exact hthen
    · exact hthen.trans (v.beginFade_polarity _ _ _)

theorem Channel.heldTo_fixed (c : Channel) (cap : Nat) :
    (c.heldTo cap).polarity = c.polarity ∧ (c.heldTo cap).fullDraw = c.fullDraw := by
  unfold Channel.heldTo Channel.pursue
  repeat' split
  all_goals exact ⟨rfl, rfl⟩

/-! ### LSET -/

/-- The polarity and the full draw that a set of light settings gives a channel. -/
def lightPolarity (l : LightSettings) : LightId → Polarity
  | .readA => l.polA
  | .readB => l.polB
  | .cabLight => l.polCab
  | .nightLight => l.polNight

def lightDraw (l : LightSettings) : LightId → Nat
  | .readA => l.drawA
  | .readB => l.drawB
  | .cabLight => l.drawCab
  | .nightLight => l.drawNight

theorem State.setPolarity_does (s : State) (i : LightId) (p : Polarity) :
    (∀ j, (s.setPolarity i p).channel j = if i = j then { s.channel j with polarity := p } else s.channel j) ∧
    (∀ j : LightId, (s.setPolarity i p).timers.get j.timer =
      if i = j then (s.timers.get j.timer).setPolarity p else s.timers.get j.timer) ∧
    (s.setPolarity i p).quiet = s.quiet ∧ (s.setPolarity i p).lights.quietCap = s.lights.quietCap := by
  refine ⟨fun j => ?_, fun j => ?_, rfl, ?_⟩
  · cases i <;> cases j <;> rfl
  · cases i <;> cases j <;> rfl
  · cases i <;> rfl

/-- R188: the polarities and the draws written, before the quiet cap. -/
def State.lightsWritten (s : State) (l : LightSettings) : State :=
  let s := (((s.setPolarity .readA l.polA).setPolarity .readB l.polB).setPolarity .cabLight l.polCab).setPolarity
    .nightLight l.polNight
  { s with lights := s.lights.setDraws l.drawA l.drawB l.drawCab l.drawNight }

theorem State.setLights_eq (s : State) (l : LightSettings) : s.setLights l = (s.lightsWritten l).setQuietCap l.quietCap := rfl

theorem State.lightsWritten_does (s : State) (l : LightSettings) :
    (∀ i, (s.lightsWritten l).channel i =
      { s.channel i with polarity := lightPolarity l i, fullDraw := lightDraw l i }) ∧
    (∀ i : LightId, (s.lightsWritten l).timers.get i.timer = (s.timers.get i.timer).setPolarity (lightPolarity l i)) ∧
    (s.lightsWritten l).quiet = s.quiet ∧ (s.lightsWritten l).lights.quietCap = s.lights.quietCap := by
  obtain ⟨a, ha⟩ : ∃ a, a = s.setPolarity .readA l.polA := ⟨_, rfl⟩
  obtain ⟨b, hb⟩ : ∃ b, b = a.setPolarity .readB l.polB := ⟨_, rfl⟩
  obtain ⟨c, hc⟩ : ∃ c, c = b.setPolarity .cabLight l.polCab := ⟨_, rfl⟩
  obtain ⟨d, hd⟩ : ∃ d, d = c.setPolarity .nightLight l.polNight := ⟨_, rfl⟩
  have heq : s.lightsWritten l = { d with lights := d.lights.setDraws l.drawA l.drawB l.drawCab l.drawNight } := by
    rw [hd, hc, hb, ha]
    rfl
  have hdraws : ∀ i, ({ d with lights := d.lights.setDraws l.drawA l.drawB l.drawCab l.drawNight } : State).channel i =
      { d.channel i with fullDraw := lightDraw l i } := fun i => by cases i <;> rfl
  obtain ⟨a1, a2, a3, a4⟩ := s.setPolarity_does .readA l.polA
  obtain ⟨b1, b2, b3, b4⟩ := a.setPolarity_does .readB l.polB
  obtain ⟨c1, c2, c3, c4⟩ := b.setPolarity_does .cabLight l.polCab
  obtain ⟨d1, d2, d3, d4⟩ := c.setPolarity_does .nightLight l.polNight
  rw [← ha] at a1 a2 a3 a4
  rw [← hb] at b1 b2 b3 b4
  rw [← hc] at c1 c2 c3 c4
  rw [← hd] at d1 d2 d3 d4
  rw [heq]
  refine ⟨fun i => ?_, fun i => ?_, by rw [← a3, ← b3, ← c3, ← d3], by rw [← a4, ← b4, ← c4, ← d4]; rfl⟩
  · rw [hdraws, d1, c1, b1, a1]
    cases i <;> rfl
  · rw [d2, c2, b2, a2]
    cases i <;> rfl

/-- R183, R188: the settings written whole. -/
theorem State.setLights_does (s : State) (l : LightSettings) :
    (s.setLights l).lights.quietCap = l.quietCap ∧
    (∀ i, ((s.setLights l).channel i).polarity = lightPolarity l i ∧
      ((s.setLights l).channel i).fullDraw = lightDraw l i) ∧
    (∀ i : LightId,
      ((s.setLights l).timers.get i.timer).polarity = ((s.timers.get i.timer).setPolarity (lightPolarity l i)).polarity ∧
      ((s.setLights l).timers.get i.timer).shadowPol = ((s.timers.get i.timer).setPolarity (lightPolarity l i)).shadowPol) ∧
    (∀ i, i ≠ .cabLight ∨ s.quiet = false ∨ l.quietCap = s.lights.quietCap →
      (s.setLights l).channel i = { s.channel i with polarity := lightPolarity l i, fullDraw := lightDraw l i } ∧
      (s.setLights l).timers.get i.timer = (s.timers.get i.timer).setPolarity (lightPolarity l i)) ∧
    (s.quiet = true → l.quietCap ≠ s.lights.quietCap →
      (s.setLights l).channel .cabLight =
        { s.channel .cabLight with polarity := l.polCab, fullDraw := l.drawCab }.heldTo l.quietCap ∧
      (((s.setLights l).channel .cabLight).duty = (s.channel .cabLight).duty →
        (s.setLights l).timers.t2 = s.timers.t2.setPolarity l.polCab) ∧
      (((s.setLights l).channel .cabLight).duty ≠ (s.channel .cabLight).duty →
        (s.setLights l).timers.t2.given ((s.setLights l).channel .cabLight).duty 1000)) := by
  obtain ⟨hchannel, htimer, hquiet, hcap⟩ := s.lightsWritten_does l
  rw [State.setLights_eq]
  generalize s.lightsWritten l = v at hchannel htimer hquiet hcap
  obtain ⟨w, hw⟩ : ∃ w : State, w = { v with lights := { v.lights with quietCap := l.quietCap } } := ⟨_, rfl⟩
  have hwchannel : ∀ i, w.channel i = { s.channel i with polarity := lightPolarity l i, fullDraw := lightDraw l i } := fun i => by
    rw [← hchannel, hw]
    cases i <;> rfl
  have hwtimers : w.timers = v.timers := by rw [hw]
  have hwcap : w.lights.quietCap = l.quietCap := by rw [hw]
  have heq : v.setQuietCap l.quietCap =
      if s.quiet = true ∧ l.quietCap ≠ s.lights.quietCap then w.cabQuietSet else w := by
    have hset : v.setQuietCap l.quietCap =
        if v.quiet = true ∧ l.quietCap ≠ v.lights.quietCap then w.cabQuietSet else w := by
      rw [hw]
      rfl
    rw [hset, hquiet, hcap]
  by_cases hheld : s.quiet = true ∧ l.quietCap ≠ s.lights.quietCap
  · rw [if_pos hheld] at heq
    obtain ⟨hcab, hdriven⟩ := w.cabQuietSet_does
    rw [hwchannel, hwcap] at hcab
    have hpolarity := w.cabQuietSet_polarity
    rw [heq]
    refine ⟨by simpa using hwcap, fun i => ?_, fun i => ?_, fun i hi => ?_, fun _ _ => ⟨hcab, fun hd => ?_, fun hd => ?_⟩⟩
    · by_cases hi : i = .cabLight
      · rw [hi, hcab]
        exact Channel.heldTo_fixed _ _
      · rw [(w.cabQuietSet_others (Ne.symm hi)).1, hwchannel]
        exact ⟨rfl, rfl⟩
    · rw [(hpolarity i.timer).1, (hpolarity i.timer).2, hwtimers, htimer]
      exact ⟨rfl, rfl⟩
    · have hne : i ≠ .cabLight := by
        obtain h | h | h := hi
        · exact h
        · exact absurd (h.symm.trans hheld.1) nofun
        · exact absurd h hheld.2
      obtain ⟨h1, h2⟩ := w.cabQuietSet_others (Ne.symm hne)
      rw [h1, h2, hwchannel, hwtimers, htimer]
      exact ⟨rfl, rfl⟩
    · have hkept := hdriven.1 (by rw [hd, hwchannel])
      rw [hwtimers, htimer] at hkept
      exact hkept
    · exact hdriven.2 (by rw [hwchannel]; exact hd)
  · rw [if_neg hheld] at heq
    rw [heq]
    refine ⟨hwcap, fun i => by rw [hwchannel]; exact ⟨rfl, rfl⟩, fun i => by rw [hwtimers, htimer]; exact ⟨rfl, rfl⟩,
      fun i _ => ⟨hwchannel i, by rw [hwtimers, htimer]⟩, fun h k => absurd ⟨h, k⟩ hheld⟩

theorem Timer.setPolarity_cases (t : Timer) (p : Polarity) :
    (t.running = false → (t.setPolarity p).polarity = p) ∧
    (t.running = true → (t.setPolarity p).shadowPol = some p ∧ (t.setPolarity p).polarity = t.polarity) ∧
    t.setPolarity p = { t with polarity := (t.setPolarity p).polarity, shadowPol := (t.setPolarity p).shadowPol } := by
  unfold Timer.setPolarity
  cases t.running <;> simp

theorem lightArg_store {a : LightArg} {pa pb pc pn : Polarity} (ha : a.polA = some pa) (hb : a.polB = some pb)
    (hc : a.polCab = some pc) (hn : a.polNight = some pn) :
    LightArg.store a =
      some
        { polA := pa, polB := pb, polCab := pc, polNight := pn, drawA := a.drawA.toNat, drawB := a.drawB.toNat
          drawCab := a.drawCab.toNat, drawNight := a.drawNight.toNat, quietCap := min a.quietCap 300 } := by
  simp [LightArg.store, ha, hb, hc, hn, clampNat_zero]

/-- R183: with the quiet flag set CAB_LIGHT keeps to the cap. -/
theorem LightLaw.quiet {s : State} (h : LightLaw s) (hq : s.quiet = true) :
    (s.channel .cabLight).duty ≤ s.lights.quietCap ∧
    (s.channel .cabLight).effective = min (s.channel .cabLight).target s.lights.quietCap := by
  refine ⟨(h.2 hq).1, ?_⟩
  rw [(h.1 .cabLight).2.2.1, State.effectiveOf, if_pos ⟨rfl, hq⟩]

/-- R181: one step of a fade under way. -/
theorem State.fadeStep_moves {s : State} {i : LightId} {f : Fade} (hf : (s.channel i).fade = some f)
    (ht : f.taken < f.steps) {d : Nat} (hd : d = fadeDuty f.from_ f.to_ (f.taken + 1) f.steps) :
    (s.fadeStep i).channel i =
      { s.channel i with
        duty := d, fade := if f.taken + 1 = f.steps then none else some { f with taken := f.taken + 1 } } ∧
    (∀ j, j ≠ i → (s.fadeStep i).channel j = s.channel j ∧ (s.fadeStep i).timers.get j.timer = s.timers.get j.timer) ∧
    (d = (s.channel i).duty → (s.fadeStep i).timers = s.timers) ∧
    (d ≠ (s.channel i).duty → ((s.fadeStep i).timers.get i.timer).given d 1000) := by
  obtain ⟨hchannel, hdriven⟩ := s.fadeStep_does i hf
  rw [← hd] at hchannel
  have hothers : ∀ j, j ≠ i → (s.fadeStep i).channel j = s.channel j ∧
      (s.fadeStep i).timers.get j.timer = s.timers.get j.timer := fun j hj => s.fadeStep_others (Ne.symm hj)
  have hduty : ((s.fadeStep i).channel i).duty = d := by rw [hchannel]
  refine ⟨?_, hothers, fun h => ?_, fun h => ?_⟩
  · have hend : f.steps ≤ f.taken + 1 ↔ f.taken + 1 = f.steps := by omega
    simp only [hchannel, hend]
  · have hsame : ∀ j : LightId, (s.fadeStep i).timers.get j.timer = s.timers.get j.timer := fun j => by
      by_cases hj : j = i
      · rw [hj]
        exact hdriven.1 (hduty.trans h)
      · exact (hothers j hj).2
    have honly := (s.fadeStep_frame i).only
    apply Timers.ext
    · exact hsame .readA
    · exact hsame .readB
    · exact hsame .cabLight
    · exact hsame .nightLight
    all_goals rw [honly]
  · rw [← hduty]
    exact hdriven.2 (by rw [hduty]; exact h)

/-- Settles O43. -/
theorem lsetAndFadeStepAct : Obligations.LsetAndFadeStepAct := by
  unfold Obligations.LsetAndFadeStepAct
  refine ⟨fun a s hs => ⟨fun hbad => ?_, fun pa ha pb hb pc hc pn hn x hx => ?_⟩, fun i s hr => ?_⟩
  · refine refuses_of (f := reqLset a) hs rfl ?_
    have hnone : LightArg.store a = none := by
      unfold LightArg.store
      obtain h | h | h | h := hbad <;> simp [h]
    rw [reqLset, hnone]
  · have hstore : LightArg.store a = some x := by rw [lightArg_store ha hb hc hn, hx]
    have hreq : reqLset a s.inFrame = (s.inFrame.setLights x, doneIf (decide (300 < a.quietCap)) (.lightsSet x)) := by
      have hclamp : decide (x.quietCap ≠ a.quietCap) = decide (300 < a.quietCap) := by
        rw [hx]
        exact decide_eq_decide.mpr (by dsimp only; omega)
      rw [reqLset, hstore]
      dsimp only
      rw [hclamp]
    obtain ⟨v, hv⟩ : ∃ v, v = s.inFrame.setLights x := ⟨_, rfl⟩
    obtain ⟨t, ht⟩ : ∃ t, t = s.takeFrame (reqLset a) := ⟨_, rfl⟩
    have hserve : t = v.closeFrame (doneIf (decide (300 < a.quietCap)) (.lightsSet x)) := by
      rw [ht, State.takeFrame_served s (reqLset a) hs, hreq, hv]
    obtain ⟨hcap, hfixed, hpolarity, hkept, hheld⟩ := s.inFrame.setLights_does x
    have hframe := (s.inFrame.setLights_frame x).only
    have hlaw := State.setLights_lightLaw (s := s.inFrame) x
    have hfquiet : s.inFrame.quiet = s.quiet := by simp
    have hftimers : s.inFrame.timers = s.timers := by simp
    have hflights : s.inFrame.lights = s.lights := by simp
    have hfchannel : ∀ i, s.inFrame.channel i = s.channel i := State.channel_congr hflights
    rw [← hv] at hcap hfixed hpolarity hkept hheld hframe hlaw
    rw [hfquiet, hflights] at hkept hheld
    rw [hftimers] at hpolarity hkept hheld
    simp only [hfchannel] at hkept hheld
    have hlights : t.lights = v.lights := by rw [hserve]; simp
    have htimers : t.timers = v.timers := by rw [hserve]; simp
    have hchannel : ∀ i, t.channel i = v.channel i := State.channel_congr hlights
    have htonly : t = { s with lights := t.lights, port := t.port, timers := { s.timers with t0 := t.timers.t0, t1 := t.timers.t1, t2 := t.timers.t2, t3 := t.timers.t3 } } := by
      have hclose := v.closeFrame_eq (doneIf (decide (300 < a.quietCap)) (.lightsSet x))
      rw [← hserve] at hclose
      rw [s.inFrame_eq] at hframe
      generalize t.port = p at hclose ⊢
      rw [hframe] at hclose
      rw [hlights, htimers]
      exact hclose
    have hport : s.port.settingsKept t.port := by
      have hclose := (State.closeFrame_flags v (doneIf (decide (300 < a.quietCap)) (.lightsSet x))).2
      rw [← hserve, show v.port = s.inFrame.port by rw [hframe]] at hclose
      exact s.inFrame_settingsKept.trans hclose
    have hans : t.answers (doneIf (decide (300 < a.quietCap)) (.lightsSet x)) := by
      rw [hserve]
      exact State.closeFrame_answers _ _
    refine ⟨t, by rw [ht]; rfl, hans, htonly, hport, by rw [hlights]; exact hcap, fun i p d hi => ?_, fun hl hq => ?_, fun hq hne => ?_⟩
    · have hgiven : p = lightPolarity x i ∧ d = lightDraw x i := by
        simp only [List.mem_cons, Prod.mk.injEq, List.not_mem_nil, or_false] at hi
        obtain ⟨rfl, rfl, rfl⟩ | ⟨rfl, rfl, rfl⟩ | ⟨rfl, rfl, rfl⟩ | ⟨rfl, rfl, rfl⟩ := hi <;> rw [hx] <;> exact ⟨rfl, rfl⟩
      obtain ⟨rfl, rfl⟩ := hgiven
      obtain ⟨h1, h2, -⟩ := (s.timers.get i.timer).setPolarity_cases (lightPolarity x i)
      obtain ⟨k1, k2⟩ := hpolarity i
      rw [hchannel, htimers]
      refine ⟨(hfixed i).1, (hfixed i).2, fun hr => by rw [k1, h1 hr], fun hr => by rw [k1, k2]; exact h2 hr, fun hi => ?_⟩
      obtain ⟨m1, m2⟩ := hkept i hi
      refine ⟨m1, ?_⟩
      rw [m2]
      unfold Timer.setPolarity
      split <;> rfl
    · have hkeeps : LightLaw v := hlaw (hl.of hflights hfquiet)
      have hvquiet : v.quiet = true := by rw [hframe]; exact hfquiet.trans hq
      have htarget : (v.channel .cabLight).target = (s.channel .cabLight).target := by
        by_cases hne : x.quietCap = s.lights.quietCap
        · rw [(hkept .cabLight (.inr (.inr hne))).1]
        · rw [(hheld hq hne).1, (Channel.heldTo_steps _).2.2.2.1]
      rw [hchannel, ← hcap, ← htarget]
      exact hkeeps.quiet hvquiet
    · obtain ⟨m1, m2, m3⟩ := hheld hq hne
      have hpol : x.polCab = pc := by rw [hx]
      rw [hchannel, htimers]
      refine ⟨by rw [← hpol]; exact m1, fun hd => ?_, m3⟩
      rw [m2 hd]
      exact (s.timers.t2.setPolarity_cases x.polCab).2.2
  · have hexec : exec (.fadeStep i) s = .next (s.fadeStep i) := exec_released (c := .fadeStep i) rfl hr
    rw [hexec]
    refine ⟨fun hf => by rw [State.fadeStep, hf], fun f hf ht => ⟨_, rfl, _, fadeDuty_int f.from_ f.to_ (f.taken + 1) f.steps (by omega), ?_⟩⟩
    obtain ⟨h1, h2⟩ := fadeDuty_between f.from_ f.to_ (f.taken + 1) f.steps (by omega)
    obtain ⟨k1, k2, k3, k4⟩ := State.fadeStep_moves hf ht rfl
    refine ⟨h1, h2, fun he => ?_, k1, k2, k3, k4, (s.fadeStep_frame i).only⟩
    rw [he]
    exact fadeDuty_end _ _ _ (by omega)

end Sys2Proof.Machine
end

section
/-! PROOF. The cold start, the assertion of RESET, and the pins and periods: O50 to O52. -/
namespace Sys2Proof.Machine

/-! ### O51: the cold start -/

/-- The state a cold start leaves. -/
def State.powered (s : State) : State := { State.reset with sense := s.sense.powerUp, pending := s.pending }

theorem Input.powerUp_eq (x : Input) :
    x.powerUp = { pin := x.pin, level := false, timer := x.pin, fromReset := x.pin } := by
  cases x with
  | mk pin level timer fromReset => cases pin <;> rfl

theorem State.powered_portLaws (s : State) : AttnLaw s.powered ∧ WakeLaw s.powered ∧ HeldLaw s.powered :=
  ⟨by simp [AttnLaw, State.powered, State.reset], ⟨nofun, nofun⟩, fun _ => ⟨rfl, rfl, rfl, rfl, rfl⟩⟩

theorem State.powered_orderLaws (s : State) : OrderLaw s.powered ∧ ActiveLaw s.powered ∧ CommittedLaw s.powered := by
  have hnone : ∀ o : Order, o ∉ s.powered.orders := fun _ => List.not_mem_nil
  exact ⟨⟨.nil, Nat.zero_le _, fun o ho => absurd ho (hnone o), fun _ hw => (List.not_mem_nil hw).elim, fun _ => rfl⟩,
    ⟨fun a ha => absurd ha (hnone a), fun _ o ho => absurd ho (hnone o), fun _ o ho => absurd ho (hnone o)⟩,
    fun _ => Nat.zero_le _⟩

theorem State.powered_accountLaw (s : State) : AccountLaw s.powered := by
  have hnone : ∀ i, s.powered.account i = none := fun i => by cases i <;> rfl
  refine ⟨fun i a ha => ?_, fun i j a b ha => ?_, fun i a ha => ?_, rfl⟩
  all_goals
    rw [hnone] at ha
    cases ha

theorem State.powered_warnLaw (s : State) : WarnLaw s.powered := by
  refine ⟨.nil, fun _ h => (List.not_mem_nil h).elim, fun _ h => (List.not_mem_nil h).elim,
    ⟨fun _ h => (List.not_mem_nil h).elim, fun _ _ _ _ h => nomatch h⟩, fun _ => rfl, rfl⟩

theorem State.powered_heaterLaw (s : State) : HeaterLaw s.powered := by
  rw [heaterLaw_iff]
  refine ⟨⟨?_, nofun, fun _ => rfl⟩, nofun⟩
  constructor <;> simp [State.powered, State.reset, HeaterState.glows, HeaterState.burning, HeaterState.timed, Timer.cold]

theorem State.powered_fridgeLaw (s : State) : FridgeLaw s.powered := by
  refine (fridgeLaw_iff _).mpr ⟨?_, fun _ => by simp [State.powered, State.reset]⟩
  constructor <;> simp [State.powered, State.reset, FridgeState.turning, Timer.cold]

theorem State.powered_lightLaw (s : State) : LightLaw s.powered := by
  refine ⟨fun i => ?_, fun h => nomatch h⟩
  cases i <;> exact ⟨fun _ h => (nomatch h), fun _ => ⟨rfl, rfl⟩, rfl, rfl, fun _ h => (nomatch h), rfl⟩

theorem State.powered_counterLaws (s : State) : ChargeLaw s.powered ∧ SenseLaw s.powered ∧ TimerLaw s.powered := by
  refine ⟨?_, ?_, fun i _ => ?_⟩
  · show Charge.lawful State.reset.charge
    simp [State.reset, Charge.lawful]
  · simp [SenseLaw, State.powered, State.reset, Sense.powerUp, TempChannel.legal, TempChannel.cold]
  · cases i <;> exact ⟨rfl, rfl⟩

theorem State.powered_presents (s : State) : PresentationLaw s.powered := fun load => by cases load <;> rfl

/-- Settles O51. -/
theorem coldStartSetsEveryRecord : Obligations.ColdStartSetsEveryRecord := by
  unfold Obligations.ColdStartSetsEveryRecord
  refine ⟨rfl, fun s => ⟨s.powered, rfl, ⟨rfl, rfl, rfl, rfl, fun i => by cases i <;> rfl, rfl, rfl, rfl⟩,
    ⟨rfl, fun i => ?_, fun i => by cases i <;> rfl⟩, ⟨rfl, rfl, fun i d h => ?_, rfl⟩, ⟨rfl, rfl, rfl⟩, ?_⟩⟩
  · rw [← Input.powerUp_eq]
    cases i <;> rfl
  · simp only [List.mem_cons, Prod.mk.injEq, List.not_mem_nil, or_false] at h
    obtain ⟨rfl, rfl⟩ | ⟨rfl, rfl⟩ | ⟨rfl, rfl⟩ | ⟨rfl, rfl⟩ := h <;> rfl
  · obtain ⟨h1, h2, h3⟩ := s.powered_portLaws
    obtain ⟨h4, h5, h6⟩ := s.powered_orderLaws
    obtain ⟨h7, h8, h9⟩ := s.powered_counterLaws
    exact ⟨h1, h2, h3, h4, h5, h6, s.powered_presents, h7, s.powered_accountLaw, s.powered_warnLaw, s.powered_heaterLaw,
      s.powered_fridgeLaw, s.powered_lightLaw, h8, h9⟩

/-! ### O52: the assertion of RESET -/

theorem Timer.halt_halt (t : Timer) : t.halt.halt = t.halt := rfl

/-- R116: the burst is cut off, the chime and the lamp are silenced, and nothing else is touched but T7. -/
theorem State.quietPresenter_does (s : State) :
    s.quietPresenter =
      { s with warn := s.quietPresenter.warn, timers := { s.timers with t7 := s.quietPresenter.timers.t7 } } ∧
    s.quietPresenter.timers.t7.halt = s.timers.t7.halt ∧
    s.quietPresenter.warn =
      { entries :=
          (match s.warn.chime with
           | .idle => s.warn.entries
           | .sounding a w _ _ _ =>
             s.warn.entries.map (fun e =>
               if e.source = a ∧ e.type = w ∧ e.state = .presenting then { e with state := .queued } else e))
        chime := .idle, lamp := .off, lampOn := false } := by
  unfold State.quietPresenter State.cutBurst
  cases hc : s.warn.chime with
  | idle => exact ⟨rfl, rfl, by simp [hc]⟩
  | sounding a w n snd owned =>
    refine ⟨rfl, Timer.halt_halt _, ?_⟩
    have hmap : mapPair a w (fun e => if e.state = .presenting then e.requeue else e) s.warn.entries =
        s.warn.entries.map (fun e =>
          if e.source = a ∧ e.type = w ∧ e.state = .presenting then { e with state := .queued } else e) := by
      refine List.map_congr_left fun e _ => ?_
      simp only [Entry.isPair, Bool.and_eq_true, decide_eq_true_eq, Entry.requeue]
      split <;> split <;> simp_all
    exact congrArg (fun es => ({ entries := es, chime := .idle, lamp := .off, lampOn := false } : Warn)) hmap

theorem Order.heldBack_eq (o : Order) : o.heldBack = { o with state := if o.state = .active then .waiting else o.state } := by
  unfold Order.heldBack
  split <;> rfl

theorem HeaterState.atReset_eq (h : HeaterState) :
    h.atReset =
      if h.burning ∨ h = .cooldown then .cooldown else if h = .lockout then .lockout else .off := by
  cases h <;> simp [HeaterState.atReset, HeaterState.burning]

theorem Heater.causeAtReset_eq (h : Heater) :
    h.causeAtReset =
      if h.state.burning then some .stopped else if h.state = .cooldown then h.cause else none := by
  unfold Heater.causeAtReset
  cases h.state <;> simp [HeaterState.burning]

/-- Settles O52. -/
theorem resetAssertStopsTheBlocks : Obligations.ResetAssertStopsTheBlocks := by
  unfold Obligations.ResetAssertStopsTheBlocks
  refine fun s => ⟨fun ha => ?_, fun hr => ⟨s.assertReset, exec_released (c := .resetAssert) rfl hr, ?_⟩⟩
  · have hexec : exec .resetAssert s = .next (s.outOfReset State.assertReset) := rfl
    rw [hexec, State.outOfReset_asserted _ ha]
  obtain ⟨honly, h7, hwarn⟩ := s.quietPresenter_does
  obtain ⟨q, hq⟩ : ∃ q, q = s.quietPresenter := ⟨_, rfl⟩
  rw [← hq] at honly h7 hwarn
  have hassert : s.assertReset =
      { q with
        orders := q.orders.map Order.heldBack
        alloc := { q.alloc with committed := 0 }
        sense := q.sense.atReset
        timers := q.timers.atReset
        heater := q.heater.atReset
        fridge := q.fridge.atReset
        lights :=
          { q.lights with
            readA := q.lights.readA.atReset, readB := q.lights.readB.atReset
            cabLight := q.lights.cabLight.atReset, nightLight := q.lights.nightLight.atReset }
        port := q.port.atReset
        rst :=
          { asserted := true, heldWarnings := [], heldWakes := [], accountNotice := false
            heaterMoved := decide (q.heater.atReset.state ≠ q.heater.state)
            fridgeMoved := decide (q.fridge.atReset.state ≠ q.fridge.state) } } := by
    rw [hq]
    rfl
  have htimers : q.timers.atReset = s.timers.atReset := by
    rw [honly]
    simp only [Timers.atReset, h7]
  rw [htimers] at hassert
  generalize q.warn = w at honly hwarn
  rw [honly] at hassert
  rw [hassert]
  refine ⟨rfl, ?_, rfl, hwarn, fun st hst => ?_, ?_, fun i => by cases i <;> rfl, rfl, fun load => by cases load <;> rfl,
    fun i hi => ?_, ⟨rfl, rfl, rfl, fun _ => ⟨rfl, rfl⟩⟩, fun i => by cases i <;> rfl, fun i => by cases i <;> rfl,
    fun side => by cases side <;> rfl, rfl, rfl⟩
  · exact List.map_congr_left fun o _ => o.heldBack_eq
  · rw [← s.heater.state.atReset_eq] at hst
    rw [← s.heater.causeAtReset_eq, hst]
    rfl
  · have hturns : s.fridge.state.turning = true ↔ s.fridge.state = .start ∨ s.fridge.state = .run :=
      FridgeState.turning_iff _
    simp only [hturns]
    rfl
  · cases i
    case t5 => exact absurd rfl hi
    all_goals rfl

end Sys2Proof.Machine
end

section
/-! PROOF. The pins, the classifiers' wait, the periods and the buttons: O49 and O50. -/
namespace Sys2Proof.Machine

/-! ### The end of the wait after a reset -/

/-- The button of a side when its classifier's wait ends. -/
def Input.waited (x : Input) : Input :=
  if x.timer && x.fromReset then { pin := x.pin, level := x.pin, timer := false, fromReset := false } else x

/-- R131: the end of the wait at one side, which leaves the other side alone. -/
theorem Sense.endWait_does (x : Sense) (side : Side) :
    x.endWait side =
      { x with
        btnA := (x.endWait side).btnA, btnB := (x.endWait side).btnB, pressA := (x.endWait side).pressA
        pressB := (x.endWait side).pressB } ∧
    (∀ other, other ≠ side →
      (x.endWait side).press other = x.press other ∧
      (x.endWait side).input (buttonOf other) = x.input (buttonOf other)) ∧
    ((x.press side).state ≠ none → x.endWait side = x) ∧
    ((x.press side).state = none →
      (x.endWait side).input (buttonOf side) = (x.input (buttonOf side)).waited ∧
      (x.endWait side).press side =
        { state := some (if (x.input (buttonOf side)).waited.level then .heldOver else .released), hold := 0 }) := by
  by_cases h : (x.press side).state ≠ none
  · have heq : x.endWait side = x := if_pos h
    rw [heq]
    exact ⟨rfl, fun _ _ => ⟨rfl, rfl⟩, fun _ => rfl, fun hn => absurd hn h⟩
  · have heq : x.endWait side =
        (x.setInput (buttonOf side) (x.input (buttonOf side)).waited).setPress side
          { state := some (if (x.input (buttonOf side)).waited.level then .heldOver else .released), hold := 0 } :=
      if_neg h
    rw [heq]
    generalize (x.input (buttonOf side)).waited = y
    refine ⟨?_, fun other ho => ?_, fun hn => absurd hn h, fun _ => ?_⟩
    · cases side <;> rfl
    · cases side <;> cases other <;> first | exact absurd rfl ho | exact ⟨rfl, rfl⟩
    · cases side <;> exact ⟨rfl, rfl⟩

/-- R136: the end of a running timer's period, with a pump pulse for T4. -/
theorem State.periodEnd_does {s : State} {i : TimerId} (hrun : (s.timers.get i).running = true) :
    (s.periodEnd i).timers = s.timers.set i (s.timers.get i).endPeriod ∧
    (s.periodEnd i).heater.fuel =
      if i = .t4 ∧ 0 < (s.timers.get i).endPeriod.onCmp then s.heater.fuel + 1 else s.heater.fuel := by
  simp only [State.periodEnd, hrun, if_true]
  split <;> exact ⟨rfl, rfl⟩

/-- Settles O50. -/
theorem pinsAndPeriods : Obligations.PinsAndPeriods := by
  unfold Obligations.PinsAndPeriods
  refine ⟨fun i level s => ⟨fun hr hp => ?_, fun hr hp => ?_, fun ha => ?_⟩, fun s => ⟨fun ha => ?_, fun hr => ?_⟩,
    fun i s => ⟨fun hn => ?_, fun hrun => ?_⟩⟩
  · have hexec : exec (.pinChange i level) s =
        .next (if s.rst.asserted then { s with sense := s.sense.setInput i { s.sense.input i with pin := level } }
          else { s with sense := s.sense.setInput i ((s.sense.input i).move level) }) := rfl
    have hsame : s.sense.setInput i (s.sense.input i) = s.sense := by cases i <;> rfl
    rw [hexec, hr, if_neg Bool.false_ne_true, Input.move, if_pos hp, hsame]
  · have hexec : exec (.pinChange i level) s =
        .next (if s.rst.asserted then { s with sense := s.sense.setInput i { s.sense.input i with pin := level } }
          else { s with sense := s.sense.setInput i ((s.sense.input i).move level) }) := rfl
    rw [hexec, hr, if_neg Bool.false_ne_true, Input.move, if_neg hp]
  · have hexec : exec (.pinChange i level) s =
        .next (if s.rst.asserted then { s with sense := s.sense.setInput i { s.sense.input i with pin := level } }
          else { s with sense := s.sense.setInput i ((s.sense.input i).move level) }) := rfl
    rw [hexec, ha, if_pos rfl]
  · have hexec : exec .pressClassifierWaitEnd s =
        .next (s.outOfReset (fun s => { s with sense := (s.sense.endWait .a).endWait .b })) := rfl
    rw [hexec, State.outOfReset_asserted _ ha]
  · obtain ⟨y, hy⟩ : ∃ y, y = s.sense.endWait .a := ⟨_, rfl⟩
    obtain ⟨z, hz⟩ : ∃ z, z = y.endWait .b := ⟨_, rfl⟩
    have hexec : exec .pressClassifierWaitEnd s = .next { s with sense := z } := by
      rw [hz, hy]
      exact exec_released (c := .pressClassifierWaitEnd) rfl hr
    obtain ⟨a1, a2, a3, a4⟩ := s.sense.endWait_does .a
    obtain ⟨b1, b2, b3, b4⟩ := y.endWait_does .b
    rw [← hy] at a1 a2 a3 a4
    rw [← hz] at b1 b2 b3 b4
    refine ⟨_, hexec, ?_, fun side => ?_⟩
    · rw [a1] at b1
      exact congrArg (fun z => { s with sense := z }) b1
    · cases side with
      | a =>
        obtain ⟨h1, h2⟩ := b2 .a nofun
        refine ⟨fun h => ?_, fun h => ?_⟩
        · rw [h1, h2, a3 h]
          exact ⟨rfl, rfl⟩
        · obtain ⟨k1, k2⟩ := a4 h
          rw [h1, h2, k1, k2]
          exact ⟨rfl, rfl⟩
      | b =>
        obtain ⟨h1, h2⟩ := a2 .b nofun
        rw [h1, h2] at b4
        rw [h1] at b3
        refine ⟨fun h => ?_, fun h => ?_⟩
        · rw [b3 h]
          exact ⟨h1, h2⟩
        · obtain ⟨k1, k2⟩ := b4 h
          rw [k1, k2]
          exact ⟨rfl, rfl⟩
  · have hexec : exec (.endOfPeriod i) s = .next (s.periodEnd i) := rfl
    rw [hexec, State.periodEnd, hn]
    rfl
  · have hexec : exec (.endOfPeriod i) s = .next (s.periodEnd i) := rfl
    obtain ⟨htimers, hfuel⟩ := State.periodEnd_does hrun
    have hself : (s.periodEnd i).timers.get i = (s.timers.get i).endPeriod := by rw [htimers, Timers.get_set, if_pos rfl]
    rw [hexec]
    refine ⟨_, rfl, s.periodEnd_only i, fun j hj => ?_, fun hp => ?_, fun hp => ?_, ?_, ?_, ?_, ?_, ?_, ?_⟩
    · rw [htimers, Timers.get_set, if_neg (Ne.symm hj)]
    · rw [hself]
      simp [Timer.endPeriod, hp]
    · rw [hself]
      simp [Timer.endPeriod, hp]
    · rw [hself]
      exact hrun
    all_goals rw [hself]
    · rfl
    · rfl
    · rfl
    · rfl
    · exact hfuel

/-! ### O49: the buttons -/

theorem Sense.press_setInput (x : Sense) (i : DigitalIn) (y : Input) (side : Side) :
    (x.setInput i y).press side = x.press side := by
  cases i <;> cases side <;> rfl

/-- R130: a debounced button presses or releases its classifier. -/
theorem State.debounced_button {s : State} (hr : s.rst.asserted = false) {side : Side} (held : Nat) {x : Sense}
    (ht : (s.sense.input (buttonOf side)).timer = true)
    (hx : x = s.sense.setInput (buttonOf side)
      { pin := (s.sense.input (buttonOf side)).pin, level := (s.sense.input (buttonOf side)).pin, timer := false
        fromReset := false }) :
    exec (.debounceExpiry (buttonOf side) held) s =
      .next (if (s.sense.input (buttonOf side)).pin then State.pressed { s with sense := x } side
        else State.released { s with sense := x } side held) := by
  have hexec : exec (.debounceExpiry (buttonOf side) held) s = .next (s.debounced (buttonOf side) held) :=
    exec_released (c := .debounceExpiry (buttonOf side) held) (event := fun s => s.debounced (buttonOf side) held) rfl hr
  rw [hexec, State.debounced, if_pos ht, hx]
  cases side <;> rfl

/-- R185: the entries of the account bound to a bunk, in their rank. -/
theorem State.mem_bunkEntries {s : State} {side : Side} {i : Slot} (hi : s.boundSlot side.bunk = some i) {e : Entry} :
    e ∈ s.bunkEntries side ↔ e ∈ s.warn.entries ∧ e.source = .slot i ∧ e.type.ofAccount = true := by
  simp [State.bunkEntries, hi, (rankOrder_perm _).mem_iff]

theorem State.bunkEntries_ranked (s : State) (side : Side) : (s.bunkEntries side).Pairwise Entry.ranksFirst := by
  unfold State.bunkEntries
  split
  · exact (rankOrder_pairwise _).filter _
  · exact .nil

/-- R185: every entry of the account is SILENCED. -/
theorem State.shortPress_silenced {s : State} {side : Side} (hsome : s.bunkEntries side ≠ [])
    (hall : ∀ e ∈ s.bunkEntries side, e.state = .silenced) : s.shortPress side = s := by
  have hnone : (s.bunkEntries side).find? (fun e => decide (e.state ≠ .silenced)) = none := by
    rw [List.find?_eq_none]
    intro e he
    simp [hall e he]
  rw [State.shortPress, if_neg (by simpa using hsome), hnone]

/-- R185: the highest-ranked entry that is not SILENCED is acknowledged. -/
theorem State.shortPress_acknowledges {s : State} {side : Side} {x : Entry} (hx : x ∈ s.bunkEntries side)
    (hs : x.state ≠ .silenced) :
    ∃ e ∈ s.bunkEntries side, e.state ≠ .silenced ∧ s.shortPress side = s.acknowledge e ∧
      ∀ y ∈ s.bunkEntries side, y.state ≠ .silenced → e.ranksFirst y := by
  cases hf : (s.bunkEntries side).find? (fun e => decide (e.state ≠ .silenced)) with
  | none =>
    rw [List.find?_eq_none] at hf
    exact absurd (hf x hx) (by simp [hs])
  | some e =>
    have hsome : s.bunkEntries side ≠ [] := List.ne_nil_of_mem hx
    refine ⟨e, List.mem_of_find?_eq_some hf, by simpa using List.find?_some hf, ?_, fun y hy hn => ?_⟩
    · rw [State.shortPress, if_neg (by simpa using hsome), hf]
    · exact find?_first Entry.ranksFirst_refl (s.bunkEntries_ranked side) hf y hy (by simpa using hn)

theorem State.shortPress_toggles {s : State} {side : Side} (h : s.bunkEntries side = []) :
    s.shortPress side = s.toggleManual side := by
  rw [State.shortPress, if_pos (by simp [h])]

/-- R112: what an acknowledgement leaves of the list. -/
theorem State.acknowledge_does {s : State} {e : Entry} (he : e ∈ s.warn.entries) (hs : e.state ≠ .silenced) :
    s.acknowledge e = { s with warn := (s.acknowledge e).warn } ∧ s.warn.lampWorked (s.acknowledge e).warn ∧
    (s.acknowledge e).warn.entries =
      if e.type.isEvent then
        s.warn.entries.filter (fun y => !(decide (y.source = e.source) && decide (y.type = e.type)))
      else
        s.warn.entries.map (fun y =>
          if y.source = e.source ∧ y.type = e.type then { y with state := .silenced, due := none, falling := false }
          else y) := by
  cases hv : e.type.isEvent with
  | true =>
    have heq : s.acknowledge e = s.setWarn (s.warn.dropped e.source e.type) := by
      rw [State.acknowledge, if_pos hv, State.dropEntry_eq (hasPair_iff.mpr ⟨e, he, rfl, rfl⟩)]
    rw [heq]
    exact ⟨rfl, Warn.workLamp_worked _ _ _, rfl⟩
  | false =>
    rw [State.acknowledge_condition hv hs]
    exact ⟨rfl, Warn.workLamp_worked _ _ _, rfl⟩

/-- R186: a manual order that stands is removed, with a pass. -/
theorem State.toggleManual_off {s : State} (hr : s.rst.asserted = false) {side : Side}
    (h : ∃ o ∈ s.orders, o.key = manualKey side) :
    ∃ b : State, b = { s with orders := s.orders.filter (fun o => decide (o.key ≠ manualKey side)), port := b.port } ∧
      s.port.settingsKept b.port ∧ Notice.order.inByte b.port.flags = true ∧ b.afterPass (s.toggleManual side) := by
  obtain ⟨w, hw⟩ : ∃ w : State, w = { s with orders := eraseOrder (manualKey side) s.orders } := ⟨_, rfl⟩
  have hwr : w.rst.asserted = false := by rw [hw]; exact hr
  have hsome := findOrder_isSome.mpr h
  have heq : s.toggleManual side = (w.notice .order).pass := by
    rw [State.toggleManual, if_pos hsome, hw]
  refine ⟨w.notice .order, ?_, ?_, ?_, ?_⟩
  · have honly : w.notice .order = { w with port := (w.notice .order).port } := by
      apply State.ext <;> simp
    rw [honly, hw]
    rfl
  · have hkept := (State.notice_noticed .order (.refl w)).flagsKept
    rwa [show w.port = s.port by rw [hw]] at hkept
  · rw [State.notice_inByte]
    simp [hwr]
  · rw [heq]
    exact State.pass_spec _ (by simpa using hwr)

/-- R186: a manual order is placed in a free place of NORMAL or WORKSHOP, with a pass. -/
theorem State.toggleManual_on {s : State} (hr : s.rst.asserted = false) {side : Side}
    (h : ∀ o ∈ s.orders, o.key ≠ manualKey side) (hp : s.mayPlace = true) :
    State.afterPass { s with orders := insertOrder (manualOrder side s.clock.minute) s.orders } (s.toggleManual side) := by
  have hno : (findOrder (manualKey side) s.orders).isSome = false := by rw [findOrder_none.mpr h]; rfl
  have heq : s.toggleManual side =
      ({ s with orders := insertOrder (manualOrder side s.clock.minute) s.orders } : State).pass := by
    rw [State.toggleManual, hno, if_neg Bool.false_ne_true, if_pos hp, State.placePart, hp, Bool.or_true, if_pos rfl]
  rw [heq]
  exact State.pass_spec _ hr

/-- R186: elsewhere it is not placed, and ORDER is set. -/
theorem State.toggleManual_full {s : State} (hr : s.rst.asserted = false) {side : Side}
    (h : ∀ o ∈ s.orders, o.key ≠ manualKey side) (hp : s.mayPlace = false) :
    s.toggleManual side = { s with port := (s.toggleManual side).port } ∧
    Notice.order.inByte (s.toggleManual side).port.flags = true := by
  have hno : (findOrder (manualKey side) s.orders).isSome = false := by rw [findOrder_none.mpr h]; rfl
  have hkey : (manualOrder side s.clock.minute).key = manualKey side := rfl
  have heq : s.toggleManual side = s.notice .order := by
    rw [State.toggleManual, hno, if_neg Bool.false_ne_true, hp, if_neg Bool.false_ne_true, State.placePart, hkey, hno, hp]
    rfl
  rw [heq]
  refine ⟨by apply State.ext <;> simp, ?_⟩
  rw [State.notice_inByte]
  simp [hr]

/-- Settles O49. -/
theorem buttonsClassifyTheirPresses : Obligations.ButtonsClassifyTheirPresses := by
  unfold Obligations.ButtonsClassifyTheirPresses
  intro side held s hr inp hinp ht x hx
  rw [hinp] at ht hx ⊢
  rw [State.debounced_button hr held ht hx]
  have hpress : x.press side = s.sense.press side := by rw [hx, Sense.press_setInput]
  refine ⟨fun hp hs => ?_, fun hp hs => ?_, fun hp => ?_⟩
  · rw [hp, if_pos rfl, State.pressed, if_pos (by rw [hpress]; exact hs)]
  · rw [hp, if_pos rfl, State.pressed, if_neg (by rw [hpress]; exact hs)]
  rw [hp, if_neg Bool.false_ne_true]
  refine ⟨fun hs => ?_, fun hs => ?_, fun u hu hs => ?_⟩
  · obtain hs | hs := hs <;> simp [State.released, hpress, hs]
  · obtain hs | hs := hs <;> simp [State.released, hpress, hs]
  have hrelease : State.released { s with sense := x } side held = if held < 1000 then u.shortPress side else u := by
    simp [State.released, hpress, hs, hu]
  rw [hrelease]
  have hur : u.rst.asserted = false := by rw [hu]; exact hr
  have huwarn : u.warn = s.warn := by rw [hu]
  have huorders : u.orders = s.orders := by rw [hu]
  have huport : u.port = s.port := by rw [hu]
  have hubound : u.boundSlot = s.boundSlot := by rw [hu]; rfl
  refine ⟨fun h => by rw [if_neg (by omega)], fun h => ?_⟩
  rw [if_pos h]
  refine ⟨fun i hi hacc => ⟨fun hsome hall => ?_, fun hsome => ?_⟩, fun hnone => ⟨fun ho => ?_, fun ho => ⟨fun hm hl => ?_, fun hm => ?_⟩⟩⟩
  · obtain ⟨e, he, hsrc⟩ := hsome
    have hmem : e ∈ u.bunkEntries side :=
      (State.mem_bunkEntries (hubound ▸ hi)).mpr ⟨huwarn ▸ he, hsrc, hacc e he hsrc⟩
    rw [State.shortPress_silenced (List.ne_nil_of_mem hmem) fun y hy => ?_]
    obtain ⟨hy, hysrc, -⟩ := (State.mem_bunkEntries (hubound ▸ hi)).mp hy
    exact hall y (huwarn ▸ hy) hysrc
  · obtain ⟨x, hx, hxsrc, hxs⟩ := hsome
    obtain ⟨e, he, hes, heq, hrank⟩ := State.shortPress_acknowledges
      ((State.mem_bunkEntries (hubound ▸ hi)).mpr ⟨huwarn ▸ hx, hxsrc, hacc x hx hxsrc⟩) hxs
    obtain ⟨hemem, hesrc, -⟩ := (State.mem_bunkEntries (hubound ▸ hi)).mp he
    obtain ⟨h1, h2, h3⟩ := State.acknowledge_does hemem hes
    rw [huwarn] at h2 h3 hemem
    rw [heq]
    refine ⟨_, rfl, h1, h2, e, hemem, hesrc, hes, fun y hy hysrc hys => ?_, h3⟩
    have hy := (State.mem_bunkEntries (hubound ▸ hi)).mpr ⟨huwarn ▸ hy, hysrc, hacc y hy hysrc⟩
    obtain hlt | ⟨heq, -⟩ := hrank y hy hys
    · exact Nat.le_of_lt hlt
    · exact Nat.le_of_eq heq
  all_goals
    have hempty : u.bunkEntries side = [] := by
      cases hb : u.boundSlot side.bunk with
      | none => simp [State.bunkEntries, hb]
      | some i =>
        refine List.eq_nil_iff_forall_not_mem.mpr fun e he => ?_
        obtain ⟨he, hsrc, -⟩ := (State.mem_bunkEntries hb).mp he
        exact hnone i (hubound ▸ hb) e (huwarn ▸ he) hsrc
    rw [State.shortPress_toggles hempty]
  · obtain ⟨b, h1, h2, h3, h4⟩ := State.toggleManual_off hur (by rw [huorders]; exact ho)
    rw [huport] at h2
    rw [huorders] at h1
    exact ⟨_, rfl, b, h1, h2, h3, h4⟩
  · have hplace : u.mayPlace = true := (State.mayPlace_iff u).mpr ⟨huport ▸ hm, huorders ▸ hl⟩
    have hon := State.toggleManual_on hur (side := side) (by rw [huorders]; exact ho) hplace
    have hminute : u.clock.minute = s.clock.minute := by rw [hu]
    rw [huorders, hminute] at hon
    exact ⟨_, rfl, hon⟩
  · have hplace : u.mayPlace = false := by
      rw [Bool.eq_false_iff]
      intro hp
      have hp := (State.mayPlace_iff u).mp hp
      rw [huport, huorders] at hp
      exact hm hp
    exact ⟨_, rfl, State.toggleManual_full hur (by rw [huorders]; exact ho) hplace⟩

end Sys2Proof.Machine
end

section
/-! PROOF. The commands of the part mode: O9. -/
namespace Sys2Proof.Machine

/-! ### The list after a pass -/

theorem Warn.fridgeWarmGone.entries {w v : Warn} (h : w.fridgeWarmGone v) : ∀ e ∈ v.entries, e ∈ w.entries := by
  intro e he
  by_cases hp : hasPair .part .fridgeWarm v.entries = hasPair .part .fridgeWarm w.entries
  · rw [← h.1 hp]
    exact he
  · rw [(h.2 hp).1] at he
    exact List.mem_of_mem_filter he

theorem Warn.fridgeWarmGone.chime {w v : Warn} (h : w.fridgeWarmGone v) :
    (v.chime = .idle ↔ w.chime = .idle) ∧
    ((∀ n snd owned, w.chime ≠ .sounding .part .fridgeWarm n snd owned) → v.chime = w.chime) := by
  by_cases hp : hasPair .part .fridgeWarm v.entries = hasPair .part .fridgeWarm w.entries
  · rw [h.1 hp]
    exact ⟨Iff.rfl, fun _ => rfl⟩
  · rw [(h.2 hp).2.1]
    cases hc : w.chime with
    | idle => exact ⟨Iff.rfl, fun _ => rfl⟩
    | sounding a x n snd owned =>
      refine ⟨⟨nofun, nofun⟩, fun hn => ?_⟩
      have hother : (decide (a = .part) && decide (x = .fridgeWarm)) = false := by
        rw [Bool.eq_false_iff]
        intro hboth
        simp only [Bool.and_eq_true, decide_eq_true_eq] at hboth
        obtain ⟨rfl, rfl⟩ := hboth
        exact hn n snd owned rfl
      simp [hother]

theorem State.afterPass.warn {s t : State} (h : s.afterPass t) : s.warn.fridgeWarmGone t.warn := by
  obtain ⟨-, -, -, -, -, h, -⟩ := h
  exact h

/-- R107: a pass leaves no due entry suppressed, nor an idle chime beside one. -/
theorem State.afterPass.dueSettled {s t : State} (h : s.afterPass t) (hs : s.dueSettled) : t.dueSettled := by
  have hwarn := h.warn
  obtain ⟨-, -, -, -, -, -, -, -, -, -, ⟨-, -, hacc, -, hquiet, -⟩, -, hport, -⟩ := h
  exact hs.congr hport.1 hquiet hacc hwarn.entries fun hc ht => hc (hwarn.chime.1.mp ht)

/-! ### A test that moves no pair -/

section
variable {work u : State} (hr : work.rst.asserted = false) (hu : work.sameList u)
include hr hu

theorem State.settle_listKept : work.listKept [] u.settle := by
  have hur : u.rst.asserted = false := hu.asserted.trans hr
  have hdeal : work.deals (.of (· = work.suppressed) [] False) u.settle :=
    ((State.deals.refl _ hr).same hu).settle hu.suppressed
  exact hdeal.listKept (fun f hf => .inl hf) (fun h => h.elim) fun _ => State.settle_dueSettled hur

theorem State.settle_over
    (honly : u = { work with warn := u.warn, timers := { work.timers with t7 := u.timers.t7 }, port := u.port }) :
    u.settle =
      { work with warn := u.settle.warn, timers := { work.timers with t7 := u.settle.timers.t7 }, port := u.settle.port } ∧
    u.settle.rst.asserted = false ∧ work.port.settingsKept u.settle.port := by
  have hframe := (u.settle_frame).only
  have hport : u.settle.port = u.port := by rw [hframe]
  have hrst : u.settle.rst = u.rst := by rw [hframe]
  rw [hport, hrst]
  refine ⟨?_, hu.asserted.trans hr, hu.port⟩
  generalize u.settle = v at hframe
  rw [honly] at hframe
  exact hframe

end

/-! ### INIT, the self-test's end and SHUT -/

theorem Port.settingsKept.mode {p q : Port} (h : p.settingsKept q) (m : PartMode) :
    Port.settingsKept { p with mode := m } { q with mode := m } := by
  obtain ⟨-, h2, h3, h4, h5, h6, h7, h8⟩ := h
  exact ⟨rfl, h2, h3, h4, h5, h6, h7, h8⟩

theorem Port.settingsKept.initMode {p q : Port} (h : p.settingsKept q) (m : InitMode) :
    Port.settingsKept { p with initMode := m } { q with initMode := m } := by
  obtain ⟨h1, h2, h3, h4, h5, h6, -, h8⟩ := h
  exact ⟨h1, h2, h3, h4, h5, h6, rfl, h8⟩

theorem Port.settingsKept.cause {p q : Port} (h : p.settingsKept q) (c : ResetCause) :
    Port.settingsKept { p with cause := c } { q with cause := c } := by
  obtain ⟨h1, h2, h3, h4, h5, -, h7, h8⟩ := h
  exact ⟨h1, h2, h3, h4, h5, rfl, h7, h8⟩

theorem State.sameList.of_port {work w : State} (honly : w = { work with port := w.port })
    (hport : work.port.settingsKept w.port) : work.sameList w := by
  refine ⟨?_, ?_, ?_, ?_, ?_, ?_, hport⟩ <;> rw [honly]

/-- R195: a mode entered by a request from a state that differs from what the frame found in its port, in its list and
in T7 alone. -/
theorem State.takeFrame_entered {s work w : State} {f : State → State × Reply} {r : Reply} (h : s.serves)
    (hwork : work.rst.asserted = false) (hsame : work.sameList w)
    (honly : w = { work with warn := w.warn, timers := { work.timers with t7 := w.timers.t7 }, port := w.port })
    (hf : f s.inFrame = (w.settle.pass, r)) :
    (s.takeFrame f).answers r ∧ (s.takeFrame f).dueSettled ∧ work.thenPass [] (s.takeFrame f) ∧
    w.settle.afterPass (s.takeFrame f) := by
  obtain ⟨h1, h2, h3⟩ := State.settle_over hwork hsame honly
  have hwr : w.rst.asserted = false := hsame.asserted.trans hwork
  obtain ⟨-, hafter, -⟩ := State.takeFrame_after h h2 hf
  obtain ⟨hans, hthen⟩ := State.takeFrame_thenPass h hf h1 h2 h3 (State.settle_listKept hwork hsame)
  exact ⟨hans, hafter.dueSettled (State.settle_dueSettled hwr), hthen, hafter⟩

/-- R108: the entry into SELFTEST stops a burst, whose entry is due again and counts nothing. -/
theorem State.cutBurst_requeueDue (s : State) :
    s.cutBurst Entry.requeueDue =
      { s with
        warn :=
          { s.warn with
            chime := .idle
            entries :=
              match s.warn.chime with
              | .idle => s.warn.entries
              | .sounding a w _ _ _ =>
                s.warn.entries.map (fun e =>
                  if e.source = a ∧ e.type = w ∧ e.state = .presenting then
                    { e with state := .queued, due := some 0, falling := false }
                  else e) }
        timers := if s.warn.chime = .idle then s.timers else { s.timers with t7 := s.timers.t7.halt } } := by
  unfold State.cutBurst
  cases hc : s.warn.chime with
  | idle =>
    have hwarn : s.warn = { s.warn with chime := .idle } := by rw [← hc]
    rw [if_pos rfl]
    exact congrArg (fun w => ({ s with warn := w } : State)) hwarn
  | sounding a w n snd owned =>
    have hmap : mapPair a w (fun e => if e.state = .presenting then e.requeueDue else e) s.warn.entries =
        s.warn.entries.map (fun e =>
          if e.source = a ∧ e.type = w ∧ e.state = .presenting then
            { e with state := .queued, due := some 0, falling := false }
          else e) := by
      refine List.map_congr_left fun e _ => ?_
      simp only [Entry.isPair, Bool.and_eq_true, decide_eq_true_eq, Entry.requeueDue]
      split <;> split <;> simp_all
    rw [if_neg nofun]
    exact congrArg (fun es => ({ s with warn := { s.warn with chime := .idle, entries := es }, timers := { s.timers with t7 := s.timers.t7.halt } } : State)) hmap

/-- R107: a list with nothing to test or to select is left as it is. -/
theorem State.settle_quiet {s : State} (hr : s.rst.asserted = false)
    (h : ∀ e ∈ s.warn.entries, e.ready = true → s.suppressed e = false ∧ s.warn.chime ≠ .idle) :
    s.settle.warn = s.warn := by
  obtain ⟨-, heq⟩ | ⟨hi, -, e, he, hre, -⟩ := State.settle_cases hr
  · have htested : s.tested = s.warn.entries := by
      rw [State.tested_eq]
      refine (List.map_congr_left fun e he => ?_).trans (List.map_id _)
      exact if_neg fun hb => Bool.noConfusion (hb.2.symm.trans (h e he hb.1).1)
    rw [heq, State.silenced, htested]
  · exact absurd hi (h e he hre).2

theorem lowestFailed_some {failed : List (Fin 5)} {u : Fin 5} (h : lowestFailed failed = some u) :
    u ∈ failed ∧ ∀ k ∈ failed, u ≤ k := by
  induction failed generalizing u with
  | nil => cases h
  | cons t ts ih =>
    unfold lowestFailed at h
    cases hl : lowestFailed ts with
    | none =>
      rw [hl] at h
      cases h
      rw [lowestFailed_none.mp hl]
      exact ⟨List.mem_cons_self, fun k hk => by rw [List.mem_singleton.mp hk]⟩
    | some v =>
      obtain ⟨hv, hle⟩ := ih hl
      rw [hl] at h
      dsimp only at h
      split at h
      next htv =>
        cases h
        exact ⟨List.mem_cons_self, List.forall_mem_cons.mpr ⟨Nat.le_refl _, fun k hk => Nat.le_trans htv (hle k hk)⟩⟩
      next htv =>
        cases h
        exact ⟨List.mem_cons_of_mem _ hv, List.forall_mem_cons.mpr ⟨Nat.le_of_lt (Nat.lt_of_not_le htv), hle⟩⟩

/-- R196: the self-test's result is its lowest failed test. -/
theorem lowestFailed_least {failed : List (Fin 5)} {n : Fin 5} (hn : n ∈ failed) (hle : ∀ k ∈ failed, n ≤ k) :
    lowestFailed failed = some n := by
  cases hl : lowestFailed failed with
  | none =>
    rw [lowestFailed_none.mp hl] at hn
    cases hn
  | some u =>
    obtain ⟨hu, hu'⟩ := lowestFailed_some hl
    rw [Nat.le_antisymm (hu' n hn) (hle u hu) |> Fin.ext]

/-- R195: INIT from UNINIT, into a mode that sounds the chime. -/
theorem State.init_enters {s : State} (hs : s.serves) {m : InitMode} (hmode : s.port.mode = .uninit) :
    ∃ t, exec (.init (some m) (some false)) s = .next t ∧ t.answers (done (.mode m.toMode)) ∧ t.dueSettled ∧
      State.thenPass { s with port := { s.port with mode := m.toMode } } [] t := by
  obtain ⟨w, hw⟩ : ∃ w, w = s.inFrame.withPort (fun p => { p with mode := m.toMode }) := ⟨_, rfl⟩
  have hne : m.toMode ≠ .selfTest := by cases m <;> exact nofun
  have hf : reqInit (some m) (some false) s.inFrame = (w.settle.pass, done (.mode m.toMode)) := by
    have hfm : s.inFrame.port.mode = .uninit := by simpa using hmode
    rw [reqInit, if_neg (not_not.mpr hfm), if_neg Bool.false_ne_true, State.changeMode_eq, State.enterMode, if_neg hne, hw]
  have honly : w = { ({ s with port := { s.port with mode := m.toMode } } : State) with port := w.port } := by
    rw [hw, s.inFrame_eq]
    rfl
  have hport : Port.settingsKept { s.port with mode := m.toMode } w.port := by
    rw [hw]
    exact s.inFrame_settingsKept.mode m.toMode
  obtain ⟨h1, h2, h3, -⟩ := State.takeFrame_entered (work := { s with port := { s.port with mode := m.toMode } }) (w := w)
    hs hs.1 (.of_port honly hport) (by rw [honly]) hf
  exact ⟨_, rfl, h1, h2, h3⟩

/-- R195, R108: INIT from UNINIT, into SELFTEST. -/
theorem State.init_tests {s work : State} (hs : s.serves) {m : InitMode} (hmode : s.port.mode = .uninit)
    (hwork : work = State.cutBurst { s with port := { s.port with mode := .selfTest, initMode := m } } Entry.requeueDue) :
    ∃ t, exec (.init (some m) (some true)) s = .next t ∧ t.answers (done (.mode .selfTest)) ∧ t.warn.chime = .idle ∧
      t.dueSettled ∧ work.thenPass [] t := by
  obtain ⟨w, hw⟩ : ∃ w, w = State.cutBurst
      { s.inFrame with port := { s.inFrame.port with mode := .selfTest, initMode := m } } Entry.requeueDue := ⟨_, rfl⟩
  have hf : reqInit (some m) (some true) s.inFrame = (w.settle.pass, done (.mode .selfTest)) := by
    have hfm : s.inFrame.port.mode = .uninit := by simpa using hmode
    rw [reqInit, if_neg (not_not.mpr hfm), if_pos rfl, State.changeMode_eq, State.enterMode, if_pos rfl, hw]
    rfl
  have hport : Port.settingsKept { s.port with mode := .selfTest, initMode := m }
      { s.inFrame.port with mode := .selfTest, initMode := m } :=
    (s.inFrame_settingsKept.mode .selfTest).initMode m
  have hwport : w.port = { s.inFrame.port with mode := .selfTest, initMode := m } := by rw [hw]; simp
  have honly : w = { work with port := w.port } := by
    rw [hwport, hw, hwork, State.cutBurst_requeueDue, State.cutBurst_requeueDue, s.inFrame_eq]
  have hworkport : work.port = { s.port with mode := .selfTest, initMode := m } := by rw [hwork]; simp
  have hwr : work.rst.asserted = false := by rw [hwork]; simpa using hs.1
  obtain ⟨h1, h2, h3, h4⟩ := State.takeFrame_entered (work := work) (w := w) hs hwr
    (.of_port honly (by rw [hworkport, hwport]; exact hport)) (by rw [honly]) hf
  refine ⟨_, rfl, h1, ?_, h2, h3⟩
  have hidle : w.warn.chime = .idle := by rw [hw, State.cutBurst_requeueDue]
  have hself : w.port.mode = .selfTest := by rw [hwport]
  have hwrst : w.rst.asserted = false := by rw [honly]; exact hwr
  obtain ⟨-, heq⟩ | ⟨-, hm, -⟩ := State.settle_cases hwrst
  · rw [h4.warn.chime.1, heq]
    exact hidle
  · exact absurd hself hm

/-- R196: the self-test's end, by its result. -/
theorem State.selftest_ends {s : State} (hr : s.rst.asserted = false) {x : SelfTest} {m : PartMode}
    (hm : m ≠ .selfTest) {t : State}
    (ht : t = ((s.withPort (fun p => { p with selfTest := x })).notice .part).changeMode m) :
    Notice.part.inByte t.port.flags = true ∧ t.dueSettled ∧
    State.thenPass { s with port := { s.port with selfTest := x, mode := m } } [] t := by
  obtain ⟨v, hv⟩ : ∃ v, v = s.withPort (fun p => { p with selfTest := x }) := ⟨_, rfl⟩
  obtain ⟨work, hwork⟩ : ∃ work : State, work = { s with port := { s.port with selfTest := x, mode := m } } := ⟨_, rfl⟩
  obtain ⟨w, hw⟩ : ∃ w, w = (v.notice .part).withPort (fun p => { p with mode := m }) := ⟨_, rfl⟩
  have hvr : v.rst.asserted = false := by rw [hv]; exact hr
  have heq : t = w.settle.pass := by
    rw [ht, State.changeMode_eq, State.enterMode, if_neg hm, hw, hv]
  have honly : w = { work with port := w.port } := by
    rw [hw, hwork]
    apply State.ext <;> simp [hv, State.withPort]
  have hport : work.port.settingsKept w.port := by
    have hkept := (State.notice_noticed .part (.refl v)).flagsKept.mode m
    rw [hw, hwork]
    rw [hv] at hkept ⊢
    exact hkept
  have hwr : work.rst.asserted = false := by rw [hwork]; exact hr
  have hflag : Notice.part.inByte w.port.flags = true := by
    have hset : Notice.part.inByte (v.notice .part).port.flags = true := by
      rw [State.notice_inByte]
      simp [hvr]
    rw [hw]
    exact hset
  obtain ⟨h1, h2, h3⟩ := State.settle_over hwr (.of_port honly hport) (by rw [honly])
  have hafter := State.pass_spec w.settle h2
  have hwrst : w.rst.asserted = false := by rw [honly]; exact hwr
  rw [← hwork, heq]
  refine ⟨hafter.flag ?_, hafter.dueSettled (State.settle_dueSettled hwrst),
    State.thenPass_of h1 h2 h3 (State.settle_listKept hwr (.of_port honly hport))⟩
  rw [show w.settle.port = w.port by rw [(w.settle_frame).only]]
  exact hflag

/-- R32: a pass over an empty table. -/
theorem Reading.run_nil (r : Reading) : r.run [] = { orders := [], committed := 0, removed := false, changed := false } := by
  have hcands : r.candidates [] = [] := by
    have hnone : r.candidate [] = fun _ => none := by
      funext load
      unfold Reading.candidate
      split <;> rfl
    rw [Reading.candidates, hnone]
    rfl
  simp [Reading.run, Reading.resolved, hcands, Reading.walk]

/-- R197: SHUT. -/
theorem State.shuts {s : State} (hs : s.serves) (hmode : s.port.mode ≠ .uninit) :
    ∃ t, exec .shut s = .next t ∧ t.answers (done .empty) ∧ t.orders = [] ∧ t.alloc.committed = 0 ∧
      Notice.order.inByte t.port.flags = Notice.order.inByte s.port.flags ∧
      (∀ load, t.presented load = none) ∧
      (s.dueSettled →
        (∀ e ∈ s.warn.entries, e.isPair .part .fridgeWarm = false → e ∈ t.warn.entries) ∧
        ((∀ n snd owned, s.warn.chime ≠ .sounding .part .fridgeWarm n snd owned) →
          t.warn.chime = s.warn.chime)) ∧
      State.thenPass { s with orders := [], port := { s.port with mode := .uninit, cause := .shut } } [] t := by
  obtain ⟨work, hwork⟩ : ∃ work : State,
      work = { s with orders := [], port := { s.port with mode := .uninit, cause := .shut } } := ⟨_, rfl⟩
  obtain ⟨w, hw⟩ : ∃ w : State,
      w = { s.inFrame with orders := [], port := { s.inFrame.port with mode := .uninit, cause := .shut } } := ⟨_, rfl⟩
  have hf : reqShut s.inFrame = (w.settle.pass, done .empty) := by
    have hfm : s.inFrame.port.mode ≠ .uninit := by simpa using hmode
    rw [reqShut, if_neg hfm, State.changeMode_eq, State.enterMode, if_neg nofun, hw]
    rfl
  have honly : w = { work with port := w.port } := by
    rw [hw, hwork, s.inFrame_eq]
  have hport : work.port.settingsKept w.port := by
    rw [hw, hwork]
    exact (s.inFrame_settingsKept.mode .uninit).cause .shut
  have hwr : work.rst.asserted = false := by rw [hwork]; exact hs.1
  obtain ⟨h1, h2, h3, h4⟩ := State.takeFrame_entered hs hwr (.of_port honly hport) (by rw [honly]) hf
  rw [← hwork]
  have hwrst : w.rst.asserted = false := by rw [honly]; exact hwr
  obtain ⟨hover, -⟩ := State.settle_over hwr (.of_port honly hport) (by rw [honly])
  have horders : w.settle.orders = [] := by rw [hover, hwork]
  obtain ⟨k1, k2, k3, k4, -⟩ := id h4
  refine ⟨_, rfl, h1, ?_, ?_, ?_, fun load => ?_, fun hd => ?_, h3⟩
  · rw [k1, horders, Reading.run_nil]
  · rw [k2, horders, Reading.run_nil]
  · have hflags : w.settle.port.flags = s.port.flags := by
      rw [show w.settle.port = w.port by rw [(w.settle_frame).only], hw]
      exact s.inFrame_portKept.2
    rw [k3, horders, Reading.run_nil, hflags]
    simp
  · rw [k4, k1, horders, Reading.run_nil]
    rfl
  · have hwwarn : w.warn = s.warn := by rw [honly, hwork]
    have hsupp : ∀ e, s.suppressed e = false → w.suppressed e = false := fun e he => by
      have hquiet : w.quiet = s.quiet := by rw [honly, hwork]
      have hacc : w.restingSource = s.restingSource := by rw [honly, hwork]; rfl
      have hmode' : w.port.mode = .uninit := by rw [hw]
      unfold State.suppressed at he ⊢
      rw [hquiet, hacc, hmode']
      simp at he ⊢
      exact he.2
    have hsettled : w.settle.warn = s.warn := by
      rw [← hwwarn]
      refine State.settle_quiet hwrst fun e he hre => ?_
      rw [hwwarn] at he ⊢
      obtain ⟨hns, hc⟩ := hd e he hre
      exact ⟨hsupp e hns, hc.resolve_right hs.2⟩
    have hwarn := h4.warn
    obtain ⟨-, -, -, -, kmem, -⟩ := h4
    rw [hsettled] at hwarn kmem
    exact ⟨fun e he hne => (kmem e hne).mpr he, hwarn.chime.2⟩

/-- Settles O9. -/
theorem modeCommandsAct : Obligations.ModeCommandsAct := by
  unfold Obligations.ModeCommandsAct
  refine ⟨fun s hs => ⟨fun m b hnone => ?_, fun m b hm => ?_, fun m hm => State.init_enters hs hm,
    fun m hm => State.init_tests hs hm (State.cutBurst_requeueDue { s with port := { s.port with mode := .selfTest, initMode := m } }).symm⟩, fun s hr => ⟨fun hm failed => ?_, fun hm => ?_,
    fun hm failed n hn hle => ?_⟩, fun s hs => ⟨fun hm => ?_, State.shuts hs⟩⟩
  · refine refuses_of (f := reqInit m b) hs rfl ?_
    obtain rfl | rfl := hnone
    · rfl
    · cases m <;> rfl
  · exact refuses_of (f := reqInit (some m) (some b)) hs rfl (by simp [reqInit, hm])
  · have hexec : exec (.selftestEnd failed) s = .next (s.selftestEnd failed) :=
      exec_released (c := .selftestEnd failed) (event := fun s => s.selftestEnd failed) rfl hr
    rw [hexec, State.selftestEnd, if_pos hm]
  · have hexec : exec (.selftestEnd []) s = .next (s.selftestEnd []) :=
      exec_released (c := .selftestEnd []) (event := fun s => s.selftestEnd []) rfl hr
    refine ⟨_, hexec, State.selftest_ends hr (by cases s.port.initMode <;> exact nofun) ?_⟩
    rw [State.selftestEnd, if_neg (not_not.mpr hm)]
    rfl
  · have hexec : exec (.selftestEnd failed) s = .next (s.selftestEnd failed) :=
      exec_released (c := .selftestEnd failed) (event := fun s => s.selftestEnd failed) rfl hr
    refine ⟨_, hexec, State.selftest_ends hr (x := .failed n) (m := .uninit) nofun ?_⟩
    rw [State.selftestEnd, if_neg (not_not.mpr hm), lowestFailed_least hn hle]
  · exact refuses_of (f := reqShut) hs rfl (by simp [reqShut, hm])

end Sys2Proof.Machine
end

section
/-! PROOF. R83, R92: what a working of the quiet flag leaves, as `State.quietWorked` says it. -/
namespace Sys2Proof.Machine

/-! ### The heater, the fridge and CAB_LIGHT -/

theorem State.heaterQuiet_does (s : State) :
    (s.heater.state = .run ∧ s.heater.level = 4 →
      s.heaterQuiet.heater =
        { s.heater with level := 3, desired := 3, stepTimer := 60, fuel := s.heaterQuiet.heater.fuel } ∧
      s.heaterQuiet.timers.t4.given s.heater.params.pulseWidth (60000 / s.heater.params.rate3) ∧
      s.heaterQuiet.timers.t5.given s.heater.params.fan3 1000) ∧
    (¬(s.heater.state = .run ∧ s.heater.level = 4) → s.heaterQuiet = s) := by
  refine ⟨fun h => ?_, fun h => by rw [State.heaterQuiet, if_neg h]⟩
  rw [State.heaterQuiet, if_pos h]
  exact State.writeLevel_does (s.withHeater (fun h => { h with level := 3, desired := 3, stepTimer := 60 })) 3

theorem State.fridgeQuiet_does (s : State) :
    s.fridgeQuiet.fridge = { s.fridge with speed := if s.fridge.state = .run then 1 else s.fridge.speed } ∧
    (s.fridge.state = .run → s.fridge.speed ≠ 1 → s.fridgeQuiet.timers.t6.given 400 1000) ∧
    (s.fridge.state ≠ .run ∨ s.fridge.speed = 1 → s.fridgeQuiet.timers.t6 = s.timers.t6) := by
  unfold State.fridgeQuiet
  split
  next h =>
    obtain ⟨hspeed, ht6⟩ := s.setSpeed_does 1
    refine ⟨by simp only [hspeed, h], fun _ hn => ht6 hn, fun hor => ?_⟩
    obtain hn | h1 := hor
    · exact absurd h hn
    · rw [State.setSpeed, if_pos h1]
  next h => exact ⟨by simp [h], fun hrun => absurd hrun h, fun _ => rfl⟩

/-- Two sets of lights by their channels. -/
theorem Lights.eq_of_channels {l m : Lights} {c : Channel} (hcab : l.cabLight = c)
    (hothers : ∀ j, LightId.cabLight ≠ j → l.get j = m.get j) (hcap : l.quietCap = m.quietCap) :
    l = { m with cabLight := c } := by
  have hreadA : l.readA = m.readA := hothers .readA (by decide)
  have hreadB : l.readB = m.readB := hothers .readB (by decide)
  have hnight : l.nightLight = m.nightLight := hothers .nightLight (by decide)
  cases l
  simp_all

theorem State.cabQuietSet_lights (s : State) :
    s.cabQuietSet.lights = { s.lights with cabLight := s.lights.cabLight.heldTo s.lights.quietCap } :=
  Lights.eq_of_channels s.cabQuietSet_does.1 (fun _ hj => (s.cabQuietSet_others hj).1) (by simp)

theorem State.cabQuietClear_lights (s : State) :
    s.cabQuietClear.lights =
      { s.lights with
        cabLight := s.lights.cabLight.pursue s.lights.cabLight.target (s.lights.cabLight.fadeTime * 100) } :=
  Lights.eq_of_channels s.cabQuietClear_does.1 (fun _ hj => (s.cabQuietClear_others hj).1) (by simp)

/-- A light frame that leaves the other lamps' timers alone moves T2 only. -/
theorem State.lightFrame.timers_t2 {s t : State} (h : s.lightFrame t)
    (ho : ∀ j : LightId, .cabLight ≠ j → t.timers.get j.timer = s.timers.get j.timer) :
    t.timers = { s.timers with t2 := t.timers.t2 } := by
  have honly := h.only
  apply Timers.ext
  · exact ho .readA (by decide)
  · exact ho .readB (by decide)
  · rfl
  · exact ho .nightLight (by decide)
  all_goals rw [honly]

/-! ### The flag set and cleared -/

/-- The state in which the blocks meet a changed quiet flag. -/
def State.quietTo (s : State) (q : Bool) : State := ({ s with quiet := q } : State).notice .account

/-- R92: what the blocks do as the flag is set. -/
def State.hushed (s : State) : State := s.heaterQuiet.fridgeQuiet.cabQuietSet.heaterAttention.fridgeAttention

/-- R92: what they do as it is cleared. -/
def State.unhushed (s : State) : State := s.cabQuietClear.heaterAttention.fridgeAttention

section
variable {s : State} (hr : s.rst.asserted = false)
include hr

theorem State.workQuiet_cases :
    (s.quietNow = s.quiet ∧ s.workQuiet = s) ∨
    (s.quiet = false ∧ s.workQuiet = (s.quietTo true).hushed) ∨
    (s.quiet = true ∧ s.workQuiet = (s.quietTo false).unhushed) := by
  have hnotice : ∀ q, ({ s with quiet := q } : State).accountNotice = s.quietTo q := fun q => by
    simp [State.accountNotice, State.quietTo, hr]
  simp only [State.workQuiet, hnotice]
  by_cases h : s.quietNow = s.quiet
  · exact .inl ⟨h, if_pos h⟩
  · rw [if_neg h]
    cases hn : s.quietNow with
    | true => exact .inr (.inl ⟨by rw [hn] at h; exact Bool.eq_false_iff.mpr (Ne.symm h), rfl⟩)
    | false => exact .inr (.inr ⟨by rw [hn] at h; exact (Bool.not_eq_false _).mp (Ne.symm h), rfl⟩)

end

theorem State.attentions_flag (s : State) (n : Notice) (hh : n ≠ .heater) (hf : n ≠ .fridge) :
    n.inByte s.heaterAttention.fridgeAttention.port.flags = n.inByte s.port.flags := by
  rw [State.fridgeAttention, State.noticeIf_inByte, State.heaterAttention, State.noticeIf_inByte]
  simp [Ne.symm hh, Ne.symm hf]

theorem State.quietTo_flag {s : State} (hr : s.rst.asserted = false) (q : Bool) (n : Notice) :
    n.inByte (s.quietTo q).port.flags = (n.inByte s.port.flags || decide (Notice.account = n)) := by
  rw [State.quietTo, State.notice_inByte]
  simp [hr]

/-- R92: the flag set, block by block. -/
theorem State.hushed_does (s : State) :
    (s.heater.state = .run ∧ s.heater.level = 4 →
      s.hushed.heater = { s.heater with level := 3, desired := 3, stepTimer := 60, fuel := s.hushed.heater.fuel } ∧
      s.hushed.timers.t4.given s.heater.params.pulseWidth (60000 / s.heater.params.rate3) ∧
      s.hushed.timers.t5.given s.heater.params.fan3 1000) ∧
    (¬(s.heater.state = .run ∧ s.heater.level = 4) →
      s.hushed.heater = s.heater ∧ s.hushed.timers.t4 = s.timers.t4 ∧ s.hushed.timers.t5 = s.timers.t5) ∧
    s.hushed.fridge = { s.fridge with speed := if s.fridge.state = .run then 1 else s.fridge.speed } ∧
    (s.fridge.state = .run → s.fridge.speed ≠ 1 → s.hushed.timers.t6.given 400 1000) ∧
    (s.fridge.state ≠ .run ∨ s.fridge.speed = 1 → s.hushed.timers.t6 = s.timers.t6) ∧
    s.hushed.lights = { s.lights with cabLight := s.lights.cabLight.heldTo s.lights.quietCap } ∧
    s.lampDriven s.hushed .cabLight ∧
    s.hushed.timers =
      { s.timers with
        t2 := s.hushed.timers.t2, t4 := s.hushed.timers.t4, t5 := s.hushed.timers.t5, t6 := s.hushed.timers.t6 } := by
  obtain ⟨hlevel, hother⟩ := s.heaterQuiet_does
  obtain ⟨hspeed, hfast, hslow⟩ := s.heaterQuiet.fridgeQuiet_does
  have hheater : s.hushed.heater = s.heaterQuiet.heater := by simp [State.hushed]
  have hfridge : s.hushed.fridge = s.heaterQuiet.fridgeQuiet.fridge := by simp [State.hushed]
  have hlights : s.hushed.lights = s.heaterQuiet.fridgeQuiet.cabQuietSet.lights := by simp [State.hushed]
  have htimers : s.hushed.timers = s.heaterQuiet.fridgeQuiet.cabQuietSet.timers := by simp [State.hushed]
  have ht4 : s.hushed.timers.t4 = s.heaterQuiet.timers.t4 := by simp [htimers]
  have ht5 : s.hushed.timers.t5 = s.heaterQuiet.timers.t5 := by simp [htimers]
  have ht6 : s.hushed.timers.t6 = s.heaterQuiet.fridgeQuiet.timers.t6 := by simp [htimers]
  have hf0 : s.heaterQuiet.fridge = s.fridge := by simp
  have h60 : s.heaterQuiet.timers.t6 = s.timers.t6 := by simp
  have hl0 : s.heaterQuiet.fridgeQuiet.lights = s.lights := by simp
  have h20 : s.heaterQuiet.fridgeQuiet.timers.t2 = s.timers.t2 := by simp
  rw [hf0] at hspeed hfast hslow
  rw [h60] at hslow
  refine ⟨fun h => ?_, fun h => ?_, by rw [hfridge, hspeed], by rw [ht6]; exact hfast, by rw [ht6]; exact hslow, ?_, ?_, ?_⟩
  · rw [hheater, ht4, ht5]
    exact hlevel h
  · rw [hheater, ht4, ht5, hother h]
    exact ⟨rfl, rfl, rfl⟩
  · rw [hlights, State.cabQuietSet_lights, hl0]
  · refine State.lampDriven_congr (s' := s.heaterQuiet.fridgeQuiet) (t' := s.heaterQuiet.fridgeQuiet.cabQuietSet)
      (State.cabQuietSet_does _).2 hl0 h20 hlights.symm ?_
    rw [htimers]
  · rw [htimers, State.lightFrame.timers_t2 (State.cabQuietSet_frame (s := s.heaterQuiet.fridgeQuiet)) fun j hj =>
      (State.cabQuietSet_others _ hj).2]
    apply Timers.ext <;> simp

/-- R92: the flag cleared. -/
theorem State.unhushed_does (s : State) :
    s.unhushed.heater = s.heater ∧ s.unhushed.fridge = s.fridge ∧
    s.unhushed.timers = { s.timers with t2 := s.unhushed.timers.t2 } ∧
    s.unhushed.lights =
      { s.lights with
        cabLight := s.lights.cabLight.pursue s.lights.cabLight.target (s.lights.cabLight.fadeTime * 100) } ∧
    s.lampDriven s.unhushed .cabLight := by
  have hlights : s.unhushed.lights = s.cabQuietClear.lights := by simp [State.unhushed]
  have htimers : s.unhushed.timers = s.cabQuietClear.timers := by simp [State.unhushed]
  refine ⟨by simp [State.unhushed], by simp [State.unhushed], ?_, by rw [hlights, State.cabQuietClear_lights], ?_⟩
  · rw [htimers]
    exact State.lightFrame.timers_t2 s.cabQuietClear_frame fun j hj => (s.cabQuietClear_others hj).2
  · exact State.lampDriven_congr (s' := s) (t' := s.cabQuietClear) s.cabQuietClear_does.2 rfl rfl hlights.symm (by rw [htimers])

/-! ### `State.quietWorked` -/

/-- Two states whose heater, fridge and lights are the same, with every timer but the chime's. -/
structure State.sameBlocks (s t : State) : Prop where
  heater : t.heater = s.heater
  fridge : t.fridge = s.fridge
  lights : t.lights = s.lights
  timers : t.timers = { s.timers with t7 := t.timers.t7 }

section
variable {s t v w : State}

theorem State.sameBlocks.refl (s : State) : s.sameBlocks s := ⟨rfl, rfl, rfl, rfl⟩

theorem State.sameBlocks.trans (h : s.sameBlocks v) (k : v.sameBlocks t) : s.sameBlocks t := by
  refine ⟨k.heater.trans h.heater, k.fridge.trans h.fridge, k.lights.trans h.lights, ?_⟩
  rw [k.timers, h.timers]

theorem State.sameBlocks.lampDriven (h : s.sameBlocks v) (k : w.sameBlocks t) (hd : v.lampDriven w .cabLight) :
    s.lampDriven t .cabLight := by
  have h2 : v.timers.t2 = s.timers.t2 := by rw [h.timers]
  have k2 : w.timers.t2 = t.timers.t2 := by rw [k.timers]
  exact State.lampDriven_congr hd h.lights h2 k.lights.symm k2

theorem State.quietWorked_same (h : s.sameBlocks t) (hq : t.quiet = s.quiet) : s.quietWorked t := by
  refine ⟨fun _ => ⟨h.heater, h.fridge, h.lights, h.timers⟩, fun h1 h2 => ?_, fun h1 h2 => ?_, fun h => absurd hq h⟩
  · rw [hq, h2] at h1
    cases h1
  · rw [hq, h2] at h1
    cases h1

theorem State.quietWorked_set (h : s.sameBlocks v) (k : v.hushed.sameBlocks t) (hsq : s.quiet = false)
    (htq : t.quiet = true) (hf : Notice.account.inByte t.port.flags = true) : s.quietWorked t := by
  obtain ⟨h34, hother, hspeed, hfast, hslow, hlit, hlamp, htimed⟩ := v.hushed_does
  have h4 : v.timers.t4 = s.timers.t4 := by rw [h.timers]
  have h5 : v.timers.t5 = s.timers.t5 := by rw [h.timers]
  have h6 : v.timers.t6 = s.timers.t6 := by rw [h.timers]
  have k4 : t.timers.t4 = v.hushed.timers.t4 := by rw [k.timers]
  have k5 : t.timers.t5 = v.hushed.timers.t5 := by rw [k.timers]
  have k6 : t.timers.t6 = v.hushed.timers.t6 := by rw [k.timers]
  rw [← k.heater, ← k4, ← k5, h.heater] at h34 hother
  rw [h4, h5] at hother
  rw [← k.fridge, h.fridge] at hspeed
  rw [← k6, h.fridge] at hfast hslow
  rw [h6] at hslow
  rw [← k.lights, h.lights] at hlit
  refine ⟨fun hn => ?_, fun _ _ => ⟨h34, hother, hspeed, hfast, hslow, hlit⟩, fun hn => ?_,
    fun _ => ⟨hf, h.lampDriven k hlamp, ?_⟩⟩
  · rw [htq, hsq] at hn
    cases hn
  · rw [htq] at hn
    cases hn
  · rw [k.timers, htimed, h.timers]

theorem State.quietWorked_clear (h : s.sameBlocks v) (k : v.unhushed.sameBlocks t) (hsq : s.quiet = true)
    (htq : t.quiet = false) (hf : Notice.account.inByte t.port.flags = true) : s.quietWorked t := by
  obtain ⟨hheat, hcold, htimed, hlit, hlamp⟩ := v.unhushed_does
  rw [← k.heater, h.heater] at hheat
  rw [← k.fridge, h.fridge] at hcold
  rw [← k.lights, h.lights] at hlit
  have hleft : t.timers = { s.timers with t2 := t.timers.t2, t7 := t.timers.t7 } := by
    rw [k.timers, htimed, h.timers]
  refine ⟨fun hn => ?_, fun hn => ?_, fun _ _ => ⟨hheat, hcold, hleft, hlit⟩,
    fun _ => ⟨hf, h.lampDriven k hlamp, ?_⟩⟩
  · rw [htq, hsq] at hn
    cases hn
  · rw [htq] at hn
    cases hn
  · rw [hleft]

end

section
variable {s t u : State} (hr : u.rst.asserted = false)
include hr

omit hr in
theorem State.quietTo_blocks (q : Bool) : u.sameBlocks (u.quietTo q) :=
  ⟨by simp [State.quietTo], by simp [State.quietTo], by simp [State.quietTo], by simp [State.quietTo]⟩

/-- R92: the quiet flag worked on a state `u` whose blocks stand as those of `s`; afterwards only the list and the chime's
timer may still change. -/
theorem State.quietWorked_of (hq : u.quiet = s.quiet) (h : s.sameBlocks u) (kq : t.quiet = u.workQuiet.quiet)
    (k : u.workQuiet.sameBlocks t)
    (kport : Notice.account.inByte u.workQuiet.port.flags = true → Notice.account.inByte t.port.flags = true) :
    s.quietWorked t := by
  obtain ⟨-, heq⟩ | ⟨hq0, heq⟩ | ⟨hq0, heq⟩ := State.workQuiet_cases hr
  · rw [heq] at kq k
    exact State.quietWorked_same (h.trans k) (kq.trans hq)
  · rw [heq] at kq k kport
    refine State.quietWorked_set (h.trans (State.quietTo_blocks true)) k (hq ▸ hq0) ?_ (kport ?_)
    · rw [kq]
      simp [State.hushed, State.quietTo]
    · rw [State.hushed, State.attentions_flag _ _ (by decide) (by decide)]
      simpa using State.quietTo_flag hr true .account
  · rw [heq] at kq k kport
    refine State.quietWorked_clear (h.trans (State.quietTo_blocks false)) k (hq ▸ hq0) ?_ (kport ?_)
    · rw [kq]
      simp [State.unhushed, State.quietTo]
    · rw [State.unhushed, State.attentions_flag _ _ (by decide) (by decide)]
      simpa using State.quietTo_flag hr false .account

/-- What a working of the quiet flag leaves alone. -/
theorem State.workQuiet_only :
    u.workQuiet =
      { u with
        quiet := u.workQuiet.quiet, heater := u.workQuiet.heater, fridge := u.workQuiet.fridge
        lights := u.workQuiet.lights
        timers :=
          { u.timers with
            t2 := u.workQuiet.timers.t2, t4 := u.workQuiet.timers.t4, t5 := u.workQuiet.timers.t5
            t6 := u.workQuiet.timers.t6 }
        port := u.workQuiet.port } := by
  have hrst := State.workQuiet_rst hr
  have htimers : u.workQuiet.timers =
      { u.timers with
        t2 := u.workQuiet.timers.t2, t4 := u.workQuiet.timers.t4, t5 := u.workQuiet.timers.t5
        t6 := u.workQuiet.timers.t6 } := by
    have w4 : ∀ q, (u.quietTo q).timers = u.timers := fun q => by simp [State.quietTo]
    obtain ⟨-, heq⟩ | ⟨-, heq⟩ | ⟨-, heq⟩ := State.workQuiet_cases hr
    · rw [heq]
    · have h := (u.quietTo true).hushed_does.2.2.2.2.2.2.2
      rw [← heq, w4] at h
      exact h
    · have h := (u.quietTo false).unhushed_does.2.2.1
      rw [← heq, w4] at h
      rw [h]
  apply State.ext
  case rst => exact hrst
  case timers => exact htimers
  all_goals simp

theorem State.workQuiet_flag (n : Notice) (ha : n ≠ .account) (hh : n ≠ .heater) (hf : n ≠ .fridge) :
    n.inByte u.workQuiet.port.flags = n.inByte u.port.flags := by
  obtain ⟨-, heq⟩ | ⟨-, heq⟩ | ⟨-, heq⟩ := State.workQuiet_cases hr <;> rw [heq]
  · rw [State.hushed, State.attentions_flag _ n hh hf]
    simpa [Ne.symm ha] using State.quietTo_flag hr true n
  · rw [State.unhushed, State.attentions_flag _ n hh hf]
    simpa [Ne.symm ha] using State.quietTo_flag hr false n

omit hr in
theorem State.workQuiet_settingsKept : u.port.settingsKept u.workQuiet.port :=
  (State.workQuiet_noticed (.refl u)).flagsKept

end

end Sys2Proof.Machine
end

section
/-! PROOF. The warning list under the operations on the rest accounts: where `State.deals` holds through a chain of them
(R80, R86, R89). -/
namespace Sys2Proof.Machine

section
variable {s t u v : State} {σ : (Entry → Bool) → Prop} {i : Slot} {a b : Account}

/-! ### When two states suppress alike -/

theorem State.restingSource_of
    (h : ∀ j, (t.account j).elim false Account.hushes = (s.account j).elim false Account.hushes) :
    t.restingSource = s.restingSource := by
  have heq : ∀ (r : State) (j : Slot), r.restingSource (.slot j) = (r.account j).elim false Account.hushes := fun r j => by
    simp only [State.restingSource]
    cases r.account j <;> rfl
  funext x
  cases x with
  | part => rfl
  | slot j => rw [heq, heq, h j]

/-- R107: whether an entry is suppressed looks at the mode, the quiet flag and which accounts rest in a bunk. -/
theorem State.suppressed_of (hm : t.port.mode = s.port.mode) (hq : t.quiet = s.quiet)
    (h : ∀ j, (t.account j).elim false Account.hushes = (s.account j).elim false Account.hushes) :
    t.suppressed = s.suppressed := by
  funext e
  unfold State.suppressed
  rw [hm, hq, State.restingSource_of h]

theorem State.wrote.hushes (ha : s.account i = some a) (hw : s.wrote i b t) (hh : b.hushes = a.hushes) (j : Slot) :
    (t.account j).elim false Account.hushes = (s.account j).elim false Account.hushes := by
  by_cases hj : j = i
  · subst hj
    rw [hw.1, ha]
    exact hh
  · rw [hw.2 j hj]

/-! ### A chain of operations on the list -/

/-- The list as a chain of operations has left it, each test among `σ`, with no reset asserted. -/
structure State.listWork (s : State) (σ : (Entry → Bool) → Prop) (t : State) : Prop where
  deals : s.deals (.of σ accountPairs True) t
  rst : t.rst = s.rst

theorem State.listWork.refl (σ : (Entry → Bool) → Prop) (hr : s.rst.asserted = false) : s.listWork σ s :=
  ⟨.refl _ hr, rfl⟩

/-- What leaves the list alone and sets notices at most. -/
theorem State.listWork.same (h : s.listWork σ u) (hn : u.noticed v) (hrst : v.rst = u.rst)
    (clock : v.clock = u.clock := by simp) (warn : v.warn = u.warn := by simp)
    (t7 : v.timers.t7 = u.timers.t7 := by simp) : s.listWork σ v where
  deals := h.deals.neutral (by rw [hrst]; exact h.deals.released) clock hn.flagsKept.1 warn t7 (hn.flagsKept.flag .warning)
  rst := hrst.trans h.rst

theorem mem_accountPairs {w : WarnType} (i : Slot) (hw : w.ofAccount = true) : (Source.slot i, w) ∈ accountPairs := by
  revert hw
  cases i <;> cases w <;> decide

theorem accountPairs_of_driving (i : Slot) {p : Source × WarnType} (hp : p ∈ drivingPairs i) : p ∈ accountPairs := by
  cases i <;> simp only [drivingPairs, List.mem_cons, List.not_mem_nil, or_false] at hp <;>
    obtain rfl | rfl | rfl := hp <;> decide

theorem State.listWork.released (h : s.listWork σ u) : u.rst.asserted = false := h.deals.released

theorem State.testDriving_rst (hr : s.rst.asserted = false) (i : Slot) : (s.testDriving i).rst = s.rst := by
  unfold State.testDriving
  split
  · have h1 := State.workCondition_rst hr
    rw [State.workCondition_rst, State.workCondition_rst, State.workCondition_rst hr]
    · rw [h1]; exact hr
    · rw [State.workCondition_rst] <;> rw [h1] <;> exact hr
  · rfl

theorem State.listWork.testDriving (h : s.listWork σ u) (hf : σ u.suppressed) : s.listWork σ (u.testDriving i) where
  deals := h.deals.testDriving hf fun p hp =>
    ⟨⟨trivial, accountPairs_of_driving i hp⟩, accountPairs_of_driving i hp,
      fun hk => hk.elim (by decide) fun hn => hn (accountPairs_of_driving i hp)⟩
  rst := (State.testDriving_rst h.released i).trans h.rst

/-! ### Which pairs an operation touches -/

theorem hasPair_workCondition_other (hr : s.rst.asserted = false) {x y : Source} {w z : WarnType} (c : Bool)
    (h : ¬(y = x ∧ z = w)) : hasPair y z (s.workCondition x w c).warn.entries = hasPair y z s.warn.entries := by
  rw [Bool.eq_iff_iff]
  unfold State.workCondition
  split
  · rw [hasPair_raise hr]
    exact or_iff_left h
  · split
    · rw [hasPair_remove hr]
      exact and_iff_left h
    · rfl

theorem State.testDriving_pair (hr : s.rst.asserted = false) {y : Source} {z : WarnType}
    (h : (y, z) ∉ drivingPairs i) : hasPair y z (s.testDriving i).warn.entries = hasPair y z s.warn.entries := by
  unfold State.testDriving
  split
  next c _ =>
    simp only [drivingPairs, List.mem_cons, Prod.mk.injEq, List.not_mem_nil, or_false, not_or] at h
    obtain ⟨h1, h2, h3⟩ := h
    have hr1 : (s.workCondition (.slot i) .driveNear c.driveNear).rst.asserted = false := by
      rw [State.workCondition_rst hr, hr]
    have hr2 : ((s.workCondition (.slot i) .driveNear c.driveNear).workCondition (.slot i) .driveOver
        c.driveOver).rst.asserted = false := by
      rw [State.workCondition_rst hr1, hr1]
    rw [hasPair_workCondition_other hr2 _ h3, hasPair_workCondition_other hr1 _ h2, hasPair_workCondition_other hr _ h1]
  next => rfl

/-- R77, R86: the driving warnings tested are those the figures give. -/
theorem State.testDriving_worked (hr : s.rst.asserted = false) (hh : s.rst.heldWarnings = []) (ha : s.account i = some a) :
    (s.testDriving i).warn.drivingWorked i a := by
  simp only [State.testDriving, ha]
  have h1 := State.workCondition_rst hr (.slot i) .driveNear a.driveNear
  generalize hu : s.workCondition (.slot i) .driveNear a.driveNear = u at h1
  have hur : u.rst.asserted = false := by rw [h1, hr]
  have h2 := State.workCondition_rst hur (.slot i) .driveOver a.driveOver
  generalize hv : u.workCondition (.slot i) .driveOver a.driveOver = v at h2
  have hvr : v.rst.asserted = false := by rw [h2, hur]
  have hp1 := hasPair_workCondition hr hh (.slot i) (.slot i) .driveNear .driveNear a.driveNear
  have hp2 := hasPair_workCondition hur (by rw [h1, hh]) (.slot i) (.slot i) .driveOver .driveOver a.driveOver
  have hp3 := hasPair_workCondition hvr (by rw [h2, h1, hh]) (.slot i) (.slot i) .dailyOver .dailyOver a.dailyOver
  rw [if_pos ⟨rfl, rfl⟩] at hp1 hp2 hp3
  rw [hu] at hp1
  rw [hv] at hp2
  refine ⟨?_, ?_, ?_⟩
  · rw [hasPair_workCondition_other hvr _ (by simp), ← hv, hasPair_workCondition_other hur _ (by simp), hp1]
    simp [Account.driveNear]
  · rw [hasPair_workCondition_other hvr _ (by simp), hp2]
    simp [Account.driveOver]
  · rw [hp3]
    simp [Account.dailyOver]

/-! ### What an operation hands over for a slot -/

/-- The figures that the driving warnings are tested by. -/
def Account.sameFigures (a b : Account) : Prop :=
  b.settings = a.settings ∧ b.contSeconds = a.contSeconds ∧ b.dailySeconds = a.dailySeconds

theorem Account.sameFigures.refl (a : Account) : a.sameFigures a := ⟨rfl, rfl, rfl⟩

theorem Warn.drivingWorked_figures {x : Warn} (h : x.drivingWorked i a) (hf : a.sameFigures b) : x.drivingWorked i b := by
  obtain ⟨hs, hc, hd⟩ := hf
  unfold Warn.drivingWorked at h ⊢
  rw [hs, hc, hd]
  exact h

/-- What an operation adds to the list for a slot: REST_DONE, REST_SHORT, and whether it tests the driving warnings. -/
def State.slotGives (s : State) (i : Slot) (done short tests : Bool) (t : State) : Prop :=
  s.slotHanded i (hasPair (.slot i) .restDone s.warn.entries || done) short tests t ∧ s.otherSlotsKept i t

theorem ofAccount_of_isDriving {w : WarnType} (h : isDriving w = true) : w.ofAccount = true := by
  revert h
  cases w <;> decide

/-- An operation that leaves every pair of an account listed as it was. -/
theorem State.slotGives_of_pairs
    (h : ∀ a w, (a, w) ∈ accountPairs → hasPair a w t.warn.entries = hasPair a w s.warn.entries) :
    s.slotGives i false false false t := by
  have hw : ∀ j (w : WarnType), w.ofAccount = true →
      hasPair (.slot j) w t.warn.entries = hasPair (.slot j) w s.warn.entries := fun j w hw =>
    h _ _ (mem_accountPairs j hw)
  refine ⟨⟨?_, ?_, (nomatch ·), fun _ w hd => hw i w (ofAccount_of_isDriving hd)⟩, fun j _ => hw j⟩
  · rw [hw i .restDone rfl, Bool.or_false]
  · rw [hw i .restShort rfl, Bool.or_false]

theorem State.slotGives_of_warn (h : t.warn = s.warn) : s.slotGives i false false false t :=
  State.slotGives_of_pairs fun _ _ _ => by rw [h]

theorem State.slotGives.trans {d d' sh sh' x x' : Bool} (h : s.slotGives i d sh x u) (k : u.slotGives i d' sh' x' t)
    (hf : x = true → x' = false → ∀ b, t.account i = some b → ∃ a, u.account i = some a ∧ a.sameFigures b) :
    s.slotGives i (d || d') (sh || sh') (x || x') t := by
  obtain ⟨⟨h1, h2, h3, h4⟩, h5⟩ := h
  obtain ⟨⟨k1, k2, k3, k4⟩, k5⟩ := k
  refine ⟨⟨?_, ?_, fun hx b hb => ?_, fun hx w hw => ?_⟩, fun j hj w hw => (k5 j hj w hw).trans (h5 j hj w hw)⟩
  · rw [k1, h1, Bool.or_assoc]
  · rw [k2, h2, Bool.or_assoc]
  · cases hx' : x' with
    | true => exact k3 hx' b hb
    | false =>
      rw [hx', Bool.or_false] at hx
      obtain ⟨a, ha, hab⟩ := hf hx hx' b hb
      have hold := h3 hx a ha
      have hsame := k4 hx'
      unfold Warn.drivingWorked
      rw [hsame .driveNear rfl, hsame .driveOver rfl, hsame .dailyOver rfl]
      exact Warn.drivingWorked_figures hold hab
  · obtain ⟨hx1, hx2⟩ := Bool.or_eq_false_iff.mp hx
    exact (k4 hx2 w hw).trans (h4 hx1 w hw)

end

end Sys2Proof.Machine
end

section
/-! PROOF. The warning list under each operation on the rest accounts (R80, R86, R89, R90). -/
namespace Sys2Proof.Machine

section
variable {s t u : State} {σ : (Entry → Bool) → Prop} {i : Slot} {a b : Account}

/-! ### The break and the staged settings -/

theorem State.listWork.setAccount (h : s.listWork σ u) (i : Slot) (a : Account) : s.listWork σ (u.setAccount i a) :=
  h.same (State.setAccount_noticed i a (.refl u)) rfl

theorem State.listWork.updAccount (h : s.listWork σ u) (i : Slot) (f : Account → Account) :
    s.listWork σ (u.updAccount i f) := by
  unfold State.updAccount
  split
  · exact h.setAccount i _
  · exact h

theorem State.account_of (h : t.accounts = s.accounts) (j : Slot) : t.account j = s.account j := by
  rw [State.account, h]
  rfl

theorem State.listWork.accountNotice (h : s.listWork σ u) : s.listWork σ u.accountNotice :=
  h.same (State.accountNotice_noticed (.refl u)) (State.accountNotice_rst h.released)

theorem State.listWork.accountGo (h : s.listWork σ u) (i : Slot) (st : AccountState) : s.listWork σ (u.accountGo i st) :=
  (h.updAccount i _).accountNotice

theorem State.suppressed_setAccount (ha : u.account i = some a) (hh : b.hushes = a.hushes) :
    (u.setAccount i b).suppressed = u.suppressed :=
  State.suppressed_of rfl rfl (State.wrote.hushes ha (u.setAccount_wrote i b) hh)

theorem State.testDriving_suppressed (u : State) (i : Slot) : (u.testDriving i).suppressed = u.suppressed :=
  State.suppressed_of (by simp) (by simp) fun j => by
    rw [State.account_of (s := u) (by simp)]

theorem State.listWork.testBreak (h : s.listWork σ u) (hf : σ u.suppressed) : s.listWork σ (u.testBreak i) := by
  unfold State.testBreak
  split
  next a ha =>
    split
    · refine (h.setAccount i _).testDriving ?_
      rw [State.suppressed_setAccount (b := { a with contSeconds := 0 }) ha rfl]
      exact hf
    · exact h
  next => exact h

theorem State.testBreak_suppressed (u : State) (i : Slot) : (u.testBreak i).suppressed = u.suppressed := by
  unfold State.testBreak
  split
  next a ha =>
    split
    · rw [State.testDriving_suppressed, State.suppressed_setAccount (b := { a with contSeconds := 0 }) ha rfl]
    · rfl
  next => rfl

theorem Account.applied_hushes (a : Account) : a.applied.hushes = a.hushes := rfl

theorem State.listWork.applyStaged (h : s.listWork σ u) (hf : σ u.suppressed) : s.listWork σ (u.applyStaged i) := by
  cases ha : u.account i with
  | none =>
    simp only [State.applyStaged, ha]
    exact h
  | some a =>
    cases ht : a.staged with
    | none =>
      rw [State.applyStaged_none ha ht]
      exact h
    | some x =>
      have hsup : (u.setAccount i a.applied).suppressed = u.suppressed :=
        State.suppressed_setAccount ha a.applied_hushes
      rw [State.applyStaged_some ha ht]
      refine (((h.setAccount i _).testDriving (by rw [hsup]; exact hf)).testBreak ?_).accountNotice
      rw [State.testDriving_suppressed, hsup]
      exact hf

section
variable (hr : s.rst.asserted = false)
include hr

theorem State.testDriving_gives (hh : s.rst.heldWarnings = []) (ha : s.account i = some a) :
    s.slotGives i false false true (s.testDriving i) := by
  have hother : ∀ j (w : WarnType), (Source.slot j, w) ∉ drivingPairs i →
      hasPair (.slot j) w (s.testDriving i).warn.entries = hasPair (.slot j) w s.warn.entries := fun _ _ hn =>
    State.testDriving_pair hr hn
  refine ⟨⟨?_, ?_, fun _ b hb => ?_, (nomatch ·)⟩, fun j hj w _ => hother j w (by simp [drivingPairs, hj])⟩
  · rw [hother i .restDone (by simp [drivingPairs]), Bool.or_false]
  · rw [hother i .restShort (by simp [drivingPairs]), Bool.or_false]
  · have hab : (s.testDriving i).account i = some a := by
      rw [State.account_of (s := s) (by simp), ha]
    obtain rfl := Option.some.inj (hab.symm.trans hb)
    exact State.testDriving_worked hr hh ha

theorem State.raise_gives_done : s.slotGives i true false false (s.raise (.slot i) .restDone) := by
  have hp := fun b v => hasPair_raise hr (.slot i) b .restDone v
  have hother : ∀ b v, ¬(b = .slot i ∧ v = .restDone) →
      hasPair b v (s.raise (.slot i) .restDone).warn.entries = hasPair b v s.warn.entries := fun b v hn => by
    rw [Bool.eq_iff_iff, hp]
    exact or_iff_left hn
  refine ⟨⟨?_, ?_, (nomatch ·), fun _ w hw => hother _ w ?_⟩, fun j hj w _ => hother _ w (by simp [hj])⟩
  · rw [Bool.or_true]
    exact (hp _ _).mpr (.inr ⟨rfl, rfl⟩)
  · rw [hother _ .restShort (by simp), Bool.or_false]
  · rintro ⟨-, rfl⟩
    cases hw

theorem State.raise_gives_short : s.slotGives i false true false (s.raise (.slot i) .restShort) := by
  have hp := fun b v => hasPair_raise hr (.slot i) b .restShort v
  have hother : ∀ b v, ¬(b = .slot i ∧ v = .restShort) →
      hasPair b v (s.raise (.slot i) .restShort).warn.entries = hasPair b v s.warn.entries := fun b v hn => by
    rw [Bool.eq_iff_iff, hp]
    exact or_iff_left hn
  refine ⟨⟨?_, ?_, (nomatch ·), fun _ w hw => hother _ w ?_⟩, fun j hj w _ => hother _ w (by simp [hj])⟩
  · rw [hother _ .restDone (by simp), Bool.or_false]
  · rw [Bool.or_true]
    exact (hp _ _).mpr (.inr ⟨rfl, rfl⟩)
  · rintro ⟨-, rfl⟩
    cases hw

theorem State.testBreak_gives (hh : s.rst.heldWarnings = []) (ha : s.account i = some a) :
    s.slotGives i false false (s.breakDone a) (s.testBreak i) := by
  simp only [State.testBreak, ha]
  split
  next hb =>
    rw [hb]
    have hset := s.setAccount_wrote i { a with contSeconds := 0 }
    exact (State.slotGives_of_warn (t := s.setAccount i { a with contSeconds := 0 }) rfl).trans
      (State.testDriving_gives (s := s.setAccount i { a with contSeconds := 0 }) hr hh hset.1) (nomatch ·)
  next hb =>
    rw [(Bool.not_eq_true _).mp hb]
    exact State.slotGives_of_warn rfl

/-- R90: settings applied have the driving warnings tested. -/
theorem State.applyStaged_gives (hh : s.rst.heldWarnings = []) (ha : s.account i = some a) (hd : a.state ≠ .driving) :
    s.slotGives i false false a.staged.isSome (s.applyStaged i) := by
  cases ht : a.staged with
  | none =>
    rw [State.applyStaged_none ha ht]
    exact State.slotGives_of_warn rfl
  | some x =>
    have hset := s.setAccount_wrote i a.applied
    have hbreak : ∀ r : State, r.breakDone a.applied = false := fun r => by
      rw [Bool.eq_false_iff, Ne, State.breakDone_iff]
      exact fun hb => hd hb.1
    have hacc : ((s.setAccount i a.applied).testDriving i).account i = some a.applied := by
      rw [State.account_of (s := s.setAccount i a.applied) (by simp), hset.1]
    have hsame : ((s.setAccount i a.applied).testDriving i).testBreak i = (s.setAccount i a.applied).testDriving i := by
      simp only [State.testBreak, hacc, hbreak, Bool.false_eq_true, if_false]
    rw [State.applyStaged_some ha ht, hsame]
    have hgives := (State.slotGives_of_warn (s := s) (i := i) (t := s.setAccount i a.applied) rfl).trans
      (State.testDriving_gives (s := s.setAccount i a.applied) hr hh hset.1) (nomatch ·)
    refine hgives.trans (State.slotGives_of_warn (by simp)) fun _ _ b hb => ?_
    rw [State.account_of (s := (s.setAccount i a.applied).testDriving i) (by simp)] at hb
    exact ⟨b, hb, .refl b⟩

theorem State.fireRestDone_gives (hh : s.rst.heldWarnings = []) : s.slotGives i true false true (s.fireRestDone i a) := by
  obtain ⟨u, hu⟩ : ∃ u, u = (s.setAccount i a.restDone).testDriving i := ⟨_, rfl⟩
  obtain ⟨v, hv⟩ : ∃ v, v = u.setAccount i { a.restDone with restEnd := some (.fixed u.clock.minute) } := ⟨_, rfl⟩
  have hfire : s.fireRestDone i a = ((v.raise (.slot i) .restDone).wakeFor a).accountNotice := by rw [hv, hu]; rfl
  have hset := s.setAccount_wrote i a.restDone
  have hua : u.account i = some a.restDone := by
    rw [hu, State.account_of (s := s.setAccount i a.restDone) (by simp), hset.1]
  have hvr : v.rst.asserted = false := by
    rw [hv, hu]
    simpa using hr
  have hva := (u.setAccount_wrote i { a.restDone with restEnd := some (.fixed u.clock.minute) }).1
  rw [← hv] at hva
  have htested : s.slotGives i false false true u := by
    rw [hu]
    exact (State.slotGives_of_warn (t := s.setAccount i a.restDone) rfl).trans
      (State.testDriving_gives (s := s.setAccount i a.restDone) hr hh hset.1) (nomatch ·)
  have hfixed : s.slotGives i false false true v :=
    htested.trans (State.slotGives_of_warn (by rw [hv]; rfl)) fun _ _ b hb => by
      obtain rfl := Option.some.inj (hva.symm.trans hb)
      exact ⟨_, hua, rfl, rfl, rfl⟩
  have hraised := hfixed.trans (State.raise_gives_done hvr) fun _ _ b hb =>
    ⟨b, (State.account_of (by simp) i).symm.trans hb, .refl b⟩
  rw [hfire]
  refine hraised.trans (State.slotGives_of_warn (by simp)) fun _ _ b hb =>
    ⟨b, (State.account_of (by simp) i).symm.trans hb, .refl b⟩

theorem State.testRestDone_gives (hh : s.rst.heldWarnings = []) (ha : s.account i = some a) :
    s.slotGives i a.restDue false a.restDue (s.testRestDone i) := by
  simp only [State.testRestDone, ha]
  split
  next h =>
    rw [h]
    exact State.fireRestDone_gives hr hh
  next h =>
    rw [(Bool.not_eq_true _).mp h]
    exact State.slotGives_of_warn rfl

end

end

end Sys2Proof.Machine
end

section
/-! PROOF. The segment operations: the warning list, what they hand over, and the table with the wake order (R76 to R81). -/
namespace Sys2Proof.Machine

section
variable {s t u v : State} {σ : (Entry → Bool) → Prop} {i : Slot} {a b : Account}

/-! ### A raise and a removal in a chain -/

/-- R80, R89: a raise that is no driving warning, of a pair that has not been removed in the chain. -/
theorem State.listWork.raise {w : WarnType} (h : s.listWork σ u) (hf : σ u.suppressed) (hw : w.ofAccount = true)
    (hfresh : hasPair (.slot i) w u.warn.entries = false → hasPair (.slot i) w s.warn.entries = false) :
    s.listWork σ (u.raise (.slot i) w) where
  deals := h.deals.raise hf
    { raised := ⟨trivial, mem_accountPairs i hw⟩, moved := mem_accountPairs i hw, fresh := fun _ => hfresh
      ranked := fun hk => hk.elim (fun h => absurd h (by decide)) fun hn => absurd (mem_accountPairs i hw) hn }
  rst := (State.raise_rst h.released _ _).trans h.rst

theorem State.listWork.remove {w : WarnType} (h : s.listWork σ u) (hw : w.ofAccount = true) :
    s.listWork σ (u.remove (.slot i) w) where
  deals := h.deals.remove (mem_accountPairs i hw)
  rst := (State.remove_rst h.released _ _).trans h.rst

theorem State.placePart_rst (s : State) (o : Order) : (s.placePart o).rst = s.rst := by
  unfold State.placePart
  split
  · rfl
  · simp

theorem State.wakeFor_rst (hr : s.rst.asserted = false) (a : Account) : (s.wakeFor a).rst = s.rst := by
  unfold State.wakeFor
  split
  · split
    · rw [State.placeWake, hr]
      exact State.placePart_rst _ _
    · rfl
  · rfl

theorem State.listWork.wakeFor (h : s.listWork σ u) (a : Account) : s.listWork σ (u.wakeFor a) :=
  h.same (State.wakeFor_noticed a (.refl u)) (State.wakeFor_rst h.released a)

theorem State.testBreak_pair (hr : s.rst.asserted = false) {y : Source} {z : WarnType} (h : (y, z) ∉ drivingPairs i) :
    hasPair y z (s.testBreak i).warn.entries = hasPair y z s.warn.entries := by
  unfold State.testBreak
  split
  · split
    · exact State.testDriving_pair (s := s.setAccount i _) hr h
    · rfl
  · rfl

theorem State.testBreak_released (hr : s.rst.asserted = false) (i : Slot) : (s.testBreak i).rst.asserted = false := by
  simpa using hr

theorem State.applyStaged_pair (hr : s.rst.asserted = false) {y : Source} {z : WarnType} (h : (y, z) ∉ drivingPairs i) :
    hasPair y z (s.applyStaged i).warn.entries = hasPair y z s.warn.entries := by
  cases ha : s.account i with
  | none => simp only [State.applyStaged, ha]
  | some a =>
    cases ht : a.staged with
    | none => rw [State.applyStaged_none ha ht]
    | some x =>
      have hr1 : ((s.setAccount i a.applied).testDriving i).rst.asserted = false := by simpa using hr
      have hnotice : ∀ r : State, r.accountNotice.warn = r.warn := fun r => by simp
      rw [State.applyStaged_some ha ht, hnotice, State.testBreak_pair hr1 h,
        State.testDriving_pair (s := s.setAccount i a.applied) hr h]
      rfl

/-! ### The rest completed -/

/-- R80: the account once its rest is completed. -/
def Account.doneAt (a : Account) (now : Nat) : Account := { a.restDone with restEnd := some (.fixed now) }

theorem State.fireRestDone_eq (s : State) (i : Slot) (a : Account) :
    s.fireRestDone i a =
      (((((s.setAccount i a.restDone).testDriving i).setAccount i (a.doneAt s.clock.minute)).raise (.slot i)
        .restDone).wakeFor a).accountNotice := by
  have hclock : ((s.setAccount i a.restDone).testDriving i).clock = s.clock := by simp
  simp only [State.fireRestDone, Account.doneAt]
  rw [hclock]

theorem State.listWork.fireRestDone (h : s.listWork σ u) (ha : u.account i = some a) (hf : σ u.suppressed)
    (hfresh : hasPair (.slot i) .restDone u.warn.entries = false → hasPair (.slot i) .restDone s.warn.entries = false) :
    s.listWork σ (u.fireRestDone i a) := by
  have hset := u.setAccount_wrote i a.restDone
  have hsup : (u.setAccount i a.restDone).suppressed = u.suppressed := State.suppressed_setAccount ha rfl
  have htested := (h.setAccount i a.restDone).testDriving (i := i) (by rw [hsup]; exact hf)
  have hpair : hasPair (.slot i) .restDone ((u.setAccount i a.restDone).testDriving i).warn.entries =
      hasPair (.slot i) .restDone u.warn.entries :=
    State.testDriving_pair (s := u.setAccount i a.restDone) h.released (by simp [drivingPairs])
  have hacc : ((u.setAccount i a.restDone).testDriving i).account i = some a.restDone := by
    rw [State.account_of (s := u.setAccount i a.restDone) (by simp), hset.1]
  have hsup2 : (((u.setAccount i a.restDone).testDriving i).setAccount i (a.doneAt u.clock.minute)).suppressed =
      u.suppressed := by
    rw [State.suppressed_setAccount (b := a.doneAt u.clock.minute) hacc rfl, State.testDriving_suppressed, hsup]
  rw [State.fireRestDone_eq]
  refine (((htested.setAccount i _).raise (by rw [hsup2]; exact hf) rfl fun hn => hfresh ?_).wakeFor a).accountNotice
  rw [← hpair]
  exact hn

theorem State.listWork.testRestDone (h : s.listWork σ u) (hf : σ u.suppressed)
    (hfresh : hasPair (.slot i) .restDone u.warn.entries = false → hasPair (.slot i) .restDone s.warn.entries = false) :
    s.listWork σ (u.testRestDone i) := by
  unfold State.testRestDone
  split
  next a ha =>
    split
    · exact h.fireRestDone ha hf hfresh
    · exact h
  next => exact h

/-! ### The start of a segment -/

theorem Account.startSegment_hushes (a : Account) (now : Nat) : (a.startSegment now).hushes = a.hushes := rfl

/-- R76: an account whose segment starts, before its rest is looked at. -/
def Account.begun (a : Account) (now : Nat) : Account := ({ a with state := .resting } : Account).applied.startSegment now

theorem Account.begun_restDue (a : Account) (now : Nat) : (a.begun now).restDue = a.firesAtStart := by
  have hcredited : (a.begun now).credited = a.accumulated := by
    simp only [Account.begun, Account.credited, Account.startSegment, Account.applied, Account.segMinutes]
    split <;> simp
  simp only [Account.restDue, hcredited, Account.firesAtStart]
  simp [Account.begun, Account.startSegment, Account.applied] <;> rfl

/-- The three operations that begin a segment. -/
def State.segmentBegun (s : State) (i : Slot) : State :=
  ((s.updAccount i (fun a => { a with state := .resting })).applyStaged i).updAccount i
    (fun a => a.startSegment s.clock.minute)

theorem State.startSegment_eq (s : State) (i : Slot) : s.startSegment i = (s.segmentBegun i).testRestDone i := rfl

theorem State.segmentBegun_wrote (h : s.account i = some a) : s.wrote i (a.begun s.clock.minute) (s.segmentBegun i) := by
  have hresting := State.updAccount_wrote (fun a => { a with state := .resting }) h
  have happlied := hresting.trans (State.applyStaged_wrote hresting.1 (by simp))
  exact happlied.trans (State.updAccount_wrote (fun a => a.startSegment s.clock.minute) happlied.1)

/-- Where an account of a slot rests as that slot's segment starts. -/
def State.restsAt (s : State) (i : Slot) : State := s.updAccount i (fun a => { a with state := .resting })

theorem State.segmentBegun_suppressed (h : s.account i = some a) :
    (s.segmentBegun i).suppressed = (s.restsAt i).suppressed := by
  have hresting : s.wrote i { a with state := .resting } (s.restsAt i) := State.updAccount_wrote _ h
  refine State.suppressed_of (by simp [State.segmentBegun, State.restsAt]) (by simp [State.segmentBegun, State.restsAt])
    fun j => ?_
  have hbegun := State.segmentBegun_wrote h
  by_cases hj : j = i
  · subst hj
    rw [hbegun.1, hresting.1]
    rfl
  · rw [hbegun.2 j hj, hresting.2 j hj]

theorem State.segmentBegun_pair (hr : s.rst.asserted = false) {y : Source} {z : WarnType} (h : (y, z) ∉ drivingPairs i) :
    hasPair y z (s.segmentBegun i).warn.entries = hasPair y z s.warn.entries := by
  have hr1 : (s.updAccount i (fun a => { a with state := .resting })).rst.asserted = false := by simpa using hr
  have hupd : ∀ (r : State) (f : Account → Account), (r.updAccount i f).warn = r.warn := fun r f => by simp
  rw [State.segmentBegun, hupd, State.applyStaged_pair hr1 h, hupd]

theorem State.listWork.startSegment (h : s.listWork σ u) (ha : u.account i = some a) (hf : σ (u.restsAt i).suppressed)
    (hfresh : hasPair (.slot i) .restDone u.warn.entries = false → hasPair (.slot i) .restDone s.warn.entries = false) :
    s.listWork σ (u.startSegment i) := by
  have hbegun : s.listWork σ (u.segmentBegun i) := ((h.updAccount i _).applyStaged hf).updAccount i _
  rw [State.startSegment_eq]
  refine hbegun.testRestDone (by rw [State.segmentBegun_suppressed ha]; exact hf) fun hn => hfresh ?_
  rw [← hn]
  exact (State.segmentBegun_pair h.released (by simp [drivingPairs])).symm

section
variable (hr : s.rst.asserted = false)
include hr

theorem State.startSegment_gives (hh : s.rst.heldWarnings = []) (ha : s.account i = some a) :
    s.slotGives i a.firesAtStart false (a.firesAtStart || a.staged.isSome) (s.startSegment i) := by
  have hresting : s.wrote i { a with state := .resting } (s.restsAt i) := State.updAccount_wrote _ ha
  have hrest : (s.restsAt i).rst = s.rst := by simp [State.restsAt]
  have happlied : s.slotGives i false false a.staged.isSome ((s.restsAt i).applyStaged i) :=
    (State.slotGives_of_warn (s := s) (t := s.restsAt i) (by simp [State.restsAt])).trans
      (State.applyStaged_gives (s := s.restsAt i) (a := { a with state := .resting }) (by rw [hrest]; exact hr) (by rw [hrest]; exact hh) hresting.1
        (by simp)) (nomatch ·)
  have happlieda := (State.applyStaged_wrote hresting.1 (by simp)).1
  have hbegun : s.slotGives i false false a.staged.isSome (s.segmentBegun i) := by
    have h := happlied.trans (State.slotGives_of_warn (t := s.segmentBegun i) (by simp [State.segmentBegun, State.restsAt]))
      fun _ _ b hb => by
        rw [(State.segmentBegun_wrote ha).1] at hb
        obtain rfl := Option.some.inj hb
        exact ⟨_, happlieda, rfl, rfl, rfl⟩
    simpa using h
  have hbr : (s.segmentBegun i).rst = s.rst := by
    have h1 := ((State.listWork.refl (s := s) (fun _ => True) hr).updAccount i (fun a => { a with state := .resting }))
    exact ((h1.applyStaged trivial).updAccount i _).rst
  have hdone := State.testRestDone_gives (s := s.segmentBegun i) (by rw [hbr]; exact hr) (by rw [hbr]; exact hh)
    (State.segmentBegun_wrote ha).1
  rw [Account.begun_restDue] at hdone
  have hall := hbegun.trans hdone fun _ hx b hb => by
    have hsame : (s.segmentBegun i).testRestDone i = s.segmentBegun i := by
      simp only [State.testRestDone, (State.segmentBegun_wrote ha).1, Account.begun_restDue, hx, Bool.false_eq_true,
        if_false]
    rw [hsame] at hb
    exact ⟨b, hb, .refl b⟩
  rwa [Bool.or_comm a.staged.isSome] at hall

/-! ### The close of a segment and the end of a rest -/

omit hr in
theorem State.closeSegment_eq (ha : s.account i = some a) :
    s.closeSegment i =
      if a.closesShort then (s.setAccount i a.closed).raise (.slot i) .restShort else s.setAccount i a.closed := by
  have hshort : (a.segMinutes < a.settings.segment ∧ a.rested = false) ↔ a.closesShort = true := by
    simp [Account.closesShort, Account.segMinutes]
  simp only [State.closeSegment, ha, Account.closeSegment_eq, hshort]

theorem State.closeSegment_gives (ha : s.account i = some a) :
    s.slotGives i false a.closesShort false (s.closeSegment i) := by
  rw [State.closeSegment_eq ha]
  have hset : s.slotGives i false false false (s.setAccount i a.closed) := State.slotGives_of_warn rfl
  split
  next h =>
    rw [h]
    exact hset.trans (State.raise_gives_short (s := s.setAccount i a.closed) hr) (nomatch ·)
  next h =>
    rw [(Bool.not_eq_true _).mp h]
    exact hset

theorem State.closeIfResting_gives (ha : s.account i = some a) :
    s.slotGives i false (decide (a.state = .resting) && a.closesShort) false (s.closeIfResting i) := by
  simp only [State.closeIfResting, ha]
  by_cases hst : a.state = .resting
  · rw [if_pos hst]
    simpa [hst] using State.closeSegment_gives hr ha
  · rw [if_neg hst]
    simpa [hst] using State.slotGives_of_warn (s := s) (i := i) (t := s) rfl

/-- R78: the end of a rest takes REST_DONE out. -/
theorem State.finishRest_hands (hh : s.rst.heldWarnings = []) (ha : s.account i = some a) (hd : a.state ≠ .driving) :
    s.slotHanded i false false a.staged.isSome (s.finishRest i) ∧ s.otherSlotsKept i (s.finishRest i) := by
  obtain ⟨⟨h1, h2, h3, h4⟩, h5⟩ := State.applyStaged_gives hr hh ha hd
  have hur : (s.applyStaged i).rst.asserted = false := by simpa using hr
  have hp : ∀ b v, ¬(b = .slot i ∧ v = .restDone) →
      hasPair b v (s.finishRest i).warn.entries = hasPair b v (s.applyStaged i).warn.entries := fun b v hn => by
    rw [Bool.eq_iff_iff, State.finishRest, hasPair_remove hur]
    exact and_iff_left hn
  have hacc : (s.finishRest i).account i = (s.applyStaged i).account i :=
    State.account_of (by simp [State.finishRest]) i
  refine ⟨⟨?_, ?_, fun hx b hb => ?_, fun hx w hw => ?_⟩, fun j hj w hw => ?_⟩
  · rw [Bool.eq_false_iff, Ne, State.finishRest, hasPair_remove hur]
    exact fun h => h.2 ⟨rfl, rfl⟩
  · rw [hp _ _ (by simp), h2]
  · rw [hacc] at hb
    unfold Warn.drivingWorked
    rw [hp _ .driveNear (by simp), hp _ .driveOver (by simp), hp _ .dailyOver (by simp)]
    exact h3 hx b hb
  · rw [hp _ w (by rintro ⟨-, rfl⟩; cases hw), h4 hx w hw]
  · rw [hp _ w (by simp [hj]), h5 j hj w hw]

end

theorem State.listWork.closeSegment (h : s.listWork σ u) (hf : σ u.suppressed)
    (hfresh : hasPair (.slot i) .restShort u.warn.entries = false → hasPair (.slot i) .restShort s.warn.entries = false) :
    s.listWork σ (u.closeSegment i) := by
  cases ha : u.account i with
  | none =>
    simp only [State.closeSegment, ha]
    exact h
  | some a =>
    rw [State.closeSegment_eq ha]
    split
    · refine (h.setAccount i a.closed).raise ?_ rfl hfresh
      rw [State.suppressed_setAccount (b := a.closed) ha rfl]
      exact hf
    · exact h.setAccount i a.closed

theorem State.listWork.closeIfResting (h : s.listWork σ u) (hf : σ u.suppressed)
    (hfresh : hasPair (.slot i) .restShort u.warn.entries = false → hasPair (.slot i) .restShort s.warn.entries = false) :
    s.listWork σ (u.closeIfResting i) := by
  unfold State.closeIfResting
  split
  · split
    · exact h.closeSegment hf hfresh
    · exact h
  · exact h

theorem State.listWork.finishRest (h : s.listWork σ u) (hf : σ u.suppressed) : s.listWork σ (u.finishRest i) :=
  (h.applyStaged hf).remove rfl

/-! ### The table with the wake order -/

section
variable (hr : s.rst.asserted = false)
include hr

/-- R17: a wake order replaces a present one, or takes a free place in NORMAL or WORKSHOP. -/
theorem State.placeWake_orders (side : Side) (level fade : Nat) :
    (s.placeWake side level fade).orders = ordersWithWake s.port.mode s.clock.minute side level fade s.orders := by
  have hplaces : ((findOrder (wakeKey side) s.orders).isSome || s.mayPlace) = true ↔
      (∃ o ∈ s.orders, o.key = wakeKey side) ∨
      ((s.port.mode = .normal ∨ s.port.mode = .workshop) ∧ s.orders.length < 24) := by
    rw [Bool.or_eq_true, findOrder_isSome, State.mayPlace_iff]
  simp only [State.placeWake, hr, Bool.false_eq_true, if_false, State.placePart]
  split
  next hp =>
    rw [ordersWithWake, if_pos (hplaces.mp hp)]
    rfl
  next hp =>
    rw [ordersWithWake, if_neg fun h => hp (hplaces.mpr h)]
    simp

theorem State.placeWake_flag (side : Side) (level fade : Nat) :
    Notice.order.inByte (s.placeWake side level fade).port.flags = true ↔
      Notice.order.inByte s.port.flags = true ∨
      ((∀ o ∈ s.orders, o.key ≠ wakeKey side) ∧
        ¬((s.port.mode = .normal ∨ s.port.mode = .workshop) ∧ s.orders.length < 24)) := by
  have hplaces : ((findOrder (wakeKey side) s.orders).isSome || s.mayPlace) = true ↔
      ¬((∀ o ∈ s.orders, o.key ≠ wakeKey side) ∧
        ¬((s.port.mode = .normal ∨ s.port.mode = .workshop) ∧ s.orders.length < 24)) := by
    have habsent : (∀ o ∈ s.orders, o.key ≠ wakeKey side) ↔ ¬∃ o ∈ s.orders, o.key = wakeKey side := by simp
    rw [Bool.or_eq_true, findOrder_isSome, State.mayPlace_iff, habsent, ← not_or, Classical.not_not]
  simp only [State.placeWake, hr, Bool.false_eq_true, if_false, State.placePart]
  split
  next h => exact ⟨.inl, fun hor => hor.elim id fun hn => absurd hn (hplaces.mp h)⟩
  next h =>
    rw [State.notice_inByte, hr]
    have hn := not_not.mp fun hn => h (hplaces.mpr hn)
    simp only [Bool.not_false, decide_true, Bool.and_self, Bool.or_true, true_iff]
    exact .inr hn

theorem State.wakeFor_orders (a : Account) :
    (s.wakeFor a).orders = a.wakeEntered s.port.mode s.clock.minute s.orders := by
  unfold State.wakeFor Account.wakeEntered
  cases a.bunk
  all_goals simp only [sideOf]
  all_goals split
  all_goals first | rfl | exact State.placeWake_orders hr _ _ _

theorem State.wakeFor_flag (a : Account) :
    Notice.order.inByte (s.wakeFor a).port.flags = true ↔
      Notice.order.inByte s.port.flags = true ∨
      (a.settings.wake = true ∧ ∃ side : Side, side.bunk = a.bunk ∧
        (∀ o ∈ s.orders, o.key ≠ wakeKey side) ∧
        ¬((s.port.mode = .normal ∨ s.port.mode = .workshop) ∧ s.orders.length < 24)) := by
  have hside : ∀ side : Side, side.bunk = a.bunk ↔ sideOf a.bunk = some side := fun side => by
    cases side <;> cases a.bunk <;> decide
  unfold State.wakeFor
  cases hs : sideOf a.bunk with
  | none =>
    refine ⟨.inl, fun h => h.elim id ?_⟩
    rintro ⟨-, side, hb, -⟩
    rw [hside, hs] at hb
    cases hb
  | some side =>
    have huniq : ∀ x : Side, x.bunk = a.bunk ↔ x = side := fun x => by
      rw [hside, hs, Option.some.injEq, eq_comm]
    simp only [huniq, exists_eq_left]
    split
    next hw => rw [State.placeWake_flag hr, hw]; simp
    next hw => simp [hw]

theorem State.fireRestDone_orders (i : Slot) (a : Account) :
    (s.fireRestDone i a).orders = a.wakeEntered s.port.mode s.clock.minute s.orders := by
  obtain ⟨u, hu⟩ : ∃ u, u = (((s.setAccount i a.restDone).testDriving i).setAccount i (a.doneAt s.clock.minute)).raise
    (.slot i) .restDone := ⟨_, rfl⟩
  have hur : u.rst.asserted = false := by
    rw [hu]
    simpa using hr
  have hmode : u.port.mode = s.port.mode := by simp [hu]
  have hclock : u.clock = s.clock := by simp [hu]
  have horders : u.orders = s.orders := by simp [hu]
  have hwake := State.wakeFor_orders hur a
  rw [hmode, hclock, horders] at hwake
  rw [State.fireRestDone_eq, ← hu, ← hwake]
  simp

theorem State.startSegment_orders (ha : s.account i = some a) :
    (s.startSegment i).orders =
      if a.firesAtStart then a.applied.wakeEntered s.port.mode s.clock.minute s.orders else s.orders := by
  have hbr : (s.segmentBegun i).rst.asserted = false := by simpa [State.segmentBegun] using hr
  have hmode : (s.segmentBegun i).port.mode = s.port.mode := by simp [State.segmentBegun]
  have hclock : (s.segmentBegun i).clock = s.clock := by simp [State.segmentBegun]
  have horders : (s.segmentBegun i).orders = s.orders := by simp [State.segmentBegun]
  rw [State.startSegment_eq]
  simp only [State.testRestDone, (State.segmentBegun_wrote ha).1, Account.begun_restDue]
  split
  · rw [State.fireRestDone_orders hbr, hmode, hclock, horders]
    rfl
  · exact horders

end

end

end Sys2Proof.Machine
end

section
/-! PROOF. How a chain of operations on the rest accounts comes to `State.accountsWorked`, within a frame or outside
one. -/
namespace Sys2Proof.Machine

/-! ### A frame's two ends -/

/-- Two states that differ in what a frame does to the port, if at all. -/
structure State.framed (s t : State) : Prop where
  only : t = { s with port := t.port }
  kept : s.port.settingsKept t.port
  flags : t.port.flags = s.port.flags

theorem State.framed.refl (s : State) : s.framed s := ⟨rfl, .refl _, rfl⟩

theorem State.inFrame_framed (s : State) : s.framed s.inFrame :=
  ⟨s.inFrame_eq, s.inFrame_settingsKept, by simp only [State.inFrame]; split <;> simp⟩

theorem State.closeFrame_framed (s : State) (r : Reply) : s.framed (s.closeFrame r) :=
  ⟨rfl, (s.closeFrame_flags r).2, (s.closeFrame_flags r).1⟩

section
variable {s t u v z : State} {σ : (Entry → Bool) → Prop} {os : List Order}

theorem State.framed.sameList (h : s.framed t) : s.sameList t := .of_port h.only h.kept

theorem State.framed.sameBlocks (h : s.framed t) : s.sameBlocks t := by
  rw [h.only]
  exact ⟨rfl, rfl, rfl, rfl⟩

theorem State.framed.heldLaw (h : s.framed t) (hl : HeldLaw s) : HeldLaw t := by
  rw [h.only]
  exact hl

theorem State.framed.account (h : s.framed t) (i : Slot) : t.account i = s.account i := by
  rw [h.only]
  rfl

theorem State.framed.standstill (h : s.framed t) : t.standstill = s.standstill := by
  rw [h.only]
  rfl

theorem State.framed.quietNow (h : s.framed t) : t.quietNow = s.quietNow := by
  rw [h.only]
  rfl

theorem State.listWork.framed (h : s.listWork σ u) (k : u.framed v) : s.listWork σ v where
  deals := h.deals.same k.sameList
  rst := by
    rw [k.only]
    exact h.rst

theorem State.afterPass.framed (h : s.afterPass z) (k : z.framed t) : s.afterPass t := by
  obtain ⟨h1, h2, h3, h4, h5, h6, h7, h8, h9, h10, h11, h12, h13, h14⟩ := h
  have kflags := k.flags
  have kkept := k.kept
  have konly := k.only
  generalize t.port = p at kflags kkept konly
  subst konly
  refine ⟨h1, h2, by rw [← h3, ← kflags], h4, h5, h6, ?_, ?_, h9, h10, h11, h12, h13.trans kkept, h14⟩
  · unfold State.heaterWorked at h7 ⊢
    dsimp only
    rw [kflags]
    exact h7
  · unfold State.fridgeWorked at h8 ⊢
    dsimp only
    rw [kflags]
    exact h8

/-! ### The chain settled -/

/-- A chain of operations from `s` to `u`, whose list is then settled. -/
theorem State.accountsWorked_of (h : s.listWork (testsAround s t) u) (hs : u.settle.sameList t)
    (honly : t =
      { s with
        orders := os, accounts := t.accounts, quiet := t.quiet, heater := t.heater, fridge := t.fridge
        lights := t.lights, warn := t.warn, timers := t.timers, port := t.port })
    (hport : s.port.settingsKept t.port) (hq : s.quietWorked t) : s.accountsWorked os t := by
  have hsup : u.suppressed = t.suppressed := by
    rw [hs.suppressed]
    exact (State.suppressed_eq (by simp) (by simp) (by simp)).symm
  have hdue : t.dueSettled := hs.dueSettled (State.settle_dueSettled h.released)
  have hdeals := (h.deals.settle (.inr (.inr hsup))).same hs
  exact ⟨honly, hport, hq, hdeals.listKept (fun _ hf => hf) (fun _ => hdue) fun _ => hdue, hdue⟩

/-- What a chain of operations on the accounts may have changed. -/
structure State.accountFrame (s : State) (os : List Order) (u : State) : Prop where
  only : u =
    { s with
      orders := os, accounts := u.accounts, warn := u.warn, timers := { s.timers with t7 := u.timers.t7 }
      port := u.port }
  kept : s.port.settingsKept u.port

theorem State.accountFrame.sameBlocks (h : s.accountFrame os u) : s.sameBlocks u := by
  rw [h.only]
  exact ⟨rfl, rfl, rfl, rfl⟩

theorem State.accountFrame_of (hv : s.framed v) (hn : v.noticed u) (rst : u.rst = s.rst)
    (clock : u.clock = v.clock := by simp) (orders : u.orders = os := by simp) (alloc : u.alloc = v.alloc := by simp)
    (charge : u.charge = v.charge := by simp) (transport : u.transport = v.transport := by simp)
    (quiet : u.quiet = v.quiet := by simp) (sense : u.sense = v.sense := by simp)
    (heater : u.heater = v.heater := by simp) (fridge : u.fridge = v.fridge := by simp)
    (lights : u.lights = v.lights := by simp) (pending : u.pending = v.pending := by simp)
    (t0 : u.timers.t0 = v.timers.t0 := by simp) (t1 : u.timers.t1 = v.timers.t1 := by simp)
    (t2 : u.timers.t2 = v.timers.t2 := by simp) (t3 : u.timers.t3 = v.timers.t3 := by simp)
    (t4 : u.timers.t4 = v.timers.t4 := by simp) (t5 : u.timers.t5 = v.timers.t5 := by simp)
    (t6 : u.timers.t6 = v.timers.t6 := by simp) : s.accountFrame os u := by
  refine ⟨?_, hv.kept.trans hn.flagsKept⟩
  have hvo := hv.only
  rw [hvo] at clock alloc charge transport quiet sense heater fridge lights pending t0 t1 t2 t3 t4 t5 t6
  apply State.ext
  case timers => apply Timers.ext <;> first | assumption | rfl
  all_goals first | assumption | rfl

/-- The records that a working of the accounts leaves alone. -/
theorem State.accountFrame.only_through (h : s.accountFrame os u) (clock : t.clock = u.clock) (orders : t.orders = u.orders)
    (alloc : t.alloc = u.alloc) (charge : t.charge = u.charge) (transport : t.transport = u.transport)
    (sense : t.sense = u.sense) (rst : t.rst = u.rst) (pending : t.pending = u.pending) :
    t =
      { s with
        orders := os, accounts := t.accounts, quiet := t.quiet, heater := t.heater, fridge := t.fridge
        lights := t.lights, warn := t.warn, timers := t.timers, port := t.port } := by
  have honly := h.only
  rw [honly] at clock orders alloc charge transport sense rst pending
  apply State.ext
  all_goals first | assumption | rfl

/-- R91, R92: a chain of operations, with the quiet flag worked and the list settled at its end. -/
theorem State.accountsWorked_quiet (h : s.listWork (testsAround s t) u) (hf : s.accountFrame os u)
    (ht : u.workQuiet.settle.framed t) : s.accountsWorked os t := by
  have hur : u.rst.asserted = false := h.released
  have hquiet : s.listWork (testsAround s t) u.workQuiet :=
    h.same (State.workQuiet_noticed (.refl u)) (State.workQuiet_rst hur)
  have hq : u.quiet = s.quiet := by rw [hf.only]
  have hsettled : u.workQuiet.sameBlocks t :=
    State.sameBlocks.trans ⟨by simp, by simp, by simp, by apply Timers.ext <;> simp⟩ ht.sameBlocks
  have hport : u.workQuiet.settle.port = u.workQuiet.port := by simp
  have hkept : u.workQuiet.port.settingsKept t.port := hport ▸ ht.kept
  have hrst : u.workQuiet.settle.rst = u.rst := by
    rw [← State.workQuiet_rst hur]
    simp
  have honly := hf.only_through (t := t) (by rw [ht.only]; simp) (by rw [ht.only]; simp) (by rw [ht.only]; simp)
    (by rw [ht.only]; simp) (by rw [ht.only]; simp) (by rw [ht.only]; simp) (by rw [ht.only]; exact hrst)
    (by rw [ht.only]; simp)
  exact State.accountsWorked_of hquiet ht.sameList honly
    (hf.kept.trans (State.workQuiet_settingsKept.trans hkept))
    (State.quietWorked_of hur hq hf.sameBlocks (by rw [ht.only]; simp) hsettled (hkept.flag .account))

/-- A chain of operations that leaves the quiet flag alone, with the list settled at its end. -/
theorem State.accountsWorked_plain (h : s.listWork (testsAround s t) u) (hf : s.accountFrame os u)
    (ht : u.settle.framed t) : s.accountsWorked os t := by
  have hq : u.quiet = s.quiet := by rw [hf.only]
  have hsettled : u.sameBlocks t :=
    State.sameBlocks.trans ⟨by simp, by simp, by simp, by apply Timers.ext <;> simp⟩ ht.sameBlocks
  have hport : u.settle.port = u.port := by simp
  have hkept : u.port.settingsKept t.port := hport ▸ ht.kept
  have honly := hf.only_through (t := t) (by rw [ht.only]; simp) (by rw [ht.only]; simp) (by rw [ht.only]; simp)
    (by rw [ht.only]; simp) (by rw [ht.only]; simp) (by rw [ht.only]; simp) (by rw [ht.only]; simp)
    (by rw [ht.only]; simp)
  exact State.accountsWorked_of h ht.sameList honly (hf.kept.trans hkept)
    (State.quietWorked_same (hf.sameBlocks.trans hsettled) (by rw [ht.only]; simp [hq]))

end

end Sys2Proof.Machine
end

section
/-! PROOF. The driving warnings tested (R86), out of reset and while RESET is asserted (R101, R116); O29. -/
namespace Sys2Proof.Machine

section
variable {s t u v : State} {σ : (Entry → Bool) → Prop} {moved : List (Source × WarnType)} {i : Slot} {a b : Account}

/-! ### Driving warnings tested within an event that need not settle the list -/

theorem State.deals.mono {p q : Prop} (h : s.deals (.of σ moved p) t) (hpq : p → q) : s.deals (.of σ moved q) t where
  released := h.released
  minute := h.minute
  mode := h.mode
  others := h.others
  dates := h.dates
  lamp := h.lamp
  each hd := by
    obtain ⟨h1, h2, h3, h4, h5⟩ := h.each hd
    refine ⟨h1, fun x hx => (h2 x hx).imp_right (And.imp_left (And.imp_left hpq)), h3, h4, fun hi => ?_⟩
    refine (h5 hi).imp_right ?_
    rintro ⟨hm, h7, e, he, hrest⟩
    exact ⟨hm, h7, e, he.imp_right (And.imp_left (And.imp_left hpq)), hrest⟩

/-- The list as an event's raises and removals have left it: where it has raised an entry, the due ones are settled. -/
def State.listWorked (s : State) (σ : (Entry → Bool) → Prop) (moved : List (Source × WarnType)) (t : State) : Prop :=
  ∃ raises : Prop, s.deals (.of σ moved raises) t ∧ (raises → t.dueSettled) ∧ (s.dueSettled → t.dueSettled)

theorem State.listWorked.refl (hr : s.rst.asserted = false) : s.listWorked σ moved s :=
  ⟨False, .refl _ hr, False.elim, id⟩

theorem State.listWorked.listKept (h : s.listWorked σ moved t) (hσ : ∀ f, σ f → testsAround s t f) : s.listKept moved t := by
  obtain ⟨_, hdeals, hraised, hdue⟩ := h
  exact hdeals.listKept hσ hraised hdue

theorem State.listWorked.released (h : s.listWorked σ moved t) : t.rst.asserted = false := by
  obtain ⟨_, hdeals, -⟩ := h
  exact hdeals.released

theorem State.listWorked.workCondition {w : WarnType} {x : Bool} (h : s.listWorked σ moved u) (hf : σ u.suppressed)
    (hw : isDriving w = true) (hm : (.slot i, w) ∈ moved) (hl : 1 < moved.length) :
    s.listWorked σ moved (u.workCondition (.slot i) w x) := by
  obtain ⟨raises, hdeals, hraised, hdue⟩ := h
  have hur := hdeals.released
  have hkeep : ∀ q : Prop, q → s.mayRaise (.of σ moved q) u (.slot i) w := fun q hq =>
    mayRaise_driving hw ⟨hq, hm⟩ hm fun hk => hk.elim (fun h => absurd hl (Nat.not_lt.mpr h)) fun hn => hn hm
  unfold State.workCondition
  split
  · cases hn : hasPair (.slot i) w u.warn.entries with
    | true =>
      rw [State.raise_released _ _ hur, hn]
      exact ⟨raises, hdeals, hraised, hdue⟩
    | false =>
      have hsettled : (u.raise (.slot i) w).dueSettled := State.raise_dueSettled_new hur hn
      exact ⟨True, (hdeals.mono fun _ => trivial).raise hf (hkeep True trivial), fun _ => hsettled, fun _ => hsettled⟩
  · split
    · have hdropped : u.dueSettled → (u.remove (.slot i) w).dueSettled := fun hd => by
        rw [State.remove_released _ _ _ hur]
        exact State.dropEntry_dueSettled hd
      exact ⟨raises, hdeals.remove hm, fun hq => hdropped (hraised hq), fun hd => hdropped (hdue hd)⟩
    · exact ⟨raises, hdeals, hraised, hdue⟩

theorem State.listWorked.testDriving (h : s.listWorked σ moved u) (hf : σ u.suppressed)
    (hm : ∀ p ∈ drivingPairs i, p ∈ moved) (hl : 1 < moved.length) : s.listWorked σ moved (u.testDriving i) := by
  unfold State.testDriving
  split
  next a _ =>
    have hsame : ∀ (r : State) (w : WarnType) (x : Bool), (r.workCondition (.slot i) w x).suppressed = r.suppressed :=
      fun r w x => State.suppressed_eq (by simp) (by simp) (by simp)
    have h1 := h.workCondition (i := i) (w := .driveNear) (x := a.driveNear) hf rfl (hm _ (by simp [drivingPairs])) hl
    have h2 := h1.workCondition (i := i) (w := .driveOver) (x := a.driveOver) (by rw [hsame]; exact hf) rfl
      (hm _ (by simp [drivingPairs])) hl
    exact h2.workCondition (i := i) (w := .dailyOver) (x := a.dailyOver) (by rw [hsame, hsame]; exact hf) rfl
      (hm _ (by simp [drivingPairs])) hl
  next => exact h

theorem State.listWorked.same (h : s.listWorked σ moved u) (hr : v.rst.asserted = false) (clock : v.clock = u.clock)
    (mode : v.port.mode = u.port.mode) (warn : v.warn = u.warn) (t7 : v.timers.t7 = u.timers.t7)
    (flag : Notice.warning.inByte u.port.flags = true → Notice.warning.inByte v.port.flags = true)
    (hsup : v.suppressed = u.suppressed) : s.listWorked σ moved v := by
  obtain ⟨raises, hdeals, hraised, hdue⟩ := h
  have hkeep : u.dueSettled → v.dueSettled := fun hd e he hre => by
    rw [warn] at he
    obtain ⟨h1, h2⟩ := hd e he hre
    rw [hsup, warn, mode]
    exact ⟨h1, h2⟩
  exact ⟨raises, hdeals.neutral hr clock mode warn t7 flag, fun hq => hkeep (hraised hq), fun hd => hkeep (hdue hd)⟩

theorem State.listWorked.setAccount (h : s.listWorked σ moved u) (ha : u.account i = some a) (hh : b.hushes = a.hushes) :
    s.listWorked σ moved (u.setAccount i b) :=
  h.same h.released rfl rfl rfl rfl id (State.suppressed_setAccount ha hh)

/-! ### Driving warnings tested while RESET is asserted -/

theorem handedPresence_appends (x : Source) (w : WarnType) (c : Bool) (hs ks : List Handed) :
    handedPresence x w c (hs ++ ks) = handedPresence x w (handedPresence x w c hs) ks := by
  induction hs generalizing c with
  | nil => rfl
  | cons y ys ih => cases y <;> exact ih _

theorem mem_handed {x : Source} {w : WarnType} {p q : Bool} {h : Handed} (hh : h ∈ handed x w p q) :
    h = .raise x w ∨ h = .remove x w := by
  unfold handed at hh
  split at hh
  · cases hh
  · split at hh <;> simp only [List.mem_singleton] at hh
    · exact .inl hh
    · exact .inr hh

/-- R101, R116: the driving warnings' raises and removals are held. -/
theorem State.testDriving_asserted (hr : s.rst.asserted = true) (ha : s.account i = some a) :
    ∃ tests : List Handed,
      (∀ h ∈ tests, ∃ w ∈ [WarnType.driveNear, .driveOver, .dailyOver], h = .raise (.slot i) w ∨ h = .remove (.slot i) w) ∧
      s.testDriving i = { s with rst := { s.rst with heldWarnings := s.rst.heldWarnings ++ tests } } ∧
      (s.testDriving i).drivingTested i a := by
  simp only [State.testDriving, ha]
  have e1 := State.workCondition_asserted hr (.slot i) .driveNear a.driveNear
  have l1 := State.listed_workCondition hr (.slot i) (.slot i) .driveNear .driveNear a.driveNear
  generalize s.workCondition (.slot i) .driveNear a.driveNear = u at e1 l1
  have hur : u.rst.asserted = true := by rw [e1]; exact hr
  have e2 := State.workCondition_asserted hur (.slot i) .driveOver a.driveOver
  have l2 := fun w => State.listed_workCondition hur (.slot i) (.slot i) .driveOver w a.driveOver
  generalize u.workCondition (.slot i) .driveOver a.driveOver = v at e2 l2
  have hvr : v.rst.asserted = true := by rw [e2]; exact hur
  have e3 := State.workCondition_asserted hvr (.slot i) .dailyOver a.dailyOver
  have l3 := fun w => State.listed_workCondition hvr (.slot i) (.slot i) .dailyOver w a.dailyOver
  generalize v.workCondition (.slot i) .dailyOver a.dailyOver = t at e3 l3
  refine ⟨handed (.slot i) .driveNear (s.listed (.slot i) .driveNear) a.driveNear ++
      handed (.slot i) .driveOver (u.listed (.slot i) .driveOver) a.driveOver ++
      handed (.slot i) .dailyOver (v.listed (.slot i) .dailyOver) a.dailyOver, fun h hh => ?_, ?_, ?_⟩
  · simp only [List.mem_append] at hh
    obtain (hh | hh) | hh := hh
    · exact ⟨_, by simp, mem_handed hh⟩
    · exact ⟨_, by simp, mem_handed hh⟩
    · exact ⟨_, by simp, mem_handed hh⟩
  · rw [e3, e2, e1]
    simp only [List.append_assoc]
  · unfold State.drivingTested
    rw [l3 .driveNear, l2 .driveNear, l3 .driveOver, l2 .driveOver, l3 .dailyOver, l1]
    simp [Account.driveNear, Account.driveOver, Account.dailyOver]

/-! ### O29: REST_DONE -/

theorem Account.restDue_iff (a : Account) :
    a.restDue = true ↔ a.state = .resting ∧ a.rested = false ∧ a.settings.rest ≤ a.credited := by
  simp [Account.restDue, and_assoc]

theorem State.pass_asserted (hr : s.rst.asserted = true) : s.pass = s := by
  simp [State.pass, hr]

theorem State.settle_asserted (hr : s.rst.asserted = true) : s.settle = s := by
  simp [State.settle, hr]

/-- R101: what a wake order of an account adds to those held. -/
def Account.heldWakes (a : Account) : List HeldWake :=
  match sideOf a.bunk with
  | some side =>
    if a.settings.wake then [{ side := side, level := a.settings.wakeLevel, fade := a.settings.wakeRamp * 60 }] else []
  | none => []

theorem State.wakeFor_asserted (hr : s.rst.asserted = true) (a : Account) :
    s.wakeFor a = { s with rst := { s.rst with heldWakes := s.rst.heldWakes ++ a.heldWakes } } := by
  have hkeep : s = { s with rst := { s.rst with heldWakes := s.rst.heldWakes ++ [] } } := by rw [List.append_nil]
  unfold State.wakeFor Account.heldWakes
  cases sideOf a.bunk with
  | none => exact hkeep
  | some side =>
    dsimp only
    by_cases hw : a.settings.wake = true
    · rw [if_pos hw, if_pos hw, State.placeWake, if_pos hr]
    · rw [if_neg hw, if_neg hw]
      exact hkeep

theorem State.raise_asserted (hr : s.rst.asserted = true) (x : Source) (w : WarnType) :
    s.raise x w = { s with rst := { s.rst with heldWarnings := s.rst.heldWarnings ++ [.raise x w] } } := by
  rw [State.raise, if_pos hr]

/-- R101: a rest completed while RESET is asserted. -/
theorem State.fireRestDone_asserted (hr : s.rst.asserted = true) (i : Slot) (a : Account) :
    ∃ tests : List Handed,
      (∀ h ∈ tests, ∃ w ∈ [WarnType.driveNear, .driveOver, .dailyOver], h = .raise (.slot i) w ∨ h = .remove (.slot i) w) ∧
      s.fireRestDone i a =
        { s with
          accounts := (s.fireRestDone i a).accounts
          rst :=
            { s.rst with
              heldWarnings := s.rst.heldWarnings ++ tests ++ [.raise (.slot i) .restDone]
              heldWakes := s.rst.heldWakes ++ a.heldWakes, accountNotice := true } } ∧
      (s.fireRestDone i a).drivingTested i (a.doneAt s.clock.minute) := by
  obtain ⟨tests, hmem, heq, htested⟩ := State.testDriving_asserted (s := s.setAccount i a.restDone) hr
    (s.setAccount_wrote i a.restDone).1
  obtain ⟨v, hv⟩ : ∃ v, v = ((s.setAccount i a.restDone).testDriving i).setAccount i (a.doneAt s.clock.minute) :=
    ⟨_, rfl⟩
  have hvr : v.rst = { s.rst with heldWarnings := s.rst.heldWarnings ++ tests } := by
    rw [hv, heq]
    rfl
  have hva : v.rst.asserted = true := by rw [hvr]; exact hr
  obtain ⟨w, hw⟩ : ∃ w, w = v.raise (.slot i) .restDone := ⟨_, rfl⟩
  have hweq := State.raise_asserted hva (.slot i) .restDone
  rw [← hw] at hweq
  have hwa : w.rst.asserted = true := by rw [hweq]; exact hva
  have hfire : s.fireRestDone i a =
      { w with rst := { w.rst with heldWakes := w.rst.heldWakes ++ a.heldWakes, accountNotice := true } } := by
    rw [State.fireRestDone_eq, ← hv, ← hw, State.wakeFor_asserted hwa, State.accountNotice, if_pos (by exact hwa)]
  refine ⟨tests, hmem, ?_, ?_⟩
  · rw [hfire, hweq]
    dsimp only
    rw [hvr, hv, heq]
    rfl
  · have hlisted : ∀ x, isDriving x = true →
        (s.fireRestDone i a).listed (.slot i) x = ((s.setAccount i a.restDone).testDriving i).listed (.slot i) x := by
      intro x hx
      have hne : decide (WarnType.restDone = x) = false := by
        revert hx
        cases x <;> decide
      have hone : (s.fireRestDone i a).listed (.slot i) x =
          handedPresence (.slot i) x (hasPair (.slot i) x v.warn.entries) (v.rst.heldWarnings ++ [.raise (.slot i) .restDone]) := by
        rw [hfire, hweq]
        rfl
      rw [hone, handedPresence_append, hv]
      simp only [handedPresence, hne, Bool.and_false, Bool.or_false]
      rfl
    unfold State.drivingTested at htested ⊢
    rw [hlisted _ rfl, hlisted _ rfl, hlisted _ rfl]
    exact htested

/-- R80: what a rest completed writes. -/
theorem State.fireRestDone_account (s : State) (i : Slot) (a : Account) :
    s.wrote i (a.doneAt s.clock.minute) (s.fireRestDone i a) := State.fireRestDone_wrote

section
variable (hr : s.rst.asserted = false)
include hr

omit hr in
theorem State.testDriving_inByte (i : Slot) {n : Notice} (hn : n ≠ .warning) :
    n.inByte (s.testDriving i).port.flags = n.inByte s.port.flags := by
  unfold State.testDriving
  split
  · rw [State.workCondition_inByte _ _ _ _ hn, State.workCondition_inByte _ _ _ _ hn,
      State.workCondition_inByte _ _ _ _ hn]
  · rfl

/-- R17, R80: a rest completed sets ACCOUNT, and ORDER where its wake order has no place. -/
theorem State.fireRestDone_flags (i : Slot) (a : Account) :
    Notice.account.inByte (s.fireRestDone i a).port.flags = true ∧
    (Notice.order.inByte (s.fireRestDone i a).port.flags = true ↔
      Notice.order.inByte s.port.flags = true ∨
      (a.settings.wake = true ∧ ∃ side : Side, side.bunk = a.bunk ∧
        (∀ o ∈ s.orders, o.key ≠ wakeKey side) ∧
        ¬((s.port.mode = .normal ∨ s.port.mode = .workshop) ∧ s.orders.length < 24))) := by
  obtain ⟨u, hu⟩ : ∃ u, u = (((s.setAccount i a.restDone).testDriving i).setAccount i (a.doneAt s.clock.minute)).raise
    (.slot i) .restDone := ⟨_, rfl⟩
  have hur : u.rst.asserted = false := by
    rw [hu]
    simpa using hr
  have hwr : (u.wakeFor a).rst.asserted = false := by
    simpa using hur
  have hmode : u.port.mode = s.port.mode := by simp [hu]
  have horders : u.orders = s.orders := by simp [hu]
  have hflag : Notice.order.inByte u.port.flags = Notice.order.inByte s.port.flags := by
    rw [hu, State.raise_inByte _ _ _ (by decide)]
    exact State.testDriving_inByte (s := s.setAccount i a.restDone) i (by decide)
  have hwake := State.wakeFor_flag hur a
  rw [hmode, horders, hflag] at hwake
  rw [State.fireRestDone_eq, ← hu, State.accountNotice, if_neg (by rw [hwr]; simp)]
  refine ⟨by rw [State.notice_inByte, hwr]; simp, ?_⟩
  rw [State.notice_inByte, ← hwake]
  simp

end

end

end Sys2Proof.Machine
end

section
/-! PROOF. O29: REST_DONE and BREAK_COMPLETE. -/
namespace Sys2Proof.Machine

section
variable {s t u : State} {i : Slot} {a b : Account}

/-- A pass looks at no pair of an account. -/
theorem State.slotPair_afterPass (h : s.afterPass t) (i : Slot) (w : WarnType) :
    hasPair (.slot i) w t.warn.entries = hasPair (.slot i) w s.warn.entries :=
  State.afterPass.hasPair h (by simp)

theorem State.afterPass.records (h : s.afterPass t) : s.recordsKept t := by
  obtain ⟨-, -, -, -, -, -, -, -, -, -, hrecords, -⟩ := h
  exact hrecords

theorem State.afterPass.account (h : s.afterPass t) (i : Slot) : t.account i = s.account i := by
  obtain ⟨-, -, haccounts, -⟩ := h.records
  exact State.account_of haccounts i

theorem State.slotHanded.of {done short tests : Bool} (h : s.slotHanded i done short tests u)
    (hw : ∀ x, hasPair (.slot i) x t.warn.entries = hasPair (.slot i) x u.warn.entries)
    (ha : t.account i = u.account i) : s.slotHanded i done short tests t := by
  unfold State.slotHanded Warn.drivingWorked at h ⊢
  simp only [hw, ha]
  exact h

theorem State.otherSlotsKept.of (h : s.otherSlotsKept i u)
    (hw : ∀ j x, hasPair (.slot j) x t.warn.entries = hasPair (.slot j) x u.warn.entries) : s.otherSlotsKept i t :=
  fun j hj x hx => (hw j x).trans (h j hj x hx)

/-- What a list settled, and a pass after it, hand over. -/
theorem State.settled_pairs (h : u.settle.afterPass t) (j : Slot) (x : WarnType) :
    hasPair (.slot j) x t.warn.entries = hasPair (.slot j) x u.warn.entries := by
  rw [State.slotPair_afterPass h, hasPair_settle]

theorem State.takeRestDone_out (hr : s.rst.asserted = false) (ha : s.account i = some a) (hd : a.restDue = true) :
    Notice.account.inByte (s.takeRestDone i).port.flags = true ∧
    (HeldLaw s → s.slotHanded i true false true (s.takeRestDone i) ∧ s.otherSlotsKept i (s.takeRestDone i)) ∧
    ∃ b : State, b.accounts = (s.takeRestDone i).accounts ∧ b.afterPass (s.takeRestDone i) ∧
      s.accountsWorked (a.wakeEntered s.port.mode s.clock.minute s.orders) b ∧
      (Notice.order.inByte b.port.flags = true ↔
        Notice.order.inByte s.port.flags = true ∨
        (a.settings.wake = true ∧ ∃ side : Side, side.bunk = a.bunk ∧
          (∀ o ∈ s.orders, o.key ≠ wakeKey side) ∧
          ¬((s.port.mode = .normal ∨ s.port.mode = .workshop) ∧ s.orders.length < 24))) := by
  obtain ⟨u, hu⟩ : ∃ u, u = s.fireRestDone i a := ⟨_, rfl⟩
  have htake : s.takeRestDone i = u.settle.pass := by
    simp only [State.takeRestDone, ha, hd, if_true, hu]
  have hur : u.rst.asserted = false := by
    rw [hu]
    simpa using hr
  have hpass : u.settle.afterPass (s.takeRestDone i) := by
    rw [htake]
    exact State.pass_spec _ (by simpa using hur)
  obtain ⟨hnotice, horder⟩ := State.fireRestDone_flags hr i a
  rw [← hu] at hnotice horder
  have hport : u.settle.port = u.port := by simp
  have hlist : s.listWork (testsAround s u.settle) u := by
    rw [hu]
    exact (State.listWork.refl _ hr).fireRestDone ha (.inl rfl) id
  have hframe : s.accountFrame (a.wakeEntered s.port.mode s.clock.minute s.orders) u := by
    rw [hu]
    exact State.accountFrame_of (.refl s) (State.fireRestDone_noticed i a (.refl s)) (by rw [← hu]; exact hlist.rst)
      (orders := State.fireRestDone_orders hr i a)
  refine ⟨hpass.flag (by rw [hport]; exact hnotice), fun hl => ?_, u.settle, ?_, hpass,
    State.accountsWorked_plain hlist hframe (.refl _), by rw [hport]; exact horder⟩
  · have hgives := State.fireRestDone_gives (i := i) (a := a) hr (hl hr).1
    rw [← hu] at hgives
    obtain ⟨hslot, hothers⟩ := hgives
    rw [Bool.or_true] at hslot
    refine ⟨hslot.of (State.settled_pairs hpass i) ?_, hothers.of (State.settled_pairs hpass)⟩
    rw [hpass.account, State.account_of (s := u) (by simp)]
  · obtain ⟨-, -, haccounts, -⟩ := hpass.records
    exact haccounts.symm

theorem State.testBreak_eq (ha : s.account i = some a) (hb : s.breakDone a = true) :
    s.testBreak i = (s.setAccount i { a with contSeconds := 0 }).testDriving i := by
  simp only [State.testBreak, ha, hb, if_true]

/-- Settles O29. -/
theorem restAndBreakComplete : Obligations.RestAndBreakComplete := by
  unfold Obligations.RestAndBreakComplete
  refine ⟨fun i s => ⟨fun hno => ?_, fun a ha h1 h2 h3 => ?_⟩, fun i s => ⟨fun hno => ?_, fun a ha h1 h2 h3 => ?_⟩⟩
  · have hkeep : s.takeRestDone i = s := by
      unfold State.takeRestDone
      split
      next a ha => exact if_neg fun hd => hno a ha (a.restDue_iff.mp hd)
      next => rfl
    exact congrArg _ hkeep
  · have hd : a.restDue = true := a.restDue_iff.mpr ⟨h1, h2, h3⟩
    have htake : s.takeRestDone i = (s.fireRestDone i a).settle.pass := by
      simp only [State.takeRestDone, ha, hd, if_true]
    have hwrote : s.wrote i (a.doneAt s.clock.minute) (s.takeRestDone i) := by
      rw [htake]
      exact (s.fireRestDone_account i a).kept (by simp)
    refine ⟨s.takeRestDone i, rfl, hwrote.1, hwrote.2, fun hr => ?_, fun hr => State.takeRestDone_out hr ha hd⟩
    obtain ⟨tests, hmem, heq, htested⟩ := State.fireRestDone_asserted hr i a
    have hfr : (s.fireRestDone i a).rst.asserted = true := by rw [heq]; exact hr
    rw [State.settle_asserted hfr, State.pass_asserted hfr] at htake
    rw [htake]
    have hrst : (s.fireRestDone i a).rst =
        { s.rst with
          heldWarnings := s.rst.heldWarnings ++ tests ++ [.raise (.slot i) .restDone]
          heldWakes := s.rst.heldWakes ++ a.heldWakes, accountNotice := true } := by rw [heq]
    refine ⟨?_, ?_, ⟨tests, hmem, by rw [hrst]⟩, fun c hc => ?_, fun side hs hw => ?_, fun hor => ?_⟩
    · rw [hrst]
      exact heq
    · rw [hrst]
    · obtain rfl := Option.some.inj ((s.fireRestDone_account i a).1.symm.trans hc)
      exact htested
    · rw [hrst]
      have hside : sideOf a.bunk = some side := by rw [← hs]; cases side <;> rfl
      simp [Account.heldWakes, hside, hw]
    · rw [hrst]
      have hnone : a.heldWakes = [] := by
        unfold Account.heldWakes
        obtain h | h := hor
        · rw [h]; rfl
        · cases sideOf a.bunk <;> simp [h]
      rw [hnone, List.append_nil]
  · have hkeep : s.testBreak i = s := by
      unfold State.testBreak
      split
      next a ha => exact if_neg fun hd => hno a ha ((s.breakDone_iff a).mp hd)
      next => rfl
    exact congrArg _ hkeep
  · have hb : s.breakDone a = true := (s.breakDone_iff a).mpr ⟨h1, h2, h3⟩
    obtain ⟨u, hu⟩ : ∃ u, u = s.setAccount i { a with contSeconds := 0 } := ⟨_, rfl⟩
    have heq : s.testBreak i = u.testDriving i := by rw [State.testBreak_eq ha hb, hu]
    have hua : u.account i = some { a with contSeconds := 0 } := by rw [hu]; exact (s.setAccount_wrote i _).1
    have hwrote : s.wrote i { a with contSeconds := 0 } (s.testBreak i) := by
      have h := State.testBreak_wrote ha
      rwa [if_pos hb] at h
    refine ⟨s.testBreak i, rfl, hwrote.1, hwrote.2, ?_, fun hr => ?_, fun hr => ?_⟩
    · apply State.ext
      case timers => apply Timers.ext <;> simp
      all_goals simp
    · have hur : u.rst.asserted = true := by rw [hu]; exact hr
      obtain ⟨tests, hmem, htests, htested⟩ := State.testDriving_asserted hur hua
      rw [heq]
      refine ⟨by rw [htests, hu]; rfl, by rw [htests, hu]; rfl, fun c hc => ?_, tests, hmem, by rw [htests, hu]; rfl⟩
      have hca : (u.testDriving i).account i = some { a with contSeconds := 0 } := by
        rw [State.account_of (s := u) (by simp), hua]
      obtain rfl := Option.some.inj (hca.symm.trans hc)
      exact htested
    · have hur : u.rst.asserted = false := by rw [hu]; exact hr
      have hlist : s.listWorked (· = s.suppressed) (drivingPairs i) u := by
        rw [hu]
        exact (State.listWorked.refl hr).setAccount ha rfl
      have htested := hlist.testDriving (i := i) (by rw [hu]; exact State.suppressed_setAccount ha rfl) (fun _ hp => hp)
        (by simp [drivingPairs])
      rw [heq]
      refine ⟨?_, htested.listKept fun f hf => .inl hf, fun hl c hc => ?_⟩
      · rw [State.testDriving_rst hur, hu]
        rfl
      · have hca : (u.testDriving i).account i = some { a with contSeconds := 0 } := by
          rw [State.account_of (s := u) (by simp), hua]
        obtain rfl := Option.some.inj (hca.symm.trans hc)
        exact State.testDriving_worked hur (by rw [hu]; exact (hl hr).1) hua

end

end Sys2Proof.Machine
end

section
/-! PROOF. O25 and O27: ASET, ADECL WHEEL and ADECL RELEASE. -/
namespace Sys2Proof.Machine

section
variable {s t u v z work : State} {i : Slot} {a b : Account} {moved : List (Source × WarnType)}

/-! ### The end of a frame -/

/-- The end of a frame leaves what an event made of the list. -/
theorem State.listKept.framed (h : s.listKept moved z) (k : z.framed t) : s.listKept moved t := by
  have hmode : t.port.mode = z.port.mode := k.kept.1
  have hflags := k.flags
  have honly := k.only
  generalize t.port = p at hmode hflags honly
  subst honly
  unfold State.listKept State.chimeKept Entry.handled State.tests State.dueSettled State.suppressed State.restingSource
    State.account at h ⊢
  dsimp only at h ⊢
  rw [hmode, hflags]
  exact h

theorem State.presenterOnly.framed (h : work.presenterOnly moved z) (k : z.framed t) : work.presenterOnly moved t := by
  obtain ⟨honly, hkept, hlist⟩ := h
  refine ⟨?_, hkept.trans k.kept, hlist.framed k⟩
  have hk := k.only
  rw [honly] at hk
  rw [k.only, honly]

theorem State.takeFrame_framed {f : State → State × Reply} {r : Reply} (h : s.serves) (hf : f s.inFrame = (z, r)) :
    (s.takeFrame f).answers r ∧ z.framed (s.takeFrame f) := by
  rw [State.takeFrame_served s f h, hf]
  exact ⟨State.closeFrame_answers _ r, z.closeFrame_framed r⟩

theorem State.framed.answers_quiet (k : u.workQuiet.settle.framed t) : t.quiet = t.quietNow := by
  have hquiet : t.quiet = u.workQuiet.quiet := by rw [k.only]; simp
  rw [hquiet, State.workQuiet_quiet, k.quietNow]
  exact (State.quietNow_congr (by simp)).symm

theorem State.afterPass.quietNow (h : u.workQuiet.settle.afterPass t) : t.quiet = t.quietNow := by
  obtain ⟨-, -, haccounts, -, hquiet, -⟩ := h.records
  have hq : u.workQuiet.settle.quiet = u.workQuiet.quiet := by simp
  rw [hquiet, hq, State.workQuiet_quiet, State.quietNow_congr haccounts]
  exact (State.quietNow_congr (by simp)).symm

/-! ### A chain of operations within a frame or outside one -/

theorem State.listWork.start (hr : s.rst.asserted = false) (hv : s.framed v) (σ : (Entry → Bool) → Prop) :
    s.listWork σ v := (State.listWork.refl σ hr).framed hv

theorem State.framed.slotGives (hv : s.framed v) {d sh x : Bool} (h : v.slotGives i d sh x t) : s.slotGives i d sh x t := by
  unfold State.slotGives State.slotHanded State.otherSlotsKept at h ⊢
  rw [hv.only] at h
  exact h

theorem State.slotGives.hands {d sh x done sh' x' : Bool} (h : s.slotGives i d sh x u)
    (k : u.slotHanded i done sh' x' t ∧ u.otherSlotsKept i t) (hx : x = false) :
    s.slotHanded i done (sh || sh') x' t ∧ s.otherSlotsKept i t := by
  obtain ⟨⟨h1, h2, h3, h4⟩, h5⟩ := h
  obtain ⟨⟨k1, k2, k3, k4⟩, k5⟩ := k
  refine ⟨⟨k1, ?_, k3, fun hx' w hw => (k4 hx' w hw).trans (h4 hx w hw)⟩, fun j hj w hw =>
    (k5 j hj w hw).trans (h5 j hj w hw)⟩
  rw [k2, h2, Bool.or_assoc]

theorem State.accountNotice_flag (hr : s.rst.asserted = false) : Notice.account.inByte s.accountNotice.port.flags = true := by
  rw [State.accountNotice, if_neg (by rw [hr]; simp), State.notice_inByte, hr]
  simp

theorem State.accountGo_flag (hr : s.rst.asserted = false) (i : Slot) (st : AccountState) :
    Notice.account.inByte (s.accountGo i st).port.flags = true :=
  State.accountNotice_flag (by simpa using hr)

/-! ### O27: ADECL RELEASE -/

theorem State.account_after (hv : s.framed v) (h : s.account i = some a) : v.account i = some a :=
  (hv.account i).trans h

theorem State.releases (hs : s.serves) (ha : s.account i = some a) {n : Nat} (hi : slotOf n = some i)
    (hd : a.state = .driving) :
    ∃ t, exec (.adeclRelease n) s = .next t ∧ t.answers (done (.declared i .idle)) ∧
      State.presenterOnly { s with accounts := s.accounts.set i (some { a with state := .idle }) } [] t ∧
      t.dueSettled ∧ Notice.account.inByte t.port.flags = true := by
  obtain ⟨v, hv⟩ : ∃ v, v = s.inFrame.accountGo i .idle := ⟨_, rfl⟩
  obtain ⟨work, hwork⟩ : ∃ work : State, work = { s with accounts := s.accounts.set i (some { a with state := .idle }) } :=
    ⟨_, rfl⟩
  have hfa := State.account_after s.inFrame_framed ha
  have hwrote := State.accountGo_wrote .idle hfa
  have haccounts : v.accounts = s.accounts.set i (some { a with state := .idle }) := by
    rw [hv, hwrote.accounts_eq, s.inFrame_framed.only]
  have hfr : s.inFrame.rst.asserted = false := by simpa using hs.1
  have hrst : v.rst = s.rst := by
    rw [hv, State.accountGo, State.accountNotice_rst (by simpa using hfr)]
    simp
  have hkept : work.port.settingsKept v.port := by
    rw [hwork, hv]
    exact s.inFrame_settingsKept.trans (State.accountGo_noticed i .idle (.refl _)).flagsKept
  have honly : v = { work with warn := v.warn, timers := { work.timers with t7 := v.timers.t7 }, port := v.port } := by
    apply State.ext
    case rst => rw [hwork]; exact hrst
    case accounts => rw [hwork]; exact haccounts
    case timers => rw [hwork]; simp [hv]
    all_goals simp [hwork, hv]
  have hsame : work.sameList v := by
    refine ⟨by rw [hrst, hwork], ?_, ?_, by rw [haccounts, hwork], ?_, ?_, hkept⟩
    all_goals simp [hwork, hv]
  have hworkr : work.rst.asserted = false := by rw [hwork]; exact hs.1
  obtain ⟨hsettled, hr, hport⟩ := State.settle_over hworkr hsame honly
  have hreq : reqAdeclRelease n s.inFrame = (v.settle, done (.declared i .idle)) := by
    have hacc : v.settle.account i = some { a with state := .idle } := by
      rw [State.account_of (s := v) (by simp), hv, hwrote.1]
    rw [reqAdeclRelease, State.withAccount_eq _ hi ha]
    simp only [hd, if_true, ← hv, State.declaredReply, hacc]
    rfl
  obtain ⟨hans, hframed⟩ := State.takeFrame_framed hs hreq
  refine ⟨_, rfl, hans, ?_, hframed.sameList.dueSettled (State.settle_dueSettled (by rw [hrst]; exact hs.1)), ?_⟩
  · rw [← hwork]
    exact State.presenterOnly.framed ⟨hsettled, hport, State.settle_listKept hworkr hsame⟩ hframed
  · have hflag : Notice.account.inByte v.settle.port.flags = true := by
      have hport : v.settle.port = v.port := by simp
      rw [hport, hv]
      exact State.accountGo_flag hfr i .idle
    exact hframed.kept.flag _ hflag

end

end Sys2Proof.Machine
end

section
/-! PROOF. O27: ADECL WHEEL. -/
namespace Sys2Proof.Machine

section
variable {s t u v z : State} {i : Slot} {a b : Account} {os : List Order}

/-- R72, R78: the account as it leaves its rest. -/
def Account.left (a : Account) : Account := (if a.state = .resting then a.closed else a).applied

theorem Account.left_hushes (a : Account) : a.left.hushes = a.hushes := by
  unfold Account.left
  split <;> rfl

/-- R74, R75: a rest left, without the change of state. -/
def State.restLeft (s : State) (i : Slot) : State := (s.closeIfResting i).finishRest i

theorem State.restLeft_wrote (ha : s.account i = some a) (hd : a.state ≠ .driving) : s.wrote i a.left (s.restLeft i) := by
  have hclosed := State.closeIfResting_wrote ha
  refine hclosed.trans (State.finishRest_wrote hclosed.1 ?_)
  split
  · exact hd
  · exact hd

theorem State.closeIfResting_suppressed (u : State) (i : Slot) : (u.closeIfResting i).suppressed = u.suppressed := by
  cases ha : u.account i with
  | none => simp only [State.closeIfResting, ha]
  | some a =>
    refine State.suppressed_of (by simp) (by simp) (State.wrote.hushes ha (State.closeIfResting_wrote ha) ?_)
    split <;> rfl

theorem State.listWork.restLeft {σ : (Entry → Bool) → Prop} (h : s.listWork σ u) (hf : σ u.suppressed)
    (hfresh : hasPair (.slot i) .restShort u.warn.entries = false → hasPair (.slot i) .restShort s.warn.entries = false) :
    s.listWork σ (u.restLeft i) :=
  (h.closeIfResting hf hfresh).finishRest (by rw [State.closeIfResting_suppressed]; exact hf)

theorem State.restLeft_hands (hr : s.rst.asserted = false) (hh : s.rst.heldWarnings = []) (ha : s.account i = some a)
    (hd : a.state ≠ .driving) :
    s.slotHanded i false (decide (a.state = .resting) && a.closesShort) a.staged.isSome (s.restLeft i) ∧
    s.otherSlotsKept i (s.restLeft i) := by
  have hclosed := State.closeIfResting_wrote ha
  have hlist := (State.listWork.refl (s := s) (fun _ => True) hr).closeIfResting (i := i) trivial id
  have hfinish := State.finishRest_hands hlist.released (by rw [hlist.rst]; exact hh) hclosed.1
    (by split; exact hd; exact hd)
  have hstaged : (if a.state = .resting then a.closed else a).staged = a.staged := by split <;> rfl
  rw [hstaged] at hfinish
  have h := (State.closeIfResting_gives hr ha).hands hfinish rfl
  rwa [Bool.or_false] at h

/-- The operations that follow within the same request and leave the list's pairs and the figures alone. -/
theorem State.handed_through {done short tests : Bool}
    (h : s.slotHanded i done short tests u ∧ s.otherSlotsKept i u)
    (hw : ∀ j x, hasPair (.slot j) x t.warn.entries = hasPair (.slot j) x u.warn.entries)
    (hf : ∀ b, t.account i = some b → ∃ a, u.account i = some a ∧ a.sameFigures b) :
    s.slotHanded i done short tests t ∧ s.otherSlotsKept i t := by
  obtain ⟨⟨h1, h2, h3, h4⟩, h5⟩ := h
  refine ⟨⟨(hw i _).trans h1, (hw i _).trans h2, fun hx b hb => ?_, fun hx w hd => (hw i w).trans (h4 hx w hd)⟩,
    h5.of hw⟩
  obtain ⟨a, ha, hab⟩ := hf b hb
  have hold := h3 hx a ha
  unfold Warn.drivingWorked
  rw [hw i .driveNear, hw i .driveOver, hw i .dailyOver]
  exact Warn.drivingWorked_figures hold hab

/-- R75: what taking the driving role makes of an account. -/
def Account.wheeled (a : Account) : Account := { a.newDuty with state := .driving }

theorem Account.wheeled_eq (a : Account) :
    a.wheeled = { a with state := .driving, rested := false, accumulated := if a.rested then 0 else a.accumulated } := by
  unfold Account.wheeled Account.newDuty
  cases h : a.rested <;> simp [h]

def State.wheelTaken (s : State) (i : Slot) : State := (s.updAccount i Account.newDuty).accountGo i .driving

theorem State.wheelTaken_wrote (ha : s.account i = some a) : s.wrote i a.wheeled (s.wheelTaken i) := by
  have hduty := State.updAccount_wrote Account.newDuty ha
  exact hduty.trans (State.accountGo_wrote .driving hduty.1)

theorem State.wheelTaken_warn (s : State) (i : Slot) : (s.wheelTaken i).warn = s.warn := by simp [State.wheelTaken]

theorem Account.wheeled_figures (a : Account) : a.sameFigures a.wheeled := by
  rw [Account.wheeled_eq]
  exact ⟨rfl, rfl, rfl⟩

theorem State.declareWheel_eq (s : State) (i : Slot) (a : Account) :
    s.declareWheel i a =
      (((if a.declared then s.restLeft i else s).wheelTaken i).workQuiet.settle).passIf a.declared := rfl

/-! ### A chain of operations as a whole -/

/-- A chain of operations on the accounts, each test of it made with the suppression it found or the one it leaves. -/
structure State.accountsChain (s : State) (os : List Order) (u : State) : Prop where
  list : ∀ σ : (Entry → Bool) → Prop, σ s.suppressed → σ u.suppressed → s.listWork σ u
  frame : s.accountFrame os u

theorem State.accountsChain.tests (h : s.accountsChain os u) (haccounts : t.accounts = u.accounts)
    (hmode : t.port.mode = u.port.mode) : s.listWork (testsAround s t) u := by
  refine h.list _ (.inl rfl) (.inr (.inl ?_))
  have hq : u.quiet = s.quiet := by rw [h.frame.only]
  exact State.suppressed_eq hmode.symm hq haccounts.symm

theorem State.accountsChain.released (h : s.accountsChain os u) : u.rst.asserted = false :=
  (h.list (fun _ => True) trivial trivial).released

theorem State.accountsChain.quiet (h : s.accountsChain os u) (ht : u.workQuiet.settle.framed t) :
    s.accountsWorked os t := by
  refine State.accountsWorked_quiet (h.tests (by rw [ht.only]; simp) ?_) h.frame ht
  rw [ht.kept.1]
  simp

theorem State.accountsChain.plain (h : s.accountsChain os u) (ht : u.settle.framed t) : s.accountsWorked os t := by
  refine State.accountsWorked_plain (h.tests (by rw [ht.only]; simp) ?_) h.frame ht
  rw [ht.kept.1]
  simp

/-! ### The frames of the operations -/

theorem State.framed.accountFrame (hv : s.framed v) : s.accountFrame s.orders v := by
  refine ⟨?_, hv.kept⟩
  have h := hv.only
  generalize v.port = p at h
  subst h
  rfl

theorem State.accountFrame.trans {ks : List Order} (h : s.accountFrame os u) (k : u.accountFrame ks t) :
    s.accountFrame ks t := by
  refine ⟨?_, h.kept.trans k.kept⟩
  have hk := k.only
  rw [h.only] at hk
  exact hk

theorem State.accountFrame.orders_eq (h : s.accountFrame os u) : u.orders = os := by rw [h.only]

section
variable (hr : s.rst.asserted = false)
include hr

theorem State.closeIfResting_accountFrame (i : Slot) : s.accountFrame s.orders (s.closeIfResting i) :=
  State.accountFrame_of (.refl s) (State.closeIfResting_noticed i (.refl s))
    ((State.listWork.refl (fun _ => True) hr).closeIfResting trivial id).rst

theorem State.finishRest_accountFrame (i : Slot) : s.accountFrame s.orders (s.finishRest i) :=
  State.accountFrame_of (.refl s) (State.finishRest_noticed i (.refl s))
    ((State.listWork.refl (fun _ => True) hr).finishRest trivial).rst (by simp [State.finishRest])
    (by simp [State.finishRest])

theorem State.accountGo_accountFrame (i : Slot) (st : AccountState) : s.accountFrame s.orders (s.accountGo i st) :=
  State.accountFrame_of (.refl s) (State.accountGo_noticed i st (.refl s))
    ((State.listWork.refl (fun _ => True) hr).accountGo i st).rst

omit hr in
theorem State.updAccount_accountFrame (i : Slot) (f : Account → Account) : s.accountFrame s.orders (s.updAccount i f) :=
  State.accountFrame_of (.refl s) (State.updAccount_noticed i f (.refl s)) (by simp)

theorem State.restLeft_accountFrame (i : Slot) : s.accountFrame s.orders (s.restLeft i) := by
  have hclosed := State.closeIfResting_accountFrame hr i
  have h := hclosed.trans (State.finishRest_accountFrame (by simpa using hr) i)
  rwa [hclosed.orders_eq] at h

theorem State.wheelTaken_accountFrame (i : Slot) : s.accountFrame s.orders (s.wheelTaken i) := by
  have hduty := State.updAccount_accountFrame (s := s) i Account.newDuty
  have h := hduty.trans (State.accountGo_accountFrame (by simpa using hr) i .driving)
  rwa [hduty.orders_eq] at h

end

/-! ### O27: ADECL WHEEL -/

theorem State.wheel_chain (hr : s.rst.asserted = false) (hv : s.framed v)
    (hu : u = (if a.declared then v.restLeft i else v).wheelTaken i) : s.accountsChain s.orders u := by
  have hlist : ∀ σ : (Entry → Bool) → Prop, σ s.suppressed → σ u.suppressed → s.listWork σ u := fun σ h1 _ => by
    have hstart := State.listWork.start hr hv σ
    have hsup : σ v.suppressed := by rw [hv.sameList.suppressed]; exact h1
    have hw : v.warn = s.warn := by rw [hv.only]
    rw [hu]
    split
    · exact ((hstart.restLeft hsup (by rw [hw]; exact id)).updAccount i _).accountGo i .driving
    · exact (hstart.updAccount i _).accountGo i .driving
  have hvr : v.rst.asserted = false := hv.sameList.asserted.trans hr
  have hleft : v.accountFrame v.orders (if a.declared then v.restLeft i else v) := by
    split
    · exact State.restLeft_accountFrame hvr i
    · exact (State.framed.refl v).accountFrame
  have hwr : (if a.declared then v.restLeft i else v).rst.asserted = false := by
    rw [hleft.only]
    exact hvr
  have hframe := (hv.accountFrame.trans hleft).trans (State.wheelTaken_accountFrame hwr i)
  rw [← hu, hleft.orders_eq, hv.accountFrame.orders_eq] at hframe
  exact ⟨hlist, hframe⟩

theorem State.inFrame_roleHeld (s : State) : s.inFrame.roleHeld = s.roleHeld := by
  rw [State.roleHeld, State.roleHeld, State.slotsWhere_congr (s := s) (by simp)]

theorem State.wheels (hs : s.serves) (ha : s.account i = some a) {n : Nat} (hi : slotOf n = some i)
    (hd : a.state ≠ .driving) (hrole : s.roleHeld = false) :
    ∃ t, exec (.adeclWheel n) s = .next t ∧ t.answers (done (.declared i .driving)) ∧
      s.wrote i (if a.declared then a.left else a).wheeled t ∧ Notice.account.inByte t.port.flags = true ∧
      t.quiet = t.quietNow ∧
      (a.declared = false → s.accountsWorked s.orders t ∧
        ∀ source type, hasPair source type t.warn.entries = hasPair source type s.warn.entries) ∧
      (a.declared = true →
        (∃ b : State, b.accounts = t.accounts ∧ s.accountsWorked s.orders b ∧ b.afterPass t) ∧
        (HeldLaw s →
          s.slotHanded i false (decide (a.state = .resting) && a.closesShort) a.staged.isSome t ∧
          s.otherSlotsKept i t)) := by
  obtain ⟨v, hv⟩ : ∃ v, v = s.inFrame := ⟨_, rfl⟩
  have hframed : s.framed v := hv ▸ s.inFrame_framed
  have hva := State.account_after hframed ha
  have hvr : v.rst.asserted = false := hframed.sameList.asserted.trans hs.1
  obtain ⟨u, hu⟩ : ∃ u, u = (if a.declared then v.restLeft i else v).wheelTaken i := ⟨_, rfl⟩
  have hchain := State.wheel_chain hs.1 hframed hu
  have hwheel : v.declareWheel i a = u.workQuiet.settle.passIf a.declared := by rw [State.declareWheel_eq, hu]
  have hleft : v.wrote i (if a.declared then a.left else a) (if a.declared then v.restLeft i else v) := by
    split
    · exact State.restLeft_wrote hva hd
    · exact .refl hva
  have hwrote : s.wrote i (if a.declared then a.left else a).wheeled u := by
    rw [hu]
    exact (hleft.trans (State.wheelTaken_wrote hleft.1)).of_accounts (by rw [hframed.only])
  have hdone : s.wrote i (if a.declared then a.left else a).wheeled (v.declareWheel i a) := by
    rw [hwheel]
    exact hwrote.kept (by simp)
  have hreq : reqAdeclWheel n s.inFrame = (v.declareWheel i a, done (.declared i .driving)) := by
    have hfree : s.inFrame.roleHeld = false := by rw [State.inFrame_roleHeld, hrole]
    rw [reqAdeclWheel, State.withAccount_eq _ hi ha, if_neg hd, hfree, if_neg Bool.false_ne_true, ← hv]
    simp only [State.declaredReply, hdone.1]
    rfl
  obtain ⟨hans, hlast⟩ := State.takeFrame_framed hs hreq
  have hflag : Notice.account.inByte u.workQuiet.settle.port.flags = true := by
    have hport : u.workQuiet.settle.port = u.workQuiet.port := by simp
    rw [hport]
    refine State.workQuiet_settingsKept.flag _ ?_
    rw [hu]
    refine State.accountGo_flag ?_ i .driving
    have hx : ∀ (p : Prop) [Decidable p], (if p then v.restLeft i else v).rst.asserted = false := fun p _ => by
      split
      · simpa [State.restLeft, State.finishRest] using hvr
      · exact hvr
    simpa using hx _
  rw [hwheel] at hlast
  refine ⟨_, rfl, hans, hdone.kept (by rw [hwheel, hlast.only]), ?_⟩
  cases hdec : a.declared with
  | false =>
    rw [hdec] at hlast hu
    have hnopass : u.workQuiet.settle.framed (s.takeFrame (reqAdeclWheel n)) := hlast
    refine ⟨hnopass.kept.flag _ hflag, hnopass.answers_quiet, fun _ => ⟨hchain.quiet hnopass, fun x w => ?_⟩, nofun⟩
    have hw : u.warn = s.warn := by
      rw [hu]
      simp [State.wheelTaken, hframed.sameList.warn]
    rw [hnopass.sameList.warn, hasPair_settle]
    simp [hw]
  | true =>
    rw [hdec] at hlast hu
    have hsr : u.workQuiet.settle.rst.asserted = false := by
      simpa using hchain.released
    have hpass : u.workQuiet.settle.afterPass (s.takeFrame (reqAdeclWheel n)) := (State.pass_spec _ hsr).framed hlast
    refine ⟨hpass.flag hflag, hpass.quietNow, nofun, fun _ => ⟨⟨_, ?_, hchain.quiet (.refl _), hpass⟩, fun hl => ?_⟩⟩
    · obtain ⟨-, -, haccounts, -⟩ := hpass.records
      exact haccounts.symm
    · have hvh := hframed.heldLaw hl
      have hhands := State.restLeft_hands hvr (hvh hvr).1 hva hd
      have hstart : s.slotGives i false false false v := State.slotGives_of_warn hframed.sameList.warn
      have hhanded := hstart.hands hhands rfl
      rw [Bool.false_or] at hhanded
      have hwrotea := State.restLeft_wrote (i := i) hva hd
      refine State.handed_through hhanded (fun j x => ?_) fun b hb => ?_
      · rw [State.settled_pairs hpass]
        simp [hu, State.wheelTaken]
      · have hb' : u.account i = some b := by
          rw [← hb, hpass.account]
          exact (State.account_of (by simp) i).symm
        rw [hwrote.1, hdec] at hb'
        obtain rfl := Option.some.inj hb'
        exact ⟨_, hwrotea.1, Account.wheeled_figures _⟩

/-- Settles O27. -/
theorem adeclWheelAndReleaseAct : Obligations.AdeclWheelAndReleaseAct := by
  unfold Obligations.AdeclWheelAndReleaseAct
  refine ⟨fun n s hs => ⟨fun hn => refuses_of hs rfl (State.withAccount_noSlot _ hn), fun i hi => ⟨fun ha =>
    refuses_of hs rfl (State.withAccount_noAccount _ hi ha), fun a ha => ⟨fun hd => ?_, fun hd hrole => ?_,
    fun hd hrole => ?_⟩⟩⟩, fun n s hs => ⟨fun hn => refuses_of hs rfl (State.withAccount_noSlot _ hn), fun i hi =>
    ⟨fun ha => refuses_of hs rfl (State.withAccount_noAccount _ hi ha), fun a ha => ⟨fun hd => ?_, fun hd =>
    State.releases hs ha hi hd⟩⟩⟩⟩
  · refine reports_of (c := .adeclWheel n) hs rfl ?_
    rw [reqAdeclWheel, State.withAccount_eq _ hi ha, if_pos hd]
  · refine refuses_of (f := reqAdeclWheel n) hs rfl ?_
    have hheld : s.inFrame.roleHeld = true := by rw [State.inFrame_roleHeld, s.roleHeld_iff]; exact hrole
    rw [reqAdeclWheel, State.withAccount_eq _ hi ha, if_neg hd, if_pos hheld]
  · have hfree : s.roleHeld = false := by
      rw [Bool.eq_false_iff, Ne, State.roleHeld_iff]
      rintro ⟨j, b, hb, hst⟩
      exact hrole j b hb hst
    obtain ⟨t, ht, hans, hwrote, hflag, hquiet, hno, hyes⟩ := State.wheels hs ha hi hd hfree
    refine ⟨t, ht, hans, hwrote.2, fun b hb => ?_, hflag, hquiet, hno, hyes⟩
    have hbeq : b = if a.declared then a.left else a := by
      rw [hb]
      unfold Account.left Account.declared
      by_cases hst : a.state = .resting <;> simp [hst]
    rw [hwrote.1, ← hbeq, Account.wheeled_eq]
  · refine refuses_of (f := reqAdeclRelease n) hs rfl ?_
    rw [reqAdeclRelease, State.withAccount_eq _ hi ha, if_neg hd]

end

end Sys2Proof.Machine
end

section
/-! PROOF. O25: ASET. -/
namespace Sys2Proof.Machine

section
variable {s t u v z work : State} {σ : (Entry → Bool) → Prop} {moved : List (Source × WarnType)} {i : Slot}
  {a b : Account}

theorem State.listWorked.settle (h : s.listWorked σ moved u) (hf : σ u.suppressed) : s.listWorked σ moved u.settle := by
  have hr := h.released
  obtain ⟨raises, hdeals, -, -⟩ := h
  exact ⟨raises, hdeals.settle hf, fun _ => State.settle_dueSettled hr, fun _ => State.settle_dueSettled hr⟩

theorem State.listWorked.testBreak (h : s.listWorked σ moved u) (hf : σ u.suppressed)
    (hm : ∀ p ∈ drivingPairs i, p ∈ moved) (hl : 1 < moved.length) : s.listWorked σ moved (u.testBreak i) := by
  unfold State.testBreak
  split
  next a ha =>
    split
    · have hset := h.setAccount (i := i) (b := { a with contSeconds := 0 }) ha rfl
      refine hset.testDriving ?_ hm hl
      rw [State.suppressed_setAccount (b := { a with contSeconds := 0 }) ha rfl]
      exact hf
    · exact h
  next => exact h

theorem State.listWorked.dueSettled (h : s.listWorked σ moved t) (hs : s.dueSettled) : t.dueSettled := by
  obtain ⟨_, -, -, hdue⟩ := h
  exact hdue hs

/-- R86, R87: the driving warnings once a set of settings has been put in force. -/
theorem State.retested_worked (hr : u.rst.asserted = false) (hh : u.rst.heldWarnings = []) (ha : u.account i = some a)
    {c : Account} (hc : ((u.testDriving i).testBreak i).account i = some c) :
    ((u.testDriving i).testBreak i).warn.drivingWorked i c := by
  obtain ⟨v, hv⟩ : ∃ v, v = u.testDriving i := ⟨_, rfl⟩
  have hvr : v.rst = u.rst := by rw [hv, State.testDriving_rst hr]
  have hva : v.account i = some a := by rw [hv, State.account_of (s := u) (by simp), ha]
  have hworked : v.warn.drivingWorked i a := by
    rw [hv]
    exact State.testDriving_worked hr hh ha
  rw [← hv] at hc ⊢
  cases hb : v.breakDone a with
  | true =>
    have hset := v.setAccount_wrote i { a with contSeconds := 0 }
    rw [State.testBreak_eq hva hb] at hc ⊢
    rw [State.account_of (s := v.setAccount i { a with contSeconds := 0 }) (by simp), hset.1] at hc
    obtain rfl := Option.some.inj hc
    exact State.testDriving_worked (s := v.setAccount i { a with contSeconds := 0 }) (by rw [← hr, ← hvr]; rfl)
      (by rw [← hh, ← hvr]; rfl) hset.1
  | false =>
    have hsame : v.testBreak i = v := by
      simp only [State.testBreak, hva, hb, Bool.false_eq_true, if_false]
    rw [hsame] at hc ⊢
    obtain rfl := Option.some.inj (hva.symm.trans hc)
    exact hworked

/-! ### O25: ASET -/

theorem Account.takeSettings_declared (hd : a.declared = true) (x : Settings) :
    a.takeSettings a.bunk x = { a with staged := some x } := by
  rw [Account.takeSettings, if_pos hd]

theorem Account.takeSettings_free (hd : a.declared = false) (b : Bunk) (x : Settings) :
    a.takeSettings b x = { a with bunk := b, settings := x } := by
  rw [Account.takeSettings, hd, if_neg Bool.false_ne_true]

/-- The list within a request that writes one account's settings, from the state that holds the accounts it leaves. -/
theorem State.listWorked.written {c : Account} (hr : s.rst.asserted = false) (hv : s.framed v) (ha : s.account i = some a)
    (hc : c.hushes = a.hushes) (hwork : work = { s with accounts := work.accounts })
    (hd : ∀ j, (work.account j).elim false Account.hushes = (s.account j).elim false Account.hushes) :
    work.listWorked (· = work.suppressed) moved (v.setAccount i c) ∧
    (v.setAccount i c).suppressed = work.suppressed := by
  have hsw : work.suppressed = s.suppressed :=
    State.suppressed_of (by rw [hwork]) (by rw [hwork]) hd
  have hsup : (v.setAccount i c).suppressed = work.suppressed := by
    rw [State.suppressed_setAccount (State.account_after hv ha) hc, hv.sameList.suppressed, hsw]
  refine ⟨State.listWorked.same (u := work) (.refl (by rw [hwork]; exact hr)) ?_ ?_ ?_ ?_ ?_ ?_ hsup, hsup⟩
  · exact hv.sameList.asserted.trans hr
  · exact hv.sameList.clock.trans (by rw [hwork])
  · exact hv.kept.1.trans (by rw [hwork])
  · exact hv.sameList.warn.trans (by rw [hwork])
  · exact hv.sameList.t7.trans (by rw [hwork])
  · rw [hwork]
    exact hv.kept.flag .warning

/-- What such a request leaves alone. -/
theorem State.listWorked.presenterOnly (h : work.listWorked (· = work.suppressed) moved t) (hf : s.accountFrame s.orders t)
    (hwork : work = { s with accounts := t.accounts }) : work.presenterOnly moved t := by
  refine ⟨?_, by rw [hwork]; exact hf.kept, h.listKept fun _ hf => .inl hf⟩
  rw [hwork]
  exact hf.only

theorem State.settle_accountFrame (s : State) : s.accountFrame s.orders s.settle :=
  State.accountFrame_of (.refl s) (State.settle_noticed (.refl s)) (by simp)

theorem State.setAccount_accountFrame (s : State) (i : Slot) (a : Account) : s.accountFrame s.orders (s.setAccount i a) :=
  State.accountFrame_of (.refl s) (State.setAccount_noticed i a (.refl s)) rfl

theorem State.testDriving_accountFrame (hr : s.rst.asserted = false) (i : Slot) :
    s.accountFrame s.orders (s.testDriving i) :=
  State.accountFrame_of (.refl s) (State.testDriving_noticed i (.refl s)) (State.testDriving_rst hr i)

theorem State.testBreak_accountFrame (hr : s.rst.asserted = false) (i : Slot) : s.accountFrame s.orders (s.testBreak i) :=
  State.accountFrame_of (.refl s) (State.testBreak_noticed i (.refl s))
    ((State.listWork.refl (fun _ => True) hr).testBreak trivial).rst

theorem State.accountFrame.trans_orders (h : s.accountFrame s.orders u) (k : u.accountFrame u.orders t) :
    s.accountFrame s.orders t := by
  have hk := h.trans k
  rwa [h.orders_eq] at hk

theorem State.listWorked.framed (h : s.listWorked σ moved z) (k : z.framed t) : s.listWorked σ moved t :=
  h.same (k.sameList.asserted.trans h.released) k.sameList.clock k.kept.1 k.sameList.warn k.sameList.t7
    (k.kept.flag .warning) k.sameList.suppressed

/-- R90: a set of settings staged while the rest is declared. -/
theorem State.setSettings_declared (hr : s.rst.asserted = false) (hv : s.framed v) (ha : s.account i = some a)
    (hd : a.declared = true) {x : Settings} (ht : (v.setSettings i a a.bunk x).framed t) :
    State.presenterOnly { s with accounts := t.accounts } (drivingPairs i) t ∧ t.dueSettled ∧
    s.wrote i { a with staged := some x } t ∧
    ∀ source type, hasPair source type t.warn.entries = hasPair source type s.warn.entries := by
  obtain ⟨w, hw⟩ : ∃ w, w = v.setAccount i { a with staged := some x } := ⟨_, rfl⟩
  have heq : v.setSettings i a a.bunk x = w.settle := by
    rw [State.setSettings, Account.takeSettings_declared hd, if_pos hd, hw]
  rw [heq] at ht
  have hwr : w.rst.asserted = false := by rw [hw]; exact hv.sameList.asserted.trans hr
  have hwrote : s.wrote i { a with staged := some x } t := by
    have h := (v.setAccount_wrote i { a with staged := some x }).of_accounts (u := s) (by rw [hv.only])
    rw [← hw] at h
    exact h.kept (by rw [ht.only]; simp)
  obtain ⟨work, hwork⟩ : ∃ work : State, work = { s with accounts := t.accounts } := ⟨_, rfl⟩
  have hworkeq : work = { s with accounts := work.accounts } := by rw [hwork]
  have hhush := State.wrote.hushes (t := work) (b := { a with staged := some x }) ha (by rw [hwork]; exact hwrote) rfl
  obtain ⟨hlist, hsup⟩ := State.listWorked.written (moved := drivingPairs i) (c := { a with staged := some x }) hr hv ha
    rfl hworkeq hhush
  rw [← hw] at hlist hsup
  have hall := (hlist.settle hsup).framed ht
  rw [← hwork]
  have hframe := ((hv.accountFrame.trans_orders (v.setAccount_accountFrame i _)).trans_orders
    (State.settle_accountFrame _)).trans_orders (hw ▸ ht.accountFrame)
  refine ⟨hall.presenterOnly hframe hwork, ht.sameList.dueSettled (State.settle_dueSettled hwr), hwrote, fun y z => ?_⟩
  rw [ht.sameList.warn, hasPair_settle, hw]
  exact congrArg (hasPair y z) (congrArg Warn.entries hv.sameList.warn)

/-- R90: a set of settings written at once. -/
theorem State.setSettings_free (hr : s.rst.asserted = false) (hv : s.framed v) (ha : s.account i = some a)
    (hd : a.declared = false) {b : Bunk} {x : Settings} (ht : (v.setSettings i a b x).framed t) :
    State.presenterOnly { s with accounts := t.accounts } (drivingPairs i) t ∧ t.dueSettled ∧
    s.wrote i
      { a with
        bunk := b, settings := x
        contSeconds :=
          if a.state = .driving ∧ s.sense.motion ≠ .moving ∧ x.pause * 60 ≤ a.breakSeconds then 0
          else a.contSeconds } t ∧
    (HeldLaw s → ∀ c, t.account i = some c → t.warn.drivingWorked i c) := by
  obtain ⟨c, hc⟩ : ∃ c : Account, c = { a with bunk := b, settings := x } := ⟨_, rfl⟩
  obtain ⟨w, hw⟩ : ∃ w, w = v.setAccount i c := ⟨_, rfl⟩
  obtain ⟨z, hz⟩ : ∃ z, z = (w.settle.testDriving i).testBreak i := ⟨_, rfl⟩
  have heq : v.setSettings i a b x = z := by
    rw [State.setSettings, Account.takeSettings_free hd, hd, if_neg Bool.false_ne_true, hz, hw, hc]
  rw [heq] at ht
  have hvr : v.rst = s.rst := by rw [hv.only]
  have hsr : w.settle.rst = s.rst := by rw [hw]; simpa using hvr
  have hwr : w.settle.rst.asserted = false := by rw [hsr]; exact hr
  have htr : (w.settle.testDriving i).rst.asserted = false := by simpa using hwr
  have hset := v.setAccount_wrote i c
  rw [← hw] at hset
  have hsettled : v.wrote i c (w.settle.testDriving i) := hset.kept (by simp)
  have hbroken := hsettled.trans (State.testBreak_wrote hsettled.1)
  rw [← hz] at hbroken
  have hbreak : (w.settle.testDriving i).breakDone c = true ↔
      a.state = .driving ∧ s.sense.motion ≠ .moving ∧ x.pause * 60 ≤ a.breakSeconds := by
    have hmotion : (w.settle.testDriving i).sense = s.sense := by
      rw [show s.sense = v.sense by rw [hv.only]]
      simp [hw]
    rw [State.breakDone_iff, hmotion, hc]
  have hwrote : s.wrote i
      { a with
        bunk := b, settings := x
        contSeconds :=
          if a.state = .driving ∧ s.sense.motion ≠ .moving ∧ x.pause * 60 ≤ a.breakSeconds then 0
          else a.contSeconds } z := by
    have h := hbroken.of_accounts (u := s) (by rw [hv.only])
    simp only [hbreak] at h
    split at h
    next hyes => rw [if_pos hyes]; rw [hc] at h; exact h
    next hno => rw [if_neg hno]; rw [hc] at h; exact h
  have htwrote := hwrote.kept (t := t) (by rw [ht.only])
  obtain ⟨work, hwork⟩ : ∃ work : State, work = { s with accounts := t.accounts } := ⟨_, rfl⟩
  have hworkeq : work = { s with accounts := work.accounts } := by rw [hwork]
  have hsilent : ∀ n : Nat, ∀ y : Bunk, ({ a with bunk := y, settings := x, contSeconds := n } : Account).hushes = a.hushes :=
    fun n y => by
      have h : ({ a with bunk := y, settings := x, contSeconds := n } : Account).declared = false := hd
      rw [Account.hushes, Account.hushes, h, hd, Bool.and_false, Bool.and_false]
  have hhush := State.wrote.hushes (t := work) ha (by rw [hwork]; exact htwrote) (hsilent _ b)
  obtain ⟨hlist, hsup⟩ := State.listWorked.written (moved := drivingPairs i) (c := c) hr hv ha
    (by rw [hc]; exact hsilent a.contSeconds b) hworkeq hhush
  rw [← hw] at hlist hsup
  have hsettlesup : w.settle.suppressed = work.suppressed :=
    (State.suppressed_eq (by simp) (by simp) (by simp)).trans hsup
  have htested := (hlist.settle hsup).testDriving (i := i) hsettlesup (fun _ hp => hp) (by simp [drivingPairs])
  have hall := htested.testBreak (i := i) (by rw [State.testDriving_suppressed]; exact hsettlesup) (fun _ hp => hp)
    (by simp [drivingPairs])
  have hdue : z.dueSettled := by
    have hstart : w.settle.dueSettled := State.settle_dueSettled (by rw [← hwr]; simp)
    have h1 := (State.listWorked.refl (σ := fun _ => True) (moved := drivingPairs i) hwr).testDriving (i := i) trivial
      (fun _ hp => hp) (by simp [drivingPairs])
    rw [hz]
    exact (h1.testBreak (i := i) trivial (fun _ hp => hp) (by simp [drivingPairs])).dueSettled hstart
  rw [← hz] at hall
  have hframe := ((((hv.accountFrame.trans_orders (v.setAccount_accountFrame i c)).trans_orders
    (State.settle_accountFrame _)).trans_orders (State.testDriving_accountFrame (by rw [← hw]; exact hwr) i)).trans_orders
    (State.testBreak_accountFrame (by rw [← hw]; exact htr) i)).trans_orders (t := t)
    (by rw [← hw, ← hz]; exact ht.accountFrame)
  rw [← hwork]
  refine ⟨(hall.framed ht).presenterOnly hframe hwork, ht.sameList.dueSettled hdue, htwrote, fun hl y hy => ?_⟩
  rw [ht.sameList.warn, hz]
  have hy' : z.account i = some y := (ht.account i).symm.trans hy
  refine State.retested_worked (a := c) hwr (by rw [hsr]; exact (hl hr).1) ?_ (by rw [← hz]; exact hy')
  rw [State.account_of (s := w) (by simp), hset.1]

/-- Settles O25. -/
theorem asetWritesTheSettings : Obligations.AsetWritesTheSettings := by
  unfold Obligations.AsetWritesTheSettings
  refine fun n arg s hs => ⟨fun b hbad => refuses_of (f := reqAset n b arg) hs rfl ?_, fun i hi w hw b => ⟨fun ha =>
    refuses_of (f := reqAset n (some b) arg) hs rfl ?_, fun a ha => ⟨fun hd hb =>
    refuses_of (f := reqAset n (some b) arg) hs rfl ?_, fun hd hb hb' htaken =>
    refuses_of (f := reqAset n (some b) arg) hs rfl ?_, ?_⟩⟩⟩
  · unfold reqAset
    split
    next i b' w hi hb hw => simp_all
    next => rfl
  · simp only [reqAset, hi, hw, s.inFrame_framed.account, ha]
  · simp only [reqAset, hi, hw, s.inFrame_framed.account, ha]
    rw [if_pos ⟨hd, hb⟩]
  · have hheld : s.inFrame.bunkHeld b = true := by simpa using (s.bunkHeld_iff b).mpr ⟨hb', htaken⟩
    simp only [reqAset, hi, hw, s.inFrame_framed.account, ha]
    rw [if_neg (by simp [hd]), if_pos ⟨hb, hheld⟩]
  · rintro hok r rfl x rfl
    have hx : arg.store w =
        { rest := clampNat 60 1440 arg.rest, segment := clampNat 15 (clampNat 60 1440 arg.rest) arg.segment
          drive := clampNat 60 600 arg.drive, lead := clampNat 0 60 arg.lead, pause := clampNat 15 120 arg.pause
          daily := clampNat 60 900 arg.daily, wake := w, wakeLevel := clampNat 0 1000 arg.wakeLevel
          wakeRamp := clampNat 1 30 arg.wakeRamp } := rfl
    rw [← hx]
    have hreq : reqAset n (some b) arg s.inFrame =
        (s.inFrame.setSettings i a b (arg.store w), doneIf arg.clamped (.settings a.declared (arg.store w))) := by
      have h1 : ¬(a.declared = true ∧ b ≠ a.bunk) := fun h => hok.elim h.2 fun hk => by
        rw [hk.1] at h
        cases h.1
      have h2 : ¬(b ≠ a.bunk ∧ s.inFrame.bunkHeld b = true) := by
        rintro ⟨hne, hheld⟩
        rw [State.inFrame_bunkHeld, State.bunkHeld_iff] at hheld
        obtain ⟨hb, j, c, hc, hcb⟩ := hheld
        exact hok.elim hne fun hk => hk.2.elim hb fun hall => hall j c hc hcb
      simp only [reqAset, hi, hw, s.inFrame_framed.account, ha, h1, h2, if_false]
    obtain ⟨hans, hframed⟩ := State.takeFrame_framed hs hreq
    cases hd : a.declared with
    | true =>
      obtain rfl : b = a.bunk := hok.resolve_right fun h => by rw [hd] at h; cases h.1
      obtain ⟨h1, h2, h3, h4⟩ := State.setSettings_declared hs.1 s.inFrame_framed ha hd hframed
      rw [hd] at hans
      exact ⟨_, rfl, hans, h1, h2, h3.2, fun _ => ⟨h3.1, h4⟩, nofun⟩
    | false =>
      obtain ⟨h1, h2, h3, h4⟩ := State.setSettings_free hs.1 s.inFrame_framed ha hd hframed
      rw [hd] at hans
      exact ⟨_, rfl, hans, h1, h2, h3.2, nofun, fun _ => ⟨h3.1, h4⟩⟩

end

end Sys2Proof.Machine
end

section
/-! PROOF. O28: ARETIRE. -/
namespace Sys2Proof.Machine

section
variable {s t u v z : State} {i : Slot} {a : Account}

/-- R97: what a retirement does before the quiet flag is worked. -/
def State.emptied (s : State) (i : Slot) : State := ((s.orphan i).dropSource i).emptySlot i

/-- R97: the orders that are not anchored to the slot. -/
def Order.unanchored (i : Slot) (o : Order) : Bool :=
  match o.start with
  | .anchored j _ _ => decide (j ≠ i)
  | _ => true

theorem Order.unanchored_eq (i : Slot) (o : Order) : o.unanchored i = !o.anchoredTo i := by
  unfold Order.unanchored Order.anchoredTo
  cases o.start <;> simp

theorem Order.anchoredTo_iff (i : Slot) (o : Order) : o.anchoredTo i = true ↔ ∃ m off, o.start = .anchored i m off := by
  unfold Order.anchoredTo
  cases h : o.start <;> simp

theorem State.orphan_noticed (s : State) (i : Slot) : s.noticed (s.orphan i) :=
  State.noticeIf_noticed _ _ ((State.noticed.refl s).congr rfl rfl)

theorem State.dropSource_noticed (h : s.noticed u) (i : Slot) : s.noticed (u.dropSource i) :=
  State.remove_noticed _ _ (State.remove_noticed _ _ (State.remove_noticed _ _ (State.remove_noticed _ _
    (State.remove_noticed _ _ h))))

theorem State.orphan_rst (s : State) (i : Slot) : (s.orphan i).rst = s.rst := by simp [State.orphan]

theorem State.orphan_orders (s : State) (i : Slot) : (s.orphan i).orders = s.orders.filter (Order.unanchored i) := by
  have h : (fun o : Order => !o.anchoredTo i) = Order.unanchored i := funext fun o => (o.unanchored_eq i).symm
  simp [State.orphan, h]

theorem State.orphan_flag (hr : s.rst.asserted = false) (i : Slot) :
    Notice.order.inByte (s.orphan i).port.flags = true ↔
      Notice.order.inByte s.port.flags = true ∨ ∃ o ∈ s.orders, ∃ m off, o.start = .anchored i m off := by
  rw [State.orphan, State.noticeIf_inByte, Bool.or_eq_true, hr]
  simp [Order.anchoredTo_iff]

theorem State.listWork.dropSource {σ : (Entry → Bool) → Prop} (h : s.listWork σ u) : s.listWork σ (u.dropSource i) :=
  ((((h.remove rfl).remove rfl).remove rfl).remove rfl).remove rfl

theorem State.hasPair_dropSource (hr : s.rst.asserted = false) (b : Source) (w : WarnType) :
    hasPair b w (s.dropSource i).warn.entries = true ↔
      hasPair b w s.warn.entries = true ∧ ¬(b = .slot i ∧ w.ofAccount = true) := by
  have h1 : ∀ {r : State} {x : Source} {y : WarnType}, r.rst.asserted = false → (r.remove x y).rst.asserted = false :=
    fun h => by simpa using h
  rw [State.dropSource, hasPair_remove (h1 (h1 (h1 (h1 hr)))), hasPair_remove (h1 (h1 (h1 hr))),
    hasPair_remove (h1 (h1 hr)), hasPair_remove (h1 hr), hasPair_remove hr]
  cases w <;> simp [WarnType.ofAccount]

theorem State.emptied_account (s : State) (i j : Slot) :
    (s.emptied i).account j = if j = i then none else s.account j := by
  have hacc : ((s.orphan i).dropSource i).accounts = s.accounts := by simp [State.orphan, State.dropSource]
  rw [State.account, State.emptied, State.emptySlot]
  dsimp only
  rw [PerSlot.get_set, hacc]
  by_cases h : j = i
  · simp [h]
  · simp [h, Ne.symm h, State.account]

theorem State.emptied_chain (hr : s.rst.asserted = false) (hv : s.framed v) :
    s.accountsChain (s.orders.filter (Order.unanchored i)) (v.emptied i) := by
  have hvr : v.rst.asserted = false := hv.sameList.asserted.trans hr
  have hlist : ∀ σ : (Entry → Bool) → Prop, s.listWork σ (v.emptied i) := fun σ => by
    have horphan : s.listWork σ (v.orphan i) :=
      (State.listWork.start hr hv σ).same (v.orphan_noticed i) (v.orphan_rst i) (by simp [State.orphan])
        (by simp [State.orphan]) (by simp [State.orphan])
    exact horphan.dropSource.same ((State.noticed.refl _).congr rfl rfl) rfl rfl rfl rfl
  have hn : v.noticed (v.emptied i) :=
    (State.dropSource_noticed (v.orphan_noticed i) i).congr rfl rfl
  have horders : (v.emptied i).orders = s.orders.filter (Order.unanchored i) := by
    rw [show s.orders = v.orders by rw [hv.only], ← v.orphan_orders i]
    simp [State.emptied, State.emptySlot, State.dropSource]
  refine ⟨fun σ _ _ => hlist σ, State.accountFrame_of hv hn (hlist fun _ => True).rst (orders := horders) ?_ ?_ ?_ ?_ ?_ ?_ ?_ ?_ ?_ ?_ ?_ ?_ ?_ ?_ ?_ ?_ ?_⟩
  all_goals simp [State.emptied, State.emptySlot, State.dropSource, State.orphan]

/-- Settles O28. -/
theorem aretireEmptiesTheSlot : Obligations.AretireEmptiesTheSlot := by
  unfold Obligations.AretireEmptiesTheSlot
  refine fun n s hs => ⟨fun hn => refuses_of hs rfl (State.withAccount_noSlot _ hn), fun i hi => ⟨fun ha =>
    refuses_of hs rfl (State.withAccount_noAccount _ hi ha), fun a ha => ?_⟩⟩
  obtain ⟨v, hv⟩ : ∃ v, v = s.inFrame := ⟨_, rfl⟩
  have hframed : s.framed v := hv ▸ s.inFrame_framed
  have hvr : v.rst.asserted = false := hframed.sameList.asserted.trans hs.1
  obtain ⟨u, hu⟩ : ∃ u, u = v.emptied i := ⟨_, rfl⟩
  have hchain : s.accountsChain (s.orders.filter (Order.unanchored i)) u := hu ▸ State.emptied_chain hs.1 hframed
  have hsr : u.workQuiet.settle.rst.asserted = false := by simpa using hchain.released
  have hreq : reqAretire n s.inFrame = (u.workQuiet.settle.pass, done (.emptied i a.tag)) := by
    rw [reqAretire, State.withAccount_eq _ hi ha, ← hv, hu]
    rfl
  obtain ⟨hans, hpass, -⟩ := State.takeFrame_after hs hsr hreq
  have hworked := hchain.quiet (.refl u.workQuiet.settle)
  obtain ⟨hclock, hcharge, haccounts, htransport, hquiet, hsense, hrst⟩ := hpass.records
  have honly := hworked.1
  have hz : ∀ x y, (x, y) ≠ (Source.part, WarnType.fridgeWarm) →
      (hasPair x y (s.takeFrame (reqAretire n)).warn.entries = true ↔
        hasPair x y s.warn.entries = true ∧ ¬(x = .slot i ∧ y.ofAccount = true)) := fun x y hxy => by
    have hw : u.workQuiet.warn = ((v.orphan i).dropSource i).warn := by rw [hu]; simp [State.emptied, State.emptySlot]
    have ho : (v.orphan i).warn = s.warn := by
      rw [← hframed.sameList.warn]
      simp [State.orphan]
    rw [State.afterPass.hasPair hpass hxy, hasPair_settle, hw,
      State.hasPair_dropSource (by rw [v.orphan_rst]; exact hvr), ho]
  have hacc : ∀ j, (s.takeFrame (reqAretire n)).account j = if j = i then none else s.account j := fun j => by
    rw [hpass.account, State.account_of (s := u) (by simp), hu, State.emptied_account, hframed.account]
  refine ⟨_, rfl, hans, by rw [hacc, if_pos rfl], fun j hj => by rw [hacc, if_neg hj], hpass.quietNow, fun hq => ?_,
    fun w hw => ?_, fun x w hx hxw => ?_, ?_, ?_, ?_, ?_, ?_, u.workQuiet.settle, haccounts.symm, hpass, hworked, ?_⟩
  · rw [hquiet] at hq
    obtain ⟨-, -, ⟨-, -, -, hflag⟩, -⟩ := hworked
    exact hpass.flag (hflag hq).1
  · rw [Bool.eq_false_iff, Ne, hz _ _ (by simp)]
    exact fun h => h.2 ⟨rfl, hw⟩
  · rw [Bool.eq_iff_iff, hz _ _ hxw]
    exact and_iff_left fun h => hx h.1
  · rw [hclock, honly]
  · rw [hcharge, honly]
  · rw [htransport, honly]
  · rw [hsense, honly]
  · rw [hrst, honly]
  · have hport : u.workQuiet.settle.port = u.workQuiet.port := by simp
    have hup : u.port.flags = (v.orphan i).port.flags := by rw [hu]; simp [State.emptied, State.emptySlot, State.dropSource]
    rw [hport, State.workQuiet_flag hchain.released _ (by decide) (by decide) (by decide), hup, State.orphan_flag hvr,
      hframed.flags, show v.orders = s.orders by rw [hframed.only]]

end

end Sys2Proof.Machine
end

section
/-! PROOF. O26 and O30: a rest declared and ended, by a request or by a long press. -/
namespace Sys2Proof.Machine

section
variable {s t u v z : State} {i : Slot} {a b : Account} {os : List Order}

/-- What every working of the accounts leaves alone, with a pass or without one. -/
theorem State.accountsWorked.records (h : s.accountsWorked os z) :
    z.clock = s.clock ∧ z.charge = s.charge ∧ z.transport = s.transport ∧ z.sense = s.sense ∧ z.rst = s.rst := by
  have honly := h.1
  refine ⟨?_, ?_, ?_, ?_, ?_⟩ <;> rw [honly]

theorem State.accountsWorked.records_after (h : s.accountsWorked os z) (k : z.afterPass t) :
    t.clock = s.clock ∧ t.charge = s.charge ∧ t.transport = s.transport ∧ t.sense = s.sense ∧ t.rst = s.rst := by
  obtain ⟨h1, h2, h3, h4, h5⟩ := h.records
  obtain ⟨k1, k2, -, k3, -, k4, k5⟩ := k.records
  exact ⟨k1.trans h1, k2.trans h2, k3.trans h3, k4.trans h4, k5.trans h5⟩

theorem State.workQuiet_settle_flag (h : Notice.account.inByte u.port.flags = true) :
    Notice.account.inByte u.workQuiet.settle.port.flags = true := by
  have hport : u.workQuiet.settle.port = u.workQuiet.port := by simp
  rw [hport]
  exact State.workQuiet_settingsKept.flag _ h

theorem State.workQuiet_settle_pairs (u : State) (x : Source) (w : WarnType) :
    hasPair x w u.workQuiet.settle.warn.entries = hasPair x w u.warn.entries := by
  rw [hasPair_settle]
  simp

theorem State.workQuiet_settle_account (u : State) (j : Slot) : u.workQuiet.settle.account j = u.account j :=
  State.account_of (by simp) j

/-! ### The end of a rest -/

/-- R74: what the end of a declared rest does before the quiet flag is worked. -/
def State.restClosed (s : State) (i : Slot) : State := ((s.closeIfResting i).accountGo i .idle).finishRest i

theorem State.endRest_eq (s : State) (i : Slot) : s.endRest i = (s.restClosed i).workQuiet.settle.pass := rfl

theorem State.restClosed_wrote (ha : s.account i = some a) :
    s.wrote i { a.left with state := .idle } (s.restClosed i) := by
  have hclosed := State.closeIfResting_wrote ha
  have hidle := hclosed.trans (State.accountGo_wrote .idle hclosed.1)
  exact hidle.trans (State.finishRest_wrote hidle.1 (by simp))

theorem State.finishRest_suppressed (ha : s.account i = some a) (hd : a.state ≠ .driving) :
    (s.finishRest i).suppressed = s.suppressed :=
  State.suppressed_of (by simp [State.finishRest]) (by simp [State.finishRest])
    (State.wrote.hushes ha (State.finishRest_wrote ha hd) a.applied_hushes)

theorem State.restClosed_chain (hr : s.rst.asserted = false) (hv : s.framed v) (ha : s.account i = some a) :
    s.accountsChain s.orders (v.restClosed i) := by
  have hva := State.account_after hv ha
  have hvr : v.rst.asserted = false := hv.sameList.asserted.trans hr
  have hclosed := State.closeIfResting_wrote hva
  have hidle := hclosed.trans (State.accountGo_wrote .idle hclosed.1)
  have hlist : ∀ σ : (Entry → Bool) → Prop, σ s.suppressed → σ (v.restClosed i).suppressed → s.listWork σ (v.restClosed i) :=
    fun σ h1 h2 => by
      have hstart := State.listWork.start hr hv σ
      have hw : v.warn = s.warn := by rw [hv.only]
      refine ((hstart.closeIfResting (by rw [hv.sameList.suppressed]; exact h1) (by rw [hw]; exact id)).accountGo i
        .idle).finishRest ?_
      rwa [State.restClosed, State.finishRest_suppressed hidle.1 (by simp)] at h2
  have hf1 := State.closeIfResting_accountFrame hvr i
  have hf2 := hf1.trans_orders (State.accountGo_accountFrame (by simpa using hvr) i .idle)
  have hf3 := hf2.trans_orders (State.finishRest_accountFrame (by simpa using hvr) i)
  exact ⟨hlist, hv.accountFrame.trans_orders hf3⟩

theorem State.restClosed_hands (hr : s.rst.asserted = false) (hh : s.rst.heldWarnings = []) (ha : s.account i = some a) :
    s.slotHanded i false (decide (a.state = .resting) && a.closesShort) a.staged.isSome (s.restClosed i) ∧
    s.otherSlotsKept i (s.restClosed i) := by
  have hclosed := State.closeIfResting_wrote ha
  have hidle := hclosed.trans (State.accountGo_wrote .idle hclosed.1)
  have hlist := ((State.listWork.refl (s := s) (fun _ => True) hr).closeIfResting (i := i) trivial id).accountGo i .idle
  have hstaged : (if a.state = .resting then a.closed else a).staged = a.staged := by split <;> rfl
  have hfinish := State.finishRest_hands hlist.released (by rw [hlist.rst]; exact hh) hidle.1 (by simp)
  dsimp only at hfinish
  rw [hstaged] at hfinish
  have hgone := (State.closeIfResting_gives hr ha).trans
    (State.slotGives_of_warn (t := (s.closeIfResting i).accountGo i .idle) (by simp)) (nomatch ·)
  have h := hgone.hands hfinish rfl
  rwa [Bool.or_false, Bool.or_false] at h

theorem State.restClosed_flag (hr : s.rst.asserted = false) (i : Slot) :
    Notice.account.inByte (s.restClosed i).port.flags = true := by
  refine (State.finishRest_noticed i (.refl _)).flagsKept.flag _ (State.accountGo_flag ?_ i .idle)
  simpa using hr

theorem State.handed_framed (hv : s.framed v) {done short tests : Bool}
    (h : v.slotHanded i done short tests t ∧ v.otherSlotsKept i t) :
    s.slotHanded i done short tests t ∧ s.otherSlotsKept i t := by
  have hstart : s.slotGives i false false false v := State.slotGives_of_warn hv.sameList.warn
  have hall := hstart.hands h rfl
  rwa [Bool.false_or] at hall

/-- R72, R74, R78: the end of a declared rest, within a frame or outside one. -/
theorem State.endRest_does (hr : s.rst.asserted = false) (hv : s.framed v) (ha : s.account i = some a)
    (ht : (v.endRest i).framed t) : s.restEnded i a t := by
  obtain ⟨u, hu⟩ : ∃ u, u = v.restClosed i := ⟨_, rfl⟩
  have hva := State.account_after hv ha
  have hvr : v.rst.asserted = false := hv.sameList.asserted.trans hr
  have hchain : s.accountsChain s.orders u := hu ▸ State.restClosed_chain hr hv ha
  have hworked := hchain.quiet (.refl u.workQuiet.settle)
  have hsr : u.workQuiet.settle.rst.asserted = false := by simpa using hchain.released
  have hpass : u.workQuiet.settle.afterPass t := by
    rw [State.endRest_eq, ← hu] at ht
    exact (State.pass_spec _ hsr).framed ht
  have hwrote : s.wrote i { a.left with state := .idle } t := by
    have h := (State.restClosed_wrote hva).of_accounts (u := s) (by rw [hv.only])
    rw [← hu] at h
    obtain ⟨-, -, haccounts, -⟩ := hpass.records
    exact h.kept (haccounts.trans (by simp))
  obtain ⟨h1, h2, h3, h4, h5⟩ := hworked.records_after hpass
  refine ⟨fun b hb => ?_, hwrote.2, hpass.flag (State.workQuiet_settle_flag ?_), hpass.quietNow, h1, h2, h3, h4, h5,
    fun hl => ?_, _, ?_, hworked, hpass⟩
  · rw [hwrote.1, hb]
    rfl
  · rw [hu]
    exact State.restClosed_flag hvr i
  · have hhands := State.handed_framed hv (State.restClosed_hands hvr (hv.heldLaw hl hvr).1 hva)
    rw [← hu] at hhands
    refine State.handed_through hhands (fun j x => ?_) fun b hb => ⟨b, ?_, .refl b⟩
    · rw [State.slotPair_afterPass hpass, State.workQuiet_settle_pairs]
    · rw [← hb, hpass.account, State.workQuiet_settle_account]
  · obtain ⟨-, -, haccounts, -⟩ := hpass.records
    exact haccounts.symm

end

end Sys2Proof.Machine
end

section
/-! PROOF. O26 and O30: a rest declared. -/
namespace Sys2Proof.Machine

section
variable {s t u v z : State} {i : Slot} {a b : Account} {os : List Order}

/-! ### The start of a segment in a chain -/

theorem State.startSegment_suppressed (ha : s.account i = some a) :
    (s.startSegment i).suppressed = (s.restsAt i).suppressed := by
  have hresting : s.wrote i { a with state := .resting } (s.restsAt i) := State.updAccount_wrote _ ha
  have hstarted := State.startSegment_wrote ha
  refine State.suppressed_of (by simp [State.restsAt]) (by simp [State.restsAt]) fun j => ?_
  by_cases hj : j = i
  · subst hj
    rw [hstarted.1, hresting.1]
    unfold Account.started
    dsimp only
    split <;> rfl
  · rw [hstarted.2 j hj, hresting.2 j hj]

theorem State.startSegment_rst (hr : s.rst.asserted = false) (ha : s.account i = some a) :
    (s.startSegment i).rst = s.rst :=
  ((State.listWork.refl (fun _ => True) hr).startSegment ha trivial id).rst

theorem State.startSegment_accountFrame (hr : s.rst.asserted = false) (ha : s.account i = some a) :
    s.accountFrame (if a.firesAtStart then a.applied.wakeEntered s.port.mode s.clock.minute s.orders else s.orders)
      (s.startSegment i) :=
  State.accountFrame_of (.refl s) (State.startSegment_noticed i (.refl s)) (State.startSegment_rst hr ha)
    (orders := State.startSegment_orders hr ha)

theorem State.accountNotice_accountFrame (hr : s.rst.asserted = false) : s.accountFrame s.orders s.accountNotice :=
  State.accountFrame_of (.refl s) (State.accountNotice_noticed (.refl s)) (State.accountNotice_rst hr)

theorem State.accountFrame.keeping (h : s.accountFrame os u) (k : u.accountFrame u.orders t) : s.accountFrame os t := by
  have hk := h.trans k
  rwa [h.orders_eq] at hk

/-! ### A rest declared -/

/-- R72: what a declaration does before the quiet flag is worked. -/
def State.restEntered (s : State) (i : Slot) : State :=
  if s.standstill then ((s.updAccount i Account.unfixed).startSegment i).accountNotice
  else (s.updAccount i Account.unfixed).accountGo i .restWait

theorem State.declareRest_entered (s : State) (i : Slot) : s.declareRest i = (s.restEntered i).workQuiet.settle := by
  rw [State.declareRest_eq]
  rfl

theorem Account.unfixed_fires (a : Account) : a.unfixed.firesAtStart = a.firesAtStart := rfl

/-- The table with the wake order of a declaration at a standstill. -/
def State.ordersEntered (s : State) (a : Account) : List Order :=
  if (s.standstill && a.firesAtStart) = true then a.applied.wakeEntered s.port.mode s.clock.minute s.orders else s.orders

theorem State.ordersEntered_framed (hv : s.framed v) (a : Account) : v.ordersEntered a = s.ordersEntered a := by
  have hmode := hv.kept.1
  have honly := hv.only
  unfold State.ordersEntered
  rw [hv.standstill, hmode, hv.sameList.clock, show v.orders = s.orders by rw [honly]]

section
variable (hr : s.rst.asserted = false) (ha : s.account i = some a)
include hr ha

theorem State.restEntered_accountFrame : s.accountFrame (s.ordersEntered a) (s.restEntered i) := by
  have hcleared := State.updAccount_wrote Account.unfixed ha
  have hfirst := State.updAccount_accountFrame (s := s) i Account.unfixed
  have hur : (s.updAccount i Account.unfixed).rst.asserted = false := by simpa using hr
  unfold State.restEntered State.ordersEntered
  cases hstand : s.standstill with
  | false =>
    simp only [Bool.false_eq_true, if_false, Bool.false_and]
    exact hfirst.trans_orders (State.accountGo_accountFrame hur i .restWait)
  | true =>
    simp only [if_true, Bool.true_and]
    have hstart := hfirst.trans (State.startSegment_accountFrame hur hcleared.1)
    have hsr : ((s.updAccount i Account.unfixed).startSegment i).rst.asserted = false := by simpa using hur
    have hall := hstart.keeping (State.accountNotice_accountFrame hsr)
    rw [a.unfixed_fires] at hall
    have hmode : (s.updAccount i Account.unfixed).port.mode = s.port.mode := by simp
    have hclock : (s.updAccount i Account.unfixed).clock = s.clock := by simp
    have horders : (s.updAccount i Account.unfixed).orders = s.orders := by simp
    rw [hmode, hclock, horders] at hall
    exact hall

theorem State.restEntered_gives (hh : s.rst.heldWarnings = []) :
    s.slotGives i (s.standstill && a.firesAtStart) false (s.standstill && (a.firesAtStart || a.staged.isSome))
      (s.restEntered i) := by
  have hcleared := State.updAccount_wrote Account.unfixed ha
  have hur : (s.updAccount i Account.unfixed).rst = s.rst := by simp
  unfold State.restEntered
  cases hstand : s.standstill with
  | false =>
    simp only [Bool.false_eq_true, if_false, Bool.false_and]
    exact State.slotGives_of_warn (by simp)
  | true =>
    simp only [if_true, Bool.true_and]
    have hgives := State.startSegment_gives (s := s.updAccount i Account.unfixed) (by rw [hur]; exact hr)
      (by rw [hur]; exact hh) hcleared.1
    have hfirst := (State.slotGives_of_warn (s := s) (t := s.updAccount i Account.unfixed) (by simp)).trans hgives
      (nomatch ·)
    have hstaged : a.unfixed.staged = a.staged := rfl
    rw [a.unfixed_fires, hstaged] at hfirst
    simpa using hfirst.trans (State.slotGives_of_warn (t := ((s.updAccount i Account.unfixed).startSegment i).accountNotice)
      (by simp)) fun _ _ b hb => ⟨b, (State.account_of (by simp) i).symm.trans hb, .refl b⟩

omit hr in
theorem State.restEntered_wrote :
    s.wrote i (if s.standstill then a.unfixed.started s.clock.minute else { a.unfixed with state := .restWait })
      (s.restEntered i) := by
  have h := State.declareRest_wrote ha
  rw [State.declareRest_entered] at h
  exact h.kept (by simp)

omit ha in
theorem State.restEntered_flag (i : Slot) : Notice.account.inByte (s.restEntered i).port.flags = true := by
  unfold State.restEntered
  split
  · exact State.accountNotice_flag (by simpa using hr)
  · exact State.accountGo_flag (by simpa using hr) i .restWait

end

theorem State.listWork.restEntered {σ : (Entry → Bool) → Prop} (h : s.listWork σ u) (hwarn : u.warn = s.warn)
    (ha : u.account i = some a) (h2 : σ (u.restEntered i).suppressed) : s.listWork σ (u.restEntered i) := by
  have hcleared := State.updAccount_wrote Account.unfixed ha
  have hstart : s.listWork σ (u.updAccount i Account.unfixed) := h.updAccount i _
  unfold State.restEntered at h2 ⊢
  cases hstand : u.standstill with
  | false =>
    simp only [Bool.false_eq_true, if_false]
    exact hstart.accountGo i .restWait
  | true =>
    simp only [hstand, if_true] at h2 ⊢
    have hsup : ((u.updAccount i Account.unfixed).startSegment i).accountNotice.suppressed =
        ((u.updAccount i Account.unfixed).restsAt i).suppressed := by
      rw [← State.startSegment_suppressed hcleared.1]
      exact State.suppressed_eq (by simp) (by simp) (by simp)
    rw [hsup] at h2
    refine (hstart.startSegment hcleared.1 h2 fun hn => ?_).accountNotice
    have hw : (u.updAccount i Account.unfixed).warn = s.warn := by rw [← hwarn]; simp
    rwa [hw] at hn

theorem State.restEntered_chain (hr : s.rst.asserted = false) (hv : s.framed v) (ha : s.account i = some a) :
    s.accountsChain (s.ordersEntered a) (v.restEntered i) := by
  have hva := State.account_after hv ha
  have hvr : v.rst.asserted = false := hv.sameList.asserted.trans hr
  have hframe := hv.accountFrame.trans (State.restEntered_accountFrame hvr hva)
  rw [State.ordersEntered_framed hv] at hframe
  exact ⟨fun σ _ h2 => (State.listWork.start hr hv σ).restEntered hv.sameList.warn hva h2, hframe⟩

/-- R72, R73, R76: a rest declared, within a frame or outside one. -/
theorem State.declareRest_does (hr : s.rst.asserted = false) (hv : s.framed v) (ha : s.account i = some a)
    (ht : ((v.declareRest i).passIf (v.declareStartsPass a)).framed t) : s.restDeclared i a t := by
  obtain ⟨u, hu⟩ : ∃ u, u = v.restEntered i := ⟨_, rfl⟩
  have hva := State.account_after hv ha
  have hvr : v.rst.asserted = false := hv.sameList.asserted.trans hr
  have hchain : s.accountsChain (s.ordersEntered a) u := hu ▸ State.restEntered_chain hr hv ha
  have hsr : u.workQuiet.settle.rst.asserted = false := by simpa using hchain.released
  have hstarts : v.declareStartsPass a = (a.fixedEnd || s.standstill) := by rw [State.declareStartsPass, hv.standstill]
  rw [State.declareRest_entered, ← hu, hstarts] at ht
  have hwrote : s.wrote i (if s.standstill then a.unfixed.started s.clock.minute else { a.unfixed with state := .restWait })
      u := by
    have h := (State.restEntered_wrote hva).of_accounts (u := s) (by rw [hv.only])
    rw [hv.standstill, hv.sameList.clock, ← hu] at h
    exact h
  have hflag := State.workQuiet_settle_flag (hu ▸ State.restEntered_flag hvr i)
  have hgives : HeldLaw s →
      s.slotGives i (s.standstill && a.firesAtStart) false (s.standstill && (a.firesAtStart || a.staged.isSome)) u :=
    fun hl => by
      have h := hv.slotGives (State.restEntered_gives hvr hva (hv.heldLaw hl hvr).1)
      rwa [hv.standstill, ← hu] at h
  have hhanded : ∀ r : State, (∀ j x, hasPair (.slot j) x r.warn.entries = hasPair (.slot j) x u.warn.entries) →
      r.account i = u.account i → HeldLaw s →
      s.slotHanded i (hasPair (.slot i) .restDone s.warn.entries || (s.standstill && a.firesAtStart)) false
        (s.standstill && (a.firesAtStart || a.staged.isSome)) r ∧ s.otherSlotsKept i r := fun r hw hacc hl =>
    State.handed_through (hgives hl) hw fun b hb => ⟨b, hacc.symm.trans hb, .refl b⟩
  cases hp : a.fixedEnd || s.standstill with
  | false =>
    rw [hp] at ht
    have hlast : u.workQuiet.settle.framed t := ht
    obtain ⟨hfix, hstand⟩ := Bool.or_eq_false_iff.mp hp
    have hworked := hchain.quiet hlast
    rw [State.ordersEntered, hstand, Bool.false_and, if_neg Bool.false_ne_true] at hworked
    have htw := hwrote.kept (t := t) (by rw [hlast.only]; simp)
    obtain ⟨h1, h2, h3, h4, h5⟩ := hworked.records
    refine ⟨fun b hb => by rw [htw.1, hb]; rfl, htw.2, hlast.kept.flag _ hflag, hlast.answers_quiet, h1, h2, h3, h4, h5,
      hhanded t (fun j x => ?_) ?_, fun _ _ => hworked, fun hor => ?_⟩
    · rw [hlast.sameList.warn, State.workQuiet_settle_pairs]
    · rw [hlast.account, State.workQuiet_settle_account]
    · rw [hfix, hstand] at hor
      exact hor.elim nofun nofun
  | true =>
    rw [hp] at ht
    have hpass : u.workQuiet.settle.afterPass t := (State.pass_spec _ hsr).framed ht
    have hworked := hchain.quiet (.refl u.workQuiet.settle)
    obtain ⟨-, -, haccounts, -⟩ := hpass.records
    have htw := hwrote.kept (t := t) (haccounts.trans (by simp))
    obtain ⟨h1, h2, h3, h4, h5⟩ := hworked.records_after hpass
    refine ⟨fun b hb => by rw [htw.1, hb]; rfl, htw.2, hpass.flag hflag, hpass.quietNow, h1, h2, h3, h4, h5,
      hhanded t (fun j x => ?_) ?_, fun h k => ?_, fun _ => ⟨_, haccounts.symm, hpass, fun hy => ?_, fun hn => ?_⟩⟩
    · rw [State.slotPair_afterPass hpass, State.workQuiet_settle_pairs]
    · rw [hpass.account, State.workQuiet_settle_account]
    · rw [h, k] at hp
      cases hp
    · rwa [State.ordersEntered, if_pos hy] at hworked
    · rwa [State.ordersEntered, hn, if_neg Bool.false_ne_true] at hworked

/-- Settles O26. -/
theorem adeclRestAndEndAct : Obligations.AdeclRestAndEndAct := by
  unfold Obligations.AdeclRestAndEndAct
  refine ⟨fun n s hs => ⟨fun hn => refuses_of hs rfl (State.withAccount_noSlot _ hn), fun i hi => ⟨fun ha =>
    refuses_of hs rfl (State.withAccount_noAccount _ hi ha), fun a ha => ⟨fun hd => ?_, fun hd => ?_⟩⟩⟩,
    fun n s hs => ⟨fun hn => refuses_of hs rfl (State.withAccount_noSlot _ hn), fun i hi => ⟨fun ha =>
    refuses_of hs rfl (State.withAccount_noAccount _ hi ha), fun a ha => ⟨fun hd => ?_, fun hd => ?_⟩⟩⟩⟩
  · refine refuses_of (f := reqAdeclRest n) hs rfl ?_
    rw [reqAdeclRest, State.withAccount_eq _ hi ha, if_pos hd]
  · have hdone : ((s.inFrame.declareRest i).passIf (s.inFrame.declareStartsPass a)).account i =
        some (if s.standstill then a.unfixed.started s.clock.minute else { a.unfixed with state := .restWait }) := by
      have h := State.declareRest_wrote (State.account_after s.inFrame_framed ha)
      rw [s.inFrame_framed.standstill, s.inFrame_framed.sameList.clock] at h
      rw [← h.1]
      exact State.account_of (by simp) i
    have hstate : (if s.standstill then a.unfixed.started s.clock.minute else { a.unfixed with state := .restWait }).state =
        if s.standstill then .resting else .restWait := by
      split
      · unfold Account.started
        dsimp only
        split <;> rfl
      · rfl
    have hreq : reqAdeclRest n s.inFrame = ((s.inFrame.declareRest i).passIf (s.inFrame.declareStartsPass a),
        done (.declared i (if s.standstill then .resting else .restWait))) := by
      rw [reqAdeclRest, State.withAccount_eq _ hi ha, hd, if_neg Bool.false_ne_true]
      simp only [State.declaredReply, hdone, Option.elim, hstate]
    obtain ⟨hans, hframed⟩ := State.takeFrame_framed hs hreq
    exact ⟨_, rfl, hans, State.declareRest_does hs.1 s.inFrame_framed ha hframed⟩
  · refine refuses_of (f := reqAdeclEnd n) hs rfl ?_
    rw [reqAdeclEnd, State.withAccount_eq _ hi ha, hd, if_neg Bool.false_ne_true]
  · have hdone := (State.endRest_wrote (State.account_after s.inFrame_framed ha)).1
    have hreq : reqAdeclEnd n s.inFrame = (s.inFrame.endRest i, done (.declared i .idle)) := by
      rw [reqAdeclEnd, State.withAccount_eq _ hi ha, if_pos hd]
      simp only [State.declaredReply, hdone, Option.elim]
    obtain ⟨hans, hframed⟩ := State.takeFrame_framed hs hreq
    exact ⟨_, rfl, hans, State.endRest_does hs.1 s.inFrame_framed ha hframed⟩

/-- Settles O30. -/
theorem longPressDeclaresOrEnds : Obligations.LongPressDeclaresOrEnds := by
  unfold Obligations.LongPressDeclaresOrEnds
  refine fun side s => ⟨fun hno => ?_, fun hr hp u hu => ⟨fun hnone => ?_, fun i a ha hb huniq => ?_⟩⟩
  · refine congrArg Host.Outcome.next ?_
    unfold State.outOfReset
    obtain h | h := hno
    · rw [if_pos h]
    · split
      · rfl
      · exact if_neg h
  · have hexec : exec (.longPress side) s = .next (u.longPress side) := by
      refine congrArg Host.Outcome.next ?_
      rw [State.outOfReset, hr, if_neg Bool.false_ne_true]
      rw [if_pos hp, hu]
    have hbound : u.boundSlot side.bunk = none := by
      rw [hu]
      exact State.boundSlot_none.mpr hnone
    rw [hexec]
    simp only [State.longPress, hbound]
  · have hexec : exec (.longPress side) s = .next (u.longPress side) := by
      refine congrArg Host.Outcome.next ?_
      rw [State.outOfReset, hr, if_neg Bool.false_ne_true]
      rw [if_pos hp, hu]
    have hua : ∀ j, u.account j = s.account j := fun j => by
      rw [hu]
      rfl
    have hbound : u.boundSlot side.bunk = some i := by
      cases hslot : u.boundSlot side.bunk with
      | none => exact absurd hb (State.boundSlot_none.mp hslot i a ((hua i).trans ha))
      | some j =>
        obtain ⟨c, hc, hcb⟩ := State.boundSlot_some hslot
        rw [huniq j c ((hua j).symm.trans hc) hcb]
    have hai : u.account i = some a := (hua i).trans ha
    have hur : u.rst.asserted = false := by rw [hu]; exact hr
    refine ⟨_, hexec, fun hd => ?_, fun hd => ?_⟩
    · refine State.endRest_does hur (.refl u) hai ?_
      simp only [State.longPress, hbound, hai, hd, if_true]
      exact .refl _
    · refine State.declareRest_does hur (.refl u) hai ?_
      simp only [State.longPress, hbound, hai, hd, Bool.false_eq_true, if_false]
      exact .refl _

end

end Sys2Proof.Machine
end

section
/-! PROOF. O44 and O48: the accounts as they meet the standstill condition (R70, R71). -/
namespace Sys2Proof.Machine

section
variable {s t u v z work : State} {i k : Slot} {a b : Account} {σ : (Entry → Bool) → Prop}

/-! ### The pairs of the other sources -/

theorem State.fireRestDone_otherPair (hr : s.rst.asserted = false) {x : Source} (hx : x ≠ .slot i) (w : WarnType) :
    hasPair x w (s.fireRestDone i a).warn.entries = hasPair x w s.warn.entries := by
  obtain ⟨u, hu⟩ : ∃ u, u = ((s.setAccount i a.restDone).testDriving i).setAccount i (a.doneAt s.clock.minute) := ⟨_, rfl⟩
  have hur : u.rst.asserted = false := by rw [hu]; simpa using hr
  have hlast : (s.fireRestDone i a).warn = (u.raise (.slot i) .restDone).warn := by
    rw [State.fireRestDone_eq, hu]
    simp
  have hfirst : hasPair x w u.warn.entries = hasPair x w s.warn.entries := by
    rw [hu]
    exact State.testDriving_pair (s := s.setAccount i a.restDone) hr (by simp [drivingPairs, hx])
  rw [hlast, Bool.eq_iff_iff, hasPair_raise hur, hfirst]
  exact or_iff_left fun h => hx h.1

theorem State.startSegment_otherPair (hr : s.rst.asserted = false) {x : Source} (hx : x ≠ .slot i) (w : WarnType) :
    hasPair x w (s.startSegment i).warn.entries = hasPair x w s.warn.entries := by
  have hbegun : hasPair x w (s.segmentBegun i).warn.entries = hasPair x w s.warn.entries :=
    State.segmentBegun_pair hr (by simp [drivingPairs, hx])
  rw [State.startSegment_eq, ← hbegun]
  unfold State.testRestDone
  split
  · split
    · exact State.fireRestDone_otherPair (by simpa [State.segmentBegun] using hr) hx w
    · rfl
  · rfl

theorem State.closeSegment_otherPair (hr : s.rst.asserted = false) {x : Source} (hx : x ≠ .slot i) (w : WarnType) :
    hasPair x w (s.closeSegment i).warn.entries = hasPair x w s.warn.entries := by
  cases ha : s.account i with
  | none => simp only [State.closeSegment, ha]
  | some a =>
    rw [State.closeSegment_eq ha]
    split
    · rw [Bool.eq_iff_iff, hasPair_raise (s := s.setAccount i a.closed) hr]
      exact or_iff_left fun h => hx h.1
    · rfl

/-! ### One account moved -/

theorem State.moveAccount_otherPair (hr : s.rst.asserted = false) {x : Source} (hx : x ≠ .slot i) (w : WarnType) :
    hasPair x w (s.moveAccount i).warn.entries = hasPair x w s.warn.entries := by
  have hnotice : ∀ r : State, r.accountNotice.warn = r.warn := fun r => by simp
  have hgo : ∀ (r : State) st, (r.accountGo i st).warn = r.warn := fun r st => by simp
  unfold State.moveAccount
  split
  · rfl
  · split
    · split
      · rw [hnotice, State.startSegment_otherPair hr hx]
      · rw [hgo, State.closeSegment_otherPair hr hx]
    · rfl

/-- The three things that the standstill condition can make of an account. -/
theorem State.moveAccount_cases (ha : s.account i = some a) :
    (s.standstill = true ∧ a.state = .restWait ∧ s.moveAccount i = (s.startSegment i).accountNotice) ∨
    (s.standstill = false ∧ a.state = .resting ∧ s.moveAccount i = (s.closeSegment i).accountGo i .restWait) ∨
    (s.movesAccount a = false ∧ s.moveAccount i = s) := by
  simp only [State.moveAccount, ha]
  cases hm : s.movesAccount a with
  | false => exact .inr (.inr ⟨rfl, by simp⟩)
  | true =>
    obtain ⟨hs, hst⟩ | ⟨hs, hst⟩ := (s.movesAccount_iff a).mp hm
    · exact .inl ⟨hs, hst, by simp [hs]⟩
    · exact .inr (.inl ⟨hs, hst, by simp [hs]⟩)

theorem State.moveAccount_suppressed (s : State) (i : Slot) : (s.moveAccount i).suppressed = s.suppressed := by
  cases ha : s.account i with
  | none => rw [State.moveAccount_none ha]
  | some a =>
    exact State.suppressed_of (by simp) (by simp) (State.wrote.hushes ha (State.moveAccount_wrote ha) (s.movedTo_hushes a))

theorem State.restsAt_suppressed (ha : s.account i = some a) (hd : a.declared = true) :
    (s.restsAt i).suppressed = s.suppressed := by
  refine State.suppressed_of (by simp [State.restsAt]) (by simp [State.restsAt])
    (State.wrote.hushes ha (State.updAccount_wrote _ ha) ?_)
  rw [Account.hushes, Account.hushes, hd]
  rfl

theorem State.listWork.moveAccount (h : s.listWork σ u) (hf : σ u.suppressed)
    (hfresh : ∀ w, hasPair (.slot i) w u.warn.entries = hasPair (.slot i) w s.warn.entries) :
    s.listWork σ (u.moveAccount i) := by
  cases ha : u.account i with
  | none =>
    rw [State.moveAccount_none ha]
    exact h
  | some a =>
    obtain ⟨-, hst, heq⟩ | ⟨-, hst, heq⟩ | ⟨-, heq⟩ := State.moveAccount_cases ha <;> rw [heq]
    · refine (h.startSegment ha ?_ fun hn => (hfresh _).symm.trans hn).accountNotice
      rw [State.restsAt_suppressed ha (by simp [Account.declared, hst])]
      exact hf
    · exact (h.closeSegment hf fun hn => (hfresh _).symm.trans hn).accountGo i .restWait
    · exact h

/-- The table once an account has met the condition. -/
def State.orderMoved (s : State) (mode : PartMode) (os : List Order) (i : Slot) : List Order :=
  match s.account i with
  | some a =>
    if s.standstill && decide (a.state = .restWait) && a.firesAtStart then
      a.applied.wakeEntered mode s.clock.minute os
    else os
  | none => os

theorem State.ordersAtMove_eq (s : State) (mode : PartMode) (os : List Order) :
    s.ordersAtMove mode os = allSlots.foldl (s.orderMoved mode) os := rfl

section
variable (hr : s.rst.asserted = false)
include hr

theorem State.moveAccount_orders (i : Slot) : (s.moveAccount i).orders = s.orderMoved s.port.mode s.orders i := by
  cases ha : s.account i with
  | none =>
    rw [State.moveAccount_none ha, State.orderMoved, ha]
  | some a =>
    rw [State.orderMoved, ha]
    obtain ⟨hs, hst, heq⟩ | ⟨hs, hst, heq⟩ | ⟨hm, heq⟩ := State.moveAccount_cases ha <;> rw [heq]
    · have ho : (s.startSegment i).accountNotice.orders = (s.startSegment i).orders := by simp
      rw [ho, State.startSegment_orders hr ha]
      simp [hs, hst]
    · simp [hs]
    · rw [Bool.eq_false_iff, Ne, State.movesAccount_iff] at hm
      have hno : (s.standstill && decide (a.state = .restWait)) = false := by
        rw [Bool.eq_false_iff, Ne, Bool.and_eq_true, decide_eq_true_iff]
        exact fun h => hm (.inl h)
      simp [hno]

theorem State.moveAccount_rst (i : Slot) : (s.moveAccount i).rst = s.rst :=
  ((State.listWork.refl (fun _ => True) hr).moveAccount trivial fun _ => rfl).rst

theorem State.moveAccount_accountFrame (i : Slot) :
    s.accountFrame (s.orderMoved s.port.mode s.orders i) (s.moveAccount i) :=
  State.accountFrame_of (.refl s) (State.moveAccount_noticed i (.refl s)) (State.moveAccount_rst hr i)
    (orders := State.moveAccount_orders hr i)

theorem State.moveAccount_gives (hh : s.rst.heldWarnings = []) (ha : s.account i = some a) :
    s.slotGives i (s.standstill && decide (a.state = .restWait) && a.firesAtStart)
      (!s.standstill && decide (a.state = .resting) && a.closesShort)
      (s.standstill && decide (a.state = .restWait) && (a.firesAtStart || a.staged.isSome)) (s.moveAccount i) := by
  obtain ⟨hs, hst, heq⟩ | ⟨hs, hst, heq⟩ | ⟨hm, heq⟩ := State.moveAccount_cases ha <;> rw [heq]
  · have h := (State.startSegment_gives hr hh ha).trans
      (State.slotGives_of_warn (t := (s.startSegment i).accountNotice) (by simp)) fun _ _ b hb =>
        ⟨b, (State.account_of (by simp) i).symm.trans hb, .refl b⟩
    simpa [hs, hst] using h
  · have h := (State.closeSegment_gives hr ha).trans
      (State.slotGives_of_warn (t := (s.closeSegment i).accountGo i .restWait) (by simp)) (nomatch ·)
    simpa [hs, hst] using h
  · rw [Bool.eq_false_iff, Ne, State.movesAccount_iff] at hm
    have h1 : (s.standstill && decide (a.state = .restWait)) = false := by
      rw [Bool.eq_false_iff, Ne, Bool.and_eq_true, decide_eq_true_iff]
      exact fun h => hm (.inl h)
    have h2 : (!s.standstill && decide (a.state = .resting)) = false := by
      rw [Bool.eq_false_iff, Ne, Bool.and_eq_true, decide_eq_true_iff, Bool.not_eq_true']
      exact fun h => hm (.inr h)
    rw [h1, h2]
    exact State.slotGives_of_warn rfl

end

end

end Sys2Proof.Machine
end

section
/-! PROOF. O44 and O48: the four accounts moved one after the other, and `State.standstillWorked`. -/
namespace Sys2Proof.Machine

section
variable {s t u v z work : State} {i k : Slot} {a b : Account} {σ : (Entry → Bool) → Prop}

theorem State.orderMoved_congr {mode : PartMode} {os : List Order} (ha : t.account i = s.account i)
    (hs : t.standstill = s.standstill) (hc : t.clock = s.clock) : t.orderMoved mode os i = s.orderMoved mode os i := by
  unfold State.orderMoved
  rw [ha, hs, hc]

/-- A slot whose turn has not come: the condition stands as it did, and the account and its entries are as they were. -/
structure State.untouched (s : State) (i : Slot) (u : State) : Prop where
  account : u.account i = s.account i
  pairs : ∀ w, hasPair (.slot i) w u.warn.entries = hasPair (.slot i) w s.warn.entries
  standstill : u.standstill = s.standstill
  clock : u.clock = s.clock
  mode : u.port.mode = s.port.mode
  suppressed : u.suppressed = s.suppressed
  rst : u.rst = s.rst

theorem State.framed.untouched (hv : s.framed v) (i : Slot) : s.untouched i v :=
  ⟨hv.account i, fun _ => by rw [hv.sameList.warn], hv.standstill, hv.sameList.clock, hv.kept.1,
    hv.sameList.suppressed, by rw [hv.only]⟩

theorem State.untouched.move (h : s.untouched i u) (hr : s.rst.asserted = false) (hk : k ≠ i) :
    s.untouched i (u.moveAccount k) := by
  have hur : u.rst.asserted = false := by rw [h.rst]; exact hr
  refine ⟨?_, fun w => ?_, ?_, ?_, ?_, ?_, (State.moveAccount_rst hur k).trans h.rst⟩
  · rw [State.moveAccount_account, if_neg hk, h.account]
  · rw [State.moveAccount_otherPair hur (by simpa using Ne.symm hk), h.pairs]
  · rw [← h.standstill]
    simp [State.standstill]
  · rw [← h.clock]
    simp
  · rw [← h.mode]
    simp
  · rw [State.moveAccount_suppressed, h.suppressed]

/-! ### The chain of the four moves -/

theorem State.moveAccount_chain {os : List Order} (hr : s.rst.asserted = false)
    (h : ∀ σ : (Entry → Bool) → Prop, σ s.suppressed → s.listWork σ u) (hf : s.accountFrame os u)
    (hi : s.untouched i u) :
    (∀ σ : (Entry → Bool) → Prop, σ s.suppressed → s.listWork σ (u.moveAccount i)) ∧
    s.accountFrame (s.orderMoved s.port.mode os i) (u.moveAccount i) := by
  have hur : u.rst.asserted = false := by rw [hi.rst]; exact hr
  refine ⟨fun σ hσ => (h σ hσ).moveAccount (by rw [hi.suppressed]; exact hσ) hi.pairs, ?_⟩
  have hall := hf.trans (State.moveAccount_accountFrame hur i)
  rw [hi.mode, hf.orders_eq, State.orderMoved_congr hi.account hi.standstill hi.clock] at hall
  exact hall

theorem State.moveAccounts_chain (hr : s.rst.asserted = false) (hv : s.framed v) :
    s.accountsChain (s.ordersAtMove s.port.mode s.orders) v.moveAccounts := by
  have h0 := fun i => hv.untouched i
  obtain ⟨l1, f1⟩ := State.moveAccount_chain hr (fun σ _ => State.listWork.start hr hv σ) hv.accountFrame (h0 .s0)
  have h1 : ∀ i, Slot.s0 ≠ i → s.untouched i (v.moveAccount .s0) := fun i hi => (h0 i).move hr hi
  obtain ⟨l2, f2⟩ := State.moveAccount_chain hr l1 f1 (h1 .s1 (by decide))
  have h2 : ∀ i, Slot.s0 ≠ i → Slot.s1 ≠ i → s.untouched i ((v.moveAccount .s0).moveAccount .s1) := fun i hi hj =>
    (h1 i hi).move hr hj
  obtain ⟨l3, f3⟩ := State.moveAccount_chain hr l2 f2 (h2 .s2 (by decide) (by decide))
  obtain ⟨l4, f4⟩ := State.moveAccount_chain hr l3 f3 ((h2 .s3 (by decide) (by decide)).move hr (by decide))
  exact ⟨fun σ hσ _ => l4 σ hσ, f4⟩

/-! ### What the four moves hand over -/

theorem State.slotHanded.keep {done sh x : Bool} (h : s.slotHanded i done sh x u) (hr : u.rst.asserted = false)
    (hk : k ≠ i) : s.slotHanded i done sh x (u.moveAccount k) :=
  h.of (fun w => State.moveAccount_otherPair hr (by simpa using Ne.symm hk) w) (by rw [State.moveAccount_account, if_neg hk])

/-- What meeting the condition hands over for a slot. -/
def State.movedHands (s : State) (i : Slot) (a : Account) (t : State) : Prop :=
  s.slotHanded i
    (hasPair (.slot i) .restDone s.warn.entries ||
      ((s.standstill && decide (a.state = .restWait)) && a.firesAtStart))
    (!s.standstill && decide (a.state = .resting) && a.closesShort)
    ((s.standstill && decide (a.state = .restWait)) && (a.firesAtStart || a.staged.isSome)) t

theorem State.untouched.hands (h : s.untouched i u) (hr : s.rst.asserted = false) (hh : s.rst.heldWarnings = [])
    (ha : s.account i = some a) : s.movedHands i a (u.moveAccount i) := by
  have hgives := State.moveAccount_gives (s := u) (i := i) (by rw [h.rst]; exact hr) (by rw [h.rst]; exact hh)
    (h.account.trans ha)
  obtain ⟨⟨h1, h2, h3, h4⟩, -⟩ := hgives
  rw [h.standstill, h.pairs] at h1 h2
  rw [h.standstill] at h3 h4
  exact ⟨h1, h2, h3, fun hx w hw => (h4 hx w hw).trans (h.pairs w)⟩

theorem State.moveAccounts_hands (hr : s.rst.asserted = false) (hh : s.rst.heldWarnings = []) (hv : s.framed v)
    (ha : s.account i = some a) : s.movedHands i a v.moveAccounts := by
  have h0 := hv.untouched i
  have hvr : v.rst.asserted = false := by rw [h0.rst]; exact hr
  have hr' : ∀ {r : State} {k : Slot}, r.rst.asserted = false → (r.moveAccount k).rst.asserted = false := fun h => by
    simpa using h
  cases i with
  | s0 =>
    exact (((h0.hands hr hh ha).keep (k := .s1) (hr' hvr) (by decide)).keep (k := .s2) (hr' (hr' hvr)) (by decide)).keep
      (k := .s3) (hr' (hr' (hr' hvr))) (by decide)
  | s1 =>
    exact (((h0.move (k := .s0) hr (by decide)).hands hr hh ha).keep (k := .s2) (hr' (hr' hvr)) (by decide)).keep
      (k := .s3) (hr' (hr' (hr' hvr))) (by decide)
  | s2 =>
    exact (((h0.move (k := .s0) hr (by decide)).move (k := .s1) hr (by decide)).hands hr hh ha).keep
      (k := .s3) (hr' (hr' (hr' hvr))) (by decide)
  | s3 =>
    exact (((h0.move (k := .s0) hr (by decide)).move (k := .s1) hr (by decide)).move (k := .s2) hr (by decide)).hands
      hr hh ha

/-- A slot without an account is never touched. -/
theorem State.moveAccounts_empty (hr : s.rst.asserted = false) (hv : s.framed v) (ha : s.account i = none) :
    s.untouched i v.moveAccounts := by
  have hstep : ∀ {r : State} {k : Slot}, s.untouched i r → s.untouched i (r.moveAccount k) := fun {r k} h => by
    by_cases hk : k = i
    · subst hk
      rw [State.moveAccount_none (h.account.trans ha)]
      exact h
    · exact h.move hr hk
  exact hstep (hstep (hstep (hstep (hv.untouched i))))

/-- R92: an account that meets the condition sets ACCOUNT. -/
theorem State.moveAccount_flag (hr : s.rst.asserted = false) (ha : s.account i = some a) (hm : s.movesAccount a = true) :
    Notice.account.inByte (s.moveAccount i).port.flags = true := by
  simp only [State.moveAccount, ha, hm, if_true]
  split
  · exact State.accountNotice_flag (by simpa using hr)
  · exact State.accountGo_flag (by simpa using hr) i .restWait

theorem State.moveAccount_flagKept {n : Notice} (h : n.inByte s.port.flags = true) (i : Slot) :
    n.inByte (s.moveAccount i).port.flags = true :=
  (State.moveAccount_noticed i (.refl s)).flagsKept.flag n h

theorem State.moveAccounts_flag (hr : s.rst.asserted = false) (hv : s.framed v) (ha : s.account i = some a)
    (hm : s.movesAccount a = true) : Notice.account.inByte v.moveAccounts.port.flags = true := by
  have h0 := hv.untouched i
  have hflag : ∀ {r : State}, s.untouched i r → Notice.account.inByte (r.moveAccount i).port.flags = true := fun {r} h => by
    refine State.moveAccount_flag (by rw [h.rst]; exact hr) (h.account.trans ha) ?_
    rw [← hm, State.movesAccount, State.movesAccount, h.standstill]
  cases i with
  | s0 =>
    exact State.moveAccount_flagKept (State.moveAccount_flagKept (State.moveAccount_flagKept (hflag h0) .s1) .s2) .s3
  | s1 =>
    exact State.moveAccount_flagKept (State.moveAccount_flagKept (hflag (h0.move hr (by decide))) .s2) .s3
  | s2 =>
    exact State.moveAccount_flagKept (hflag ((h0.move (k := .s0) hr (by decide)).move hr (by decide))) .s3
  | s3 =>
    exact hflag (((h0.move (k := .s0) hr (by decide)).move (k := .s1) hr (by decide)).move hr (by decide))

end

end Sys2Proof.Machine
end

section
/-! PROOF. O44: what moves the standstill condition. -/
namespace Sys2Proof.Machine

section
variable {s t u v z work : State} {i k : Slot} {a b : Account}

/-- An account that meets the condition changes its state. -/
theorem State.movedTo_ne (h : s.movesAccount a = true) : s.movedTo a ≠ a := by
  intro heq
  have hstate := congrArg Account.state heq
  obtain ⟨hs, hst⟩ | ⟨hs, hst⟩ := (s.movesAccount_iff a).mp h
  · have hstarted : (s.movedTo a).state = .resting := by
      rw [State.movedTo, if_pos h, if_pos hs]
      unfold Account.started
      dsimp only
      split <;> rfl
    rw [hstarted, hst] at hstate
    cases hstate
  · have hclosed : (s.movedTo a).state = .restWait := by
      rw [State.movedTo, if_pos h, hs, if_neg Bool.false_ne_true]
    rw [hclosed, hst] at hstate
    cases hstate

theorem State.loadSettingsKept_of {s t u : State} (heater : u.heater = s.heater) (fridge : u.fridge = s.fridge)
    (lights : u.lights = s.lights) (h : u.loadSettingsKept t) : s.loadSettingsKept t := by
  unfold State.loadSettingsKept State.channel at h ⊢
  rw [heater, fridge, lights] at h
  exact h

theorem State.loadSettingsKept_refl (s : State) : s.loadSettingsKept s :=
  ⟨rfl, rfl, rfl, rfl, rfl, rfl, rfl, fun _ => ⟨rfl, rfl⟩⟩

theorem State.workStandstill_cases (s : State) :
    ((∀ i a, s.account i = some a → s.movesAccount a = false) ∧ s.workStandstill = s) ∨
    ((∃ i a, s.account i = some a ∧ s.movesAccount a = true) ∧ s.workStandstill = s.moveAccounts.settle.pass) := by
  unfold State.workStandstill
  split
  next h => exact .inl ⟨State.slotsWhere_isEmpty.mp h, rfl⟩
  next h =>
    refine .inr ⟨?_, rfl⟩
    rw [State.slotsWhere_isEmpty] at h
    push Not at h
    obtain ⟨i, a, ha, hm⟩ := h
    exact ⟨i, a, ha, (Bool.not_eq_false _).mp hm⟩

theorem State.framed.movesAccount (hv : s.framed v) (a : Account) : v.movesAccount a = s.movesAccount a := by
  rw [State.movesAccount, State.movesAccount, hv.standstill]

theorem State.movedHands_same (hm : s.movesAccount a = false) (h : s.untouched i t) : s.movedHands i a t := by
  rw [Bool.eq_false_iff, Ne, State.movesAccount_iff] at hm
  have h1 : (s.standstill && decide (a.state = .restWait)) = false := by
    rw [Bool.eq_false_iff, Ne, Bool.and_eq_true, decide_eq_true_iff]
    exact fun h => hm (.inl h)
  have h2 : (!s.standstill && decide (a.state = .resting)) = false := by
    rw [Bool.eq_false_iff, Ne, Bool.and_eq_true, decide_eq_true_iff, Bool.not_eq_true']
    exact fun h => hm (.inr h)
  unfold State.movedHands
  rw [h1, h2]
  exact ⟨by rw [h.pairs, Bool.false_and, Bool.or_false], by rw [h.pairs, Bool.false_and, Bool.or_false], nofun,
    fun _ w _ => h.pairs w⟩

theorem State.moveAccounts_movedAccount (hv : s.framed v) (ht : t.accounts = v.workStandstill.accounts) (i : Slot) :
    t.account i = (s.account i).map s.movedTo := by
  rw [State.account_of ht, State.workStandstill_account, hv.account,
    State.movedTo_congr hv.sameList.clock hv.standstill]

/-- R70, R71: the accounts meet the standstill condition, within a frame or outside one. -/
theorem State.workStandstill_does (hr : s.rst.asserted = false) (hv : s.framed v) (ht : v.workStandstill.framed t) :
    s.standstillWorked t := by
  have hmoved := State.moveAccounts_movedAccount (t := t) hv (by rw [ht.only])
  obtain ⟨hnone, heq⟩ | ⟨⟨k, c, hc, hm⟩, heq⟩ := v.workStandstill_cases
  · rw [heq] at ht
    have honly : t = { s with port := t.port } := by
      have h := ht.only
      rw [hv.only] at h
      exact h
    have haccounts : t.accounts = s.accounts := by rw [honly]
    have hframed : s.framed t := ⟨honly, hv.kept.trans ht.kept, ht.flags.trans hv.flags⟩
    refine ⟨fun i => State.accountMoved_of (hmoved i), fun _ => ?_, fun h => absurd haccounts h, fun _ i =>
      ⟨fun _ w _ => (hframed.untouched i).pairs w, fun a ha starts hst => ?_⟩, ?_⟩
    · rw [honly]
      exact ⟨rfl, rfl, rfl, rfl, rfl, rfl, rfl⟩
    · rw [hst]
      refine State.movedHands_same ?_ (hframed.untouched i)
      rw [← hv.movesAccount]
      exact hnone i a ((hv.account i).trans ha)
    · rw [honly]
      exact ⟨rfl, rfl, rfl, rfl, rfl, rfl, s.loadSettingsKept_refl⟩
  · have hchain := State.moveAccounts_chain hr hv
    have hsr : v.moveAccounts.settle.rst.asserted = false := by simpa using hchain.released
    rw [heq] at ht
    have hpass : v.moveAccounts.settle.afterPass t := (State.pass_spec _ hsr).framed ht
    have hworked := hchain.plain (.refl v.moveAccounts.settle)
    obtain ⟨k1, k2, k3, k4, k5, k6, k7⟩ := hpass.records
    have hsame : ∀ i, t.account i = v.moveAccounts.account i := fun i => by
      rw [hpass.account]
      exact State.account_of (by simp) i
    have hsc : s.account k = some c := (hv.account k).symm.trans hc
    rw [hv.movesAccount] at hm
    have hchanged : t.accounts ≠ s.accounts := fun h => by
      have hk := hmoved k
      rw [State.account_of h, hsc] at hk
      exact State.movedTo_ne hm (Option.some.inj hk).symm
    have hflag : Notice.account.inByte v.moveAccounts.settle.port.flags = true := by
      have hport : v.moveAccounts.settle.port = v.moveAccounts.port := by simp
      rw [hport]
      exact State.moveAccounts_flag hr hv hsc hm
    have hpairs := fun i w => State.settled_pairs hpass i w
    obtain ⟨h1, h2, h3, h4, h5⟩ := hworked.records_after hpass
    have hframe := hchain.frame
    refine ⟨fun i => State.accountMoved_of (hmoved i), fun h => absurd h hchanged, fun _ => ⟨hpass.flag hflag, _, k3.symm,
      hworked, hpass⟩, fun hl i => ⟨fun hn w hw => ?_, fun a ha starts hst => ?_⟩, h1, h2, h3, ?_, h4, h5, ?_⟩
    · rw [hpairs]
      exact (State.moveAccounts_empty hr hv hn).pairs w
    · rw [hst]
      exact (State.moveAccounts_hands hr (hl hr).1 hv ha).of (hpairs i) (hsame i)
    · rw [k5]
      have hq : v.moveAccounts.settle.quiet = v.moveAccounts.quiet := by simp
      rw [hq, hframe.only]
    · obtain ⟨-, -, -, -, -, -, -, -, -, -, -, hkept, -⟩ := hpass
      refine State.loadSettingsKept_of ?_ ?_ ?_ hkept
      · have h : v.moveAccounts.settle.heater = v.moveAccounts.heater := by simp
        rw [h, hframe.only]
      · have h : v.moveAccounts.settle.fridge = v.moveAccounts.fridge := by simp
        rw [h, hframe.only]
      · have h : v.moveAccounts.settle.lights = v.moveAccounts.lights := by simp
        rw [h, hframe.only]

end

end Sys2Proof.Machine
end

section
/-! PROOF. O44 and O48: what moves the standstill condition, and what a debounced level is handed on to. -/
namespace Sys2Proof.Machine

section
variable {s t u v z work : State}

/-! ### O44: XMODE, SSET and the C0 window -/

/-- R126: a window's step of the motion detector. -/
theorem Sense.motionStep_eq (x : Sense) (n : Nat) :
    ({ x.motionStep n with vspdCount := n } : Sense) =
      if 1 ≤ n then { x with vspdCount := n, motion := .moving }
      else if x.motion = .moving then { x with vspdCount := n, motion := .stopping, settleCount := 0 }
      else if x.motion = .stopping then
        { x with
          vspdCount := n, settleCount := x.settleCount + 1
          motion := if x.settleTime * 10 ≤ x.settleCount + 1 then .stationary else .stopping }
      else { x with vspdCount := n } := by
  unfold Sense.motionStep
  split
  · rfl
  · cases hm : x.motion <;> simp [hm]

theorem State.motionChanged_eq (s : State) :
    s.motionChanged =
      State.workStandstill
        { s with
          accounts :=
            s.accounts.mapSome (fun a =>
              if s.sense.motion = .moving ∧ a.state = .driving then { a with breakSeconds := 0 } else a) } := by
  have hid : s.accounts.mapSome (fun a => a) = s.accounts := by
    cases s.accounts
    simp [PerSlot.mapSome]
  unfold State.motionChanged
  by_cases hm : s.sense.motion = .moving
  · simp only [hm, if_true, true_and]
    rfl
  · simp only [hm, if_false, false_and, hid]

/-- R127: a request that writes what the condition looks at, and works it. -/
theorem State.takeFrame_standstill (hs : s.serves) {f : State → State × Reply} {r : Reply} (hr : work.rst.asserted = false)
    (hv : work.framed v) (hf : f s.inFrame = (v.workStandstill, r)) :
    (s.takeFrame f).answers r ∧ work.standstillWorked (s.takeFrame f) := by
  obtain ⟨hans, hframed⟩ := State.takeFrame_framed hs hf
  exact ⟨hans, State.workStandstill_does hr hv hframed⟩

theorem State.workStandstill_sense (s : State) : s.workStandstill.sense = s.sense := by simp

/-- Settles O44. -/
theorem standstillIsWorkedAfresh : Obligations.StandstillIsWorkedAfresh := by
  unfold Obligations.StandstillIsWorkedAfresh
  refine ⟨fun s hs => ⟨refuses_of (f := reqXmode none) hs rfl rfl, fun on => ?_, fun seconds m hm => ⟨fun hst hle => ?_,
    fun hno => ?_⟩⟩, fun edges s hr n hn x hx => ?_⟩
  · have hframed : State.framed { s with transport := on } { s.inFrame with transport := on } := by
      have h := s.inFrame_framed
      refine ⟨?_, h.kept, h.flags⟩
      rw [h.only]
    obtain ⟨hans, hworked⟩ := State.takeFrame_standstill (f := reqXmode (some on)) hs (by exact hs.1) hframed rfl
    exact ⟨_, rfl, hans, hworked⟩
  · have hclamp : clampNat 10 600 seconds = m := hm.symm
    have hsense : s.inFrame.sense = s.sense := by simp
    obtain ⟨v, hv⟩ : ∃ v : State, v = { s.inFrame with sense := { s.sense with settleTime := m, motion := .stationary } } :=
      ⟨_, rfl⟩
    have hframed : State.framed { s with sense := { s.sense with settleTime := m, motion := .stationary } } v := by
      have h := s.inFrame_framed
      rw [hv]
      refine ⟨?_, h.kept, h.flags⟩
      rw [h.only]
    have hset : s.inFrame.setSettle m = v.workStandstill := by
      simp only [State.setSettle, hsense]
      rw [if_pos ⟨hst, hle⟩, hv]
      rfl
    have hf : reqSset seconds s.inFrame = (v.workStandstill, doneIf (decide (m ≠ seconds)) (.settle m .stationary)) := by
      have hmotion : v.workStandstill.sense.motion = .stationary := by
        rw [State.workStandstill_sense, hv]
      simp only [reqSset, hclamp, hset, hmotion]
    obtain ⟨hans, hworked⟩ := State.takeFrame_standstill hs (by exact hs.1) hframed hf
    exact ⟨_, rfl, hans, hworked⟩
  · have hclamp : clampNat 10 600 seconds = m := hm.symm
    have hsense : s.inFrame.sense = s.sense := by simp
    refine writes_of (f := reqSset seconds) hs rfl ?_
    have hset : s.inFrame.setSettle m = State.inFrame { s with sense := { s.sense with settleTime := m } } := by
      simp only [State.setSettle, hsense]
      rw [if_neg (by rintro ⟨h1, h2⟩; exact hno.elim (fun h => h h1) (fun h => absurd h2 (Nat.not_le.mpr h)))]
      unfold State.inFrame
      split <;> rfl
    have hmotion : (State.inFrame { s with sense := { s.sense with settleTime := m } }).sense.motion = s.sense.motion := by
      simp
    simp only [reqSset, hclamp, hset, hmotion]
  · have hexec : exec (.vspdWindowEnd edges) s = .next (s.vspdWindow n) := by
      rw [hn]
      exact exec_released (c := .vspdWindowEnd edges) (event := fun s => s.vspdWindow (heldCount edges)) rfl hr
    have hstep : ({ s.sense.motionStep n with vspdCount := n } : Sense) = x := by rw [hx, Sense.motionStep_eq]
    have hwin : s.vspdWindow n = if x.motion = s.sense.motion then { s with sense := x }
        else State.motionChanged { s with sense := x } := by
      rw [← hstep]
      rfl
    rw [hexec, hwin]
    refine ⟨fun h => by rw [if_pos h], fun h => ⟨State.motionChanged { s with sense := x }, by rw [if_neg h], ?_⟩⟩
    rw [State.motionChanged_eq]
    exact State.workStandstill_does (by exact hr) (.refl _) (.refl _)

/-! ### O48: a debounced level -/

theorem Sense.input_setInput (x : Sense) (i : DigitalIn) (y : Input) : (x.setInput i y).input i = y := by
  cases i <;> rfl

/-- The flame handed on to the heater (R147 to R150). -/
theorem State.flameHanded (hr : s.rst.asserted = false) (p : Bool)
    (ht : t = if p then s.heaterAttention.flamePresent else s.heaterAttention.flameAbsent) :
    (p = true → s.heater.state = .ignition →
      s.heaterMoves t ∧ t.heater = { s.heater with state := .proving, phase := some 20 } ∧
      t.timers.t5.given 400 1000 ∧ t.timers.t4 = s.timers.t4) ∧
    (p = false → s.heater.state = .proving ∨ s.heater.state = .run → s.startFailed t) ∧
    (p = true → s.heater.state ≠ .ignition → t = { s with port := t.port }) ∧
    (p = false → s.heater.state ≠ .proving → s.heater.state ≠ .run → t = { s with port := t.port }) := by
  have honly : s.heaterAttention = { s with port := s.heaterAttention.port } := s.noticeIf_eq _ _
  have hkept : s.port.settingsKept s.heaterAttention.port := (State.heaterAttention_noticed (.refl s)).flagsKept
  generalize s.heaterAttention.port = q at honly hkept
  rw [honly] at ht
  have hqr : ({ s with port := q } : State).rst.asserted = false := hr
  refine ⟨fun hp hst => ?_, fun hp hst => ?_, fun hp hst => ?_, fun hp h1 h2 => ?_⟩
  · rw [hp, if_pos rfl, State.flamePresent, if_pos (by exact hst)] at ht
    obtain ⟨h1, h2, h3⟩ := State.enterProving_does { s with port := q }
    rw [ht]
    exact ⟨(State.enterProving_moves hqr).of_port hkept, h1, h2, h3⟩
  · rw [hp, if_neg Bool.false_ne_true, State.flameAbsent, if_pos (by exact hst)] at ht
    rw [ht]
    exact (State.failedStart_startFailed hqr).of_port hkept
  · rw [hp, if_pos rfl, State.flamePresent, if_neg (by exact hst)] at ht
    rw [ht]
  · rw [hp, if_neg Bool.false_ne_true, State.flameAbsent, if_neg (by rintro (h | h); exact h1 h; exact h2 h)] at ht
    rw [ht]

/-- OVHT handed on to the heater (R144, R146, R157). -/
theorem State.ovhtHanded (hr : s.rst.asserted = false) (p : Bool)
    (ht : t = if p then s.heaterAttention.ovhtActive else s.heaterAttention.ovhtInactive) :
    (p = true →
      (s.heater.state = .preheat →
        s.heaterMoves t ∧ t.heater = { s.heater with state := .off, phase := none, glow := false } ∧
        t.timers.t5.given 0 1000) ∧
      (s.heater.state.burning = true → s.cooled .overheat t) ∧
      (s.heater.state = .cooldown → t = { s with heater := { s.heater with cause := some .overheat } }) ∧
      (s.heater.state = .off ∨ s.heater.state = .satisfied ∨ s.heater.state = .lockout → t = { s with port := t.port })) ∧
    (p = false →
      (s.heater.state = .off → s.heater.presented ≠ none → s.preheated t) ∧
      (¬(s.heater.state = .off ∧ s.heater.presented ≠ none) → t = { s with port := t.port })) := by
  have honly : s.heaterAttention = { s with port := s.heaterAttention.port } := s.noticeIf_eq _ _
  have hkept : s.port.settingsKept s.heaterAttention.port := (State.heaterAttention_noticed (.refl s)).flagsKept
  have hport : s.heater.state ≠ .lockout → s.heaterAttention.port = s.port := fun h => by
    simp [State.heaterAttention, State.noticeIf, h]
  generalize s.heaterAttention.port = q at honly hkept hport
  rw [honly] at ht
  have hqr : ({ s with port := q } : State).rst.asserted = false := hr
  refine ⟨fun hp => ?_, fun hp => ?_⟩
  · rw [hp, if_pos rfl, State.ovhtActive] at ht
    dsimp only at ht
    refine ⟨fun hst => ?_, fun hst => ?_, fun hst => ?_, fun hst => ?_⟩
    · rw [hst] at ht
      dsimp only at ht
      obtain ⟨h1, h2⟩ := State.enterOff_does { s with port := q }
      rw [ht]
      exact ⟨(State.enterOff_moves hqr).of_port hkept, h1, h2⟩
    · have hcooled : t = State.enterCooldown { s with port := q } .overheat := by
        cases hs : s.heater.state <;> rw [hs] at hst ht <;> first | exact ht | cases hst
      rw [hcooled]
      exact (State.enterCooldown_cooled hqr .overheat).of_port hkept
    · have hq := hport (by rw [hst]; decide)
      rw [hst, hq] at ht
      exact ht
    · have hsame : t = { s with port := q } := by
        obtain h | h | h := hst <;> rw [h] at ht <;> exact ht
      rw [hsame]
  · rw [hp, if_neg Bool.false_ne_true, State.ovhtInactive] at ht
    refine ⟨fun h1 h2 => ?_, fun hn => ?_⟩
    · rw [if_pos ⟨h1, Option.isSome_iff_ne_none.mpr h2⟩] at ht
      rw [ht]
      exact (State.enterPreheat_preheated hqr).of_port hkept
    · rw [if_neg fun h => hn ⟨h.1, Option.isSome_iff_ne_none.mp h.2⟩] at ht
      rw [ht]

/-- Settles O48. -/
theorem debounceHandsTheLevelOn : Obligations.DebounceHandsTheLevelOn := by
  unfold Obligations.DebounceHandsTheLevelOn
  refine fun i held s u hu => ⟨fun hno => ?_, fun hr ht => ?_⟩
  · refine congrArg Host.Outcome.next ?_
    unfold State.outOfReset
    obtain h | h := hno
    · rw [if_pos h]
    · split
      · rfl
      · show s.debounced i held = s
        rw [State.debounced, h, if_neg Bool.false_ne_true]
  · have hexec : exec (.debounceExpiry i held) s = .next (u.levelChanged i held) := by
      have h : exec (.debounceExpiry i held) s = .next (s.debounced i held) :=
        exec_released (c := .debounceExpiry i held) (event := fun s => s.debounced i held) rfl hr
      rw [h, State.debounced, if_pos ht, hu]
      rfl
    have hlevel : (u.sense.input i).level = (s.sense.input i).pin := by
      rw [hu]
      dsimp only
      rw [Sense.input_setInput]
    have hur : u.rst.asserted = false := by rw [hu]; exact hr
    have hheater : u.heater = s.heater := by rw [hu]
    refine ⟨_, hexec, ?_, ?_, ?_⟩
    · rintro rfl
      exact State.workStandstill_does hur (.refl u) (.refl _)
    · rintro rfl
      have h := State.flameHanded hur (u.sense.input .flame).level
        (t := u.levelChanged .flame held) rfl
      have h4 : u.timers = s.timers := by rw [hu]
      rw [← hlevel, ← hheater, ← h4]
      exact h
    · rintro rfl
      have h := State.ovhtHanded hur (u.sense.input .ovht).level (t := u.levelChanged .ovht held) rfl
      rw [← hlevel, ← hheater]
      exact h

end

end Sys2Proof.Machine
end

section
/-! PROOF. O31: the minute expiry and the minute of a whole second. -/
namespace Sys2Proof.Machine

section
variable {c : Instr} {r s t : State} {b : Bool}

/-! ### The minute of the last pass -/

/-- No piece writes the minute of the last pass. -/
theorem Piece.passMinute (p : Piece c r s t) : t.alloc.passMinute = s.alloc.passMinute := by
  cases p with
  | mode m hc => simp only [State.enterMode]; split <;> simp [State.withPort]
  | warn h => rw [h.frame.only]
  | heater h => rw [h.frame.only]
  | fridge h =>
    have hf := State.fridgeFrame.only h.frame
    rw [hf]
  | stall rate => rw [(s.tachReading_frame rate).only]
  | lights h =>
    have hf := State.lightFrame.only h.frame
    rw [hf]
  | overheat held => rw [s.debounced_ovht_only held]
  | coldRoom n hn hf hd => rw [State.tempWindow_c3_only hf hd]
  | period i => rw [s.periodEnd_only i]
  | release hc => rw [s.releasePresenter_only]
  | notice | accountNotice | quiet | raise | remove => simp
  | port | second | minute | stepClock | enter | dropOrders | budget | draws | charge | sense | accounts | transport
  | holdWake | lock => rfl

theorem State.pass_passMinute (hr : s.rst.asserted = false) : s.pass.alloc.passMinute = s.clock.minute := by
  obtain ⟨-, halloc, -⟩ := State.pass_spec s hr
  rw [halloc]

/-- R32: where nothing moves the clock, the last pass stays the one of the present minute. -/
theorem Runs.passMinute (h : Runs .nop s b t) (hs : s.alloc.passMinute = s.clock.minute) :
    t.alloc.passMinute = s.clock.minute := by
  induction h with
  | start => exact hs
  | calm _ p _ ih => exact p.passMinute.trans ih
  | other _ p ih => exact p.passMinute.trans ih
  | passed hrun hr _ => rw [State.pass_passMinute hr, (hrun.keeps.2.1 not_movesClock_nop)]

/-! ### What falls due within a second -/

theorem State.forSlots_charge {f : State → Slot → State} (hf : ∀ (u : State) (i : Slot), (f u i).charge = u.charge)
    (s : State) (is : List Slot) : (s.forSlots f is).charge = s.charge := by
  induction is generalizing s with
  | nil => rfl
  | cons i is ih => exact (ih _).trans (hf s i)

theorem State.dueInLoads_charge (s : State) : s.dueInLoads.charge = s.charge := by
  have hminOff : ∀ u : State, u.minOffAtSecond.charge = u.charge := fun u => by
    unfold State.minOffAtSecond
    split <;> simp
  simp [State.dueInLoads, hminOff]

/-- What falls due within a second moves the charge account only at a minute's end. -/
theorem State.takeDue_charge (s : State) (minute : Bool) :
    (s.takeDue minute).charge = if minute then s.charge.minute else s.charge := by
  obtain ⟨u, hu⟩ : ∃ u : State, u = if minute then s.countdownZero.minuteExpiry else s.countdownZero := ⟨_, rfl⟩
  have hminute : u.charge = if minute then s.charge.minute else s.charge := by
    rw [hu]
    split
    · simp [State.minuteExpiry, State.chargeAttention]
    · simp
  simp only [State.takeDue, State.testDrivers]
  rw [← hu, ← hminute, State.outOfReset]
  have hrest := State.forSlots_charge (f := State.takeRestDone) (by simp) u allSlots
  have hbreaks := fun v : State => State.forSlots_charge (f := State.testBreak) (by simp) v v.drivers
  have htests := fun v : State => State.forSlots_charge (f := State.testDriving) (by simp) v v.drivers
  split
  · rw [htests, hbreaks, hrest]
  · rw [State.dueInLoads_charge, htests, hbreaks, hrest]

/-- R32: a minute's end runs a pass, and so its minute is that of the last pass. -/
theorem State.takeDue_passMinute (hr : s.rst.asserted = false) :
    (s.takeDue true).alloc.passMinute = s.clock.minuteOn.minute := by
  obtain ⟨u, hu⟩ : ∃ u : State, u = s.countdownZero.minuteExpiry := ⟨_, rfl⟩
  have hpassed : u.alloc.passMinute = u.clock.minute := by
    rw [hu, State.minuteExpiry, State.pass_passMinute (by simpa [State.chargeAttention] using hr)]
    simp
  have hclock : u.clock = s.clock.minuteOn := by
    rw [hu, State.minuteExpiry_clock, (State.countdownZero_keeps s).1]
  have hrest : Runs .nop u true (u.forSlots State.takeRestDone allSlots) :=
    (Runs.start true).forSlots (fun i hv => hv.takeRestDone i) allSlots
  have hbreaks := (hrest.forSlots (f := State.testBreak) (fun i hv => hv.testBreak i)
    (u.forSlots State.takeRestDone allSlots).drivers).testDrivers
  have hall := (hbreaks.outOfReset fun _ => hbreaks.dueInLoads).passMinute hpassed
  rw [hclock, hu] at hall
  exact hall

/-! ### The two rows of the minute -/

theorem Clock.minuteOn_eq (k : Clock) :
    k.minuteOn = { k with minute := if k.minute = 4294967295 then 0 else k.minute + 1, prescaler := 0 } := rfl

/-- R26, R58, R61: a minute expiry. -/
theorem State.minuteExpiry_does {u : State} (hu : u = { s with clock := s.clock.minuteOn, charge := s.charge.minute }) :
    (s.rst.asserted = true → s.minuteExpiry = u) ∧
    (s.rst.asserted = false → u.thenPass [] s.minuteExpiry ∧
      (s.charge.synced = false ∨ s.charge.count ≤ s.charge.reserve →
        Notice.charge.inByte s.minuteExpiry.port.flags = true)) := by
  have hexpiry : s.minuteExpiry = u.chargeAttention.pass := by rw [hu]; rfl
  have hur : u.rst = s.rst := by rw [hu]
  rw [hexpiry]
  refine ⟨fun hr => ?_, fun hr => ?_⟩
  · have hquiet : u.chargeAttention = u := by
      rw [State.chargeAttention, u.noticeIf_eq]
      obtain ⟨-, ns, hport, hns⟩ := State.noticeIf_noticed u.charge.attention .charge (.refl u)
      rw [hport, hns (by rw [hur]; exact hr)]
      rfl
    rw [hquiet, State.pass_asserted (by rw [hur]; exact hr)]
  · have hnoticed : u.noticed u.chargeAttention := State.noticeIf_noticed u.charge.attention .charge (.refl u)
    have hflag : s.charge.synced = false ∨ s.charge.count ≤ s.charge.reserve →
        Notice.charge.inByte u.chargeAttention.port.flags = true := fun h => by
      have hattention : u.charge.attention = true := by
        rw [Charge.attention_iff, hu]
        exact h
      rw [State.chargeAttention, State.noticeIf_inByte, hattention, hur, hr]
      simp
    have hpassed := State.thenPass_of (work := u) (v := u.chargeAttention) (moved := [])
      (by rw [State.chargeAttention, u.noticeIf_eq]) (by simpa [State.chargeAttention, hur] using hr) hnoticed.flagsKept
      (State.listKept_refl [] (by simp [State.chargeAttention]) (by simp [State.chargeAttention]) fun hd => ?_)
    · refine ⟨hpassed, fun h => ?_⟩
      have hr' : u.chargeAttention.rst.asserted = false := by simpa [State.chargeAttention, hur] using hr
      exact (State.pass_spec u.chargeAttention hr').flag (hflag h)
    · refine State.sameList.dueSettled (s := u) (.of_port ?_ hnoticed.flagsKept) hd
      rw [State.chargeAttention, u.noticeIf_eq]

/-- R26: a whole second. -/
theorem wholeSecond_does (s : State) :
    ∃ t, exec (.timebaseSecond true) s = .next t ∧
      (59 ≤ s.clock.prescaler →
        t.clock = s.clock.minuteOn ∧ t.charge = s.charge.minute ∧
        (s.rst.asserted = false → t.alloc.passMinute = s.clock.minuteOn.minute)) ∧
      (s.clock.prescaler < 59 →
        t.clock = { s.clock with prescaler := s.clock.prescaler + 1 } ∧ t.charge = s.charge) := by
  obtain ⟨v, hv⟩ : ∃ v, v = s.secondHeldOut.outOfReset State.secondLoads := ⟨_, rfl⟩
  have hclock : v.clock = s.clock.second := by rw [hv, State.secondEnd_clock]
  have hcharge : v.charge = s.charge := by
    rw [hv, State.outOfReset]
    split
    · rfl
    · simp [State.secondLoads, State.secondHeldOut]
  have hreset : v.rst.asserted = s.rst.asserted := by
    rw [hv, State.outOfReset]
    split
    · rfl
    · simp [State.secondLoads, State.secondHeldOut]
  have hon : v.clock.minuteOn = s.clock.minuteOn := by rw [hclock]; rfl
  refine ⟨v.takeDue (decide (59 ≤ s.clock.prescaler)), by rw [hv]; rfl, fun h => ?_, fun h => ?_⟩
  · rw [decide_eq_true h]
    refine ⟨?_, ?_, fun hr => ?_⟩
    · rw [State.takeDue_clock, if_pos rfl, hon]
    · rw [State.takeDue_charge, if_pos rfl, hcharge]
    · rw [State.takeDue_passMinute (hreset.trans hr), hon]
  · rw [decide_eq_false (Nat.not_le.mpr h), State.takeDue_clock, State.takeDue_charge, if_neg Bool.false_ne_true,
      if_neg Bool.false_ne_true, hclock, Clock.second, if_neg (Nat.not_le.mpr h)]
    exact ⟨rfl, hcharge⟩

end

end Sys2Proof.Machine
end

section
/-! PROOF. O31: a second taken bare. -/
namespace Sys2Proof.Machine

section
variable {s t u : State} {σ : (Entry → Bool) → Prop} {moved : List (Source × WarnType)} {i : Slot} {a : Account}

/-! ### The driving warnings of several accounts tested in turn -/

theorem State.forSlots_testDriving_noticed (u : State) (is : List Slot) : u.noticed (u.forSlots State.testDriving is) := by
  induction is generalizing u with
  | nil => exact .refl u
  | cons i is ih => exact (State.testDriving_noticed i (.refl u)).trans (ih _)

theorem State.forSlots_testDriving_only (u : State) (is : List Slot) :
    u.forSlots State.testDriving is =
      { u with
        warn := (u.forSlots State.testDriving is).warn
        timers := { u.timers with t7 := (u.forSlots State.testDriving is).timers.t7 }
        port := (u.forSlots State.testDriving is).port, rst := (u.forSlots State.testDriving is).rst } := by
  induction is generalizing u with
  | nil => rfl
  | cons i is ih =>
    have hfirst : u.testDriving i =
        { u with
          warn := (u.testDriving i).warn, timers := { u.timers with t7 := (u.testDriving i).timers.t7 }
          port := (u.testDriving i).port, rst := (u.testDriving i).rst } := by
      apply State.ext <;> simp
      apply Timers.ext <;> simp
    have hrest := ih (u.testDriving i)
    have hcons : u.forSlots State.testDriving (i :: is) = (u.testDriving i).forSlots State.testDriving is := rfl
    rw [hcons]
    generalize (u.testDriving i).forSlots State.testDriving is = w at hrest
    rw [hfirst] at hrest
    exact hrest

theorem State.forSlots_testDriving_rst (hr : u.rst.asserted = false) (is : List Slot) :
    (u.forSlots State.testDriving is).rst = u.rst := by
  induction is generalizing u with
  | nil => rfl
  | cons i is ih =>
    have hfirst := State.testDriving_rst hr i
    exact (ih (by rw [hfirst]; exact hr)).trans hfirst

theorem State.listWorked.forSlots_testDriving (h : s.listWorked σ moved u) (hf : σ u.suppressed) {is : List Slot}
    (hm : ∀ i ∈ is, ∀ p ∈ drivingPairs i, p ∈ moved) (hl : is ≠ [] → 1 < moved.length) :
    s.listWorked σ moved (u.forSlots State.testDriving is) := by
  induction is generalizing u with
  | nil => exact h
  | cons i is ih =>
    have hlen := hl (by simp)
    exact ih (h.testDriving hf (hm i List.mem_cons_self) hlen) (by rw [State.testDriving_suppressed]; exact hf)
      (fun j hj => hm j (List.mem_cons_of_mem i hj)) fun _ => hlen

theorem State.forSlots_testDriving_pair (hr : u.rst.asserted = false) {is : List Slot} {y : Source} {z : WarnType}
    (h : ∀ i ∈ is, (y, z) ∉ drivingPairs i) :
    hasPair y z (u.forSlots State.testDriving is).warn.entries = hasPair y z u.warn.entries := by
  induction is generalizing u with
  | nil => rfl
  | cons i is ih =>
    have hfirst := State.testDriving_pair hr (h i List.mem_cons_self)
    exact (ih (by rw [State.testDriving_rst hr i]; exact hr) fun j hj => h j (List.mem_cons_of_mem i hj)).trans hfirst

/-- R86: each account tested has the driving warnings that its figures give. -/
theorem State.forSlots_testDriving_worked (hr : u.rst.asserted = false) (hh : u.rst.heldWarnings = []) {is : List Slot}
    (hi : i ∈ is) (ha : u.account i = some a) : (u.forSlots State.testDriving is).warn.drivingWorked i a := by
  induction is generalizing u with
  | nil => cases hi
  | cons j is ih =>
    have hrst := State.testDriving_rst hr j
    have hr' : (u.testDriving j).rst.asserted = false := by rw [hrst]; exact hr
    by_cases hin : i ∈ is
    · exact ih hr' (by rw [hrst]; exact hh) hin (by rw [State.account_of (s := u) (by simp)]; exact ha)
    · obtain rfl : i = j := (List.mem_cons.mp hi).resolve_right hin
      have hworked := State.testDriving_worked hr hh ha
      have hsame : ∀ z, hasPair (.slot i) z ((u.testDriving i).forSlots State.testDriving is).warn.entries =
          hasPair (.slot i) z (u.testDriving i).warn.entries := fun z =>
        State.forSlots_testDriving_pair hr' fun j hj hmem => by
          have hne : i ≠ j := fun h => hin (h ▸ hj)
          simp [drivingPairs, hne] at hmem
      unfold Warn.drivingWorked at hworked ⊢
      change (hasPair (.slot i) .driveNear ((u.testDriving i).forSlots State.testDriving is).warn.entries = true ↔ _) ∧
        (hasPair (.slot i) .driveOver ((u.testDriving i).forSlots State.testDriving is).warn.entries = true ↔ _) ∧
        (hasPair (.slot i) .dailyOver ((u.testDriving i).forSlots State.testDriving is).warn.entries = true ↔ _)
      rw [hsame, hsame, hsame]
      exact hworked

/-! ### The same while RESET is asserted -/

theorem handedPresence_other {x : Source} {w : WarnType} {c : Bool} {ks : List Handed}
    (h : ∀ k ∈ ks, k ≠ .raise x w ∧ k ≠ .remove x w) : handedPresence x w c ks = c := by
  induction ks generalizing c with
  | nil => rfl
  | cons k ks ih =>
    have hfirst := h k List.mem_cons_self
    have hrest := fun c => ih (c := c) fun k' hk => h k' (List.mem_cons_of_mem k hk)
    cases k with
    | raise y z =>
      have hno : (decide (y = x) && decide (z = w)) = false := by
        rw [Bool.and_eq_false_iff, decide_eq_false_iff_not, decide_eq_false_iff_not, ← not_and_or]
        rintro ⟨rfl, rfl⟩
        exact hfirst.1 rfl
      rw [handedPresence, hno, Bool.or_false, hrest]
    | remove y z =>
      have hno : (decide (y = x) && decide (z = w)) = false := by
        rw [Bool.and_eq_false_iff, decide_eq_false_iff_not, decide_eq_false_iff_not, ← not_and_or]
        rintro ⟨rfl, rfl⟩
        exact hfirst.2 rfl
      rw [handedPresence, hno, Bool.not_false, Bool.and_true, hrest]

/-- R101, R116: the raises and removals of the tests are held, and count in what is listed. -/
theorem State.forSlots_testDriving_asserted (hr : u.rst.asserted = true) (is : List Slot) :
    ∃ tests : List Handed,
      (∀ h ∈ tests, ∃ i ∈ is, ∃ w ∈ [WarnType.driveNear, .driveOver, .dailyOver],
        h = .raise (.slot i) w ∨ h = .remove (.slot i) w) ∧
      u.forSlots State.testDriving is = { u with rst := { u.rst with heldWarnings := u.rst.heldWarnings ++ tests } } ∧
      ∀ i ∈ is, ∀ a, u.account i = some a → (u.forSlots State.testDriving is).drivingTested i a := by
  induction is generalizing u with
  | nil => exact ⟨[], nofun, by rw [List.append_nil]; rfl, nofun⟩
  | cons j is ih =>
    obtain ⟨first, hfirst, heq, htested⟩ : ∃ first : List Handed,
        (∀ h ∈ first, ∃ w ∈ [WarnType.driveNear, .driveOver, .dailyOver], h = .raise (.slot j) w ∨ h = .remove (.slot j) w) ∧
        u.testDriving j = { u with rst := { u.rst with heldWarnings := u.rst.heldWarnings ++ first } } ∧
        ∀ a, u.account j = some a → (u.testDriving j).drivingTested j a := by
      cases ha : u.account j with
      | none => exact ⟨[], nofun, by rw [List.append_nil, State.testDriving, ha], nofun⟩
      | some a =>
        obtain ⟨first, h1, h2, h3⟩ := State.testDriving_asserted hr ha
        exact ⟨first, h1, h2, fun b hb => Option.some.inj hb ▸ h3⟩
    obtain ⟨rest, hrest, heq', htested'⟩ := ih (u := u.testDriving j) (by rw [heq]; exact hr)
    refine ⟨first ++ rest, fun h hh => ?_, ?_, fun i hi a ha => ?_⟩
    · obtain hh | hh := List.mem_append.mp hh
      · exact ⟨j, List.mem_cons_self, hfirst h hh⟩
      · obtain ⟨i, hi, hw⟩ := hrest h hh
        exact ⟨i, List.mem_cons_of_mem j hi, hw⟩
    · refine heq'.trans ?_
      rw [heq]
      simp only [List.append_assoc]
    · by_cases hin : i ∈ is
      · exact htested' i hin a (by rw [State.account_of (s := u) (by simp)]; exact ha)
      · obtain rfl : i = j := (List.mem_cons.mp hi).resolve_right hin
        have hsame : ∀ z, ((u.testDriving i).forSlots State.testDriving is).listed (.slot i) z =
            (u.testDriving i).listed (.slot i) z := fun z => by
          rw [heq']
          simp only [State.listed]
          rw [handedPresence_appends]
          refine handedPresence_other fun k hk => ?_
          obtain ⟨j, hj, w, -, hw⟩ := hrest k hk
          have hne : j ≠ i := fun h => hin (h ▸ hj)
          obtain rfl | rfl := hw <;> simp [hne]
        have hdone := htested a ha
        unfold State.drivingTested at hdone ⊢
        change (((u.testDriving i).forSlots State.testDriving is).listed (.slot i) .driveNear = true ↔ _) ∧
          (((u.testDriving i).forSlots State.testDriving is).listed (.slot i) .driveOver = true ↔ _) ∧
          (((u.testDriving i).forSlots State.testDriving is).listed (.slot i) .dailyOver = true ↔ _)
        rw [hsame, hsame, hsame]
        exact hdone

/-! ### What a second advances -/

theorem Entry.second_counted : Entry.second = Entry.counted := by
  funext e
  obtain ⟨src, type, raised, state, due, bursts, falling⟩ := e
  cases state <;> simp [Entry.second, Entry.counted]

theorem Account.second_eq (m : Motion) (a : Account) :
    a.second m =
      { a with
        segSeconds := if a.state = .resting then gain 16777215 a.segSeconds else a.segSeconds
        contSeconds := if a.state = .driving ∧ m = .moving then gain 16777215 a.contSeconds else a.contSeconds
        dailySeconds := if a.state = .driving ∧ m = .moving then gain 16777215 a.dailySeconds else a.dailySeconds
        breakSeconds :=
          if a.state = .driving then (if m = .moving then 0 else gain 16777215 a.breakSeconds)
          else a.breakSeconds } := by
  obtain ⟨tag, bunk, state, settings, staged, seg, last, accumulated, rested, cont, brk, daily, start, done⟩ := a
  cases state with
  | idle => simp [Account.second]
  | restWait => simp [Account.second]
  | resting => simp [Account.second]
  | driving => by_cases hm : m = .moving <;> simp [Account.second, hm]

theorem Account.second_hushes (m : Motion) (a : Account) : (a.second m).hushes = a.hushes := by
  rw [Account.second_eq]
  rfl

theorem Fridge.second_eq (f : Fridge) :
    f.second =
      { f with
        offSeconds := if f.state.turning then f.offSeconds else gain 65535 f.offSeconds
        onSeconds := f.onSeconds.map (gain 65535)
        runSeconds := f.runSeconds.map (gain 1800)
        warmRun := f.warmRun.map (gain 1200) } := by
  simp [Fridge.second, FridgeState.turning]

theorem Entry.counted_pair (e : Entry) : e.counted.source = e.source ∧ e.counted.type = e.type := by
  rw [← Entry.second_counted]
  unfold Entry.second
  split <;> exact ⟨rfl, rfl⟩

/-- R109: an entry that is due already stays as it is. -/
theorem Entry.counted_of_ready {e : Entry} (h : e.ready = true) : e.counted = e := by
  obtain ⟨hq, hd, hf⟩ := e.ready_iff.mp h
  obtain ⟨src, type, raised, state, due, bursts, falling⟩ := e
  subst hq hd hf
  rfl

/-- R109: no countdown alone makes an entry due, since one that runs out has still to fall due. -/
theorem Entry.counted_not_ready {e : Entry} (h : e.ready = false) : e.counted.ready = false := by
  obtain ⟨src, type, raised, state, bursts, due, falling⟩ := e
  cases state with
  | queued =>
    match due with
    | none => rfl
    | some 0 => simpa [Entry.ready, Entry.counted] using h
    | some 1 => simp [Entry.ready, Entry.counted]
    | some (n + 2) => simp [Entry.ready, Entry.counted]
  | presenting => rfl
  | lampOnly => rfl
  | silenced => rfl

theorem Entry.silent_bursts (e : Entry) : e.silent.bursts = gain 65535 e.bursts := by
  unfold Entry.silent
  split
  · split <;> rfl
  · rfl

end

end Sys2Proof.Machine
end

section
/-! PROOF. O31: a second taken bare, and the row. -/
namespace Sys2Proof.Machine

section
variable {s t v : State} {i : Slot} {a : Account}

/-! ### The state at the end of the second, before the driving warnings are tested -/

/-- A second as it advances the counts, with no warning tested yet. -/
def State.counted (s : State) : State := s.secondHeldOut.outOfReset State.secondLoads

theorem State.counted_asserted (hr : s.rst.asserted = true) : s.counted = s.secondHeldOut := by
  rw [State.counted, State.outOfReset, if_pos (by exact hr)]

theorem State.counted_attends (hr : s.rst.asserted = false) :
    s.counted =
      State.fridgeAttention
        { s with
          clock := s.clock.second, accounts := s.accounts.mapSome (Account.second s.sense.motion)
          warn := { s.warn with entries := s.warn.entries.map Entry.counted }
          heater := s.heater.second, fridge := s.fridge.second } := by
  rw [← Entry.second_counted, State.counted, State.outOfReset, if_neg (by exact Bool.not_eq_true _ ▸ hr)]
  rfl

/-- R175: a second in FAULT. -/
theorem State.counted_fault (hr : s.rst.asserted = false) (hf : s.fridge.state = .fault) :
    Notice.fridge.inByte s.counted.port.flags = true := by
  have hstate : s.fridge.second.state = .fault := hf
  rw [State.counted_attends hr, State.fridgeAttention, State.noticeIf_inByte]
  simp [hr, hstate]

theorem State.counted_released (hr : s.rst.asserted = false) :
    s.counted =
      { s with
        clock := s.clock.second, accounts := s.accounts.mapSome (Account.second s.sense.motion)
        warn := { s.warn with entries := s.warn.entries.map Entry.counted }
        heater := s.heater.second, fridge := s.fridge.second, port := s.counted.port } := by
  have h := State.counted_attends hr
  rw [h, State.fridgeAttention, State.noticeIf_eq]

theorem State.counted_noticed (s : State) : s.noticed s.counted := by
  rw [State.counted, State.outOfReset]
  split
  · exact (State.noticed.refl s).congr rfl rfl
  · exact State.noticeIf_noticed _ _ ((State.noticed.refl s).congr rfl rfl)

theorem State.counted_account (s : State) (i : Slot) : s.counted.account i = (s.account i).map (Account.second s.sense.motion) := by
  have h : s.counted.accounts = s.accounts.mapSome (Account.second s.sense.motion) := by
    rw [State.counted, State.outOfReset]
    split
    · rfl
    · simp [State.secondLoads, State.secondHeldOut]
  rw [State.account, h, PerSlot.get_mapSome]
  rfl

theorem State.mem_drivers : i ∈ s.drivers ↔ ∃ a, s.account i = some a ∧ a.state = .driving := by
  simp [State.drivers, State.mem_slotsWhere]

theorem State.mem_counted_drivers : i ∈ s.counted.drivers ↔ ∃ a, s.account i = some a ∧ a.state = .driving := by
  rw [State.mem_drivers, State.counted_account]
  simp [Account.second_state]

theorem State.counted_suppressed (hr : s.rst.asserted = false) : s.counted.suppressed = s.suppressed := by
  refine State.suppressed_of s.counted_noticed.flagsKept.1 (by rw [State.counted_released hr]) fun j => ?_
  rw [State.counted_account]
  cases s.account j with
  | none => rfl
  | some a => exact Account.second_hushes _ a

/-! ### The list within the second -/

/-- The list of the second, once its countdowns have run. -/
def State.countdowns (s : State) : State := { s with warn := { s.warn with entries := s.warn.entries.map Entry.counted } }

/-- What has moved of a state neither its list nor what a test looks at, is worked as that state is. -/
theorem State.listWorked.start {σ : (Entry → Bool) → Prop} {moved : List (Source × WarnType)}
    (hr : v.rst.asserted = false) (minute : v.clock.minute = s.clock.minute) (mode : v.port.mode = s.port.mode)
    (warn : v.warn = s.warn) (t7 : v.timers.t7 = s.timers.t7) (hsup : v.suppressed = s.suppressed) :
    s.listWorked σ moved v := by
  refine ⟨False, ?_, False.elim, fun hd e he hre => ?_⟩
  · exact
      { released := hr, minute := minute, mode := mode
        others := fun _ _ _ => by rw [warn]
        dates := fun x hx => .inl ⟨x, warn ▸ hx, rfl, rfl, rfl⟩
        lamp := .inr (by rw [warn]; exact ⟨rfl, rfl, fun _ _ => rfl⟩)
        each := fun hd =>
          { distinct := by rw [warn]; exact hd
            origin := fun x hx => .inl ⟨x, warn ▸ hx, .inl rfl⟩
            place := fun e he _ => ⟨e, warn ▸ he, .inl rfl⟩
            sounding := fun _ _ _ _ _ _ => ⟨.inl (by rw [warn]), t7⟩
            idle := fun h => .inl ⟨by rw [warn]; exact h, t7⟩ } }
  · rw [warn] at he
    obtain ⟨h1, h2⟩ := hd e he hre
    rw [hsup, warn, mode]
    exact ⟨h1, h2⟩

theorem State.testDrivers_listKept (hr : s.rst.asserted = false) {moved : List (Source × WarnType)}
    (hm : ∀ i ∈ s.counted.drivers, ∀ p ∈ drivingPairs i, p ∈ moved) (hl : s.counted.drivers ≠ [] → 1 < moved.length) :
    s.countdowns.listKept moved s.counted.testDrivers := by
  have hsup : s.counted.suppressed = s.countdowns.suppressed := State.counted_suppressed hr
  have hstart : s.countdowns.listWorked (· = s.countdowns.suppressed) moved s.counted := by
    refine .start (s.counted_noticed.1.trans hr) ?_ s.counted_noticed.flagsKept.1 ?_ ?_ hsup
    all_goals rw [State.counted_released hr]
    · rfl
    · rfl
    · rfl
  exact (hstart.forSlots_testDriving hsup hm hl).listKept fun _ hf => .inl hf

theorem State.testDrivers_only :
    v.testDrivers =
      { v with
        warn := v.testDrivers.warn, timers := { v.timers with t7 := v.testDrivers.timers.t7 }
        port := v.testDrivers.port, rst := v.testDrivers.rst } := State.forSlots_testDriving_only v v.drivers

theorem State.testDrivers_suppressed (hr : s.rst.asserted = false) : s.counted.testDrivers.suppressed = s.suppressed := by
  have hmode : s.counted.testDrivers.port.mode = s.counted.port.mode :=
    (State.forSlots_testDriving_noticed s.counted s.counted.drivers).flagsKept.1
  rw [← State.counted_suppressed hr]
  exact State.suppressed_eq hmode (by rw [State.testDrivers_only]) (by rw [State.testDrivers_only])

/-- R109: an entry that no driving warning of the second bears on has its countdown run; a due one may be taken by the
chime, or be counted in silence. -/
theorem State.testDrivers_entry (hr : s.rst.asserted = false) (hw : WarnLaw s) {e : Entry} (he : e ∈ s.warn.entries)
    (hother : ∀ i, e.source = .slot i → ∀ a, s.account i = some a → a.state = .driving →
      e.type = .restDone ∨ e.type = .restShort) :
    (e.ready = false → e.counted ∈ s.counted.testDrivers.warn.entries) ∧
    (e.ready = true →
      e.counted ∈ s.counted.testDrivers.warn.entries ∨
        { e with state := .presenting, due := e.type.interval } ∈ s.counted.testDrivers.warn.entries ∨
        (s.suppressed e = true ∧ ∃ x ∈ s.counted.testDrivers.warn.entries, x.source = e.source ∧ x.type = e.type ∧
          x.raisedAt = e.raisedAt ∧ x.bursts = gain 65535 e.bursts)) := by
  obtain ⟨moved, hmoved⟩ : ∃ moved, moved = s.counted.drivers.flatMap drivingPairs := ⟨_, rfl⟩
  have hpairs : ∀ i ∈ s.counted.drivers, ∀ p ∈ drivingPairs i, p ∈ moved := fun i hi p hp => by
    rw [hmoved]
    exact List.mem_flatMap.mpr ⟨i, hi, hp⟩
  have hlen : s.counted.drivers ≠ [] → 1 < moved.length := fun h => by
    rw [hmoved]
    cases hd : s.counted.drivers with
    | nil => exact absurd hd h
    | cons i is => simp [drivingPairs]
  have hout : (e.counted.source, e.counted.type) ∉ moved := fun hmem => by
    rw [hmoved, (Entry.counted_pair e).1, (Entry.counted_pair e).2] at hmem
    obtain ⟨i, hi, hp⟩ := List.mem_flatMap.mp hmem
    obtain ⟨a, ha, hdriving⟩ := State.mem_counted_drivers.mp hi
    simp only [drivingPairs, List.mem_cons, Prod.mk.injEq, List.not_mem_nil, or_false] at hp
    have hsource : e.source = .slot i := hp.elim And.left fun h => h.elim And.left And.left
    obtain hty | hty := hother i hsource a ha hdriving <;> simp [hty] at hp
  obtain ⟨-, -, heach, -⟩ := State.testDrivers_listKept hr hpairs hlen
  have hdist : PairsDistinct s.countdowns.warn.entries := by
    have h : PairsDistinct s.warn.entries := hw.1.imp fun hlt hp => by
      rw [hp.1, hp.2] at hlt
      exact absurd hlt (Nat.lt_irrefl _)
    exact h.map Entry.counted_pair
  obtain ⟨-, hplace, -⟩ := heach hdist
  obtain ⟨x, hx, hhandled⟩ := hplace e.counted (List.mem_map_of_mem he) (.inl hout)
  refine ⟨fun hready => ?_, fun hready => ?_⟩
  · have hno := Entry.counted_not_ready hready
    obtain rfl | ⟨h, -⟩ | ⟨h, -⟩ := hhandled
    · exact hx
    · rw [hno] at h; cases h
    · rw [hno] at h; cases h
  · rw [Entry.counted_of_ready hready] at hhandled ⊢
    obtain ⟨-, -, hfall⟩ := e.ready_iff.mp hready
    obtain rfl | ⟨-, rfl, htests⟩ | ⟨-, rfl, -⟩ := hhandled
    · exact .inl hx
    · refine .inr (.inr ⟨?_, _, hx, e.silent_pair.1, e.silent_pair.2, e.silent_raisedAt, e.silent_bursts⟩)
      have hsame := State.testDrivers_suppressed hr
      have hquiet : s.counted.testDrivers.quiet = s.quiet := by
        rw [State.testDrivers_only, State.counted_released hr]
      obtain h | h | h := htests
      · exact h
      · rw [← hsame, ← State.suppressed_eq (s := s.counted.testDrivers) (t := { s.counted.testDrivers with quiet := s.quiet })
          rfl hquiet.symm rfl]
        exact h
      · rw [hsame] at h
        exact h
    · refine .inr (.inl ?_)
      have htaken : e.taken = { e with state := .presenting, due := e.type.interval } := by
        rw [Entry.taken, ← hfall]
      rw [← htaken]
      exact hx

/-! ### O31 -/

theorem State.testDrivers_worked (hr : s.rst.asserted = false) (hh : HeldLaw s)
    (ha : s.counted.testDrivers.account i = some a) (hd : a.state = .driving) :
    s.counted.testDrivers.warn.drivingWorked i a := by
  have ha' : s.counted.account i = some a := by
    rw [State.account_of (s := s.counted) (by rw [State.testDrivers_only])] at ha
    exact ha
  refine State.forSlots_testDriving_worked (s.counted_noticed.1.trans hr) ?_ (State.mem_drivers.mpr ⟨a, ha', hd⟩) ha'
  rw [State.counted_released hr]
  exact (hh hr).1

/-- Settles O31. -/
theorem secondsAndMinutesAdvance : Obligations.SecondsAndMinutesAdvance := by
  unfold Obligations.SecondsAndMinutesAdvance
  refine ⟨fun s => ⟨s.counted.testDrivers, rfl, ?_, ?_, ?_, ?_, ?_, ?_, fun hr => ?_, fun hr => ?_⟩, fun s m hm => ?_⟩
  · rw [State.testDrivers_only]
    exact s.secondEnd_clock
  · intro i
    rw [State.account_of (s := s.counted) (by rw [State.testDrivers_only]), State.counted_account]
    refine congrArg (fun f => (s.account i).map f) (funext fun a => ?_)
    exact Account.second_eq s.sense.motion a
  · rw [State.testDrivers_only]
    cases hr : s.rst.asserted with
    | true =>
      rw [State.counted_asserted hr]
      rfl
    | false =>
      rw [State.counted_released hr]
      rfl
  · rw [State.testDrivers_only]
    cases hr : s.rst.asserted with
    | true =>
      rw [State.counted_asserted hr]
      rfl
    | false =>
      rw [State.counted_released hr]
      exact s.fridge.second_eq
  · have honly := State.testDrivers_only (v := s.counted)
    generalize s.counted.testDrivers = t at honly
    cases hr : s.rst.asserted with
    | true =>
      rw [State.counted_asserted hr] at honly
      rw [honly]
      rfl
    | false =>
      rw [State.counted_released hr] at honly
      rw [honly]
  · exact (s.counted_noticed.trans (State.forSlots_testDriving_noticed s.counted s.counted.drivers)).flagsKept
  · have hcr : s.counted.rst.asserted = true := s.counted_noticed.1.trans hr
    obtain ⟨tests, hmem, heq, htested⟩ := State.forSlots_testDriving_asserted hcr s.counted.drivers
    change s.counted.testDrivers = _ at heq
    refine ⟨?_, ?_, ?_, fun i a ha hd => ?_, tests, fun h hh => ?_, ?_⟩
    · rw [heq, State.counted_asserted hr]
      rfl
    · rw [heq, State.counted_asserted hr]
      rfl
    · rw [heq, State.counted_asserted hr]
      rfl
    · have ha' : s.counted.account i = some a := by
        rw [State.account_of (s := s.counted) (by rw [State.testDrivers_only])] at ha
        exact ha
      exact htested i (State.mem_drivers.mpr ⟨a, ha', hd⟩) a ha'
    · obtain ⟨i, hi, hw⟩ := hmem h hh
      obtain ⟨a, ha, hd⟩ := State.mem_counted_drivers.mp hi
      exact ⟨i, a, ha, hd, hw⟩
    · rw [heq, State.counted_asserted hr]
      rfl
  · refine ⟨?_, State.testDrivers_listKept hr (fun i _ p hp => List.mem_flatMap.mpr ⟨i, mem_allSlots i, hp⟩)
      (fun _ => by decide), fun hf => ?_, fun hno => ?_, fun hw e he hother => State.testDrivers_entry hr hw he hother,
      fun hh i a ha hd => State.testDrivers_worked hr hh ha hd⟩
    · refine (State.forSlots_testDriving_rst (s.counted_noticed.1.trans hr) s.counted.drivers).trans ?_
      rw [State.counted_released hr]
    · refine (State.forSlots_testDriving_noticed s.counted s.counted.drivers).flagsKept.flag .fridge ?_
      exact State.counted_fault hr hf
    · have hnone : s.counted.drivers = [] := List.eq_nil_iff_forall_not_mem.mpr fun i hi => by
        obtain ⟨a, ha, hd⟩ := State.mem_counted_drivers.mp hi
        exact hno i a ha hd
      have hsame : s.counted.testDrivers = s.counted := by
        rw [State.testDrivers, hnone]
        rfl
      rw [hsame, State.counted_released hr]
      exact ⟨rfl, rfl⟩
  · obtain rfl : m = s.clock.minuteOn.minute := hm
    refine ⟨fun u hu => ?_, wholeSecond_does s⟩
    obtain ⟨h1, h2⟩ := State.minuteExpiry_does hu
    exact ⟨fun hr => congrArg Host.Outcome.next (h1 hr), fun hr => ⟨_, rfl, h2 hr⟩⟩

end

end Sys2Proof.Machine
end

section
/-! PROOF. O53: the warning list as the raises and removals held for the end of a reset leave it (R116). -/
namespace Sys2Proof.Machine

section
variable {s t u : State} {x : Source} {w : WarnType} {e : Entry} {hs : List Handed}

/-! ### The lamp under a chain of changes -/

/-- R110: a lamp that flashes goes on in its phase or begins lit. -/
def Warn.lampFollows (w v : Warn) : Prop :=
  v.lamp = .flashing → v.lampOn = true ∨ (w.lamp = .flashing ∧ v.lampOn = w.lampOn)

theorem Warn.lampFollows.refl (w : Warn) : w.lampFollows w := fun h => .inr ⟨h, rfl⟩

theorem Warn.lampWorked.follows {w v : Warn} (h : w.lampWorked v) : w.lampFollows v := by
  obtain ⟨-, -, -, h4⟩ := h
  exact h4

theorem Warn.lampFollows.trans {w v z : Warn} (h : w.lampFollows v) (k : v.lampFollows z) : w.lampFollows z := fun hz => by
  obtain hon | ⟨hv, hon⟩ := k hz
  · exact .inl hon
  · rw [hon]
    exact h hv

theorem Warn.lampWorked.trans {w v z : Warn} (h : w.lampFollows v) (k : v.lampWorked z) : w.lampWorked z := by
  have hfollows := h.trans k.follows
  obtain ⟨k1, k2, k3, -⟩ := k
  exact ⟨k1, k2, k3, hfollows⟩

/-! ### Pairs -/

theorem PairsDistinct.insertEntry {es : List Entry} (h : PairsDistinct es) (hn : hasPair e.source e.type es = false) :
    PairsDistinct (insertEntry e es) := by
  refine (insertEntry_perm e es).symm.pairwise (List.pairwise_cons.mpr ⟨fun y hy hp => ?_, h⟩) ?_
  · rw [Bool.eq_false_iff, Ne, hasPair_iff] at hn
    exact hn ⟨y, hy, hp.1.symm, hp.2.symm⟩
  · exact fun hab hba => hab ⟨hba.1.symm, hba.2.symm⟩

theorem State.addEntry_entries (hn : hasPair x w s.warn.entries = false) :
    (s.addEntry x w).warn.entries = insertEntry (.atRaise x w s.clock.minute) s.warn.entries := by
  rw [State.addEntry_eq hn]
  simp [State.setWarn, Warn.raised, Warn.workLamp]

/-- R116: what one held raise or removal does to the list. -/
theorem State.handed_cases (s : State) (h : Handed) :
    ((s.applyHeld [h]).warn = s.warn ∧ (s.applyHeld [h]).port = s.port) ∨
    (∃ x w, h = .raise x w ∧ hasPair x w s.warn.entries = false ∧
      (s.applyHeld [h]).warn = s.warn.raised x w s.clock.minute) ∨
    (∃ x w, h = .remove x w ∧ (s.applyHeld [h]).warn = s.warn.dropped x w ∧ (s.applyHeld [h]).port = s.port) := by
  cases h with
  | raise x w =>
    cases hn : hasPair x w s.warn.entries with
    | true => exact .inl (by simp [State.applyHeld, State.addEntry_present hn])
    | false => exact .inr (.inl ⟨x, w, rfl, hn, by simp [State.applyHeld, State.addEntry_eq hn, State.setWarn]⟩)
  | remove x w =>
    cases hn : hasPair x w s.warn.entries with
    | false => exact .inl (by simp [State.applyHeld, State.dropEntry_absent hn])
    | true => exact .inr (.inr ⟨x, w, rfl, by simp [State.applyHeld, State.dropEntry_eq hn, State.setWarn]⟩)

theorem State.applyHeld_cons (s : State) (h : Handed) (hs : List Handed) :
    s.applyHeld (h :: hs) = (s.applyHeld [h]).applyHeld hs := by
  cases h <;> rfl

theorem State.applyHeld_clock (s : State) (hs : List Handed) : (s.applyHeld hs).clock = s.clock := by
  rw [State.applyHeld_only]

theorem hasPair_applyHeld (s : State) (hs : List Handed) (x : Source) (w : WarnType) :
    hasPair x w (s.applyHeld hs).warn.entries = handedPresence x w (hasPair x w s.warn.entries) hs := by
  induction hs generalizing s with
  | nil => rfl
  | cons h hs ih =>
    cases h with
    | raise y z =>
      rw [State.applyHeld, ih, handedPresence]
      congr 1
      rw [Bool.eq_iff_iff, hasPair_addEntry, Bool.or_eq_true, Bool.and_eq_true, decide_eq_true_iff, decide_eq_true_iff]
      exact or_congr_right (and_congr eq_comm eq_comm)
    | remove y z =>
      rw [State.applyHeld, ih, handedPresence]
      congr 1
      rw [Bool.eq_iff_iff, hasPair_dropEntry', Bool.and_eq_true, Bool.not_eq_true', Bool.and_eq_false_iff,
        decide_eq_false_iff_not, decide_eq_false_iff_not, ← not_and_or]
      exact and_congr_right' (not_congr (and_congr eq_comm eq_comm))

/-! ### The entries -/

theorem State.applyHeld_distinct (h : PairsDistinct s.warn.entries) : PairsDistinct (s.applyHeld hs).warn.entries := by
  induction hs generalizing s with
  | nil => exact h
  | cons k hs ih =>
    rw [State.applyHeld_cons]
    refine ih ?_
    obtain ⟨heq, -⟩ | ⟨x, w, -, hn, heq⟩ | ⟨x, w, -, heq, -⟩ := s.handed_cases k <;> rw [heq]
    · exact h
    · exact h.insertEntry hn
    · exact List.Pairwise.filter _ h

theorem State.applyHeld_flag {n : Notice} (h : n.inByte s.port.flags = true) :
    n.inByte (s.applyHeld hs).port.flags = true :=
  (State.applyHeld_noticed hs (.refl s)).flagsKept.flag n h

/-- An entry of the list at the end of a reset stood in it before, or is raised now. -/
theorem State.applyHeld_origin (hr : s.rst.asserted = false) (he : e ∈ (s.applyHeld hs).warn.entries) :
    e ∈ s.warn.entries ∨
    (e = .atRaise e.source e.type s.clock.minute ∧ Notice.warning.inByte (s.applyHeld hs).port.flags = true) := by
  induction hs generalizing s with
  | nil => exact .inl he
  | cons k hs ih =>
    rw [State.applyHeld_cons] at he ⊢
    have hclock := s.applyHeld_clock [k]
    obtain hmem | ⟨hnew, hflag⟩ := ih (by rw [State.applyHeld_rst]; exact hr) he
    · obtain ⟨heq, -⟩ | ⟨x, w, hk, hn, heq⟩ | ⟨x, w, -, heq, -⟩ := s.handed_cases k <;> rw [heq] at hmem
      · exact .inl hmem
      · obtain rfl | hmem := mem_insertEntry.mp hmem
        · refine .inr ⟨rfl, State.applyHeld_flag ?_⟩
          rw [hk, State.applyHeld, State.applyHeld, State.addEntry_eq hn, State.notice_inByte]
          simp [State.setWarn, hr]
        · exact .inl hmem
      · exact .inl (List.mem_filter.mp hmem).1
    · rw [hclock] at hnew
      exact .inr ⟨hnew, hflag⟩

theorem State.applyHeld_kept (he : e ∈ s.warn.entries) (hno : ∀ h ∈ hs, h ≠ .remove e.source e.type) :
    e ∈ (s.applyHeld hs).warn.entries := by
  induction hs generalizing s with
  | nil => exact he
  | cons k hs ih =>
    rw [State.applyHeld_cons]
    refine ih ?_ fun h hh => hno h (List.mem_cons_of_mem k hh)
    obtain ⟨heq, -⟩ | ⟨x, w, -, -, heq⟩ | ⟨x, w, hk, heq, -⟩ := s.handed_cases k <;> rw [heq]
    · exact he
    · exact mem_insertEntry.mpr (.inr he)
    · refine List.mem_filter.mpr ⟨he, ?_⟩
      rw [Bool.not_eq_true', Bool.and_eq_false_iff, decide_eq_false_iff_not, decide_eq_false_iff_not, ← not_and_or]
      rintro ⟨rfl, rfl⟩
      exact hno k List.mem_cons_self hk

theorem State.applyHeld_lamp (s : State) (hs : List Handed) : s.warn.lampFollows (s.applyHeld hs).warn := by
  induction hs generalizing s with
  | nil => exact .refl _
  | cons k hs ih =>
    rw [State.applyHeld_cons]
    refine Warn.lampFollows.trans ?_ (ih _)
    obtain ⟨heq, -⟩ | ⟨x, w, -, -, heq⟩ | ⟨x, w, -, heq, -⟩ := s.handed_cases k <;> rw [heq]
    · exact .refl _
    · exact (s.warn.workLamp_worked _ s.warn.chime).follows
    · exact (s.warn.workLamp_worked _ _).follows

theorem State.applyHeld_inByte (s : State) (hs : List Handed) {n : Notice} (hn : n ≠ .warning) :
    n.inByte (s.applyHeld hs).port.flags = n.inByte s.port.flags := by
  induction hs generalizing s with
  | nil => rfl
  | cons h hs ih =>
    cases h with
    | raise x w => exact (ih _).trans (State.addEntry_inByte s x w hn)
    | remove x w => exact (ih _).trans (by simp)

end

end Sys2Proof.Machine
end

section
/-! PROOF. O53: the presenter as it is released at the end of a reset (R101, R116). -/
namespace Sys2Proof.Machine

section
variable {s t u : State} {x e : Entry} {y : Source} {w : WarnType} {i : Slot} {a : Account}

/-- The state in which a reset's end has released the presenter, with what was held applied to the list. -/
def State.outReset (s : State) : State := s.testAllDriving.releasePresenter

/-- R109, R116: an entry that stands as its countdown was restarted, or that has been dealt with since. -/
def Entry.fresh (e : Entry) : Prop :=
  e.state = .queued → e.due = (if e.bursts = 0 then some 0 else e.type.interval) ∧ e.falling = false

theorem Entry.restart_fresh (e : Entry) : e.restart.fresh := by
  intro hq
  have hs : e.state = .queued := e.restart_pair.2.2 ▸ hq
  rw [Entry.restart, if_pos hs]
  exact ⟨rfl, rfl⟩

theorem Entry.restart_eq (e : Entry) :
    e.restart =
      if e.state = .queued then
        { e with due := if e.bursts = 0 then some 0 else e.type.interval, falling := false }
      else e := rfl

theorem Entry.atRaise_restart (y : Source) (w : WarnType) (now : Nat) :
    (Entry.atRaise y w now).restart = Entry.atRaise y w now := rfl

/-! ### What the release takes from the state it finds -/

theorem State.testAllDriving_eq (s : State) : s.testAllDriving = s.forSlots State.testDriving allSlots := rfl

section
variable (hr : s.rst.asserted = true)
include hr

/-- The raises and removals that the release applies: those held, and those of the tests that precede it. -/
theorem State.testAllDriving_held :
    ∃ tests : List Handed,
      (∀ h ∈ tests, ∃ i : Slot, ∃ w ∈ [WarnType.driveNear, .driveOver, .dailyOver],
        h = .raise (.slot i) w ∨ h = .remove (.slot i) w) ∧
      s.testAllDriving = { s with rst := { s.rst with heldWarnings := s.rst.heldWarnings ++ tests } } ∧
      ∀ i a, s.account i = some a → s.testAllDriving.drivingTested i a := by
  obtain ⟨tests, hmem, heq, htested⟩ := State.forSlots_testDriving_asserted hr allSlots
  refine ⟨tests, fun h hh => ?_, heq, fun i a ha => htested i (mem_allSlots i) a ha⟩
  obtain ⟨i, -, hw⟩ := hmem h hh
  exact ⟨i, hw⟩

theorem State.outReset_only :
    s.outReset =
      { s with
        warn := s.outReset.warn, port := s.outReset.port, rst := s.releaseReset.rst, sense := s.sense.endReset } := by
  obtain ⟨tests, -, heq, -⟩ := State.testAllDriving_held hr
  have honly : s.outReset =
      { s.testAllDriving with
        warn := s.outReset.warn, port := s.outReset.port, rst := s.testAllDriving.releaseReset.rst
        sense := s.testAllDriving.sense.endReset } := s.testAllDriving.releasePresenter_only
  generalize s.outReset = t at honly
  rw [heq] at honly
  exact honly

theorem State.outReset_noticed : s.releaseReset.noticed s.outReset := by
  obtain ⟨tests, -, heq, -⟩ := State.testAllDriving_held hr
  have hstart : s.releaseReset.noticed s.testAllDriving.releaseReset := by
    rw [heq]
    exact ⟨rfl, [], rfl, fun _ => rfl⟩
  exact (State.applyHeld_noticed s.testAllDriving.rst.heldWarnings hstart).congr rfl rfl

/-- The list before its countdowns are restarted. -/
theorem State.outReset_warn :
    ∃ tests : List Handed, ∃ v : State,
      (∀ h ∈ tests, ∃ i : Slot, ∃ w ∈ [WarnType.driveNear, .driveOver, .dailyOver],
        h = .raise (.slot i) w ∨ h = .remove (.slot i) w) ∧
      v = s.releaseReset.applyHeld (s.rst.heldWarnings ++ tests) ∧
      s.outReset.warn = ({ v.warn with entries := v.warn.entries.map Entry.restart } : Warn).workLamp ∧
      s.outReset.port = v.port ∧
      ∀ i a, s.account i = some a → ({ s with rst := { s.rst with heldWarnings := s.rst.heldWarnings ++ tests } } : State).drivingTested i a := by
  obtain ⟨tests, hmem, heq, htested⟩ := State.testAllDriving_held hr
  rw [heq] at htested
  refine ⟨tests, _, hmem, rfl, ?_, ?_, htested⟩
  · rw [State.outReset, heq]
    rfl
  · rw [State.outReset, heq]
    rfl

theorem State.outReset_pairs :
    (∀ y w, isDriving w = false → hasPair y w s.outReset.warn.entries =
      handedPresence y w (hasPair y w s.warn.entries) s.rst.heldWarnings) ∧
    ∀ i a, s.account i = some a → s.outReset.warn.drivingWorked i a := by
  obtain ⟨tests, v, hmem, hv, hwarn, -, htested⟩ := State.outReset_warn hr
  have hpair : ∀ y w, hasPair y w s.outReset.warn.entries =
      handedPresence y w (hasPair y w s.warn.entries) (s.rst.heldWarnings ++ tests) := fun y w => by
    rw [hwarn]
    have hmap : hasPair y w (v.warn.entries.map Entry.restart) = hasPair y w v.warn.entries :=
      hasPair_map (fun e => ⟨e.restart_pair.1, e.restart_pair.2.1⟩) _
    refine hmap.trans ?_
    rw [hv, hasPair_applyHeld]
    rfl
  refine ⟨fun y w hw => ?_, fun i a ha => ?_⟩
  · rw [hpair, handedPresence_appends]
    refine handedPresence_other fun h hh => ?_
    obtain ⟨i, z, hz, hcase⟩ := hmem h hh
    have hne : z ≠ w := by
      rintro rfl
      revert hz hw
      cases z <;> decide
    obtain rfl | rfl := hcase <;> simp [hne]
  · have h := htested i a ha
    unfold State.drivingTested at h
    unfold Warn.drivingWorked
    rw [hpair, hpair, hpair]
    exact h

theorem State.outReset_origin (hx : x ∈ s.outReset.warn.entries) :
    (∃ e ∈ s.warn.entries, x = e.restart) ∨
    (x = .atRaise x.source x.type s.clock.minute ∧ Notice.warning.inByte s.outReset.port.flags = true) := by
  obtain ⟨tests, v, -, hv, hwarn, hport, -⟩ := State.outReset_warn hr
  rw [hwarn] at hx
  obtain ⟨e, he, rfl⟩ := List.mem_map.mp hx
  rw [hv] at he
  obtain hold | ⟨hnew, hflag⟩ := State.applyHeld_origin rfl he
  · exact .inl ⟨e, hold, rfl⟩
  · rw [hport, hv]
    refine .inr ⟨?_, hflag⟩
    rw [e.restart_pair.1, e.restart_pair.2.1, hnew]
    rfl

theorem State.outReset_kept (he : e ∈ s.warn.entries) (hno : ∀ h ∈ s.rst.heldWarnings, h ≠ .remove e.source e.type)
    (hd : isDriving e.type = false) : e.restart ∈ s.outReset.warn.entries := by
  obtain ⟨tests, v, hmem, hv, hwarn, -, -⟩ := State.outReset_warn hr
  rw [hwarn]
  refine List.mem_map_of_mem ?_
  rw [hv]
  refine State.applyHeld_kept he fun h hh => ?_
  obtain hh | hh := List.mem_append.mp hh
  · exact hno h hh
  · obtain ⟨i, z, hz, rfl | rfl⟩ := hmem h hh
    · exact nofun
    · intro heq
      injection heq with _ hzt
      rw [← hzt] at hd
      revert hz hd
      cases z <;> decide

theorem State.outReset_distinct (h : PairsDistinct s.warn.entries) : PairsDistinct s.outReset.warn.entries := by
  obtain ⟨tests, v, -, hv, hwarn, -, -⟩ := State.outReset_warn hr
  rw [hwarn]
  refine PairsDistinct.map ?_ fun e => ⟨e.restart_pair.1, e.restart_pair.2.1⟩
  rw [hv]
  exact State.applyHeld_distinct h

theorem State.outReset_lamp : s.warn.lampWorked s.outReset.warn := by
  obtain ⟨tests, v, -, hv, hwarn, -, -⟩ := State.outReset_warn hr
  rw [hwarn, hv]
  exact Warn.lampWorked.trans (State.applyHeld_lamp s.releaseReset _) (Warn.workLamp_worked _ _ _)

theorem State.outReset_fresh (hx : x ∈ s.outReset.warn.entries) : x.fresh := by
  obtain ⟨tests, v, -, -, hwarn, -, -⟩ := State.outReset_warn hr
  rw [hwarn] at hx
  obtain ⟨e, -, rfl⟩ := List.mem_map.mp hx
  exact e.restart_fresh

/-- R204: the end of a reset sets PART, and a raise WARNING; no other flag. -/
theorem State.outReset_inByte {n : Notice} (hn : n ≠ .warning) :
    n.inByte s.outReset.port.flags = decide (n = .part) := by
  obtain ⟨tests, v, -, hv, -, hport, -⟩ := State.outReset_warn hr
  rw [hport, hv, State.applyHeld_inByte _ _ hn]
  change n.inByte Notice.part.bit = _
  cases n <;> decide

theorem State.outReset_suppressed : s.outReset.suppressed = s.suppressed := by
  have hmode := (State.outReset_noticed hr).mode
  have honly := State.outReset_only hr
  generalize s.outReset = t at hmode honly
  have hrests : t.restingSource = s.restingSource := State.restingSource_of fun j => by
    have hsame : t.account j = s.account j := State.account_of (by rw [honly]) j
    rw [hsame]
  have hquiet : t.quiet = s.quiet := by rw [honly]
  have hworkshop : (s.releaseReset.port.mode = .workshop) ↔ s.port.mode = .workshop := by
    change (if s.port.mode = .selfTest then PartMode.uninit else s.port.mode) = .workshop ↔ _
    split
    next h => simp [h]
    next => rfl
  funext e
  unfold State.suppressed
  rw [hmode, hquiet, hrests]
  simp only [hworkshop]

end

end

end Sys2Proof.Machine
end

section
/-! PROOF. O53: the blocks as they take up their work at the end of a reset, before the accounts are moved. -/
namespace Sys2Proof.Machine

section
variable {s t u v : State} {n : Notice}

/-! ### The held wake orders -/

theorem State.placeHeld_only (s : State) (ws : List HeldWake) :
    s.placeHeld ws = { s with orders := (s.placeHeld ws).orders, port := (s.placeHeld ws).port } := by
  induction ws generalizing s with
  | nil => rfl
  | cons w ws ih =>
    have hplace : ∀ o, ∃ os p, s.placePart o = { s with orders := os, port := p } := fun o => by
      refine ⟨(s.placePart o).orders, (s.placePart o).port, ?_⟩
      apply State.ext <;> simp
    obtain ⟨os, p, hfirst⟩ := hplace (wakeOrder w.side w.level w.fade s.clock.minute)
    rw [State.placeHeld, hfirst]
    exact ih _

theorem State.placeHeld_noticed (ws : List HeldWake) (h : u.noticed s) : u.noticed (s.placeHeld ws) := by
  induction ws generalizing s with
  | nil => exact h
  | cons w ws ih => exact ih (State.placePart_noticed _ h)

/-- R17: the held wake orders, placed one after the other. -/
theorem State.placeHeld_orders (hr : s.rst.asserted = false) (ws : List HeldWake) :
    (s.placeHeld ws).orders = ordersWithWakes s.port.mode s.clock.minute ws s.orders := by
  induction ws generalizing s with
  | nil => rfl
  | cons w ws ih =>
    obtain ⟨o, ho⟩ : ∃ o, o = wakeOrder w.side w.level w.fade s.clock.minute := ⟨_, rfl⟩
    have hfirst := State.placeWake_orders hr w.side w.level w.fade
    rw [State.placeWake, if_neg (by rw [hr]; exact Bool.false_ne_true), ← ho] at hfirst
    have hclock : (s.placePart o).clock = s.clock := by simp
    have hmode : (s.placePart o).port.mode = s.port.mode := by simp
    rw [State.placeHeld, ← ho, ih (by rw [State.placePart_rst]; exact hr), hclock, hmode, hfirst]
    rfl

theorem State.placeHeld_inByte (s : State) (ws : List HeldWake) (hn : n ≠ .order) :
    n.inByte (s.placeHeld ws).port.flags = n.inByte s.port.flags := by
  induction ws generalizing s with
  | nil => rfl
  | cons w ws ih =>
    refine (ih _).trans ?_
    unfold State.placePart
    split
    · rfl
    · rw [State.notice_inByte]
      simp [Ne.symm hn]

/-! ### The heater and the fridge -/

theorem State.fridgeEndReset_only (s : State) (moved : Bool) :
    s.fridgeEndReset moved =
      { s with fridge := { s.fridge with offSeconds := 0 }, port := (s.fridgeEndReset moved).port } := by
  rw [State.fridgeEndReset, State.noticeIf_eq]
  rfl

theorem State.heaterEndReset_only (s : State) (moved : Bool) :
    s.heaterEndReset moved =
      { s with
        heater :=
          { s.heater with
            phase := if s.heater.state = .cooldown then some s.heater.params.cooldown else s.heater.phase }
        timers := { s.timers with t5 := (s.heaterEndReset moved).timers.t5 }, port := (s.heaterEndReset moved).port } := by
  apply State.ext <;> simp [State.heaterEndReset]
  apply Timers.ext <;> simp

/-- R165: the fan at the end of a reset. -/
theorem State.heaterEndReset_fan (s : State) (moved : Bool) :
    (s.heaterEndReset moved).timers.t5.given (if s.heater.state = .cooldown then 1000 else 0) 1000 := by
  have h : (s.heaterEndReset moved).timers = (s.writeFan (if s.heater.state = .cooldown then 1000 else 0)).timers := by
    simp [State.heaterEndReset]
  rw [h]
  exact State.writeFan_given _ _

theorem State.heaterEndReset_inByte (s : State) (moved : Bool) (n : Notice) :
    n.inByte (s.heaterEndReset moved).port.flags =
      (n.inByte s.port.flags ||
        ((moved || decide (s.heater.state = .lockout)) && !s.rst.asserted && decide (Notice.heater = n))) := by
  rw [State.heaterEndReset, State.noticeIf_inByte]
  simp

theorem State.fridgeEndReset_inByte (s : State) (moved : Bool) (n : Notice) :
    n.inByte (s.fridgeEndReset moved).port.flags =
      (n.inByte s.port.flags ||
        ((moved || decide (s.fridge.state = .fault)) && !s.rst.asserted && decide (Notice.fridge = n))) := by
  rw [State.fridgeEndReset, State.noticeIf_inByte]
  simp

theorem State.heaterEndReset_noticed (moved : Bool) (h : u.noticed s) : u.noticed (s.heaterEndReset moved) :=
  State.noticeIf_noticed _ _ (State.withHeater_noticed _ (State.writeFan_noticed _ h))

theorem State.fridgeEndReset_noticed (moved : Bool) (h : u.noticed s) : u.noticed (s.fridgeEndReset moved) :=
  State.noticeIf_noticed _ _ (State.withFridge_noticed _ h)

/-! ### The blocks resumed -/

/-- The held wake orders placed, and what the accounts, the heater and the fridge held of notices. -/
def State.loadsResumed (s : State) : State :=
  (((s.outReset.settle.placeHeld s.rst.heldWakes).noticeIf s.rst.accountNotice .account).heaterEndReset
    s.rst.heaterMoved).fridgeEndReset s.rst.fridgeMoved

/-- The state in which a reset's end moves the accounts. -/
def State.resumed (s : State) : State := s.loadsResumed.noticeIf s.loadsResumed.charge.attention .charge

section
variable (hr : s.rst.asserted = true)
include hr

theorem State.endReset_eq : s.endReset = s.resumed.moveAccounts.settle.pass.settleCause := by
  obtain ⟨tests, -, heq, -⟩ := State.testAllDriving_held hr
  have hheld : s.endReset =
      (((((((s.outReset.settle.placeHeld s.testAllDriving.rst.heldWakes).noticeIf s.testAllDriving.rst.accountNotice
        .account).heaterEndReset s.testAllDriving.rst.heaterMoved).fridgeEndReset
        s.testAllDriving.rst.fridgeMoved).noticeIf
        (((s.outReset.settle.placeHeld s.testAllDriving.rst.heldWakes).noticeIf s.testAllDriving.rst.accountNotice
          .account).heaterEndReset s.testAllDriving.rst.heaterMoved |>.fridgeEndReset
          s.testAllDriving.rst.fridgeMoved).charge.attention .charge).moveAccounts.settle).pass).settleCause := rfl
  have hrst : s.testAllDriving.rst.heldWakes = s.rst.heldWakes ∧
      s.testAllDriving.rst.accountNotice = s.rst.accountNotice ∧
      s.testAllDriving.rst.heaterMoved = s.rst.heaterMoved ∧
      s.testAllDriving.rst.fridgeMoved = s.rst.fridgeMoved := by
    rw [heq]
    exact ⟨rfl, rfl, rfl, rfl⟩
  obtain ⟨h1, h2, h3, h4⟩ := hrst
  rw [hheld, h1, h2, h3, h4]
  rfl

theorem State.resumed_only :
    s.resumed =
      { s with
        orders := ordersWithWakes s.releaseReset.port.mode s.clock.minute s.rst.heldWakes s.orders
        warn := s.outReset.settle.warn
        timers := { s.timers with t5 := s.resumed.timers.t5, t7 := s.outReset.settle.timers.t7 }
        heater :=
          { s.heater with
            phase := if s.heater.state = .cooldown then some s.heater.params.cooldown else s.heater.phase }
        fridge := { s.fridge with offSeconds := 0 }, sense := s.sense.endReset, port := s.resumed.port
        rst := s.releaseReset.rst } := by
  obtain ⟨u, hu⟩ : ∃ u, u = s.outReset.settle := ⟨_, rfl⟩
  obtain ⟨v, hv⟩ : ∃ v, v = u.placeHeld s.rst.heldWakes := ⟨_, rfl⟩
  obtain ⟨w, hw⟩ : ∃ w, w = (v.noticeIf s.rst.accountNotice .account).heaterEndReset s.rst.heaterMoved := ⟨_, rfl⟩
  have hsettled : u = { s.outReset with warn := u.warn, timers := { s.outReset.timers with t7 := u.timers.t7 } } := by
    rw [hu]
    exact s.outReset.settle_frame.only
  have hur : u.rst.asserted = false := by
    rw [hsettled]
    exact (State.outReset_noticed hr).1
  have horders : v.orders = ordersWithWakes s.releaseReset.port.mode s.clock.minute s.rst.heldWakes s.orders := by
    rw [hv, State.placeHeld_orders hur, hsettled]
    change ordersWithWakes s.outReset.port.mode s.outReset.clock.minute s.rst.heldWakes s.outReset.orders = _
    rw [(State.outReset_noticed hr).mode, State.outReset_only hr]
  have hplaced : v = { u with orders := v.orders, port := v.port } := by
    rw [hv]
    exact u.placeHeld_only s.rst.heldWakes
  have hheater := (v.noticeIf s.rst.accountNotice .account).heaterEndReset_only s.rst.heaterMoved
  rw [← hw, v.noticeIf_eq] at hheater
  have hfridge := w.fridgeEndReset_only s.rst.fridgeMoved
  have hcharged := (w.fridgeEndReset s.rst.fridgeMoved).noticeIf_eq
    (w.fridgeEndReset s.rst.fridgeMoved).charge.attention .charge
  have hend : s.resumed = (w.fridgeEndReset s.rst.fridgeMoved).noticeIf
      (w.fridgeEndReset s.rst.fridgeMoved).charge.attention .charge := by
    rw [hw, hv, hu]
    rfl
  rw [← hend] at hcharged
  rw [← hu]
  have honly := State.outReset_only hr
  generalize s.resumed = t at hcharged ⊢
  generalize w.fridgeEndReset s.rst.fridgeMoved = x at hfridge hcharged
  rw [hfridge] at hcharged
  dsimp only at hcharged
  rw [hheater] at hcharged
  dsimp only at hcharged
  rw [hplaced] at hcharged
  dsimp only at hcharged
  rw [horders, hsettled] at hcharged
  dsimp only at hcharged
  rw [honly] at hcharged
  dsimp only at hcharged
  have hfan : t.timers.t5 = w.timers.t5 := by rw [hcharged]
  rw [hfan]
  exact hcharged

omit hr in
theorem State.resumed_noticed : s.outReset.noticed s.resumed :=
  State.noticeIf_noticed _ _ (State.fridgeEndReset_noticed _ (State.heaterEndReset_noticed _ (State.noticeIf_noticed _ _
    (State.placeHeld_noticed _ (State.settle_noticed (.refl s.outReset))))))

theorem State.resumed_rst : s.resumed.rst = s.releaseReset.rst := by rw [State.resumed_only hr]

theorem State.resumed_released : s.resumed.rst.asserted = false := by rw [State.resumed_rst hr]; rfl

/-- R165: the fan of a heater outside COOLDOWN is off. -/
theorem State.resumed_fan : s.resumed.timers.t5.given (if s.heater.state = .cooldown then 1000 else 0) 1000 := by
  obtain ⟨v, hv⟩ : ∃ v, v = (s.outReset.settle.placeHeld s.rst.heldWakes).noticeIf s.rst.accountNotice .account := ⟨_, rfl⟩
  have hfan := v.heaterEndReset_fan s.rst.heaterMoved
  have hheater : v.heater = s.heater := by
    rw [hv, State.noticeIf_eq, State.placeHeld_only, s.outReset.settle_frame.only, State.outReset_only hr]
  have htimers : s.resumed.timers = (v.heaterEndReset s.rst.heaterMoved).timers := by
    rw [hv, State.resumed, State.noticeIf_eq, State.loadsResumed, State.fridgeEndReset_only]
  rw [htimers]
  rw [hheater] at hfan
  exact hfan

/-- The notices that the blocks set as they resume. -/
theorem State.resumed_flags :
    (s.rst.accountNotice = true → Notice.account.inByte s.resumed.port.flags = true) ∧
    (s.rst.heaterMoved = true ∨ s.heater.state = .lockout → Notice.heater.inByte s.resumed.port.flags = true) ∧
    (s.rst.fridgeMoved = true ∨ s.fridge.state = .fault → Notice.fridge.inByte s.resumed.port.flags = true) ∧
    (Notice.charge.inByte s.resumed.port.flags = true ↔ s.charge.synced = false ∨ s.charge.count ≤ s.charge.reserve) := by
  obtain ⟨u, hu⟩ : ∃ u, u = s.outReset.settle.placeHeld s.rst.heldWakes := ⟨_, rfl⟩
  have huonly := s.outReset.settle.placeHeld_only s.rst.heldWakes
  rw [← hu, s.outReset.settle_frame.only] at huonly
  dsimp only at huonly
  have hur : u.rst.asserted = false := by rw [huonly]; exact (State.outReset_noticed hr).1
  have hheater : u.heater = s.heater := by rw [huonly, State.outReset_only hr]
  have hfridge : u.fridge = s.fridge := by rw [huonly, State.outReset_only hr]
  have hcharge : u.charge = s.charge := by rw [huonly, State.outReset_only hr]
  have hcflag : Notice.charge.inByte u.port.flags = false := by
    rw [hu, State.placeHeld_inByte _ _ (by decide), s.outReset.settle_frame.only]
    exact State.outReset_inByte hr (by decide)
  have hresumed : s.resumed =
      ((((u.noticeIf s.rst.accountNotice .account).heaterEndReset s.rst.heaterMoved).fridgeEndReset
        s.rst.fridgeMoved).noticeIf
        (((u.noticeIf s.rst.accountNotice .account).heaterEndReset s.rst.heaterMoved).fridgeEndReset
          s.rst.fridgeMoved).charge.attention .charge) := by
    rw [hu]
    rfl
  have hflag : ∀ n : Notice, n.inByte s.resumed.port.flags =
      (n.inByte u.port.flags || (s.rst.accountNotice && decide (Notice.account = n)) ||
        ((s.rst.heaterMoved || decide (s.heater.state = .lockout)) && decide (Notice.heater = n)) ||
        ((s.rst.fridgeMoved || decide (s.fridge.state = .fault)) && decide (Notice.fridge = n)) ||
        (s.charge.attention && decide (Notice.charge = n))) := fun n => by
    rw [hresumed, State.noticeIf_inByte, State.fridgeEndReset_inByte, State.heaterEndReset_inByte, State.noticeIf_inByte,
      State.fridgeEndReset_only, State.heaterEndReset_only, State.noticeIf_eq]
    simp [hur, hheater, hfridge, hcharge]
  refine ⟨fun h => ?_, fun h => ?_, fun h => ?_, ?_⟩
  · simp [hflag, h]
  · rw [hflag]
    obtain h | h := h <;> simp [h]
  · rw [hflag]
    obtain h | h := h <;> simp [h]
  · rw [hflag, hcflag, ← Charge.attention_iff]
    simp

end

end

end Sys2Proof.Machine
end

section
/-! PROOF. O53: what each raise, removal and test keeps of the presenter, the moves of the accounts keep. -/
namespace Sys2Proof.Machine

section
variable {s t u : State} {P : Warn → Prop} {i : Slot} {a : Account}

/-- A property of the presenter that each test of what is due, each entry raised and each one removed keeps. -/
structure KeptByList (P : Warn → Prop) : Prop where
  settle : ∀ s : State, s.rst.asserted = false → P s.warn → P s.settle.warn
  raised : ∀ v x w now, P v → P (v.raised x w now)
  dropped : ∀ v x w, P v → P (v.dropped x w)

/-- The property holds with no reset asserted. -/
def State.standing (s : State) (P : Warn → Prop) : Prop := s.rst.asserted = false ∧ P s.warn

theorem State.standing.same (h : s.standing P) (warn : t.warn = s.warn := by simp)
    (rst : t.rst.asserted = s.rst.asserted := by simp) : t.standing P := by
  obtain ⟨hr, hp⟩ := h
  exact ⟨rst.trans hr, by rw [warn]; exact hp⟩

section
variable (hP : KeptByList P)
include hP

theorem KeptByList.settles (h : s.standing P) : s.settle.standing P :=
  ⟨by simpa using h.1, hP.settle s h.1 h.2⟩

theorem KeptByList.raise (x : Source) (w : WarnType) (h : s.standing P) : (s.raise x w).standing P := by
  rw [State.raise_released x w h.1]
  split
  · exact h
  next hn =>
    have hadd : (s.addEntry x w).standing P := by
      refine ⟨by simpa using h.1, ?_⟩
      have hwarn : (s.addEntry x w).warn = s.warn.raised x w s.clock.minute := by
        rw [State.addEntry_eq ((Bool.not_eq_true _).mp hn)]
        simp [State.setWarn]
      rw [hwarn]
      exact hP.raised _ _ _ _ h.2
    exact hP.settles hadd

theorem KeptByList.remove (x : Source) (w : WarnType) (h : s.standing P) : (s.remove x w).standing P := by
  rw [State.remove_released s x w h.1]
  cases hn : hasPair x w s.warn.entries with
  | false =>
    rw [State.dropEntry_absent hn]
    exact h
  | true =>
    rw [State.dropEntry_eq hn]
    exact ⟨h.1, hP.dropped _ _ _ h.2⟩

theorem KeptByList.workCondition (x : Source) (w : WarnType) (b : Bool) (h : s.standing P) :
    (s.workCondition x w b).standing P := by
  unfold State.workCondition
  split
  · exact hP.raise x w h
  · split
    · exact hP.remove x w h
    · exact h

theorem KeptByList.testDriving (i : Slot) (h : s.standing P) : (s.testDriving i).standing P := by
  unfold State.testDriving
  split
  · exact hP.workCondition _ _ _ (hP.workCondition _ _ _ (hP.workCondition _ _ _ h))
  · exact h

theorem KeptByList.testBreak (i : Slot) (h : s.standing P) : (s.testBreak i).standing P := by
  unfold State.testBreak
  split
  · split
    · exact hP.testDriving i h.same
    · exact h
  · exact h

theorem KeptByList.applyStaged (i : Slot) (h : s.standing P) : (s.applyStaged i).standing P := by
  unfold State.applyStaged
  split
  next a _ =>
    split
    next x _ =>
      have hset : (s.setAccount i { a with settings := x, staged := none }).standing P := h.same
      have htested := hP.testBreak i (hP.testDriving i hset)
      exact htested.same
    · exact h
  · exact h

theorem KeptByList.fireRestDone (i : Slot) (a : Account) (h : s.standing P) : (s.fireRestDone i a).standing P := by
  rw [State.fireRestDone_eq]
  have hset : (s.setAccount i a.restDone).standing P := h.same
  have htested := hP.testDriving i hset
  have hdone : (((s.setAccount i a.restDone).testDriving i).setAccount i (a.doneAt s.clock.minute)).standing P :=
    htested.same
  have hraised := hP.raise (.slot i) .restDone hdone
  exact hraised.same

theorem KeptByList.startSegment (i : Slot) (h : s.standing P) : (s.startSegment i).standing P := by
  have hbegun : (s.segmentBegun i).standing P := by
    have hresting : (s.updAccount i (fun a => { a with state := .resting })).standing P := h.same
    have happlied := hP.applyStaged i hresting
    unfold State.segmentBegun
    exact happlied.same
  rw [State.startSegment_eq]
  unfold State.testRestDone
  split
  · split
    · exact hP.fireRestDone i _ hbegun
    · exact hbegun
  · exact hbegun

theorem KeptByList.closeSegment (i : Slot) (h : s.standing P) : (s.closeSegment i).standing P := by
  cases ha : s.account i with
  | none =>
    simp only [State.closeSegment, ha]
    exact h
  | some a =>
    rw [State.closeSegment_eq ha]
    split
    · exact hP.raise _ _ h.same
    · exact h.same

theorem KeptByList.moveAccount (i : Slot) (h : s.standing P) : (s.moveAccount i).standing P := by
  unfold State.moveAccount
  split
  · exact h
  · split
    · split
      · exact (hP.startSegment i h).same
      · exact (hP.closeSegment i h).same
    · exact h

theorem KeptByList.moveAccounts (h : s.standing P) : s.moveAccounts.standing P :=
  hP.moveAccount .s3 (hP.moveAccount .s2 (hP.moveAccount .s1 (hP.moveAccount .s0 h)))

end

/-! ### The lamp and the countdowns -/

theorem Entry.silent_fresh {e : Entry} (h : e.ready = true) : e.silent.fresh := by
  obtain ⟨-, -, hf⟩ := e.ready_iff.mp h
  have hcounted : gain 65535 e.bursts ≠ 0 := by
    unfold gain
    split <;> omega
  unfold Entry.silent
  split
  · split
    · exact nofun
    · exact fun _ => ⟨(if_neg hcounted).symm, hf⟩
  · exact fun _ => ⟨(if_neg hcounted).symm, hf⟩

theorem keptByList_fresh : KeptByList (fun v => ∀ e ∈ v.entries, e.fresh) where
  settle s hr h := by
    have htested : ∀ e ∈ s.tested, e.fresh := fun e he => by
      obtain ⟨he, -⟩ | ⟨x, -, ⟨hx, -⟩, rfl⟩ := State.mem_tested.mp he
      · exact h e he
      · exact Entry.silent_fresh hx
    obtain ⟨-, heq⟩ | ⟨-, -, e, -, -, -, -, heq⟩ := State.settle_cases hr <;> rw [heq]
    · exact htested
    · intro x hx
      obtain ⟨y, hy, rfl⟩ := List.mem_map.mp hx
      split
      · exact nofun
      · exact htested y hy
  raised v x w now h e he := by
    obtain rfl | he := mem_insertEntry.mp he
    · exact fun _ => ⟨rfl, rfl⟩
    · exact h e he
  dropped v x w h e he := h e (mem_dropped.mp he).1

theorem keptByList_lamp (w : Warn) : KeptByList (fun v => w.lampWorked v) where
  settle s hr h := by
    obtain ⟨h1, h2, h3, h4⟩ := h
    obtain ⟨-, heq⟩ | ⟨-, -, e, he, hre, hse, -, heq⟩ := State.settle_cases hr <;> rw [heq]
    · exact ⟨h1.trans (lampOf_tested s).symm, h2, h3, h4⟩
    · have htested := (State.ready_tested.mpr ⟨he, hre, hse⟩).1
      exact ⟨h1.trans ((lampOf_takenFor htested hre).trans (lampOf_tested s)).symm, h2, h3, h4⟩
  raised v x y now h := Warn.lampWorked.trans h.follows (v.workLamp_worked _ _)
  dropped v x y h := Warn.lampWorked.trans h.follows (v.workLamp_worked _ _)

end

end Sys2Proof.Machine
end

section
/-! PROOF. O53: the accounts moved and the one pass at the end of a reset. -/
namespace Sys2Proof.Machine

section
variable {s t u v : State} {e x : Entry} {i : Slot} {a : Account} {w : WarnType} {σ : (Entry → Bool) → Prop}

/-! ### What a pass leaves of the list -/

theorem State.afterPass.suppressed (h : u.afterPass t) : t.suppressed = u.suppressed := by
  obtain ⟨-, -, -, -, -, -, -, -, -, -, ⟨-, -, hacc, -, hquiet, -⟩, -, hport, -⟩ := h
  exact State.suppressed_eq hport.1 hquiet hacc

theorem Warn.fridgeWarmGone.lamp {w v z : Warn} (h : w.lampWorked v) (k : v.fridgeWarmGone z) : w.lampWorked z := by
  by_cases hp : hasPair .part .fridgeWarm z.entries = hasPair .part .fridgeWarm v.entries
  · rw [k.1 hp]
    exact h
  · obtain ⟨-, -, hlamp⟩ := k.2 hp
    exact .trans h.follows hlamp

/-- A burst of an entry that a pass leaves goes on for it. -/
theorem Warn.fridgeWarmGone.sounds {v z : Warn} (h : v.fridgeWarmGone z) {y : Source} {w : WarnType} {n : Nat} {b : Bool}
    (hc : v.chime = .sounding y w n b true) (hx : ∃ x ∈ z.entries, x.source = y ∧ x.type = w) :
    z.chime = .sounding y w n b true := by
  by_cases hp : hasPair .part .fridgeWarm z.entries = hasPair .part .fridgeWarm v.entries
  · rw [h.1 hp]
    exact hc
  · obtain ⟨hentries, hchime, -⟩ := h.2 hp
    obtain ⟨x, hx, rfl, rfl⟩ := hx
    rw [hentries, List.mem_filter] at hx
    rw [hchime, hc]
    dsimp only
    rw [hx.2]
    rfl

/-- What was dealt with before a pass stands dealt with after it. -/
theorem State.afterPass.handled (h : u.afterPass t) (hx : x ∈ t.warn.entries) (hq : u.quiet = s.quiet)
    (hsup : u.suppressed = s.suppressed) (hpair : x.source = e.source ∧ x.type = e.type) (hh : e.handled s u x) :
    e.handled s t x := by
  have htests : ∀ b, s.tests u e b → s.tests t e b := fun b hb => by
    have hquiet : u.suppressed = State.suppressed { u with quiet := s.quiet } := State.suppressed_eq rfl hq rfl
    obtain hb | hb | hb := hb
    · exact .inl hb
    · rw [← hquiet, hsup] at hb
      exact .inl hb
    · rw [hsup] at hb
      exact .inl hb
  obtain rfl | ⟨hr, rfl, hb⟩ | ⟨hr, rfl, hb, hc⟩ := hh
  · exact .inl rfl
  · exact .inr (.inl ⟨hr, rfl, htests _ hb⟩)
  · exact .inr (.inr ⟨hr, rfl, htests _ hb, h.warn.sounds hc ⟨_, hx, hpair.1, hpair.2⟩⟩)

theorem State.entry_afterPass (h : u.afterPass t) (hx : x ∈ u.warn.entries) (hn : x.type ≠ .fridgeWarm) :
    x ∈ t.warn.entries := by
  by_cases hp : hasPair .part .fridgeWarm t.warn.entries = hasPair .part .fridgeWarm u.warn.entries
  · rw [h.warn.1 hp]
    exact hx
  · rw [(h.warn.2 hp).1, List.mem_filter]
    exact ⟨hx, by simp [hn]⟩

/-! ### The end of a pass at a reset's end -/

theorem State.settleCause_only (s : State) : s.settleCause = { s with heater := s.settleCause.heater } := rfl

theorem State.settleCause_settled (s : State) : s.heater.causeSettled s.settleCause.heater := by
  refine ⟨rfl, ?_⟩
  change (if s.heater.state = .cooldown ∧ s.heater.cause = some .satisfied ∧ s.heater.presented = none then _ else _) = _ ∨ _
  split
  next h =>
    obtain ⟨h1, h2, h3⟩ := h
    refine .inr ⟨h1, h3, h2, ?_⟩
    change (if s.heater.state = .cooldown ∧ s.heater.cause = some .satisfied ∧ s.heater.presented = none then _ else _) = _
    rw [if_pos ⟨h1, h2, h3⟩]
  next => exact .inl rfl

theorem State.settleCause_same (h : ¬(s.heater.state = .cooldown ∧ s.heater.cause = some .satisfied ∧ s.heater.presented = none)) :
    s.settleCause = s := by
  have hheater : s.settleCause.heater = s.heater := by
    have hcause : s.settleCause.heater.cause = s.heater.cause := if_neg h
    change { s.heater with cause := s.settleCause.heater.cause } = s.heater
    rw [hcause]
  rw [s.settleCause_only, hheater]

theorem Heater.causeSettled.trans {h k l : Heater} (hk : h.causeSettled k) (kl : k.causeSettled l) : h.causeSettled l := by
  obtain ⟨hk1, hk2⟩ := hk
  obtain ⟨kl1, kl2⟩ := kl
  have hstate : k.state = h.state := by rw [hk1]
  have hpresented : k.presented = h.presented := by rw [hk1]
  refine ⟨by rw [kl1, hk1], ?_⟩
  obtain hc | ⟨h1, h2, h3, h4⟩ := kl2
  · obtain hc' | ⟨h1, h2, h3, h4⟩ := hk2
    · exact .inl (hc.trans hc')
    · exact .inr ⟨h1, h2, h3, hc.trans h4⟩
  · obtain hc' | ⟨g1, g2, g3, g4⟩ := hk2
    · exact .inr ⟨hstate ▸ h1, hpresented ▸ h2, hc' ▸ h3, h4⟩
    · exact .inr ⟨g1, g2, g3, h4⟩

/-- R156: the cause of a COOLDOWN that ends its setpoint at a reset's end is one that the pass itself may leave. -/
theorem State.heaterWorked.settleCause (h : s.heaterWorked t) : s.heaterWorked t.settleCause := by
  by_cases hc : t.heater.state = .cooldown ∧ t.heater.cause = some .satisfied ∧ t.heater.presented = none
  · obtain ⟨hstate, hcause, hpresented⟩ := hc
    obtain ⟨h1, h2⟩ := h
    refine ⟨h1, fun k hk => ?_⟩
    obtain ⟨hsame, -, hoff⟩ := h2 k hk
    have hnone : t.settleCause.heater.presented = none := hpresented
    refine ⟨fun hp => ?_, fun _ hp => absurd hnone hp, fun hp _ => ?_⟩
    · obtain ⟨k1, k2, k3⟩ := hsame hp
      exact ⟨k1.trans t.settleCause_settled, k2, k3⟩
    · obtain ⟨g1, g2, g3, g4⟩ := hoff hp hpresented
      exfalso
      cases hs : s.heater.state with
      | preheat => rw [(g1 (.inl hs)).1] at hstate; cases hstate
      | satisfied => rw [(g1 (.inr hs)).1] at hstate; cases hstate
      | ignition => rw [(g2 (by rw [hs]; rfl)).1] at hcause; cases hcause
      | proving => rw [(g2 (by rw [hs]; rfl)).1] at hcause; cases hcause
      | run => rw [(g2 (by rw [hs]; rfl)).1] at hcause; cases hcause
      | cooldown =>
        rw [g3 hs] at hcause
        dsimp only at hcause
        split at hcause
        · cases hcause
        next hn => exact hn hcause
      | off => rw [g4 (.inl hs), hk, hs] at hstate; cases hstate
      | lockout => rw [g4 (.inr hs), hk, hs] at hstate; cases hstate
  · rw [State.settleCause_same hc]
    exact h

theorem State.afterPass.settleCause (h : s.afterPass t) : s.afterPass t.settleCause := by
  obtain ⟨h1, h2, h3, h4, h5, h6, h7, h8, h9, h10, h11, h12, h13, h14⟩ := h
  refine ⟨h1, h2, h3, fun load => ?_, h5, h6, h7.settleCause, h8, h9, h10, h11, h12, h13, h14⟩
  have hsame : t.settleCause.presented load = t.presented load := by cases load <;> rfl
  exact hsame.trans (h4 load)

end

end Sys2Proof.Machine
end

section
/-! PROOF. O53: the list, the accounts and the blocks at the end of a reset. -/
namespace Sys2Proof.Machine

section
variable {s t u v : State} {e x : Entry} {i : Slot} {a : Account} {w : WarnType} {n : Notice}

/-- The state of which a reset's end runs its one pass. -/
def State.rejoined (s : State) : State := s.resumed.moveAccounts.settle

section
variable (hr : s.rst.asserted = true)
include hr

theorem State.endReset_rejoined : s.endReset = s.rejoined.pass.settleCause := State.endReset_eq hr

theorem State.resumed_standstill : s.resumed.standstill = s.standstill := by rw [State.resumed_only hr]; rfl

theorem State.resumed_account (i : Slot) : s.resumed.account i = s.account i :=
  State.account_of (by rw [State.resumed_only hr]) i

theorem State.outReset_account (i : Slot) : s.outReset.account i = s.account i :=
  State.account_of (by rw [State.outReset_only hr]) i

theorem State.resumed_clock : s.resumed.clock = s.clock := by rw [State.resumed_only hr]

theorem State.resumed_mode : s.resumed.port.mode = s.releaseReset.port.mode :=
  s.resumed_noticed.mode.trans (State.outReset_noticed hr).mode

theorem State.resumed_pair (y : Source) (w : WarnType) :
    hasPair y w s.resumed.warn.entries = hasPair y w s.outReset.warn.entries := by
  rw [State.resumed_only hr]
  exact hasPair_settle s.outReset y w

theorem State.resumed_suppressed : s.resumed.suppressed = s.outReset.suppressed := by
  refine State.suppressed_eq s.resumed_noticed.mode ?_ ?_
  all_goals rw [State.resumed_only hr, State.outReset_only hr]

theorem State.resumed_untouched (i : Slot) : s.outReset.untouched i s.resumed where
  account := (State.resumed_account hr i).trans (State.outReset_account hr i).symm
  pairs := State.resumed_pair hr (.slot i)
  standstill := by rw [State.resumed_only hr, State.outReset_only hr]; rfl
  clock := by rw [State.resumed_only hr, State.outReset_only hr]
  mode := s.resumed_noticed.mode
  suppressed := State.resumed_suppressed hr
  rst := by rw [State.resumed_only hr, State.outReset_only hr]

theorem State.outReset_released : s.outReset.rst.asserted = false := (State.outReset_noticed hr).1

/-- The list from its release to the one pass: each test finds suppressed what was suppressed while RESET was asserted. -/
theorem State.rejoined_list : s.outReset.listWork (· = s.suppressed) s.rejoined := by
  have hsup := State.outReset_suppressed hr
  have hor := State.outReset_released hr
  have hstart := State.listWork.refl (· = s.suppressed) hor
  have hsettled : s.outReset.listWork (· = s.suppressed) s.outReset.settle :=
    ⟨hstart.deals.settle hsup, by simp⟩
  have hresumed : s.outReset.listWork (· = s.suppressed) s.resumed := by
    have hn : s.outReset.settle.noticed s.resumed :=
      State.noticeIf_noticed _ _ (State.fridgeEndReset_noticed _ (State.heaterEndReset_noticed _
        (State.noticeIf_noticed _ _ (State.placeHeld_noticed _ (.refl _)))))
    refine hsettled.same hn ?_ ?_ ?_ ?_
    · rw [State.resumed_rst hr, hsettled.rst, State.outReset_only hr]
    · rw [State.resumed_clock hr, s.outReset.settle_frame.only, State.outReset_only hr]
    · rw [State.resumed_only hr]
    · rw [State.resumed_only hr]
  have hmove : ∀ {r : State} (i : Slot), s.outReset.listWork (· = s.suppressed) r → s.outReset.untouched i r →
      s.outReset.listWork (· = s.suppressed) (r.moveAccount i) := fun i h hu =>
    h.moveAccount (hu.suppressed.trans hsup) hu.pairs
  have h0 := fun i => State.resumed_untouched hr i
  have h1 : ∀ i, Slot.s0 ≠ i → s.outReset.untouched i (s.resumed.moveAccount .s0) := fun i hi => (h0 i).move hor hi
  have h2 : ∀ i, Slot.s0 ≠ i → Slot.s1 ≠ i → s.outReset.untouched i ((s.resumed.moveAccount .s0).moveAccount .s1) :=
    fun i hi hj => (h1 i hi).move hor hj
  have hmoved := hmove .s3 (hmove .s2 (hmove .s1 (hmove .s0 hresumed (h0 .s0)) (h1 .s1 (by decide)))
    (h2 .s2 (by decide) (by decide))) ((h2 .s3 (by decide) (by decide)).move hor (by decide))
  refine ⟨hmoved.deals.settle ?_, ?_⟩
  · have hall : s.resumed.moveAccounts.suppressed = s.resumed.suppressed := by
      simp only [State.moveAccounts, State.moveAccount_suppressed]
    exact hall.trans ((State.resumed_suppressed hr).trans hsup)
  · have h := hmoved.rst
    rw [← h]
    simp [State.rejoined, State.moveAccounts]

theorem State.rejoined_released : s.rejoined.rst.asserted = false := (State.rejoined_list hr).released

theorem State.rejoined_frame :
    s.resumed.accountFrame (s.resumed.ordersAtMove s.resumed.port.mode s.resumed.orders) s.rejoined := by
  have h := (State.moveAccounts_chain (State.resumed_released hr) (.refl s.resumed)).frame
  have hall := h.trans (State.settle_accountFrame s.resumed.moveAccounts)
  rw [h.orders_eq] at hall
  exact hall

theorem State.rejoined_orders :
    s.resumed.ordersAtMove s.resumed.port.mode s.resumed.orders =
      s.ordersAtMove s.releaseReset.port.mode
        (ordersWithWakes s.releaseReset.port.mode s.clock.minute s.rst.heldWakes s.orders) := by
  have hmoved : ∀ mode, s.resumed.orderMoved mode = s.orderMoved mode := fun mode => by
    funext os i
    exact State.orderMoved_congr (State.resumed_account hr i) (State.resumed_standstill hr) (State.resumed_clock hr)
  have horders : s.resumed.orders =
      ordersWithWakes s.releaseReset.port.mode s.clock.minute s.rst.heldWakes s.orders := by
    rw [State.resumed_only hr]
  rw [State.ordersAtMove_eq, State.ordersAtMove_eq, hmoved, State.resumed_mode hr, horders]

/-- R32: the one pass of a reset's end. -/
theorem State.rejoined_pass : s.rejoined.afterPass s.endReset := by
  rw [State.endReset_rejoined hr]
  exact (State.pass_spec _ (State.rejoined_released hr)).settleCause

theorem State.rejoined_suppressed : s.rejoined.suppressed = s.suppressed := by
  have hmoves : s.rejoined.suppressed = s.resumed.moveAccounts.suppressed :=
    State.suppressed_eq (by simp [State.rejoined]) (by simp [State.rejoined]) (by simp [State.rejoined])
  have hall : s.resumed.moveAccounts.suppressed = s.resumed.suppressed := by
    simp only [State.moveAccounts, State.moveAccount_suppressed]
  rw [hmoves, hall, State.resumed_suppressed hr, State.outReset_suppressed hr]

theorem State.endReset_suppressed : s.endReset.suppressed = s.suppressed :=
  (State.rejoined_pass hr).suppressed.trans (State.rejoined_suppressed hr)

theorem State.rejoined_quiet : s.rejoined.quiet = s.quiet := by
  rw [(State.rejoined_frame hr).only, State.resumed_only hr]

theorem State.endReset_dueSettled : s.endReset.dueSettled :=
  (State.rejoined_pass hr).dueSettled (State.settle_dueSettled (by
    have h := State.rejoined_released hr
    simpa [State.rejoined] using h))

omit hr in
theorem State.rejoined_noticed : s.resumed.noticed s.rejoined :=
  State.settle_noticed (State.moveAccounts_noticed (.refl _))

theorem State.endReset_noticed : s.releaseReset.noticed s.endReset := by
  have hpass : s.rejoined.noticed s.endReset := by
    rw [State.endReset_rejoined hr]
    exact (State.pass_noticed (.refl s.rejoined)).congr rfl rfl
  exact (((State.outReset_noticed hr).trans s.resumed_noticed).trans s.rejoined_noticed).trans hpass

theorem State.endReset_account (i : Slot) : s.endReset.account i = (s.account i).map s.movedTo := by
  rw [(State.rejoined_pass hr).account]
  have hsame : s.rejoined.account i = s.resumed.moveAccounts.account i := State.account_of (by simp [State.rejoined]) i
  rw [hsame, State.moveAccounts_account, State.resumed_account hr,
    State.movedTo_congr (State.resumed_clock hr) (State.resumed_standstill hr)]

end

end

end Sys2Proof.Machine
end

section
/-! PROOF. O53: the warning list as a reset's end leaves it. -/
namespace Sys2Proof.Machine

section
variable {s t u v : State} {e x : Entry} {i : Slot} {a : Account} {w : WarnType} {n : Notice} {y : Source}

theorem mem_accountPairs_rest (h : (y, w) ∈ accountPairs) (hw : isDriving w = false) :
    ∃ i, y = .slot i ∧ (w = .restDone ∨ w = .restShort) := by
  simp only [accountPairs, List.mem_flatMap, List.mem_map] at h
  obtain ⟨i, -, v, hv, heq⟩ := h
  obtain ⟨rfl, rfl⟩ := Prod.mk.inj heq
  refine ⟨i, rfl, ?_⟩
  revert hv hw
  cases v <;> decide

theorem State.resumed_standing {P : Warn → Prop} (hP : KeptByList P) (hr : s.rst.asserted = true) (h : P s.outReset.warn) :
    P s.rejoined.warn := by
  have hsettled := hP.settle _ (State.outReset_released hr) h
  have hresumed : s.resumed.standing P := ⟨State.resumed_released hr, by rw [State.resumed_only hr]; exact hsettled⟩
  exact (hP.settles (hP.moveAccounts hresumed)).2

/-- The figures of an account that neither completes its rest nor applies settings as it meets the condition. -/
theorem State.movedTo_figures
    (h : ((s.standstill && decide (a.state = .restWait)) && (a.firesAtStart || a.staged.isSome)) = false) :
    a.sameFigures (s.movedTo a) := by
  unfold State.movedTo
  split
  next hm =>
    obtain ⟨hs, hst⟩ | ⟨hs, hst⟩ := (s.movesAccount_iff a).mp hm
    · rw [if_pos hs]
      rw [hs, hst, decide_eq_true rfl, Bool.true_and, Bool.true_and, Bool.or_eq_false_iff] at h
      obtain ⟨hfires, hstaged⟩ := h
      have hnone : a.staged = none := by simpa using hstaged
      have hsettings : a.applied.settings = a.settings := by rw [Account.applied, hnone]; rfl
      have hno : ¬(a.rested = false ∧ a.applied.settings.rest ≤ a.accumulated) := fun hf => by
        rw [Account.firesAtStart, hf.1, decide_eq_true hf.2] at hfires
        cases hfires
      unfold Account.started
      dsimp only
      rw [if_neg hno]
      exact ⟨hsettings, rfl, rfl⟩
    · rw [hs, if_neg Bool.false_ne_true]
      exact .refl a
  next => exact .refl a

section
variable (hr : s.rst.asserted = true)
include hr

theorem State.endReset_flag (h : n.inByte s.rejoined.port.flags = true) : n.inByte s.endReset.port.flags = true :=
  (State.rejoined_pass hr).flag h

theorem State.outReset_flagKept (h : n.inByte s.outReset.port.flags = true) : n.inByte s.endReset.port.flags = true :=
  State.endReset_flag hr ((s.resumed_noticed.trans s.rejoined_noticed).flagsKept.flag n h)

/-- R116: an entry that was not listed is raised at the reset's end. -/
theorem State.endReset_dates (hx : x ∈ s.endReset.warn.entries)
    (hnew : ∀ e ∈ s.warn.entries, ¬(e.source = x.source ∧ e.type = x.type)) :
    x.raisedAt = s.clock.minute ∧ Notice.warning.inByte s.endReset.port.flags = true := by
  have hmem := (State.rejoined_pass hr).warn.entries x hx
  have hclock : s.outReset.clock = s.clock := by rw [State.outReset_only hr]
  obtain ⟨z, hz, hsource, htype, hdate⟩ | ⟨hdate, hflag⟩ := (State.rejoined_list hr).deals.dates x hmem
  · obtain ⟨e, he, rfl⟩ | ⟨hraised, hflag⟩ := State.outReset_origin hr hz
    · exact absurd ⟨e.restart_pair.1.symm.trans hsource, e.restart_pair.2.1.symm.trans htype⟩ (hnew e he)
    · refine ⟨?_, State.outReset_flagKept hr hflag⟩
      rw [← hdate, hraised]
      rfl
  · rw [hclock] at hdate
    exact ⟨hdate, State.endReset_flag hr hflag⟩

theorem State.rejoined_partPair (w : WarnType) :
    hasPair .part w s.rejoined.warn.entries = hasPair .part w s.outReset.warn.entries := by
  have hmove : ∀ (r : State) (i : Slot), r.rst.asserted = false →
      hasPair .part w (r.moveAccount i).warn.entries = hasPair .part w r.warn.entries := fun r i h =>
    State.moveAccount_otherPair h (by simp) w
  have hresumed := State.resumed_released hr
  rw [← State.resumed_pair hr, State.rejoined, hasPair_settle]
  unfold State.moveAccounts
  rw [hmove, hmove, hmove, hmove]
  all_goals simpa using hresumed

/-- R116: the part's own entries. -/
theorem State.endReset_partPair (hw : w ≠ .fridgeWarm) :
    hasPair .part w s.endReset.warn.entries =
      handedPresence .part w (hasPair .part w s.warn.entries) s.rst.heldWarnings := by
  have hpass := (State.rejoined_pass hr).hasPair (a := .part) (w := w) (fun h => hw (by injection h))
  rw [hpass, State.rejoined_partPair hr]
  obtain ⟨tests, v, hmem, hv, hwarn, -, -⟩ := State.outReset_warn hr
  rw [hwarn]
  have hmap : hasPair .part w (v.warn.entries.map Entry.restart) = hasPair .part w v.warn.entries :=
    hasPair_map (fun e => ⟨e.restart_pair.1, e.restart_pair.2.1⟩) _
  refine hmap.trans ?_
  rw [hv, hasPair_applyHeld, handedPresence_appends]
  refine handedPresence_other fun h hh => ?_
  obtain ⟨i, z, -, rfl | rfl⟩ := hmem h hh <;> simp

/-- R70, R71, R86, R116: the entries of an account. -/
theorem State.endReset_slotPair (i : Slot) :
    (∀ a, s.account i = some a →
      hasPair (.slot i) .restDone s.endReset.warn.entries =
        (handedPresence (.slot i) .restDone (hasPair (.slot i) .restDone s.warn.entries) s.rst.heldWarnings ||
          (s.standstill && decide (a.state = .restWait) && a.firesAtStart)) ∧
      hasPair (.slot i) .restShort s.endReset.warn.entries =
        (handedPresence (.slot i) .restShort (hasPair (.slot i) .restShort s.warn.entries) s.rst.heldWarnings ||
          (!s.standstill && decide (a.state = .resting) && a.closesShort))) ∧
    ∀ a, s.endReset.account i = some a → s.endReset.warn.drivingWorked i a := by
  have hpass : ∀ w, hasPair (.slot i) w s.endReset.warn.entries =
      hasPair (.slot i) w s.resumed.moveAccounts.warn.entries := fun w => by
    have h := State.settled_pairs (u := s.resumed.moveAccounts) (State.rejoined_pass hr) i w
    exact h
  have hstill := State.resumed_standstill hr
  have hhands : ∀ a, s.account i = some a → s.resumed.movedHands i a s.resumed.moveAccounts := fun a ha =>
    State.moveAccounts_hands (State.resumed_released hr) (by rw [State.resumed_rst hr]; rfl) (.refl _)
      ((State.resumed_account hr i).trans ha)
  obtain ⟨hheld, htested⟩ := State.outReset_pairs hr
  refine ⟨fun a ha => ?_, fun b hb => ?_⟩
  · obtain ⟨h1, h2, -⟩ := hhands a ha
    rw [State.resumed_pair hr, hheld _ .restDone rfl, hstill] at h1
    rw [State.resumed_pair hr, hheld _ .restShort rfl, hstill] at h2
    exact ⟨(hpass _).trans h1, (hpass _).trans h2⟩
  · rw [State.endReset_account hr] at hb
    obtain ⟨a, ha, rfl⟩ := Option.map_eq_some_iff.mp hb
    obtain ⟨-, -, h3, h4⟩ := hhands a ha
    unfold Warn.drivingWorked
    rw [hpass, hpass, hpass]
    cases hx : ((s.resumed.standstill && decide (a.state = .restWait)) && (a.firesAtStart || a.staged.isSome)) with
    | true =>
      refine h3 hx _ ?_
      rw [State.moveAccounts_account, State.resumed_account hr, ha,
        State.movedTo_congr (State.resumed_clock hr) hstill]
      rfl
    | false =>
      rw [h4 hx .driveNear rfl, h4 hx .driveOver rfl, h4 hx .dailyOver rfl]
      rw [State.resumed_pair hr, State.resumed_pair hr, State.resumed_pair hr]
      rw [hstill] at hx
      exact Warn.drivingWorked_figures (htested i a ha) (State.movedTo_figures hx)

/-- R109, R116: the countdowns that a reset's end restarts. -/
theorem State.endReset_fresh (hx : x ∈ s.endReset.warn.entries) : x.fresh :=
  State.resumed_standing keptByList_fresh hr (fun _ he => State.outReset_fresh hr he) x
    ((State.rejoined_pass hr).warn.entries x hx)

theorem State.endReset_lamp : s.warn.lampWorked s.endReset.warn :=
  Warn.fridgeWarmGone.lamp (State.resumed_standing (keptByList_lamp s.warn) hr (State.outReset_lamp hr))
    (State.rejoined_pass hr).warn

/-- R107, R116: no due entry is suppressed, nor the chime idle beside one. -/
theorem State.endReset_ready (hx : x ∈ s.endReset.warn.entries) (hready : x.ready = true) :
    s.endReset.suppressed x = false ∧ s.endReset.warn.chime ≠ .idle := by
  obtain ⟨hsup, hchime⟩ := State.endReset_dueSettled hr x hx hready
  refine ⟨hsup, hchime.resolve_right ?_⟩
  rw [(State.endReset_noticed hr).mode]
  change (if s.port.mode = .selfTest then PartMode.uninit else s.port.mode) ≠ .selfTest
  split
  · exact nofun
  next h => exact h

/-! ### Where each entry comes from, and where it goes -/

theorem State.rejoined_dealt (h : PairsDistinct s.warn.entries) :
    s.outReset.entriesDealt (.of (· = s.suppressed) accountPairs True) s.rejoined :=
  (State.rejoined_list hr).deals.each (State.outReset_distinct hr h)

theorem State.endReset_handled (h : PairsDistinct s.warn.entries) (hx : x ∈ s.endReset.warn.entries) :
    (∃ e ∈ s.warn.entries, e.restart.handled s s.endReset x) ∨
    (Notice.warning.inByte s.endReset.port.flags = true ∧
      (Entry.atRaise x.source x.type s.clock.minute).handled s s.endReset x) := by
  have hpass := State.rejoined_pass hr
  have hmem := hpass.warn.entries x hx
  have hclock : s.outReset.clock = s.clock := by rw [State.outReset_only hr]
  have hend : ∀ {z : Entry}, z.handledBy (.of (· = s.suppressed) accountPairs True) s.rejoined.warn.chime x →
      z.handled s s.endReset x := fun hz =>
    hpass.handled hx (State.rejoined_quiet hr) (State.rejoined_suppressed hr) hz.pair
      (hz.handled fun _ hf => .inl hf)
  obtain ⟨z, hz, hh⟩ | ⟨-, hflag, hh⟩ := (State.rejoined_dealt hr h).origin x hmem
  · obtain ⟨e, he, rfl⟩ | ⟨hraised, hflag⟩ := State.outReset_origin hr hz
    · exact .inl ⟨e, he, hend hh⟩
    · refine .inr ⟨State.outReset_flagKept hr hflag, ?_⟩
      obtain ⟨hsource, htype⟩ := hh.pair
      rw [hsource, htype, ← hraised]
      exact hend hh
  · rw [hclock] at hh
    exact .inr ⟨State.endReset_flag hr hflag, hend hh⟩

/-- No entry but a driving warning leaves the list as the accounts move. -/
theorem State.rejoined_pair (hw : isDriving w = false) (h : hasPair y w s.outReset.warn.entries = true) :
    hasPair y w s.rejoined.warn.entries = true := by
  by_cases hp : (y, w) ∈ accountPairs
  · obtain ⟨i, rfl, hrest⟩ := mem_accountPairs_rest hp hw
    rw [← State.resumed_pair hr] at h
    rw [State.rejoined, hasPair_settle]
    cases ha : s.account i with
    | none =>
      have hempty := State.moveAccounts_empty (State.resumed_released hr) (.refl s.resumed)
        ((State.resumed_account hr i).trans ha)
      rw [hempty.pairs]
      exact h
    | some a =>
      obtain ⟨h1, h2, -⟩ := State.moveAccounts_hands (State.resumed_released hr) (by rw [State.resumed_rst hr]; rfl)
        (.refl s.resumed) ((State.resumed_account hr i).trans ha)
      obtain rfl | rfl := hrest
      · rw [h1, h, Bool.true_or]
      · rw [h2, h, Bool.true_or]
  · rw [(State.rejoined_list hr).deals.others y w hp]
    exact h

/-- R116: an entry whose removal was not held stays, with its date, and as it is where it sounds no more. -/
theorem State.endReset_kept (h : PairsDistinct s.warn.entries) (he : e ∈ s.warn.entries)
    (hno : ∀ h ∈ s.rst.heldWarnings, h ≠ .remove e.source e.type) (hd : isDriving e.type = false)
    (hw : e.type ≠ .fridgeWarm) :
    ∃ x ∈ s.endReset.warn.entries, x.source = e.source ∧ x.type = e.type ∧ x.raisedAt = e.raisedAt ∧
      (e.state = .silenced ∨ e.state = .lampOnly → x = e) := by
  obtain ⟨hsource, htype, hstate⟩ := e.restart_pair
  have hmem := State.outReset_kept hr he hno hd
  have hlisted : hasPair e.restart.source e.restart.type s.outReset.warn.entries = true :=
    hasPair_iff.mpr ⟨_, hmem, rfl, rfl⟩
  have hstays : hasPair e.restart.source e.restart.type s.rejoined.warn.entries = true :=
    State.rejoined_pair hr (by rw [htype]; exact hd) hlisted
  obtain ⟨x, hx, hh⟩ := (State.rejoined_dealt hr h).place _ hmem (.inr ⟨by rw [htype]; exact hd, hstays⟩)
  obtain ⟨hxs, hxt⟩ := hh.pair
  have hdate : x.raisedAt = e.raisedAt := by
    have hrestart : e.restart.raisedAt = e.raisedAt := by
      unfold Entry.restart
      split <;> rfl
    rw [← hrestart]
    obtain rfl | ⟨-, rfl, -⟩ | ⟨-, rfl, -⟩ := hh
    · rfl
    · exact Entry.silent_raisedAt _
    · rfl
  refine ⟨x, State.entry_afterPass (State.rejoined_pass hr) hx (by rw [hxt, htype]; exact hw), hxs.trans hsource,
    hxt.trans htype, hdate, fun hs => ?_⟩
  have hq : e.state ≠ .queued := by
    obtain hs | hs := hs <;> rw [hs] <;> exact nofun
  have hsame : e.restart = e := by rw [Entry.restart, if_neg hq]
  rw [hsame] at hh
  obtain rfl | ⟨hready, -⟩ | ⟨hready, -⟩ := hh
  · rfl
  · exact absurd (e.ready_iff.mp hready).1 hq
  · exact absurd (e.ready_iff.mp hready).1 hq

end

end

end Sys2Proof.Machine
end

section
/-! PROOF. O53: the port, the heater, the fridge and the orders at the end of a reset. -/
namespace Sys2Proof.Machine

section
variable {s t u v : State} {i : Slot} {a : Account} {w : WarnType} {n : Notice} {p : Port} {o : Order} {os : List Order}

/-! ### The port -/

theorem Port.setFlag_awake (h : p.asleep = false) (n : Notice) :
    p.setFlag n = { p with flags := p.flags ||| n.bit, attn := (p.setFlag n).attn } := by
  have hno : p.wakeDue n = false := by rw [Port.wakeDue, h]; rfl
  rw [Port.setFlag, hno]
  rfl

/-- R203: notices to a host that is awake move the flags and the ATTN line alone. -/
theorem Port.setFlags_awake (h : p.asleep = false) (ns : List Notice) :
    ns.foldl Port.setFlag p =
      { p with flags := (ns.foldl Port.setFlag p).flags, attn := (ns.foldl Port.setFlag p).attn } := by
  induction ns generalizing p with
  | nil => rfl
  | cons n ns ih =>
    have hfirst := Port.setFlag_awake h n
    have hrest := ih (p := p.setFlag n) (by rw [hfirst]; exact h)
    rw [List.foldl_cons]
    generalize ns.foldl Port.setFlag (p.setFlag n) = q at hrest ⊢
    rw [hfirst] at hrest
    exact hrest

theorem Port.lawful.setFlags (h : p.lawful) (ns : List Notice) : (ns.foldl Port.setFlag p).lawful := by
  induction ns generalizing p with
  | nil => exact h
  | cons n ns ih => exact ih (h.setFlag n)

/-- R204: the port at the end of a reset. -/
theorem State.endReset_port (hr : s.rst.asserted = true) :
    s.endReset.port =
      { s.releaseReset.port with flags := s.endReset.port.flags, attn := s.endReset.port.attn } ∧
    s.endReset.port.attn = true ∧ Notice.part.inByte s.endReset.port.flags = true := by
  have hn := State.endReset_noticed hr
  have hpart : Notice.part.inByte s.endReset.port.flags = true := hn.flagsKept.flag .part (by
    change Notice.part.inByte Notice.part.bit = true
    decide)
  obtain ⟨-, ns, hport, -⟩ := hn
  have hawake := Port.setFlags_awake (p := s.releaseReset.port) rfl ns
  rw [← hport] at hawake
  have hlawful : s.endReset.port.lawful := by
    rw [hport]
    exact Port.lawful.setFlags ⟨rfl, fun hwait => Bool.noConfusion (show false = true from hwait)⟩ ns
  refine ⟨hawake, ?_, hpart⟩
  obtain ⟨hattn, -⟩ := hlawful
  rw [hattn]
  generalize s.endReset.port = q at hawake hpart
  rw [hawake]
  change decide (q.flags &&& 0xFF#8 ≠ 0#8) = true
  rw [decide_eq_true_iff]
  intro hz
  have hall : q.flags &&& 0xFF#8 = q.flags := by
    have h : (0xFF#8 : Byte) = BitVec.allOnes 8 := rfl
    rw [h, BitVec.and_allOnes]
  rw [hall] at hz
  rw [hz] at hpart
  revert hpart
  decide

/-! ### The notices of the accounts as they move -/

section
variable (hw : n ≠ .warning) (ha : n ≠ .account) (ho : n ≠ .order)

section
include ha

theorem State.accountNotice_inByte (s : State) : n.inByte s.accountNotice.port.flags = n.inByte s.port.flags := by
  unfold State.accountNotice
  split
  · rfl
  · rw [State.notice_inByte]
    simp [Ne.symm ha]

theorem State.accountGo_inByte (s : State) (i : Slot) (x : AccountState) :
    n.inByte (s.accountGo i x).port.flags = n.inByte s.port.flags := by
  unfold State.accountGo
  exact (State.accountNotice_inByte ha _).trans (by simp)

end

section
include hw

theorem State.testBreak_inByte (s : State) (i : Slot) : n.inByte (s.testBreak i).port.flags = n.inByte s.port.flags := by
  unfold State.testBreak
  split
  · split
    · rw [State.testDriving_inByte _ hw]
      rfl
    · rfl
  · rfl

theorem State.closeSegment_inByte (s : State) (i : Slot) :
    n.inByte (s.closeSegment i).port.flags = n.inByte s.port.flags := by
  cases h : s.account i with
  | none => simp only [State.closeSegment, h]
  | some a =>
    rw [State.closeSegment_eq h]
    split
    · rw [State.raise_inByte _ _ _ hw]
      rfl
    · rfl

include ha

theorem State.applyStaged_inByte (s : State) (i : Slot) :
    n.inByte (s.applyStaged i).port.flags = n.inByte s.port.flags := by
  unfold State.applyStaged
  split
  · split
    · rw [State.accountNotice_inByte ha, State.testBreak_inByte hw, State.testDriving_inByte _ hw]
      rfl
    · rfl
  · rfl

end

section
include ho

theorem State.placePart_inByte (s : State) (o : Order) : n.inByte (s.placePart o).port.flags = n.inByte s.port.flags := by
  unfold State.placePart
  split
  · rfl
  · rw [State.notice_inByte]
    simp [Ne.symm ho]

theorem State.wakeFor_inByte (s : State) (a : Account) : n.inByte (s.wakeFor a).port.flags = n.inByte s.port.flags := by
  unfold State.wakeFor
  split
  · split
    · unfold State.placeWake
      split
      · rfl
      · exact State.placePart_inByte ho _ _
    · rfl
  · rfl

end

include hw ha ho

theorem State.startSegment_inByte (s : State) (i : Slot) :
    n.inByte (s.startSegment i).port.flags = n.inByte s.port.flags := by
  have hbegun : n.inByte (s.segmentBegun i).port.flags = n.inByte s.port.flags := by
    have hupd : ∀ (r : State) (f : Account → Account), (r.updAccount i f).port = r.port := fun r f => by simp
    rw [State.segmentBegun, hupd, State.applyStaged_inByte hw ha, hupd]
  rw [State.startSegment_eq, ← hbegun]
  unfold State.testRestDone
  split
  · split
    · rw [State.fireRestDone_eq, State.accountNotice_inByte ha, State.wakeFor_inByte ho, State.raise_inByte _ _ _ hw]
      exact State.testDriving_inByte (s := (s.segmentBegun i).setAccount i _) i hw
    · rfl
  · rfl

theorem State.moveAccount_inByte (s : State) (i : Slot) :
    n.inByte (s.moveAccount i).port.flags = n.inByte s.port.flags := by
  unfold State.moveAccount
  split
  · rfl
  · split
    · split
      · rw [State.accountNotice_inByte ha, State.startSegment_inByte hw ha ho]
      · rw [State.accountGo_inByte ha, State.closeSegment_inByte hw]
    · rfl

end

/-- R59: CHARGE is set at a reset's end by the attention alone. -/
theorem State.endReset_charge (hr : s.rst.asserted = true) :
    Notice.charge.inByte s.endReset.port.flags = true ↔ s.charge.synced = false ∨ s.charge.count ≤ s.charge.reserve := by
  obtain ⟨-, -, -, hcharge⟩ := State.resumed_flags hr
  rw [← hcharge, State.endReset_rejoined hr]
  have hsettle : s.rejoined.port = s.resumed.moveAccounts.port := by simp [State.rejoined]
  have hend : s.rejoined.pass.settleCause.port = s.rejoined.pass.port := rfl
  rw [hend, State.pass_otherFlag _ (by decide) (by decide) (by decide), hsettle]
  unfold State.moveAccounts
  rw [State.moveAccount_inByte (by decide) (by decide) (by decide),
    State.moveAccount_inByte (by decide) (by decide) (by decide),
    State.moveAccount_inByte (by decide) (by decide) (by decide),
    State.moveAccount_inByte (by decide) (by decide) (by decide)]

end

end Sys2Proof.Machine
end

section
/-! PROOF. O53: the loads and the orders at the end of a reset, and the row. -/
namespace Sys2Proof.Machine

section
variable {s t u v : State} {i : Slot} {a : Account} {o : Order} {os : List Order}

/-! ### The loads under a pass -/

/-- A pass works the heater by what it presents to it, and by nothing else. -/
theorem State.pass_heater (hr : s.rst.asserted = false) :
    ∃ (p : Option Presented) (u : State), u.heater = s.heater ∧ u.timers = s.timers ∧
      s.pass.heater = (u.presentHeater p).heater ∧ s.pass.timers.t5 = (u.presentHeater p).timers.t5 := by
  refine ⟨presentedFor .heater (s.reading.run s.orders).orders,
    State.noticeIf { s with
      orders := (s.reading.run s.orders).orders
      alloc :=
        { s.alloc with
          committed := (s.reading.run s.orders).committed, usable := s.reading.usable
          passMinute := s.reading.now } } ((s.reading.run s.orders).removed || (s.reading.run s.orders).changed) .order,
    by simp, by simp, ?_, ?_⟩
  all_goals
    simp only [State.pass, hr, Bool.false_eq_true, if_false, State.presentAll]
    simp

theorem State.presentHeater_cooldown (h : s.heater.state = .cooldown) (p : Option Presented) :
    (s.presentHeater p).heater.state = .cooldown ∧ (s.presentHeater p).heater.phase = s.heater.phase ∧
    (s.presentHeater p).timers = s.timers := by
  have hstate : (s.withHeater (fun x => { x with presented := p })).heater.state = .cooldown := h
  simp only [State.presentHeater, State.heaterPresented, State.heaterWithdrawn, hstate]
  split
  · exact ⟨h, rfl, rfl⟩
  · split
    · exact ⟨h, rfl, rfl⟩
    · exact ⟨h, rfl, rfl⟩

theorem State.presentHeater_lockout (h : s.heater.state = .lockout) (p : Option Presented) :
    (s.presentHeater p).heater.state = .lockout ∧ (s.presentHeater p).timers = s.timers := by
  have hstate : (s.withHeater (fun x => { x with presented := p })).heater.state = .lockout := h
  simp only [State.presentHeater, State.heaterPresented, State.heaterWithdrawn, hstate]
  split
  · exact ⟨h, rfl⟩
  · split
    · exact ⟨h, rfl⟩
    · exact ⟨h, rfl⟩

theorem State.presentHeater_off (h : s.heater.state = .off) (p : Option Presented) :
    ((s.presentHeater p).heater.state = .off ∧ (s.presentHeater p).timers = s.timers) ∨
    ((s.presentHeater p).heater.state = .preheat ∧ (s.presentHeater p).timers.t5.given 200 1000) := by
  have hstate : (s.withHeater (fun x => { x with presented := p })).heater.state = .off := h
  simp only [State.presentHeater, State.heaterPresented, State.heaterWithdrawn, hstate]
  split
  · split
    · exact .inl ⟨h, rfl⟩
    · obtain ⟨hpre, hfan⟩ := (s.withHeater (fun x => { x with presented := p })).enterPreheat_does
      exact .inr ⟨by rw [hpre], hfan⟩
  · split
    · exact .inl ⟨h, rfl⟩
    · exact .inl ⟨h, rfl⟩

/-- R173: no pass moves an off count of 0. -/
theorem State.fridgeWorked.offSeconds (h : s.fridgeWorked t) (hz : s.fridge.offSeconds = 0) : t.fridge.offSeconds = 0 := by
  obtain ⟨-, h⟩ := h
  obtain ⟨hsame, htaken, hgone⟩ := h _ rfl
  cases hs : s.fridge.presented with
  | none =>
    cases ht : t.fridge.presented with
    | none => rw [(hsame (by rw [hs, ht])).1]; exact hz
    | some q =>
      obtain ⟨h1, h2, h3⟩ := htaken hs (by rw [ht]; exact nofun)
      by_cases hoff : s.fridge.state = .off
      · by_cases hstarts : s.fridgeStarts
        · rw [(h1 hoff hstarts).1]; exact hz
        · rw [h2 hoff hstarts]; exact hz
      · rw [h3 hoff]; exact hz
  | some p =>
    cases ht : t.fridge.presented with
    | some q => rw [(hsame (by rw [hs, ht]; rfl)).1]; exact hz
    | none =>
      obtain ⟨h1, h2, h3⟩ := hgone (by rw [hs]; exact nofun) ht
      by_cases hidle : s.fridge.state = .idle
      · rw [h1 hidle]; exact hz
      · cases hturns : s.fridge.state.turning with
        | true => rw [(h2 hturns).1]
        | false => rw [h3 hidle hturns]; exact hz

/-! ### The keys of the table -/

theorem mem_insertOrder_or {p : Order} (h : p ∈ insertOrder o os) : p = o ∨ p ∈ os := by
  induction os with
  | nil => exact .inl (List.mem_singleton.mp h)
  | cons q os ih =>
    unfold insertOrder at h
    split at h
    · exact List.mem_cons.mp h
    · split at h
      · exact (List.mem_cons.mp h).imp_right (List.mem_cons_of_mem q)
      · obtain rfl | h := List.mem_cons.mp h
        · exact .inr List.mem_cons_self
        · exact (ih h).imp_right (List.mem_cons_of_mem q)

/-- R17: a wake order's key is above those of the host's orders. -/
theorem mem_ordersWithWake {mode : PartMode} {now level fade : Nat} {side : Side}
    (h : o ∈ ordersWithWake mode now side level fade os) (hk : o.key ≤ 240) : o ∈ os := by
  unfold ordersWithWake at h
  split at h
  · obtain rfl | h := mem_insertOrder_or h
    · have hbig : 240 < wakeKey side := by cases side <;> decide
      exact absurd hk (Nat.not_le.mpr hbig)
    · exact h
  · exact h

theorem mem_ordersWithWakes {mode : PartMode} {now : Nat} {ws : List HeldWake}
    (h : o ∈ ordersWithWakes mode now ws os) (hk : o.key ≤ 240) : o ∈ os := by
  induction ws generalizing os with
  | nil => exact h
  | cons w ws ih => exact mem_ordersWithWake (ih h) hk

theorem mem_wakeEntered {mode : PartMode} {now : Nat} (h : o ∈ a.wakeEntered mode now os) (hk : o.key ≤ 240) : o ∈ os := by
  unfold Account.wakeEntered at h
  split at h
  · split at h
    · exact mem_ordersWithWake h hk
    · exact h
  · split at h
    · exact mem_ordersWithWake h hk
    · exact h
  · exact h

theorem mem_orderMoved {mode : PartMode} (h : o ∈ s.orderMoved mode os i) (hk : o.key ≤ 240) : o ∈ os := by
  unfold State.orderMoved at h
  split at h
  · split at h
    · exact mem_wakeEntered h hk
    · exact h
  · exact h

theorem mem_ordersAtMove {mode : PartMode} (h : o ∈ s.ordersAtMove mode os) (hk : o.key ≤ 240) : o ∈ os := by
  rw [State.ordersAtMove_eq] at h
  generalize allSlots = is at h
  induction is generalizing os with
  | nil => exact h
  | cons i is ih => exact mem_orderMoved (ih h) hk

theorem PerSlot.ext_get {α : Type} {p q : PerSlot α} (h : ∀ i, p.get i = q.get i) : p = q := by
  obtain ⟨p0, p1, p2, p3⟩ := p
  obtain ⟨q0, q1, q2, q3⟩ := q
  obtain ⟨rfl, rfl, rfl, rfl⟩ : p0 = q0 ∧ p1 = q1 ∧ p2 = q2 ∧ p3 = q3 := ⟨h .s0, h .s1, h .s2, h .s3⟩
  rfl

/-! ### The reset's end -/

section
variable (hr : s.rst.asserted = true)
include hr

theorem State.endReset_mode' : s.endReset.port.mode = s.releaseReset.port.mode := (State.endReset_noticed hr).mode

/-- What a reset's end has made of each record when its pass begins. -/
theorem State.rejoined_only :
    s.rejoined =
      { s with
        orders :=
          s.ordersAtMove s.endReset.port.mode
            (ordersWithWakes s.endReset.port.mode s.clock.minute s.rst.heldWakes s.orders)
        accounts := s.endReset.accounts, warn := s.rejoined.warn, sense := s.endReset.sense
        timers := { s.timers with t5 := s.rejoined.timers.t5, t7 := s.rejoined.timers.t7 }
        heater :=
          { s.heater with
            phase := if s.heater.state = .cooldown then some s.heater.params.cooldown else s.heater.phase }
        fridge := { s.fridge with offSeconds := 0 }, port := s.rejoined.port, rst := s.endReset.rst } := by
  obtain ⟨-, -, haccounts, -, -, hsense, hrst⟩ := (State.rejoined_pass hr).records
  have honly := (State.rejoined_frame hr).only
  rw [State.rejoined_orders hr, ← State.endReset_mode' hr] at honly
  rw [haccounts, hsense, hrst]
  generalize s.rejoined = b at honly ⊢
  rw [State.resumed_only hr] at honly
  dsimp only at honly
  have hsense' : b.sense = s.sense.endReset := by rw [honly]
  have hrst' : b.rst = s.releaseReset.rst := by rw [honly]
  have hfan : b.timers.t5 = s.resumed.timers.t5 := by rw [honly]
  rw [hsense', hrst', hfan]
  exact honly

theorem State.rejoined_heater :
    s.rejoined.heater =
      { s.heater with
        phase := if s.heater.state = .cooldown then some s.heater.params.cooldown else s.heater.phase } := by
  rw [State.rejoined_only hr]

theorem State.rejoined_fan :
    s.rejoined.timers.t5.given (if s.heater.state = .cooldown then 1000 else 0) 1000 := by
  have h : s.rejoined.timers.t5 = s.resumed.timers.t5 := by rw [(State.rejoined_frame hr).only]
  rw [h]
  exact State.resumed_fan hr

/-- R147, R158, R165: a reset's end leaves a COOLDOWN its whole time, a LOCKOUT its fan off, and OFF may begin a start. -/
theorem State.endReset_heater :
    (s.heater.state = .cooldown → s.endReset.heater.state = .cooldown ∧
      s.endReset.heater.phase = some s.heater.params.cooldown ∧ s.endReset.timers.t5.given 1000 1000) ∧
    (s.heater.state = .lockout → s.endReset.heater.state = .lockout ∧ s.endReset.timers.t5.given 0 1000) ∧
    (s.heater.state = .off →
      (s.endReset.heater.state = .off ∧ s.endReset.timers.t5.given 0 1000) ∨
      (s.endReset.heater.state = .preheat ∧ s.endReset.timers.t5.given 200 1000)) := by
  obtain ⟨p, u, hu, htimers, hheater, hfan⟩ := State.pass_heater (State.rejoined_released hr)
  have hgiven := State.rejoined_fan hr
  have hfound := State.rejoined_heater hr
  have hstate : s.endReset.heater.state = (u.presentHeater p).heater.state := by
    rw [State.endReset_rejoined hr, ← hheater]
    rfl
  have hphase : s.endReset.heater.phase = (u.presentHeater p).heater.phase := by
    rw [State.endReset_rejoined hr, ← hheater]
    rfl
  have ht5 : s.endReset.timers.t5 = (u.presentHeater p).timers.t5 := by
    rw [State.endReset_rejoined hr, ← hfan]
    rfl
  rw [hfound] at hu
  rw [← htimers] at hgiven
  rw [hstate, hphase, ht5]
  refine ⟨fun hs => ?_, fun hs => ?_, fun hs => ?_⟩
  · obtain ⟨h1, h2, h3⟩ := State.presentHeater_cooldown (s := u) (by rw [hu]; exact hs) p
    rw [h1, h2, h3, hu]
    rw [if_pos hs] at hgiven
    exact ⟨rfl, if_pos hs, hgiven⟩
  · obtain ⟨h1, h2⟩ := State.presentHeater_lockout (s := u) (by rw [hu]; exact hs) p
    rw [if_neg (by rw [hs]; exact nofun)] at hgiven
    rw [h1, h2]
    exact ⟨rfl, hgiven⟩
  · rw [if_neg (by rw [hs]; exact nofun)] at hgiven
    refine (State.presentHeater_off (s := u) (by rw [hu]; exact hs) p).imp_left ?_
    rintro ⟨h1, h2⟩
    rw [h1, h2]
    exact ⟨rfl, hgiven⟩

theorem State.endReset_offSeconds : s.endReset.fridge.offSeconds = 0 := by
  obtain ⟨-, -, -, -, -, -, -, hfridge, -⟩ := State.rejoined_pass hr
  exact hfridge.offSeconds (by rw [State.rejoined_only hr])

theorem State.endReset_key (ho : o ∈ s.endReset.orders) (hk : o.key ≤ 240) : ∃ p ∈ s.orders, p.key = o.key := by
  obtain ⟨horders, -⟩ := State.rejoined_pass hr
  rw [horders] at ho
  obtain ⟨q, hq, hqk⟩ : ∃ q ∈ s.rejoined.orders, q.key = o.key := by
    obtain ⟨p, hp, rfl⟩ := Reading.mem_run_orders ho
    obtain ⟨q, hq, rfl⟩ := List.mem_map.mp hp
    exact ⟨q, (List.mem_filter.mp hq).1, rfl⟩
  rw [State.rejoined_only hr] at hq
  rw [← hqk] at hk
  exact ⟨q, mem_ordersWithWakes (mem_ordersAtMove hq hk) hk, hqk⟩

/-- R92: an account that has moved sets ACCOUNT. -/
theorem State.endReset_account_flag (h : s.rst.accountNotice = true ∨ s.endReset.accounts ≠ s.accounts) :
    Notice.account.inByte s.endReset.port.flags = true := by
  refine State.endReset_flag hr ?_
  obtain h | h := h
  · exact s.rejoined_noticed.flagsKept.flag .account ((State.resumed_flags hr).1 h)
  · obtain ⟨k, c, hc, hm⟩ : ∃ k c, s.resumed.account k = some c ∧ s.resumed.movesAccount c = true := by
      by_contra hno
      push Not at hno
      refine h (PerSlot.ext_get fun i => ?_)
      have hmoved := State.endReset_account hr i
      cases ha : s.account i with
      | none =>
        rw [ha] at hmoved
        exact hmoved.trans ha.symm
      | some a =>
        have hstays := hno i a ((State.resumed_account hr i).trans ha)
        rw [State.movesAccount, State.resumed_standstill hr] at hstays
        rw [ha, Option.map_some, State.movedTo_same ((Bool.not_eq_true _).mp hstays)] at hmoved
        exact hmoved.trans ha.symm
    have hflag := State.moveAccounts_flag (State.resumed_released hr) (.refl s.resumed) hc hm
    have hport : s.rejoined.port = s.resumed.moveAccounts.port := by simp [State.rejoined]
    rw [hport]
    exact hflag

end

section
variable (hr : s.rst.asserted = true)
include hr

theorem State.endReset_rst :
    s.endReset.rst =
      { asserted := false, heldWarnings := [], heldWakes := [], accountNotice := false, heaterMoved := false
        fridgeMoved := false } := by
  obtain ⟨-, -, -, -, -, -, hrst⟩ := (State.rejoined_pass hr).records
  rw [hrst, (State.rejoined_frame hr).only, State.resumed_rst hr]
  rfl

/-- R204: the port at its values, and the notices that the blocks set. -/
theorem State.endReset_portValues :
    s.endReset.port.mode = (if s.port.mode = .selfTest then .uninit else s.port.mode) ∧ s.endReset.port.cause = .warm ∧
    s.endReset.port.enables = 0xFF#8 ∧ s.endReset.port.mask = 0x00#8 ∧ s.endReset.port.asleep = false ∧
    s.endReset.port.spacing = false ∧ s.endReset.port.wait = false ∧ s.endReset.port.unanswered = false ∧
    s.endReset.port.attn = true ∧ s.endReset.port.wake = s.port.wake ∧
    s.endReset.port.selfTest = s.port.selfTest ∧ Notice.part.inByte s.endReset.port.flags = true ∧
    (s.rst.accountNotice = true ∨ s.endReset.accounts ≠ s.accounts →
      Notice.account.inByte s.endReset.port.flags = true) ∧
    (s.rst.heaterMoved = true ∨ s.heater.state = .lockout → Notice.heater.inByte s.endReset.port.flags = true) ∧
    (s.rst.fridgeMoved = true ∨ s.fridge.state = .fault → Notice.fridge.inByte s.endReset.port.flags = true) ∧
    (Notice.charge.inByte s.endReset.port.flags = true ↔
      s.charge.synced = false ∨ s.charge.count ≤ s.charge.reserve) := by
  obtain ⟨hport, hattn, hpart⟩ := State.endReset_port hr
  obtain ⟨-, hheater, hfridge, -⟩ := State.resumed_flags hr
  have hflag : ∀ {n : Notice}, n.inByte s.resumed.port.flags = true → n.inByte s.endReset.port.flags = true := fun h =>
    State.endReset_flag hr (s.rejoined_noticed.flagsKept.flag _ h)
  refine ⟨?_, ?_, ?_, ?_, ?_, ?_, ?_, ?_, hattn, ?_, ?_, hpart, State.endReset_account_flag hr, fun h => hflag (hheater h),
    fun h => hflag (hfridge h), State.endReset_charge hr⟩
  all_goals
    rw [hport]
    rfl

theorem State.endReset_sense : s.endReset.sense = s.sense.endReset := by
  obtain ⟨-, -, -, -, -, hsense, -⟩ := (State.rejoined_pass hr).records
  rw [hsense, (State.rejoined_frame hr).only, State.resumed_only hr]

end

/-- Settles O53. -/
theorem resetEndReleasesTheBlocks : Obligations.ResetEndReleasesTheBlocks := by
  unfold Obligations.ResetEndReleasesTheBlocks
  have hexec : ∀ s : State, exec .resetEnd s = .next (if s.rst.asserted then s.endReset else s) := fun _ => rfl
  refine fun s => ⟨fun hr => ?_, fun hr => ?_⟩
  · rw [hexec, hr]
    rfl
  · have hpass := State.rejoined_pass hr
    obtain ⟨hclock, hcharge, -, htransport, hquiet, -, -⟩ := hpass.records
    have honly := (State.rejoined_frame hr).only
    refine ⟨s.endReset, ?_, State.endReset_rst hr, State.endReset_portValues hr,
      fun x hx hnew => State.endReset_dates hr hx hnew, fun w hw => State.endReset_partPair hr hw,
      fun i => State.endReset_slotPair hr i, fun e he hq => State.endReset_fresh hr he hq,
      fun e he hready => State.endReset_ready hr he hready, fun hw e he hno h1 h2 h3 h4 => ?_, State.endReset_lamp hr,
      fun hd x hx => State.endReset_handled hr hd hx, ?_, ?_, ?_, ?_,
      fun i => State.accountMoved_of (State.endReset_account hr i), ?_, fun i => ?_, State.endReset_offSeconds hr,
      (State.endReset_heater hr).1, (State.endReset_heater hr).2.1, (State.endReset_heater hr).2.2,
      ⟨s.rejoined, State.rejoined_only hr, ?_, hpass⟩, fun o ho hk => State.endReset_key hr ho hk⟩
    · rw [hexec, hr]
      rfl
    · have hdistinct : PairsDistinct s.warn.entries := hw.1.imp fun hlt hp => by
        rw [hp.1, hp.2] at hlt
        exact absurd hlt (Nat.lt_irrefl _)
      refine State.endReset_kept hr hdistinct he hno ?_ h4
      revert h1 h2 h3
      cases e.type <;> decide
    · rw [hclock, honly, State.resumed_only hr]
    · rw [hcharge, honly, State.resumed_only hr]
    · rw [htransport, honly, State.resumed_only hr]
    · exact hquiet.trans (State.rejoined_quiet hr)
    · rw [State.endReset_sense hr]
      rfl
    · rw [State.endReset_sense hr]
      cases i <;> rfl
    · obtain ⟨-, -, -, -, -, -, -, -, -, -, -, -, hport, -⟩ := hpass
      exact hport

end

end Sys2Proof.Machine
end
